-- ==== Sys2Proof/Word.lean ====
section
/-! DEFINITION. The word types of the module. The manual numbers bits from 0 at the least significant bit (R2). -/

namespace Sys2Proof

/-- One byte of memory or of a payload. -/
abbrev Byte := BitVec 8

/-- A Waypoint value, a Chronometer count or a 64-bit object (R235, R252). -/
abbrev Word64 := BitVec 64

/-- An address register of a core (R130): 48 bits, arithmetic modulo 2^48. -/
abbrev AddrReg := BitVec 48

/-- A loop counter of a core (R130). -/
abbrev LoopReg := BitVec 32

end Sys2Proof
end

