-- ==== Sys2Proof/Syntax.lean ====
section
/-! DEFINITION. The commands of the module: one constructor of `Instr` for each row of spec/opcode_table.json, and the
data the commands carry (an HDP header, a fabric frame, an RDMA message, readings of sensors). -/

namespace Sys2Proof

/-- The two management segments (R419). -/
inductive Seg where
  | a | b
  deriving DecidableEq, Repr

/-- Where a neighbour solicitation reaches the module: a management segment (R420) or a host port (R462). -/
inductive NdLink where
  | seg (s : Seg)
  | host (port : Nat)
  deriving DecidableEq, Repr

/-- An address of the module on a management segment (R420): the slot address, or the one formed from the MAC address. -/
structure NdTaken where
  seg  : Seg
  slot : Bool
  deriving DecidableEq, Repr

/-- A management segment on which PLCA beacons are received again, and the module's addresses that duplicate address detection finds in use
there (R420, R497): the slot address, the one formed from the MAC address. -/
structure SegReturn where
  seg  : Seg
  slot : Bool
  mac  : Bool
  deriving DecidableEq, Repr

/-- The header of an HDP request without the object it names (Table 17-1), with the tag that follows the payload and the
sender's address. `typ` is the TYPE field of a request that `HdpReq` carries; the dictionary commands set it themselves. -/
structure Hdr where
  seg      : Seg
  ver      : Nat
  role     : Nat
  tagged   : Bool
  reqId    : Nat
  counter  : Nat
  dev      : Nat
  /-- The 256-bit tag as received; ignored when `tagged` is false (R428). -/
  tag      : Nat
  /-- Low 64 bits of the source IPv6 address (R438). -/
  src      : Nat
  port     : Nat
  /-- Expedited requests that the unit holds as this one reaches it (R433). -/
  held     : Nat
  /-- The datagram's hop limit, whether it carries an extension header or a fragment, and whether it reached the slot address (R421). -/
  hops     : Nat := 255
  extended : Bool := false
  toSlot   : Bool := true
  deriving DecidableEq, Repr

/-- A whole HDP request message (Table 17-1). `payload` is the message's payload; `len` the LEN field. -/
structure HdpReq where
  hdr      : Hdr
  typ      : Nat
  index    : Nat
  sub      : Nat
  len      : Nat
  code     : Nat
  segno    : Nat
  payload  : List Byte
  deriving DecidableEq, Repr

/-- A fabric frame (Table 10-1), with the two checks as received (R270). -/
structure Frame where
  opcode   : Nat
  cls      : Nat
  epoch    : Nat
  mcast    : Bool
  dstDev   : Nat
  dstCore  : Nat
  slice    : Nat
  fanId    : Nat
  srcDev   : Nat
  srcCore  : Nat
  len      : Nat
  hops     : Nat
  code     : Nat
  seq      : Nat
  aux      : Nat
  addr     : Nat
  payload  : List Byte
  hcrc     : Nat
  pcrc     : Nat
  deriving DecidableEq, Repr

/-- An RDMA message of a host on connection slot `conn` (R463, R466), taken at its first packet. -/
structure HostMsg where
  conn     : Nat
  rkey     : Nat
  /-- The 64-bit virtual address. -/
  va       : Nat
  len      : Nat
  data     : List Byte
  /-- The addend of a fetch-add. -/
  addend   : Nat
  /-- The RoCEv2 opcode as received, recorded in QP_LAST_ERROR. -/
  opcode   : Nat
  psn      : Nat
  /-- The packet was marked CE (R465). -/
  ce       : Bool
  /-- Codewords that FEC has corrected, and failed to correct, on the port since the message before (R461). -/
  corrected   : Nat
  uncorrected : Nat
  /-- The IEEE 802.1Q tag of its frames, VID in [11:0] and PCP in [14:12], and the bytes of the longest of them (R461). -/
  vlan        : Option Nat := none
  frame       : Nat := 0
  deriving DecidableEq, Repr

/-- A stored error that has come about in memory: the first component is a 32 B HBM burst number (local address / 32) or a
scratchpad granule number; the second is the pin or bit in error, `none` for an uncorrectable error (R191, R211). -/
structure StoredError where
  unitNo   : Nat
  pin      : Option Nat
  deriving DecidableEq, Repr

/-- What a channel's lane measures in a Sextant run (R232, Table 8-4): timing margins and reference margins, and the timing margins of
the sweeps with the I/O supply at −5 % and at +5 %. -/
structure LaneMargin where
  stack    : Nat
  channel  : Nat
  lane     : Nat
  left     : Nat
  right    : Nat
  vlow     : Nat
  vhigh    : Nat
  lowLeft   : Nat
  lowRight  : Nat
  highLeft  : Nat
  highRight : Nat
  deriving DecidableEq, Repr

/-- A blocking that a stack has measured (R223, R224): the priority class, its time in ns, and whether the wait for a remap is in
it (R218). -/
structure Blocking where
  cls   : Nat
  ns    : Nat
  remap : Bool
  deriving DecidableEq, Repr

/-- What the start-up meets on its way (R478, R480, R484): readings of the hardware at this start. -/
structure StartReadings where
  /-- SA[5:0] at power-good (R497). -/
  sa            : Nat
  /-- Bit errors in the PUF reading (R480). -/
  pufErrors     : Nat
  /-- Domains that miss power-good (R407). -/
  failedDomains : List Nat
  /-- Active cores that fail the start-up self-test (R484). -/
  failedCores   : List Nat
  /-- Fabric ports whose training succeeds, with the neighbour's code (NEIGHBOR_DEV). -/
  fabricUp      : List (Nat × Nat)
  /-- Host ports whose training succeeds. -/
  hostUp        : List Nat
  /-- Management segments on which PLCA beacons are received. -/
  segsUp        : List Seg
  /-- The module's addresses that duplicate address detection finds in use (R420, R497). -/
  taken         : List NdTaken := []
  /-- Stacks whose qualification record covers 8.8 Gb/s (R209). -/
  fastStacks    : List Nat
  /-- Lanes below the limits of the short Sextant run (R233). -/
  weakLanes     : List LaneMargin
  /-- Journal entries whose check fails, as dictionary keys (R456). -/
  badJournal    : List Nat
  deriving DecidableEq, Repr

/-- What a training of a fabric port ends in (R296, R300, R301). -/
structure TrainOutcome where
  /-- Training succeeded within its time. -/
  trained       : Bool
  /-- Lanes 0–3 found dead. -/
  deadLanes     : List Nat
  /-- NEIGHBOR_DEV as found: a module, 0x8000 a switch, 0xFFFF none. -/
  neighbor      : Nat
  deriving DecidableEq, Repr

/-- How a frame comes by a fabric port (R267, R274): the port, the link sequence number of its prefix, the codewords that FEC has
corrected and failed to correct on the port since the arrival before. -/
structure Arrival where
  port        : Nat
  linkSeq     : Nat
  corrected   : Nat
  uncorrected : Nat
  /-- Corrected symbols since then by lane of the port, in lane order (R387). -/
  symbols     : List Nat
  deriving DecidableEq, Repr

/-- What a write of the Chart in CHART_SEL carries (Table 10-9): entries from a first device, or SELF. -/
inductive ChartPart where
  | entries (first : Nat) (words : List Nat)
  | self (dev : Nat)
  deriving DecidableEq, Repr

/-- The key of an end-to-end flow (R277). -/
structure FlowKey where
  /-- Unicast: the peer device; multicast: the root device. -/
  dev   : Nat
  /-- Multicast: the Fan; unicast: none. -/
  fan   : Option Nat
  cls   : Nat
  epoch : Nat
  deriving DecidableEq, Repr

/-- The rail a regulator phase belongs to (R388). -/
inductive Rail where
  | die (d : Nat)
  | xd
  | hbm
  deriving DecidableEq, Repr

/-- The ports and requesters of Table 7-1. -/
inductive SpRequester where
  | lda | feeder | vectorRead | weightLoader | dmaRead (engine : Nat) | meshRead
  | sta | drain | vectorWrite | dmaWrite (engine : Nat) | meshWrite
  deriving DecidableEq, Repr

/-- A message and whether the event that a same-cycle rule sets against it falls into its cycle: a RESET of the core (R156, R167), the
fault that a RESET meets (R165), or a domain's wake (R407). -/
structure InCycle (α : Type) where
  what      : α
  coincides : Bool
  deriving DecidableEq, Repr

/-- A WRITE_EXP with what falls into its cycle: a RESET of the core (R156, R167) or a domain's wake (R407); a second WRITE_EXP that reaches
the unit by the other segment (R434, R457); a power fail before a journal entry has completed (R457). -/
structure WriteCycle where
  what       : HdpReq
  coincides  : Bool
  second     : Option HdpReq := none
  powerFails : Bool := false
  deriving DecidableEq, Repr

/-- The 1s of a clearing write, and the bits that hardware sets in the same cycle, which stay set (R55). -/
structure ClearMask where
  mask : Nat
  sets : Nat
  deriving DecidableEq, Repr

/-- A bank that upkeep takes, and the blockings of ready P0–P3 requests that it brings (R224). -/
structure Upkeep where
  bank    : Nat
  blocked : List Blocking
  /-- Activates of the bank since its last upkeep (R222). -/
  acts    : Nat
  deriving DecidableEq, Repr

/-- A domain that reaches power-good, and for a stack that comes on from off the margins of its short Sextant run (R233, Table 16-2). -/
structure PowerGood where
  domain  : Nat
  margins : List LaneMargin
  deriving DecidableEq, Repr

/-- A port that retrains, and whether one of its lanes lost lock (R296). -/
structure Retrain where
  port : Nat
  lost : Bool
  deriving DecidableEq, Repr

/-- The commands of the module. The names are those of spec/opcode_table.json; LAWS.json holds the map. -/
inductive Instr where
  -- start-up
  | powerOn (r : StartReadings)
  -- cores, program mode (05)
  | bundleIssue (core : Nat)
  | ldaWriteback (core : Nat)
  | lineFill (core : Nat)
  | releaseBufferPerform (core : Nat)
  -- matrix array (03)
  | mcfg (core : Nat)
  | mwld (core : Nat)
  | checksumWeightsReady (core : Nat)
  | mstr (core : Nat)
  | mcls (core : Nat)
  | drain (core : Nat) (errors : List StoredError)
  | portStarvationOverride (core : Nat) (requester : SpRequester)
  -- vector engine (04)
  | chainStart (core : Nat)
  | gatedUpdate (core : Nat)
  | chainComplete (core : Nat)
  | sealThresh (h : Hdr) (value : Nat)
  -- core control (05, 06)
  | arm (h : InCycle Hdr) (core : Nat)
  | reset (h : InCycle Hdr) (core : Nat)
  | progGen (h : InCycle Hdr) (core : Nat) (gen : Nat)
  | progressWatchdog (core : Nat)
  | runWatchdog (core : Nat)
  | lyrWrite (h : Hdr) (core : Nat) (reg : Nat) (value : Nat)
  | lyrStart (h : InCycle Hdr) (core : Nat)
  | recordLoad (core : Nat)
  | layerComplete (core : Nat)
  -- DMA (07)
  | dmaDescriptorStart (core : Nat) (engine : Nat) (errors : List StoredError)
  | dmaComplete (core : Nat) (engine : Nat)
  -- HBM (08)
  | scrubRead (burst : Nat) (errors : List StoredError)
  | refresh (u : Upkeep) (busy : Bool)
  | refreshManagement (u : Upkeep)
  | rowRemap (group : Nat)
  | stackTempRead (readings : List (Option Int × Option Int))
  | cbwCopy (page : Nat)
  | backgroundCopy (die : Nat)
  | sxtRun (h : Hdr)
  | sxtAbort (h : Hdr)
  | sxtDone (margins : List LaneMargin)
  -- Waypoints (09)
  | waypointAdd (slice : Nat) (wp : Nat) (value : Nat)
  | waypointSet (slice : Nat) (wp : Nat) (value : Nat)
  | waypointWait (core : Nat) (wp : Nat) (threshold : Nat)
  | timedAdd (slice : Nat) (wp : Nat) (value : Nat) (time : Nat)
  | timedAddDue
  | errorCompletion (slice : Nat) (wp : Nat) (code : Nat)
  | waypointMark (m : HostMsg)
  | waypointClear (m : HostMsg) (together : Bool)
  | groupSlice (h : Hdr) (group : Nat) (slice : Nat)
  -- Chronometer (09)
  | chronometerExchange
  | timeReq (a : Arrival) (f : Frame)
  | timeRsp (a : Arrival) (f : Frame) (t4 : Nat)
  | chrSet (h : Hdr) (value : Nat)
  | chrParentPort (h : Hdr) (value : Nat)
  -- fabric (10)
  | frameRoute (arrival : Option Arrival) (f : Frame)
  | write (f : Frame)
  | read (f : Frame)
  | readData (f : Frame)
  | wpAdd (f : Frame)
  | ack (f : Frame)
  | errResp (f : Frame)
  | partialNotice (f : Frame)
  | ackTimer (k : FlowKey)
  | e2eResend (k : FlowKey)
  | pathLost (k : FlowKey)
  | linkControlBlock (port : Nat)
  | nak (port : Nat) (seqNo : Nat)
  | linkReplayTimeout (port : Nat)
  | frameAgeDrop
  | portRetrain (r : Retrain)
  | retrainDone (port : Nat) (o : TrainOutcome)
  | portRetry (port : Nat)
  | portDisable (h : Hdr) (port : Nat)
  | portEnable (h : Hdr) (port : Nat)
  | portRetrainCmd (h : Hdr) (port : Nat)
  | laneSwap (h : Hdr) (port : Nat)
  | chartBegin (h : Hdr)
  | chartLoad (h : Hdr) (part : ChartPart)
  | chartSeal (h : Hdr)
  | switch (h : Hdr)
  | switchClose (h : Hdr)
  | chartAbort (h : Hdr)
  | chartSwitchTime
  | chartDrainClose (chart : Nat)
  -- collectives (11)
  | ctxArm (h : Hdr) (ctx : Nat) (addr : Nat)
  | disarm (h : Hdr) (ctx : Nat)
  | contrib (f : Frame)
  | deadline (ctx : Nat)
  | late (f : Frame)
  | result (f : Frame)
  -- stages (12)
  | stageEnable (h : Hdr) (slot : Nat)
  | stageDisable (h : Hdr) (slot : Nat)
  -- step, Wake, Consort (13)
  | stepBegin (h : Hdr)
  | endJob (h : Hdr)
  | restore (h : Hdr)
  | standby (h : Hdr)
  | consortStream
  | checkTimeout
  | consortTimeout
  | stepVote (f : Frame)
  | stepCommit (f : Frame)
  | stepAbort (f : Frame)
  | stepResume (f : Frame)
  | voteResend
  | consortData (f : Frame)
  | consortDone (f : Frame)
  | consortAck (f : Frame)
  | consortPull (f : Frame)
  | consortLoad (f : Frame)
  | moduleFence (h : Hdr)
  | release (h : Hdr)
  | fenceReqDev (h : Hdr) (dev : Nat)
  -- Fixes (14)
  | fixArm (h : Hdr)
  | abandon (h : Hdr)
  | fixEncode (die : Nat)
  | fixStripe (f : Frame)
  | fixStripeRetry
  | fixCount (f : Frame)
  | fixPrepared (f : Frame)
  | fixCommit (f : Frame)
  | fixDiscard (f : Frame)
  | fixTimeout
  | fixPreparedResend
  | fixDrainedSlots (h : Hdr) (value : Nat)
  | fixApply (h : Hdr)
  | rebuild (h : Hdr)
  | resolveCommit (h : Hdr)
  | resolveDiscard (h : Hdr)
  | fixPull (f : Frame)
  | fixChunk (f : Frame)
  -- Reserves and Drift (15)
  | rsvSwap (h : Hdr) (core : Nat) (reserve : Nat)
  | rsvSwapCancel (h : Hdr) (core : Nat)
  | reserveReady (core : Nat) (pass : Bool)
  | reserveIdleTimeout (core : Nat)
  | driftEvaluation (canaries : List (Nat × Int)) (xdLost : Nat)
  | driftPersist
  | laneSwapRequest (port : Nat) (lane : Nat)
  | phaseShed (rail : Rail)
  | sensorLost (site : Nat) (sensor : Nat)
  | sparePressure (h : Hdr) (value : Nat)
  | retiredMap (h : Hdr) (value : Nat)
  -- power, clocks, temperature (16)
  | inputSample (milliVolt : Nat) (milliAmp : Nat)
  | pdOn (h : Hdr) (domain : Nat)
  | pdOff (h : InCycle Hdr) (domain : Nat)
  | pdSelfRefresh (h : Hdr) (domain : Nat)
  | domainPowerGood (g : PowerGood)
  | domainWakeFail (domain : Nat)
  | pllLock (die : Nat)
  | throttleStepUp (die : Nat)
  | siteTempSample (readings : List (Option Int × Option Int))
  | clkCap (h : Hdr) (die : Nat) (value : Nat)
  | throttleN
  | throttleNRelease
  | epoN
  | epoNRelease
  | fenceN
  | fenceNRelease
  | restart (h : Hdr)
  -- management (17)
  | hmuSleep
  | hcWatchdog (core : Nat)
  | hmuReset
  | segmentDown (seg : Seg)
  | neighborSolicitation (link : NdLink) (target : Nat)
  | readExp (q : HdpReq)
  | objectWrite (q : WriteCycle)
  | readSeg (q : HdpReq)
  | writeSeg (q : HdpReq)
  | segment (q : HdpReq)
  | response (q : HdpReq)
  | segmentResend (transfer : Nat)
  | transferTimeout (transfer : Nat)
  | hdpAbort (q : HdpReq)
  | subscribe (q : HdpReq)
  | unsubscribe (q : HdpReq)
  | notify (slot : Nat)
  | leaseExpiry (slot : Nat)
  | keyWrite (h : Hdr) (key : Nat) (value : List Byte)
  | beacon
  | immediateBeacon
  | logFlush (programFails : Bool)
  -- W1C clears
  | arithFlagsClear (h : Hdr) (core : Nat) (m : ClearMask)
  | chkStatusClear (h : Hdr) (core : Nat) (m : ClearMask)
  | stackHealthClear (h : Hdr) (stack : Nat) (m : ClearMask)
  | actStatusClear (h : Hdr) (slot : Nat) (m : ClearMask)
  | stepStatusClear (h : Hdr) (m : ClearMask)
  | healthClear (h : Hdr) (m : ClearMask)
  | pwrStatusClear (h : Hdr) (m : ClearMask)
  | mgmtStatusClear (h : Hdr) (m : ClearMask)
  | alertSummaryClear (h : Hdr) (m : ClearMask)
  | portHealthClear (h : Hdr) (port : Nat) (m : ClearMask)
  -- slices and dictionary service (18)
  | assign (h : Hdr) (slot : Nat)
  | sliceRelease (h : Hdr) (slot : Nat)
  | dictDefaults (h : Hdr)
  | dictDefaultsCancel (h : Hdr)
  -- host link (19)
  | rdmaWrite (m : HostMsg)
  | rdmaRead (m : HostMsg) (errors : List StoredError)
  | atomicFetchAdd (m : HostMsg)
  | cnp (conn : Nat)
  | cnpRateRestore (conn : Nat)
  | qpOpen (h : Hdr) (conn : Nat)
  | qpClose (h : Hdr) (conn : Nat)
  -- firmware, record, attestation, self-test (20)
  | fwBegin (h : Hdr)
  | fwChunk (h : Hdr) (data : List Byte)
  | verify (h : Hdr)
  | fwCommit (h : Hdr)
  | fwCommitDone
  | activate (h : Hdr)
  | cancel (h : Hdr)
  | cfgBegin (h : Hdr)
  | cfgChunk (h : Hdr) (data : List Byte)
  | cfgApply (h : Hdr)
  | attGenerate (h : Hdr)
  | attDone
  | bistRun (h : Hdr)
  | bistDone (failed : List Nat)
  -- rows at the end of the table
  | segmentUp (seg : SegReturn)
  | linkControlBlockReceived (port : Nat) (acked : Nat) (credits : List (Nat × Nat))
  | hostPortCtrl (h : Hdr) (port : Nat) (value : Nat)
  | hostLinkUp (port : Nat)
  | hostLinkDown (port : Nat)
  | fixApplyDone
  | transmitOpportunity (seg : Seg)
  deriving DecidableEq, Repr

end Sys2Proof
end

