-- ==== Sys2Proof/Decode.lean ====
section
/-! DEFINITION. The command that a word spells: no row of spec/opcode_table.json gives bits, so no word spells one. The module
has no instruction decoder; its commands arrive as management messages, frames, RDMA messages, events and pins. -/

namespace Sys2Proof

/-- The command that `nbits` bits of `w` spell by the table's bits: none, for no row gives bits. -/
def decodeTableWord (_nbits _w : Nat) : Option Instr := none

end Sys2Proof
end

