-- ==== Sys2Proof/Config.lean ====
section
/-! DEFINITION. What an implementation fixes and the manual leaves open: the free values. Each is an opaque constant, so no
proof can see what it is (log 6). -/

namespace Sys2Proof.Config

/-- How many units in the last place a function of Table 4-5 lies from the correctly rounded value, by operation code and
operand (R103). A chain repeats bit for bit on repeated inputs (R113), so it depends on these alone. The model keeps the
stated bound: an offset beyond it is not taken. -/
opaque fnOffset (op operand : Nat) : Int

/-- The value that the manual leaves undefined: a number that depends on the count of free values taken before. -/
opaque freeNat (n : Nat) : Nat

/-- The byte of a tile buffer that nothing has written since core reset (R93) or since an undefined result of the core
(R161), by core, buffer and offset and by the count of free values at that moment. -/
opaque tileByte (n core buf off : Nat) : Byte

/-- Values set at manufacture that the dictionary shows under a dash (R447): the identity objects, by sub-index or number
(log 7). -/
opaque identity (key : Nat) : Nat

/-- The state that a lane generator takes from the entropy source on XD (R110), by core, lane and the count of such loads. -/
opaque laneEntropy (loadNo core lane : Nat) : Nat

/-- A draw of a free-running lane: the lanes step in every cycle, so the output taken depends on timing (R110, R113). -/
opaque laneDraw (n : Nat) : Nat

/-- The line that a fill replaces in a full set of the instruction cache (R145), as a place among the set's lines. -/
opaque victimWay (n : Nat) : Nat

/-- The bytes of a burst or granule as stored once an uncorrectable error has come about in it (R191, R213). -/
opaque errorByte (n i : Nat) : Byte

/-- The address outside its core's slice that an undefined result also tries to access, if it tries one (R161). -/
opaque undefOutside (n : Nat) : Option Nat

/-- The memory writes of an undefined result: addresses and bytes (R161). Those outside the core's slice are dropped. -/
opaque undefWrites (n : Nat) : List (Nat × Byte)

/-- The Waypoint adds of an undefined result (R161). Those outside the core's slice are dropped. -/
opaque undefAdds (n : Nat) : List (Nat × Nat)

/-- The initial and the maximum management threshold that the stacks' mode registers give, and what a refresh takes off a bank's rolling
activation count (R222, log 45). -/
opaque rfmInitial : Nat
opaque rfmMax : Nat
opaque rfmRefresh : Nat

/-- How far, in mV, the two readings of a rail's voltage monitors lie apart before they disagree (R389): no rule gives it. -/
opaque voltageApart : Nat

/-- Whether a block of the management flash fails as it is programmed or erased (R386, R473): it depends on the part. -/
opaque flashFails (n : Nat) : Bool

/-- Where in its period a blink of the LEDs stands at time 0 (R498). -/
opaque blinkPhase (periodNs : Nat) : Nat

/-- The redundant lanes of an HBM channel (R215). -/
opaque redundantLanes : Nat

/-- What a layer leaves in its WORK area, as offsets within the area and bytes (R172, R173): how tensors are staged is not laid
down. -/
opaque workWrites (n : Nat) : List (Nat × Byte)

/-- How many hops the module stands from the Chronometer's root (R255): no frame carries it. -/
opaque chrHops : Nat

/-- The temperature site that stands for a core in Table 15-3: no rule says which site is a core's. -/
opaque coreSite (core : Nat) : Nat

/-- KEY_OBSERVER (0) and KEY_OPERATOR (1) as they stand in flash when the module is delivered (R430, log 7). -/
opaque factoryKey (role : Nat) : List Byte

/-- The public halves of the firmware keys that the mask ROM holds (R474). -/
opaque firmwareKey (n : Nat) : List Byte

/-- The 512-bit seed that the PUF yields once corrected (R480). -/
opaque pufSeed : Nat

/-- RELEASE, SEC_VERSION and digest of the image the module is delivered with (R474, log 7). -/
opaque factorySec : Nat
opaque factoryDigest : Nat

/-- The bytes of class 0 that a port sends ahead of the other classes before its 10 % share counts as exceeded (R273): the time over
which the share is taken is not given (log 47). -/
opaque ctrlBurst : Nat

/-- The number and the arguments of a log entry's event other than those the manual numbers (R437, log 9), by the event's kind and
the model's data. -/
opaque eventNumber (kind : Nat) : Nat
opaque eventArgs (kind data : Nat) : Nat

end Sys2Proof.Config
end

