-- ==== Sys2Proof/Machine/Bits.lean ====
section
/-! DEFINITION. Bit fields (R2), little-endian byte order (R3), two's complement, and the sparse maps in one canonical form
that hold every table and memory of the module. -/

namespace Sys2Proof.Machine

/-- Bits [hi:lo] of `w` (R2). -/
def bits (w hi lo : Nat) : Nat := (w >>> lo) % 2 ^ (hi + 1 - lo)

/-- Bit `i` of `w` (R2). -/
def bit (w i : Nat) : Bool := w.testBit i

/-- A Boolean as the value of one bit. -/
def b2n (b : Bool) : Nat := if b then 1 else 0

/-- `w` with bit `i` set. -/
def setBit (w i : Nat) : Nat := w ||| 2 ^ i

/-- `w` with bit `i` cleared. -/
def clearBit (w i : Nat) : Nat := w &&& (w ^^^ 2 ^ i)

/-- `w` with bit `i` equal to `b`. -/
def putBit (w i : Nat) (b : Bool) : Nat := if b then setBit w i else clearBit w i

/-- `w` with the bits of `mask` cleared: the effect of a W1C write (R9). -/
def clearMask (w mask : Nat) : Nat := w &&& (w ^^^ (w &&& mask))

/-- A counter of `n` bits that stops at its largest value. -/
def satInc (n w k : Nat) : Nat := min (2 ^ n - 1) (w + k)

/-- `n` bits of `w` read as two's complement. -/
def toSigned (n w : Nat) : Int :=
  if w % 2 ^ n < 2 ^ (n - 1) then (w % 2 ^ n : Nat) else ((w % 2 ^ n : Nat) : Int) - (2 ^ n : Nat)

/-- An integer as `n` bits of two's complement. -/
def ofSigned (n : Nat) (i : Int) : Nat := (i % ((2 ^ n : Nat) : Int)).toNat

/-- The numbers 0 … n-1 whose bit in `w` is set, ascending. -/
def setBits (n w : Nat) : List Nat := (List.range n).filter (fun i => w.testBit i)

/-- The mask with the bits of the list set. -/
def maskOf : List Nat → Nat
  | [] => 0
  | i :: r => setBit (maskOf r) i

/-- How many of the low `n` bits of `w` are set. -/
def popCount (n w : Nat) : Nat := (setBits n w).length

/-- The `n` bytes of a value, the byte at the lowest address first (R3). -/
def leBytes : Nat → Nat → List Byte
  | 0, _ => []
  | n + 1, v => BitVec.ofNat 8 v :: leBytes n (v / 256)

/-- The value of bytes, the first at the lowest address (R3). -/
def leNat : List Byte → Nat
  | [] => 0
  | b :: r => b.toNat + 256 * leNat r

/-- Bytes `off` … `off + n - 1` of a list, zeros past its end. -/
def slice (l : List Byte) (off n : Nat) : List Byte :=
  let p := (l.drop off).take n
  p ++ List.replicate (n - p.length) 0#8

/-- A list cut into groups of `n` (n > 0), the last one shorter; `fuel` bounds the number of groups. -/
def chunks {α : Type} (n : Nat) : Nat → List α → List (List α)
  | 0, _ => []
  | _, [] => []
  | f + 1, l => l.take n :: chunks n f (l.drop n)

/-- `ceil (a / b)`. -/
def ceilDiv (a b : Nat) : Nat := (a + b - 1) / b

/-- Whether `a` is a multiple of `n`. -/
def aligned (n a : Nat) : Bool := a % n == 0

/-- Whether ranges [a, a+m) and [b, b+n) meet. -/
def rangesMeet (a m b n : Nat) : Bool := a < b + n && b < a + m && 0 < m && 0 < n

/-- An element put before the first one that it goes ahead of. -/
def insertBy {α : Type} (first : α → α → Bool) (a : α) : List α → List α
  | [] => [a]
  | b :: r => if first a b then a :: b :: r else b :: insertBy first a r

/-- A list in the order of `first`. -/
def sortBy {α : Type} (first : α → α → Bool) : List α → List α
  | [] => []
  | a :: r => insertBy first a (sortBy first r)

/-! ### Sparse maps -/

/-- A map from numbers to values in canonical form: keys strictly rising, no entry equal to the default of its key. -/
abbrev Sparse (α : Type) := List (Nat × α)

namespace Sparse

/-- The value at a key; `d` says what an unlisted key holds. -/
def get {α : Type} (d : Nat → α) : Sparse α → Nat → α
  | [], k => d k
  | (k', v) :: r, k => if k = k' then v else get d r k

/-- The map with an entry put at its place among rising keys. -/
def put {α : Type} : Sparse α → Nat → α → Sparse α
  | [], k, v => [(k, v)]
  | (k', v') :: r, k, v =>
    if k < k' then (k, v) :: (k', v') :: r
    else if k = k' then (k, v) :: r
    else (k', v') :: put r k v

/-- The map without an entry. -/
def erase {α : Type} (m : Sparse α) (k : Nat) : Sparse α := m.filter (fun e => e.1 != k)

/-- The map with a value set, canonical again: the default of a key is not listed. -/
def set {α : Type} [DecidableEq α] (d : Nat → α) (m : Sparse α) (k : Nat) (v : α) : Sparse α :=
  if v = d k then m.erase k else m.put k v

/-- Keys strictly rising from above `lo`, no entry equal to its default. -/
def wfFrom {α : Type} [DecidableEq α] (d : Nat → α) (lo : Nat) : Sparse α → Bool
  | [] => true
  | (k, v) :: r => decide (lo ≤ k) && decide (v ≠ d k) && wfFrom d (k + 1) r

/-- The canonical form. -/
def wf {α : Type} [DecidableEq α] (d : Nat → α) (m : Sparse α) : Bool := wfFrom d 0 m

/-- The map without the keys of [lo, lo + n): they read as their defaults. -/
def eraseRange {α : Type} (m : Sparse α) (lo n : Nat) : Sparse α :=
  m.filter (fun e => !(decide (lo ≤ e.1) && decide (e.1 < lo + n)))

/-- Several values set one after the other. -/
def setMany {α : Type} [DecidableEq α] (d : Nat → α) : Sparse α → List (Nat × α) → Sparse α
  | m, [] => m
  | m, (k, v) :: r => setMany d (m.set d k v) r

end Sparse

/-- Values written at consecutive keys. -/
def Sparse.setRun {α : Type} [DecidableEq α] (d : Nat → α) : Sparse α → Nat → List α → Sparse α
  | m, _, [] => m
  | m, k, v :: r => Sparse.setRun d (m.set d k v) (k + 1) r

/-- Values read at `n` consecutive keys. -/
def Sparse.getRun {α : Type} (d : Nat → α) (m : Sparse α) : Nat → Nat → List α
  | _, 0 => []
  | k, n + 1 => m.get d k :: Sparse.getRun d m (k + 1) n

end Sys2Proof.Machine
end

