-- ==== Sys2Proof/Machine/Flags.lean ====
section
/-! DEFINITION. The arithmetic flags INV, OVF and UFL of Table 2-10 (R53), as raised by one operation. -/

namespace Sys2Proof.Machine

/-- The flags that an operation raises (Table 2-10). -/
structure AFlags where
  inv : Bool := false
  ovf : Bool := false
  ufl : Bool := false
  deriving DecidableEq, Repr

/-- No flag. -/
def AFlags.none : AFlags := { }

/-- INV. -/
def AFlags.i : AFlags := { inv := true }

/-- OVF. -/
def AFlags.o : AFlags := { ovf := true }

/-- UFL. -/
def AFlags.u : AFlags := { ufl := true }

/-- The flags of both. -/
def AFlags.or (a b : AFlags) : AFlags :=
  { inv := a.inv || b.inv, ovf := a.ovf || b.ovf, ufl := a.ufl || b.ufl }

/-- INV where the condition holds. -/
def AFlags.invIf (c : Bool) : AFlags := { inv := c }

/-- The bits of Table 2-10 that the flags set. -/
def AFlags.word (a : AFlags) : Nat := b2n a.inv + 2 * b2n a.ovf + 4 * b2n a.ufl

end Sys2Proof.Machine
end

