-- ==== Sys2Proof/Machine/Float.lean ====
section
/-! DEFINITION. The number formats (02): encodings, exact arithmetic on values, and the one rounding of R50 with the results
of Table 2-9. -/

namespace Sys2Proof.Machine

/-- An exact value: a NaN, an infinity, or ± n / d with d > 0 (a zero keeps its sign). -/
inductive FVal where
  | nan
  | inf (neg : Bool)
  | fin (neg : Bool) (n d : Nat)
  deriving DecidableEq, Repr

/-- The format codes of Table 2-1. -/
inductive Fmt where
  | fp32 | fp16 | bf16 | e8m10 | e8m15 | e4m3 | e5m2 | e3m2 | e2m3 | e2m1 | e8m0 | int32 | int16 | int8 | int4 | split
  deriving DecidableEq, Repr

/-- The format of a 4-bit code (Table 2-1). -/
def Fmt.ofCode (c : Nat) : Fmt :=
  match c with
  | 0 => .fp32 | 1 => .fp16 | 2 => .bf16 | 3 => .e8m10 | 4 => .e8m15 | 5 => .e4m3 | 6 => .e5m2 | 7 => .e3m2
  | 8 => .e2m3 | 9 => .e2m1 | 10 => .e8m0 | 11 => .int32 | 12 => .int16 | 13 => .int8 | 14 => .int4 | _ => .split

/-- The bits an element takes in memory (Table 2-1); the split is no element format. -/
def Fmt.storeBits : Fmt → Nat
  | .fp32 => 32 | .fp16 => 16 | .bf16 => 16 | .e8m10 => 32 | .e8m15 => 24 | .e4m3 => 8 | .e5m2 => 8 | .e3m2 => 6
  | .e2m3 => 6 | .e2m1 => 4 | .e8m0 => 8 | .int32 => 32 | .int16 => 16 | .int8 => 8 | .int4 => 4 | .split => 32

/-- Whether the format is an integer format. -/
def Fmt.isInt : Fmt → Bool
  | .int32 | .int16 | .int8 | .int4 => true
  | _ => false

/-- Exponent bits, mantissa bits and bias (Table 2-2). -/
def Fmt.params : Fmt → Nat × Nat × Nat
  | .fp32 => (8, 23, 127) | .fp16 => (5, 10, 15) | .bf16 => (8, 7, 127) | .e8m10 => (8, 10, 127)
  | .e8m15 => (8, 15, 127) | .e4m3 => (4, 3, 7) | .e5m2 => (5, 2, 15) | .e3m2 => (3, 2, 3) | .e2m3 => (2, 3, 1)
  | .e2m1 => (2, 1, 1) | _ => (8, 23, 127)

/-- Whether the format encodes infinities as IEEE 754 does (Table 2-2). -/
def Fmt.hasInf : Fmt → Bool
  | .fp32 | .fp16 | .bf16 | .e8m10 | .e8m15 | .e5m2 => true
  | _ => false

/-- The positive encoding of the largest finite value (Table 2-3). -/
def Fmt.maxCode : Fmt → Nat
  | .fp32 => 0x7F7FFFFF | .fp16 => 0x7BFF | .bf16 => 0x7F7F | .e8m10 => 0x3FBFF | .e8m15 => 0x7F7FFF | .e4m3 => 0x7E
  | .e5m2 => 0x7B | .e3m2 => 0x1F | .e2m3 => 0x1F | .e2m1 => 0x7 | _ => 0

/-- The positive encoding of infinity (Table 2-3). -/
def Fmt.infCode (f : Fmt) : Nat := (2 ^ f.params.1 - 1) * 2 ^ f.params.2.1

/-- The canonical NaN (Table 2-3). -/
def Fmt.nanCode : Fmt → Nat
  | .fp32 => 0x7FC00000 | .fp16 => 0x7E00 | .bf16 => 0x7FC0 | .e8m10 => 0x3FE00 | .e8m15 => 0x7FC000 | .e4m3 => 0x7F
  | .e5m2 => 0x7E | .e8m0 => 0xFF | _ => 0

/-- The weight of the sign bit in the value's encoding. -/
def Fmt.signBit (f : Fmt) : Nat := 2 ^ (f.params.1 + f.params.2.1)

/-- A magnitude code with a sign. -/
def Fmt.withSign (f : Fmt) (neg : Bool) (code : Nat) : Nat := if neg then f.signBit + code else code

/-- ± m × 2^e as an exact value. -/
def FVal.scaled (neg : Bool) (m : Nat) (e : Int) : FVal :=
  if 0 ≤ e then .fin neg (m * 2 ^ e.toNat) 1 else .fin neg m (2 ^ (-e).toNat)

/-- The value of a floating-point encoding (R30–R32). -/
def Fmt.decode (f : Fmt) (code : Nat) : FVal :=
  match f with
  | .e8m0 => if code % 256 = 255 then .nan else .scaled false 1 ((code % 256 : Nat) - 127)
  | f =>
    let (eb, mb, bias) := f.params
    let neg := bit code (eb + mb)
    let e := bits code (eb + mb - 1) mb
    let m := code % 2 ^ mb
    if f.hasInf && e == 2 ^ eb - 1 then (if m = 0 then .inf neg else .nan)
    else if f == .e4m3 && e == 15 && m == 7 then .nan
    else if e = 0 then .scaled neg m (1 - (bias : Int) - (mb : Int))
    else .scaled neg (2 ^ mb + m) ((e : Int) - (bias : Int) - (mb : Int))

/-- The width of an integer format. -/
def Fmt.intBits : Fmt → Nat
  | .int32 => 32 | .int16 => 16 | .int8 => 8 | .int4 => 4 | _ => 0

/-- The value of an integer encoding (R34). -/
def Fmt.decodeInt (f : Fmt) (signed : Bool) (code : Nat) : Int :=
  if signed then toSigned f.intBits code else (code % 2 ^ f.intBits : Nat)

/-- An integer as an exact value; zero is +0. -/
def FVal.ofInt (i : Int) : FVal := .fin (decide (i < 0)) i.natAbs 1

/-- The negated value. -/
def FVal.neg : FVal → FVal
  | .nan => .nan
  | .inf s => .inf (!s)
  | .fin s n d => .fin (!s) n d

/-- The magnitude. -/
def FVal.abs : FVal → FVal
  | .nan => .nan
  | .inf _ => .inf false
  | .fin _ n d => .fin false n d

/-- Whether the value is a NaN. -/
def FVal.isNan : FVal → Bool
  | .nan => true
  | _ => false

/-- Whether the value is a NaN or an infinity. -/
def FVal.nonFinite : FVal → Bool
  | .fin _ _ _ => false
  | _ => true

/-- Whether the value is ±0. -/
def FVal.isZero : FVal → Bool
  | .fin _ n _ => n == 0
  | _ => false

/-- The sign. -/
def FVal.sign : FVal → Bool
  | .nan => false
  | .inf s => s
  | .fin s _ _ => s

/-- The signed numerator of a finite value. -/
def signedNat (neg : Bool) (n : Nat) : Int := if neg then -(n : Int) else n

/-- The exact sum; a NaN operand and opposite infinities give NaN (Table 2-7). -/
def FVal.add : FVal → FVal → FVal
  | .nan, _ => .nan
  | _, .nan => .nan
  | .inf s, .inf s' => if s = s' then .inf s else .nan
  | .inf s, .fin _ _ _ => .inf s
  | .fin _ _ _, .inf s => .inf s
  | .fin s n d, .fin s' n' d' =>
    let t := signedNat s (n * d') + signedNat s' (n' * d)
    if t = 0 then .fin (s && s') 0 1 else .fin (decide (t < 0)) t.natAbs (d * d')

/-- The exact product; a NaN operand and 0 × ∞ give NaN (Table 2-7). -/
def FVal.mul : FVal → FVal → FVal
  | .nan, _ => .nan
  | _, .nan => .nan
  | .inf s, .inf s' => .inf (s != s')
  | .inf s, .fin s' n _ => if n = 0 then .nan else .inf (s != s')
  | .fin s' n _, .inf s => if n = 0 then .nan else .inf (s != s')
  | .fin s n d, .fin s' n' d' => .fin (s != s') (n * n') (d * d')

/-- Whether a < b over the extended reals (−0 equal to +0); false with a NaN. -/
def FVal.lt : FVal → FVal → Bool
  | .nan, _ => false
  | _, .nan => false
  | .inf s, .inf s' => s && !s'
  | .inf s, .fin _ _ _ => s
  | .fin _ _ _, .inf s => !s
  | .fin s n d, .fin s' n' d' => decide (signedNat s (n * d') < signedNat s' (n' * d))

/-- Whether a = b over the extended reals; false with a NaN. -/
def FVal.eq : FVal → FVal → Bool
  | .nan, _ => false
  | _, .nan => false
  | a, b => !(a.lt b) && !(b.lt a)

/-- `floor (log2 (n / d))` for n, d > 0. -/
def ratLog2 (n d : Nat) : Int :=
  let l : Int := (Nat.log2 n : Int) - (Nat.log2 d : Int)
  let ge := if 0 ≤ l then decide (d * 2 ^ l.toNat ≤ n) else decide (d ≤ n * 2 ^ (-l).toNat)
  if ge then l else l - 1

/-- How R50 chooses: nearest even, toward zero, or by 16 random bits. -/
inductive Rnd where
  | rne
  | rtz
  | sr (u : Nat)
  deriving DecidableEq, Repr

/-- The multiple of 2^e that R50 chooses for n / d: its neighbours are k × 2^e and (k + 1) × 2^e. -/
def roundQuantum (r : Rnd) (n d : Nat) (e : Int) : Nat :=
  let num := if 0 ≤ e then n else n * 2 ^ (-e).toNat
  let den := if 0 ≤ e then d * 2 ^ e.toNat else d
  let k := num / den
  let rem := num % den
  match r with
  | .rne => if den < 2 * rem || (2 * rem == den && k % 2 == 1) then k + 1 else k
  | .rtz => k
  | .sr u => if u < 65536 * rem / den then k + 1 else k

/-- The exponent of the grid of a format that n / d lies on, unbounded above (R49, R50). -/
def Fmt.gridExp (f : Fmt) (n d : Nat) : Int :=
  let (_, mb, bias) := f.params
  max (ratLog2 n d) (1 - (bias : Int)) - (mb : Int)

/-- The magnitude code of n / d rounded into a format whose exponent is unbounded above (R50); beyond `maxCode` it is out
of range. -/
def Fmt.roundCode (f : Fmt) (r : Rnd) (n d : Nat) : Nat :=
  if n = 0 then 0
  else
    let (_, mb, bias) := f.params
    let e := f.gridExp n d
    let k := roundQuantum r n d e
    if k = 0 then 0 else ((e + (mb : Int) + (bias : Int)).toNat * 2 ^ mb + k) - 2 ^ mb

/-- `over_out` of Table 2-9 for a floating-point format. -/
def Fmt.overOut (f : Fmt) (r : Rnd) (clipSat neg : Bool) : Nat × AFlags :=
  match f with
  | .e4m3 => if clipSat then (f.withSign neg 0x7E, .o) else (0x7F, .o)
  | .e3m2 | .e2m3 | .e2m1 => (f.withSign neg f.maxCode, .o)
  | f => if r = .rtz then (f.withSign neg f.maxCode, .o) else (f.withSign neg f.infCode, .o)

/-- An integer as its format's code, clipped to the range; `flag` is raised when it is clipped (Table 2-9). -/
def Fmt.clipInt (f : Fmt) (signed : Bool) (i : Int) : Nat × AFlags :=
  let w := f.intBits
  let lo : Int := if signed then -((2 ^ (w - 1) : Nat) : Int) else 0
  let hi : Int := if signed then ((2 ^ (w - 1) : Nat) : Int) - 1 else ((2 ^ w : Nat) : Int) - 1
  if i < lo then (ofSigned w lo, .o) else if hi < i then (ofSigned w hi, .o) else (ofSigned w i, .none)

/-- Conversion into an integer format (Table 2-9, R50). -/
def Fmt.convertInt (f : Fmt) (r : Rnd) (signed : Bool) : FVal → Nat × AFlags
  | .nan => (0, .i)
  | .inf neg => ((f.clipInt signed (signedNat neg (2 ^ 64))).1, .i)
  | .fin neg n d => f.clipInt signed (signedNat neg (roundQuantum r n d 0))

/-- Conversion into the shared-scale format E8M0 (R96). -/
def convertE8m0 (r : Rnd) : FVal → Nat × AFlags
  | .nan => (0xFF, .none)
  | .inf _ => (0xFF, .i)
  | .fin neg n d =>
    if n = 0 || neg then (0xFF, .i)
    else
      let l := ratLog2 n d
      if l < -127 then (0, .none)
      else
        -- t lies in [2^l, 2^(l+1)); rounding up takes the next exponent field
        let k := roundQuantum (match r with | .rne => .rtz | r => r) n d l
        let num := if 0 ≤ l then n else n * 2 ^ (-l).toNat
        let den := if 0 ≤ l then d * 2 ^ l.toNat else d
        let e := (l + 127).toNat
        let up := match r with
          | .rne => decide (3 * den < 2 * num) || (2 * num == 3 * den && e % 2 == 1)
          | _ => k == 2
        let e' := if up then e + 1 else e
        -- a result above 2^127
        if 254 < e' then (0xFE, .o) else (e', .none)

/-- One conversion of an exact value into a format, with the results and the flags of Table 2-9 (R48–R50, R96). -/
def Fmt.convert (f : Fmt) (r : Rnd) (clipSat signed : Bool) (t : FVal) : Nat × AFlags :=
  if f.isInt then f.convertInt r signed t
  else match f with
  | .e8m0 => convertE8m0 r t
  | f =>
    match t with
    | .nan => match f with
      | .e3m2 | .e2m3 | .e2m1 => (0, .i)
      | f => (f.nanCode, .none)
    | .inf neg => match f with
      | .e4m3 => if clipSat then (f.withSign neg 0x7E, .o) else (0x7F, .o)
      | .e3m2 | .e2m3 | .e2m1 => (f.withSign neg f.maxCode, .o)
      | f => (f.withSign neg f.infCode, .none)
    | .fin neg n d =>
      let c := f.roundCode r n d
      if f.maxCode < c then f.overOut r clipSat neg else (f.withSign neg c, .none)

/-- A value from the code that `convert` gives: a floating-point or an integer value (an integer as an exact value). -/
def Fmt.valueOf (f : Fmt) (signed : Bool) (code : Nat) : FVal :=
  if f.isInt then .ofInt (f.decodeInt signed code) else f.decode code

/-- The value rounded to FP32 by RNE with gradual underflow (R42); OVF above the range. -/
def round32 (t : FVal) : FVal × AFlags :=
  let (c, fl) := Fmt.fp32.convert .rne true true t
  (Fmt.fp32.decode c, fl)

/-- The value rounded to FP32 by RNE and toward zero below 2^-126: a leaf, a node or an accumulation step of the array, with
the flush of item 2 of R52 (R41, Table 2-7). -/
def roundFlush (t : FVal) : FVal × AFlags :=
  match t with
  | .nan => (.nan, .none)
  | .inf s => (.inf s, .none)
  | .fin s n d =>
    if n = 0 then (.fin s 0 1, .none)
    else
      let e := ratLog2 n d - 23
      let k := roundQuantum .rne n d e
      match FVal.scaled s k e with
      | .fin s' n' d' =>
        if n' * 2 ^ 126 < d' then (.fin s 0 1, .u)
        else if d' * 2 ^ 128 ≤ n' then (.inf s, .o)
        else (.fin s' n' d', .none)
      | v => (v, .none)

/-- The FP32 code of a value that FP32 holds exactly. -/
def code32 (v : FVal) : Nat := (Fmt.fp32.convert .rne true true v).1

/-- The value of an FP32 code. -/
def val32 (c : Nat) : FVal := Fmt.fp32.decode c

/-- Nearest-even split of a value into two BF16 planes (R36). A NaN or an infinity has no residual of its own kind: the
high part carries it and lo is `x - hi` by Table 2-7. -/
def bf16Round (t : FVal) : Nat × AFlags := Fmt.bf16.convert .rne true true t

/-! ### The functions of the vector engine, within their bounds (R103) -/

/-- Fraction bits of the fixed-point evaluation of e^x, ln x, tanh x and 1/√x. -/
def fnBits : Nat := 320

/-- The sum of the terms t, t y / i, t y² / (i (i+1)) … in fixed point. -/
def expTerms (y : Nat) : Nat → Nat → Nat → Nat
  | 0, _, _ => 0
  | f + 1, i, t => t + expTerms y f (i + 1) (t * y / 2 ^ fnBits / i)

/-- e^(n/d) × 2^fnBits for n/d below 512: the argument divided by 2^16, then squared sixteen times. -/
def expFixed (n d : Nat) : Nat :=
  let y := n * 2 ^ fnBits / d / 2 ^ 16
  let sq (t : Nat) : Nat := t * t / 2 ^ fnBits
  (List.range 16).foldl (fun t _ => sq t) (expTerms y 40 1 (2 ^ fnBits))

/-- e^x as a fraction, x = ± n / d with magnitude below 512. -/
def expRat (neg : Bool) (n d : Nat) : Nat × Nat :=
  if neg then (2 ^ fnBits, expFixed n d) else (expFixed n d, 2 ^ fnBits)

/-- Σ z^(2i+1)/(2i+1) in fixed point. -/
def atanhTerms (z2 : Nat) : Nat → Nat → Nat → Nat
  | 0, _, _ => 0
  | f + 1, i, t => t / (2 * i + 1) + atanhTerms z2 f (i + 1) (t * z2 / 2 ^ fnBits)

/-- ln (n/d) × 2^fnBits for 1 ≤ n/d < 2. -/
def lnOneTwo (n d : Nat) : Nat :=
  let z := (n - d) * 2 ^ fnBits / (n + d)
  2 * atanhTerms (z * z / 2 ^ fnBits) 110 0 z

/-- ln (n/d) × 2^fnBits for n, d > 0. -/
def lnFixed (n d : Nat) : Int :=
  let l := ratLog2 n d
  let m := if 0 ≤ l then lnOneTwo n (d * 2 ^ l.toNat) else lnOneTwo (n * 2 ^ (-l).toNat) d
  l * (lnOneTwo 2 1 : Int) + (m : Int)

/-- The exact value of a function of Table 4-5 at a finite operand ± n / d with n > 0, to a relative error far below one
ulp: a signed fraction. -/
def fnApprox (op : Nat) (neg : Bool) (n d : Nat) : Bool × Nat × Nat :=
  match op with
  | 0x09 => -- EXP; beyond these magnitudes the value lies above the range or far below half the smallest subnormal
    if 256 * d < n then (if neg then (false, 1, 2 ^ 360) else (false, 2 ^ 360, 1))
    else let (a, b) := expRat neg n d; (false, a, b)
  | 0x0A => let v := lnFixed n d; (decide (v < 0), v.natAbs, 2 ^ fnBits)
  | 0x0C => (false, Nat.sqrt (d * 2 ^ 600 / n), 2 ^ 300)
  | 0x0D =>
    if 64 * d < n then (neg, 1, 1)
    else let e := expFixed (2 * n) d; (neg, e - 2 ^ fnBits, e + 2 ^ fnBits)
  | _ => -- GELUT: a / (1 + e^(-2u)), u = 0.7978845608 (a + 0.044715 a³)
    let un := 2 * 7978845608 * (1000000 * n * d * d + 44715 * n * n * n)
    let ud := 10000000000 * 1000000 * d * d * d
    if 256 * ud < un then (if neg then (true, n, d * 2 ^ 369) else (false, n, d))
    else let (a, b) := expRat (!neg) un ud; (neg, n * b, d * (a + b))

/-- The bound of a function in ulp (Table 4-5). -/
def fnBound (op : Nat) : Nat :=
  match op with
  | 0x0C => 1
  | 0x0E => 4
  | _ => 2

/-- Whether a value lies within `b` ulp (of FP32 at n / d, on the subnormal grid where it is subnormal) of ± n / d. -/
def withinUlp (b : Nat) (neg : Bool) (n d : Nat) (v : FVal) : Bool :=
  match v.add (.fin (!neg) n d) with
  | .fin _ dn dd =>
    match FVal.scaled false b (if n = 0 then -149 else Fmt.fp32.gridExp n d) with
    | .fin _ un ud => decide (dn * ud ≤ un * dd)
    | _ => false
  | _ => false

/-- The FP32 code that lies `k` steps from a code on the ordered line of FP32 values. -/
def stepCode (code : Nat) (k : Int) : Nat :=
  let o : Int := signedNat (bit code 31) (code % 2 ^ 31) + k
  if o = 0 then (if bit code 31 then 2 ^ 31 else 0) else if o < 0 then 2 ^ 31 + o.natAbs else o.natAbs

/-- A function of Table 4-5 at a finite non-zero operand: the value the implementation gives, within the bound (R103). -/
def fnFinite (op : Nat) (a : FVal) (neg : Bool) (n d : Nat) : FVal :=
  let (s, vn, vd) := fnApprox op neg n d
  let near := Fmt.fp32.withSign s (Fmt.fp32.roundCode .rne vn vd)
  let c := val32 (stepCode near (Config.fnOffset op (code32 a)))
  if withinUlp (fnBound op) s vn vd c then c else val32 near

/-- EXP, LOG, RCP, RSQRT, TANH, GELUT (Tables 4-5 and 4-6). -/
def ownFunction (op : Nat) (a : FVal) : FVal × AFlags :=
  match a with
  | .nan => (.nan, .i)
  | .inf neg =>
    match op with
    | 0x09 => (if neg then .fin false 0 1 else .inf false, .none)
    | 0x0A => if neg then (.nan, .i) else (.inf false, .none)
    | 0x0B => (.fin neg 0 1, .none)
    | 0x0C => if neg then (.nan, .i) else (.fin false 0 1, .none)
    | 0x0D => (.fin neg 1 1, .none)
    | _ => (if neg then .fin true 0 1 else .inf false, .none)
  | .fin neg n d =>
    match op with
    | 0x09 =>
      if n = 0 then (fnFinite op a neg 0 1, .none)
      else
        let (_, vn, vd) := fnApprox op neg n d
        if (FVal.fin false vn vd).lt (val32 Fmt.fp32.maxCode) || (FVal.fin false vn vd).eq (val32 Fmt.fp32.maxCode)
        then (fnFinite op a neg n d, .none) else (.inf false, .o)
    | 0x0A => if n = 0 then (.inf true, .none) else if neg then (.nan, .i) else (fnFinite op a neg n d, .none)
    | 0x0B => if n = 0 then (.inf neg, .o) else round32 (.fin neg d n)
    | 0x0C => if n = 0 then (.inf neg, .o) else if neg then (.nan, .i) else (fnFinite op a neg n d, .none)
    | _ => if n = 0 then (fnFinite op a neg 0 1, .none) else (fnFinite op a neg n d, .none)

end Sys2Proof.Machine
end

