-- ==== Sys2Proof/Machine/Dict.lean ====
section
/-! DEFINITION. The object dictionary (18): one row for each object of the tables of the manual, its key, type, access,
minimum role, default and size. A key is index × 256 + sub-index (R8). -/

namespace Sys2Proof.Machine

/-- A key under which no table of the manual has an object. -/
def absentKey : Nat := 0xFFFF01

/-- The key of an object of unit `i` of `n`; of a unit beyond them there is no object (R445). -/
def inRange (i n key : Nat) : Nat := if i < n then key else absentKey

/-- The types of R9. -/
inductive ObjTy where
  | bool | u8 | u16 | u32 | u64 | i32 | f32 | time64 | str | blob
  deriving DecidableEq, Repr

/-- The access kinds of Table 0-1. -/
inductive Access where
  | ro | rw | wo | w1c | rwp
  deriving DecidableEq, Repr

/-- The roles of R10, by rank. -/
inductive Role where
  | observer | operator | job | service
  deriving DecidableEq, Repr

/-- A row of the dictionary: objects at indices `base` … `base + n - 1` and sub-indices `sub` … `sub + subs - 1`. `dflt` is
the default (a dash reads as 0 here; see `dictDefault`), `size` the bytes of the value. -/
structure ObjRow where
  base : Nat
  n    : Nat
  sub  : Nat
  subs : Nat
  ty   : ObjTy
  acc  : Access
  role : Role
  dflt : Nat
  size : Nat
  deriving DecidableEq, Repr

/-- Rows of the dictionary, part 1: from ARITH_FLAGS (R56) to RUN_LIMIT (R164). -/
def dictRows1 : List ObjRow :=
  [
    ⟨0x8400, 104, 0x01, 1, .u32, .w1c, .job, 8, 4⟩, ⟨0x8400, 104, 0x02, 1, .u32, .ro, .observer, 0, 4⟩,
    ⟨0x8400, 104, 0x03, 1, .u32, .ro, .observer, 0, 4⟩, ⟨0x8400, 104, 0x04, 1, .u32, .ro, .observer, 0, 4⟩,
    ⟨0x8500, 104, 0x01, 1, .u32, .w1c, .job, 0, 4⟩, ⟨0x8500, 104, 0x02, 1, .u32, .ro, .observer, 0, 4⟩,
    ⟨0x8500, 104, 0x03, 1, .u32, .ro, .observer, 0, 4⟩, ⟨0x8500, 104, 0x04, 1, .u32, .ro, .observer, 0, 4⟩,
    ⟨0x8500, 104, 0x05, 1, .u32, .ro, .observer, 0, 4⟩, ⟨0x8500, 104, 0x06, 1, .u32, .ro, .observer, 0, 4⟩,
    ⟨0x8500, 104, 0x07, 1, .blob, .ro, .operator, 0, 32⟩, ⟨0x8500, 104, 0x08, 1, .u64, .ro, .observer, 0, 8⟩,
    ⟨0x8500, 104, 0x09, 1, .u64, .ro, .observer, 0, 8⟩, ⟨0x8500, 104, 0x0A, 1, .u64, .ro, .observer, 0, 8⟩,
    ⟨0x8500, 104, 0x0B, 1, .u64, .ro, .observer, 0, 8⟩, ⟨0x7210, 1, 0x01, 1, .u32, .ro, .observer, 0, 4⟩,
    ⟨0x7210, 1, 0x02, 1, .u16, .rw, .job, 0, 2⟩, ⟨0x7210, 1, 0x03, 1, .u64, .rw, .job, 0, 8⟩,
    ⟨0x7210, 1, 0x04, 1, .u32, .ro, .observer, 0, 4⟩, ⟨0x7210, 1, 0x05, 1, .u32, .ro, .observer, 0, 4⟩,
    ⟨0x7210, 1, 0x06, 1, .blob, .ro, .operator, 0, 16⟩, ⟨0x8600, 104, 0x01, 1, .u8, .rw, .job, 0, 1⟩,
    ⟨0x8600, 104, 0x02, 1, .u64, .rw, .job, 0, 8⟩, ⟨0x8600, 104, 0x03, 1, .u8, .rw, .job, 0, 1⟩,
    ⟨0x8600, 104, 0x04, 1, .u64, .ro, .observer, 0, 8⟩, ⟨0x8600, 104, 0x05, 1, .u64, .ro, .observer, 0, 8⟩,
    ⟨0x8600, 104, 0x06, 1, .u64, .ro, .observer, 0, 8⟩, ⟨0x8600, 104, 0x07, 1, .u64, .ro, .observer, 0, 8⟩,
    ⟨0x8600, 104, 0x08, 1, .u64, .ro, .observer, 0, 8⟩, ⟨0x8600, 104, 0x09, 1, .u32, .ro, .observer, 0, 4⟩,
    ⟨0x8700, 104, 0x01, 1, .u8, .rw, .job, 0, 1⟩, ⟨0x8700, 104, 0x02, 1, .u8, .ro, .observer, 1, 1⟩,
    ⟨0x8700, 104, 0x03, 1, .u8, .wo, .job, 0, 1⟩, ⟨0x8700, 104, 0x04, 1, .u64, .rw, .job, 0, 8⟩,
    ⟨0x8700, 104, 0x05, 1, .u16, .rw, .job, 0, 2⟩, ⟨0x8700, 104, 0x06, 1, .u64, .rw, .job, 1, 8⟩,
    ⟨0x8700, 104, 0x07, 1, .u64, .rw, .job, 0, 8⟩, ⟨0x8700, 104, 0x08, 1, .u32, .rw, .job, 0, 4⟩,
    ⟨0x8700, 104, 0x09, 1, .u32, .rw, .job, 16777216, 4⟩, ⟨0x8700, 104, 0x0A, 1, .u64, .rw, .job, 0, 8⟩ ]

/-- Rows of the dictionary, part 2: from FAULT_RECORD (R164) to SXT_TARGET (R234). -/
def dictRows2 : List ObjRow :=
  [
    ⟨0x8700, 104, 0x0B, 1, .blob, .ro, .operator, 0, 32⟩, ⟨0x8700, 104, 0x0C, 1, .u64, .ro, .observer, 0, 8⟩,
    ⟨0x8700, 104, 0x0D, 1, .u64, .ro, .observer, 0, 8⟩, ⟨0x8700, 104, 0x0E, 1, .u32, .ro, .observer, 0, 4⟩,
    ⟨0x8700, 104, 0x0F, 1, .u64, .ro, .observer, 0, 8⟩, ⟨0x8700, 104, 0x10, 1, .u32, .ro, .observer, 0, 4⟩,
    ⟨0x8700, 104, 0x11, 1, .u32, .ro, .observer, 0, 4⟩, ⟨0x8700, 104, 0x12, 1, .u32, .ro, .observer, 0, 4⟩,
    ⟨0x8700, 104, 0x13, 1, .u32, .ro, .observer, 0, 4⟩, ⟨0x8800, 104, 0x01, 64, .u64, .rw, .job, 0, 8⟩,
    ⟨0x8800, 104, 0x41, 1, .u8, .wo, .job, 0, 1⟩, ⟨0x8800, 104, 0x42, 1, .u64, .ro, .observer, 0, 8⟩,
    ⟨0x8800, 104, 0x43, 1, .u32, .ro, .observer, 0, 4⟩, ⟨0x8800, 104, 0x44, 1, .u32, .ro, .observer, 0, 4⟩,
    ⟨0x8800, 104, 0x45, 1, .u32, .ro, .observer, 0, 4⟩, ⟨0x8800, 104, 0x46, 1, .u64, .ro, .observer, 0, 8⟩,
    ⟨0x8900, 104, 0x01, 1, .u32, .ro, .observer, 0, 4⟩, ⟨0x8900, 104, 0x02, 1, .u32, .ro, .observer, 0, 4⟩,
    ⟨0x8900, 104, 0x03, 1, .u8, .ro, .observer, 255, 1⟩, ⟨0x8900, 104, 0x04, 1, .u64, .ro, .observer, 0, 8⟩,
    ⟨0x8900, 104, 0x05, 1, .u64, .ro, .observer, 0, 8⟩, ⟨0x8900, 104, 0x06, 1, .u64, .ro, .observer, 0, 8⟩,
    ⟨0x8900, 104, 0x07, 1, .u64, .ro, .observer, 0, 8⟩, ⟨0x8900, 104, 0x08, 1, .u64, .ro, .observer, 0, 8⟩,
    ⟨0x8900, 104, 0x09, 1, .u32, .ro, .observer, 0, 4⟩, ⟨0x8900, 104, 0x0A, 1, .u32, .ro, .observer, 0, 4⟩,
    ⟨0x8900, 104, 0x0B, 1, .blob, .ro, .operator, 0, 16⟩, ⟨0x6000, 1, 0x01, 1, .u8, .rwp, .service, 0, 1⟩,
    ⟨0x6000, 1, 0x02, 1, .u8, .ro, .observer, 0, 1⟩, ⟨0x6000, 1, 0x03, 1, .u16, .rwp, .service, 8, 2⟩,
    ⟨0x6000, 1, 0x04, 1, .u32, .rwp, .service, 1024, 4⟩, ⟨0x6000, 1, 0x05, 1, .u32, .rwp, .operator, 86400, 4⟩,
    ⟨0x6000, 1, 0x06, 1, .blob, .ro, .operator, 0, 32⟩, ⟨0x6000, 1, 0x07, 1, .bool, .ro, .observer, 0, 1⟩,
    ⟨0x6000, 1, 0x08, 1, .u64, .rw, .job, 0, 8⟩, ⟨0x6000, 1, 0x09, 1, .u64, .rw, .job, 0, 8⟩,
    ⟨0x6000, 1, 0x0A, 1, .u64, .ro, .observer, 0, 8⟩, ⟨0x6000, 1, 0x0B, 1, .u32, .ro, .observer, 0, 4⟩,
    ⟨0x6500, 1, 0x01, 1, .u8, .wo, .service, 0, 1⟩, ⟨0x6500, 1, 0x02, 1, .u16, .rw, .service, 0, 2⟩ ]

/-- Rows of the dictionary, part 3: from SXT_AXIS (R234) to CHR_LOCK_LOSSES (R261). -/
def dictRows3 : List ObjRow :=
  [
    ⟨0x6500, 1, 0x03, 1, .u8, .rw, .service, 3, 1⟩, ⟨0x6500, 1, 0x04, 1, .u8, .rw, .service, 0, 1⟩,
    ⟨0x6500, 1, 0x05, 1, .u8, .ro, .observer, 0, 1⟩, ⟨0x6500, 1, 0x06, 1, .blob, .ro, .operator, 0, 53760⟩,
    ⟨0x6500, 1, 0x07, 1, .u8, .rwp, .service, 14, 1⟩, ⟨0x6100, 12, 0x01, 1, .i32, .ro, .observer, 0, 4⟩,
    ⟨0x6100, 12, 0x02, 1, .u8, .ro, .observer, 0, 1⟩, ⟨0x6100, 12, 0x03, 1, .bool, .ro, .observer, 0, 1⟩,
    ⟨0x6100, 12, 0x04, 1, .u32, .w1c, .operator, 0, 4⟩, ⟨0x6100, 12, 0x05, 1, .u32, .ro, .observer, 0, 4⟩,
    ⟨0x6100, 12, 0x06, 1, .u32, .ro, .observer, 0, 4⟩, ⟨0x6100, 12, 0x07, 1, .u8, .ro, .observer, 0, 1⟩,
    ⟨0x6100, 12, 0x08, 1, .u8, .ro, .observer, 0, 1⟩, ⟨0x6100, 12, 0x09, 1, .u32, .ro, .observer, 0, 4⟩,
    ⟨0x6100, 12, 0x0A, 1, .u32, .ro, .observer, 0, 4⟩, ⟨0x6100, 12, 0x0B, 1, .u64, .ro, .observer, 0, 8⟩,
    ⟨0x6100, 12, 0x0C, 4, .u32, .ro, .observer, 0, 4⟩, ⟨0x9000, 1, 0x01, 1, .u16, .ro, .observer, 16384, 2⟩,
    ⟨0x9000, 1, 0x02, 1, .u16, .rw, .operator, 0, 2⟩, ⟨0x9000, 1, 0x03, 1, .blob, .ro, .operator, 0, 32⟩,
    ⟨0x9000, 1, 0x04, 1, .u64, .ro, .observer, 0, 8⟩, ⟨0x9000, 1, 0x05, 1, .u32, .ro, .observer, 0, 4⟩,
    ⟨0x9000, 1, 0x06, 1, .u32, .ro, .observer, 0, 4⟩, ⟨0x9000, 1, 0x07, 1, .u32, .ro, .observer, 0, 4⟩,
    ⟨0x9000, 1, 0x08, 1, .u16, .ro, .observer, 0, 2⟩, ⟨0x9000, 1, 0x09, 1, .u32, .ro, .observer, 0, 4⟩,
    ⟨0x9000, 1, 0x0A, 1, .u32, .ro, .observer, 0, 4⟩, ⟨0x9100, 256, 0x01, 1, .u16, .rw, .service, 65535, 2⟩,
    ⟨0x9100, 256, 0x02, 1, .u64, .ro, .observer, 0, 8⟩, ⟨0x9100, 256, 0x03, 1, .u64, .ro, .observer, 0, 8⟩,
    ⟨0x9200, 1, 0x01, 1, .time64, .ro, .observer, 0, 8⟩, ⟨0x9200, 1, 0x02, 1, .u8, .ro, .observer, 0, 1⟩,
    ⟨0x9200, 1, 0x03, 1, .u8, .rwp, .service, 254, 1⟩, ⟨0x9200, 1, 0x04, 1, .u8, .rwp, .service, 254, 1⟩,
    ⟨0x9200, 1, 0x05, 1, .u32, .rwp, .service, 125, 4⟩, ⟨0x9200, 1, 0x06, 1, .i32, .ro, .observer, 0, 4⟩,
    ⟨0x9200, 1, 0x07, 1, .u32, .ro, .observer, 4294967295, 4⟩, ⟨0x9200, 1, 0x08, 1, .time64, .wo, .service, 0, 8⟩,
    ⟨0x9200, 1, 0x09, 1, .u32, .ro, .observer, 0, 4⟩, ⟨0x9200, 1, 0x0A, 1, .u32, .ro, .observer, 0, 4⟩ ]

/-- Rows of the dictionary, part 4: from CHR_PORT_CAL (R261) to STALL_CYCLES (R302). -/
def dictRows4 : List ObjRow :=
  [
    ⟨0x9210, 1, 0x01, 16, .i32, .rwp, .service, 0, 4⟩, ⟨0x5000, 1, 0x01, 1, .u8, .ro, .observer, 0, 1⟩,
    ⟨0x5000, 1, 0x02, 1, .u8, .ro, .observer, 0, 1⟩, ⟨0x5000, 1, 0x03, 1, .u8, .ro, .observer, 0, 1⟩,
    ⟨0x5000, 1, 0x04, 1, .u8, .wo, .service, 0, 1⟩, ⟨0x5000, 1, 0x05, 1, .u8, .rw, .service, 0, 1⟩,
    ⟨0x5000, 1, 0x06, 1, .u16, .rw, .service, 0, 2⟩, ⟨0x5000, 1, 0x07, 1, .blob, .wo, .service, 0, 0⟩,
    ⟨0x5000, 1, 0x08, 1, .time64, .rw, .service, 0, 8⟩, ⟨0x5000, 1, 0x09, 1, .u16, .rw, .operator, 0, 2⟩,
    ⟨0x5000, 1, 0x0A, 1, .blob, .ro, .operator, 0, 16⟩, ⟨0x5000, 1, 0x0B, 1, .blob, .ro, .observer, 0, 64⟩,
    ⟨0x5000, 1, 0x0C, 1, .u16, .rw, .service, 0, 2⟩, ⟨0x5000, 1, 0x0D, 1, .u64, .rwp, .service, 2252903687915520, 8⟩,
    ⟨0x5000, 1, 0x0E, 1, .u16, .rwp, .service, 20, 2⟩, ⟨0x5000, 1, 0x0F, 1, .u64, .ro, .observer, 0, 8⟩,
    ⟨0x5000, 1, 0x10, 1, .u64, .ro, .observer, 0, 8⟩, ⟨0x5000, 1, 0x11, 1, .u64, .ro, .observer, 0, 8⟩,
    ⟨0x5000, 1, 0x12, 1, .u32, .ro, .observer, 0, 4⟩, ⟨0x5000, 1, 0x13, 1, .u32, .ro, .observer, 0, 4⟩,
    ⟨0x5000, 1, 0x14, 1, .u32, .ro, .observer, 0, 4⟩, ⟨0x5000, 1, 0x15, 1, .u32, .ro, .observer, 0, 4⟩,
    ⟨0x5000, 1, 0x16, 1, .u32, .ro, .observer, 0, 4⟩, ⟨0x5000, 1, 0x17, 1, .blob, .ro, .operator, 0, 16⟩,
    ⟨0x5000, 1, 0x18, 1, .u32, .ro, .observer, 0, 4⟩, ⟨0x5300, 1, 0x01, 1, .u16, .rw, .service, 0, 2⟩,
    ⟨0x5300, 1, 0x02, 1, .u64, .rw, .service, 0, 8⟩, ⟨0x5100, 16, 0x01, 1, .u8, .rw, .service, 1, 1⟩,
    ⟨0x5100, 16, 0x02, 1, .u8, .rw, .service, 0, 1⟩, ⟨0x5100, 16, 0x03, 1, .u8, .ro, .observer, 0, 1⟩,
    ⟨0x5100, 16, 0x04, 1, .u8, .rwp, .service, 0, 1⟩, ⟨0x5100, 16, 0x05, 1, .u16, .ro, .observer, 65535, 2⟩,
    ⟨0x5100, 16, 0x06, 1, .u8, .ro, .observer, 7, 1⟩, ⟨0x5100, 16, 0x07, 1, .u64, .ro, .observer, 0, 8⟩,
    ⟨0x5100, 16, 0x08, 1, .u64, .ro, .observer, 0, 8⟩, ⟨0x5100, 16, 0x09, 1, .u64, .ro, .observer, 0, 8⟩,
    ⟨0x5100, 16, 0x0A, 1, .u64, .ro, .observer, 0, 8⟩, ⟨0x5100, 16, 0x0B, 1, .blob, .ro, .observer, 0, 32⟩,
    ⟨0x5100, 16, 0x0C, 1, .blob, .ro, .observer, 0, 32⟩, ⟨0x5100, 16, 0x0D, 1, .u64, .ro, .observer, 0, 8⟩ ]

/-- Rows of the dictionary, part 5: from FEC_CORRECTED (R302) to ACT_OVER_EVENTS (R328). -/
def dictRows5 : List ObjRow :=
  [
    ⟨0x5100, 16, 0x0E, 1, .u64, .ro, .observer, 0, 8⟩, ⟨0x5100, 16, 0x0F, 1, .u64, .ro, .observer, 0, 8⟩,
    ⟨0x5100, 16, 0x10, 1, .u64, .ro, .observer, 0, 8⟩, ⟨0x5100, 16, 0x11, 1, .u32, .ro, .observer, 0, 4⟩,
    ⟨0x5100, 16, 0x12, 1, .u32, .ro, .observer, 0, 4⟩, ⟨0x5100, 16, 0x13, 1, .u32, .ro, .observer, 0, 4⟩,
    ⟨0x5100, 16, 0x14, 1, .u32, .w1c, .operator, 0, 4⟩, ⟨0x5400, 1, 0x01, 1, .u8, .ro, .observer, 128, 1⟩,
    ⟨0x5400, 1, 0x02, 1, .u64, .ro, .observer, 0, 8⟩, ⟨0x5400, 1, 0x03, 1, .u64, .ro, .observer, 0, 8⟩,
    ⟨0x5400, 1, 0x04, 1, .u32, .ro, .observer, 0, 4⟩, ⟨0x5400, 1, 0x05, 1, .u32, .ro, .observer, 0, 4⟩,
    ⟨0x5400, 1, 0x06, 1, .u64, .ro, .observer, 0, 8⟩, ⟨0x5400, 1, 0x07, 1, .u64, .ro, .observer, 0, 8⟩,
    ⟨0x5400, 1, 0x08, 1, .u32, .ro, .observer, 0, 4⟩, ⟨0x5400, 1, 0x09, 1, .u32, .ro, .observer, 0, 4⟩,
    ⟨0x5400, 1, 0x0A, 1, .u32, .ro, .observer, 0, 4⟩, ⟨0x5400, 1, 0x0B, 1, .u64, .ro, .observer, 0, 8⟩,
    ⟨0x5400, 1, 0x0C, 1, .u32, .ro, .observer, 0, 4⟩, ⟨0x5400, 1, 0x0D, 1, .u32, .ro, .observer, 0, 4⟩,
    ⟨0x5410, 128, 0x01, 1, .u8, .ro, .observer, 0, 1⟩, ⟨0x5410, 128, 0x02, 1, .u64, .wo, .job, 0, 8⟩,
    ⟨0x5410, 128, 0x03, 1, .u8, .wo, .job, 0, 1⟩, ⟨0x5410, 128, 0x04, 1, .u16, .ro, .observer, 65535, 2⟩,
    ⟨0x5410, 128, 0x05, 1, .u32, .ro, .observer, 0, 4⟩, ⟨0x5410, 128, 0x06, 1, .blob, .ro, .operator, 0, 32⟩,
    ⟨0x7300, 8, 0x01, 1, .u8, .wo, .job, 0, 1⟩, ⟨0x7300, 8, 0x02, 1, .u8, .ro, .observer, 0, 1⟩,
    ⟨0x7300, 8, 0x03, 1, .blob, .rw, .job, 0, 16⟩, ⟨0x7300, 8, 0x04, 1, .u32, .rw, .job, 0, 4⟩,
    ⟨0x7300, 8, 0x05, 1, .u32, .rw, .job, 0, 4⟩, ⟨0x7300, 8, 0x06, 1, .u32, .rw, .job, 0, 4⟩,
    ⟨0x7300, 8, 0x07, 1, .u32, .rw, .job, 0, 4⟩, ⟨0x7300, 8, 0x08, 1, .u16, .rw, .job, 0, 2⟩,
    ⟨0x7300, 8, 0x09, 1, .u16, .rw, .job, 0, 2⟩, ⟨0x7300, 8, 0x0A, 1, .u64, .rw, .job, 0, 8⟩,
    ⟨0x7300, 8, 0x0B, 1, .u64, .ro, .observer, 0, 8⟩, ⟨0x7300, 8, 0x0C, 1, .u64, .ro, .observer, 0, 8⟩,
    ⟨0x7300, 8, 0x0D, 1, .u32, .w1c, .job, 0, 4⟩, ⟨0x7300, 8, 0x0E, 1, .u32, .ro, .observer, 0, 4⟩ ]

/-- Rows of the dictionary, part 6: from IDLE_FENCED (R335) to CONSORT_OF (R362). -/
def dictRows6 : List ObjRow :=
  [
    ⟨0x8A00, 104, 0x01, 1, .u64, .ro, .observer, 0, 8⟩, ⟨0x8A00, 104, 0x02, 1, .u64, .ro, .observer, 0, 8⟩,
    ⟨0x8A00, 104, 0x03, 1, .u64, .ro, .observer, 0, 8⟩, ⟨0x8A00, 104, 0x04, 1, .u64, .ro, .observer, 0, 8⟩,
    ⟨0x8A00, 104, 0x05, 1, .u64, .ro, .observer, 0, 8⟩, ⟨0x8A00, 104, 0x06, 1, .u64, .ro, .observer, 0, 8⟩,
    ⟨0x8A00, 104, 0x07, 1, .u64, .ro, .observer, 0, 8⟩, ⟨0x8A00, 104, 0x08, 1, .u64, .ro, .observer, 0, 8⟩,
    ⟨0x8A00, 104, 0x09, 1, .u64, .ro, .observer, 0, 8⟩, ⟨0x7100, 1, 0x01, 1, .u8, .ro, .observer, 0, 1⟩,
    ⟨0x7100, 1, 0x02, 1, .u8, .wo, .job, 0, 1⟩, ⟨0x7100, 1, 0x03, 1, .u16, .rw, .service, 65535, 2⟩,
    ⟨0x7100, 1, 0x04, 1, .u64, .rw, .job, 0, 8⟩, ⟨0x7100, 1, 0x05, 1, .u64, .ro, .observer, 0, 8⟩,
    ⟨0x7100, 1, 0x06, 1, .u32, .ro, .observer, 0, 4⟩, ⟨0x7100, 1, 0x07, 1, .u16, .rw, .job, 0, 2⟩,
    ⟨0x7100, 1, 0x08, 1, .u64, .rw, .job, 1, 8⟩, ⟨0x7100, 1, 0x09, 1, .u16, .rw, .job, 0, 2⟩,
    ⟨0x7100, 1, 0x0A, 1, .u16, .rw, .job, 0, 2⟩, ⟨0x7100, 1, 0x0B, 1, .u64, .rw, .job, 0, 8⟩,
    ⟨0x7100, 1, 0x0C, 1, .u16, .rw, .job, 65535, 2⟩, ⟨0x7100, 1, 0x0D, 1, .u16, .rw, .job, 0, 2⟩,
    ⟨0x7100, 1, 0x0E, 1, .u16, .rw, .job, 0, 2⟩, ⟨0x7100, 1, 0x0F, 1, .u32, .rw, .job, 30000, 4⟩,
    ⟨0x7100, 1, 0x10, 1, .u32, .w1c, .job, 0, 4⟩, ⟨0x7100, 1, 0x11, 1, .u32, .ro, .observer, 0, 4⟩,
    ⟨0x7100, 1, 0x12, 1, .u64, .ro, .observer, 0, 8⟩, ⟨0x7100, 1, 0x13, 1, .u32, .ro, .observer, 0, 4⟩,
    ⟨0x7100, 1, 0x14, 1, .u32, .ro, .observer, 0, 4⟩, ⟨0x7100, 1, 0x15, 1, .u32, .ro, .observer, 0, 4⟩,
    ⟨0x7100, 1, 0x16, 1, .u32, .ro, .observer, 0, 4⟩, ⟨0x7100, 1, 0x17, 1, .blob, .ro, .operator, 0, 32⟩,
    ⟨0x7400, 1, 0x01, 1, .u8, .ro, .observer, 0, 1⟩, ⟨0x7400, 1, 0x02, 1, .u64, .ro, .observer, 0, 8⟩,
    ⟨0x7400, 1, 0x03, 1, .u64, .ro, .observer, 0, 8⟩, ⟨0x7400, 1, 0x04, 1, .u32, .ro, .observer, 0, 4⟩,
    ⟨0x7401, 1, 0x01, 64, .u64, .rw, .job, 0, 8⟩, ⟨0x7402, 1, 0x01, 64, .u32, .ro, .observer, 0, 4⟩,
    ⟨0x7500, 1, 0x01, 1, .u16, .rw, .job, 65535, 2⟩, ⟨0x7500, 1, 0x02, 1, .u16, .rw, .job, 65535, 2⟩ ]

/-- Rows of the dictionary, part 7: from SHARD_PARAMS (R362) to FIXES_COMMITTED (R385). -/
def dictRows7 : List ObjRow :=
  [
    ⟨0x7500, 1, 0x03, 1, .u64, .rw, .job, 0, 8⟩, ⟨0x7500, 1, 0x04, 1, .u64, .rw, .job, 0, 8⟩,
    ⟨0x7500, 1, 0x05, 1, .u64, .rw, .job, 0, 8⟩, ⟨0x7500, 1, 0x06, 1, .u64, .rw, .job, 0, 8⟩,
    ⟨0x7500, 1, 0x07, 1, .u64, .rw, .job, 0, 8⟩, ⟨0x7500, 1, 0x08, 1, .u64, .rw, .job, 0, 8⟩,
    ⟨0x7500, 1, 0x09, 1, .u64, .rw, .job, 0, 8⟩, ⟨0x7500, 1, 0x0A, 1, .u64, .rw, .job, 0, 8⟩,
    ⟨0x7500, 1, 0x0B, 1, .u8, .ro, .observer, 255, 1⟩, ⟨0x7500, 1, 0x0C, 1, .u64, .ro, .observer, 0, 8⟩,
    ⟨0x7500, 1, 0x0D, 1, .u8, .ro, .observer, 0, 1⟩, ⟨0x7500, 1, 0x0E, 1, .u32, .rw, .job, 10000, 4⟩,
    ⟨0x7500, 1, 0x0F, 1, .blob, .ro, .operator, 0, 32⟩, ⟨0x7500, 1, 0x10, 1, .u8, .ro, .observer, 0, 1⟩,
    ⟨0x7500, 1, 0x11, 1, .u32, .ro, .observer, 0, 4⟩, ⟨0x7600, 1, 0x01, 1, .u8, .wo, .service, 0, 1⟩,
    ⟨0x7600, 1, 0x02, 1, .u8, .ro, .observer, 0, 1⟩, ⟨0x7600, 1, 0x03, 1, .u16, .ro, .observer, 0, 2⟩,
    ⟨0x7600, 1, 0x04, 1, .u16, .wo, .job, 65535, 2⟩, ⟨0x7600, 1, 0x05, 1, .u32, .ro, .observer, 0, 4⟩,
    ⟨0x7600, 1, 0x06, 1, .blob, .ro, .operator, 0, 16⟩, ⟨0x6600, 1, 0x01, 1, .u8, .wo, .job, 0, 1⟩,
    ⟨0x6600, 1, 0x02, 1, .u8, .wo, .service, 0, 1⟩, ⟨0x6600, 1, 0x03, 1, .u8, .ro, .observer, 0, 1⟩,
    ⟨0x6600, 1, 0x04, 1, .u32, .rw, .job, 8, 4⟩, ⟨0x6600, 1, 0x05, 1, .blob, .rw, .job, 0, 32⟩,
    ⟨0x6600, 1, 0x06, 1, .u64, .rw, .job, 0, 8⟩, ⟨0x6600, 1, 0x07, 1, .u64, .rw, .job, 0, 8⟩,
    ⟨0x6600, 1, 0x08, 1, .u64, .rw, .job, 0, 8⟩, ⟨0x6600, 1, 0x09, 1, .u64, .rw, .job, 0, 8⟩,
    ⟨0x6600, 1, 0x0A, 1, .u64, .rw, .job, 0, 8⟩, ⟨0x6600, 1, 0x0B, 1, .u32, .rw, .job, 120000, 4⟩,
    ⟨0x6600, 1, 0x0C, 1, .u32, .rwp, .job, 0, 4⟩, ⟨0x6600, 1, 0x0D, 1, .u64, .ro, .observer, 0, 8⟩,
    ⟨0x6600, 1, 0x0E, 1, .u64, .rw, .service, 0, 8⟩, ⟨0x6600, 1, 0x0F, 1, .u64, .rw, .service, 0, 8⟩,
    ⟨0x6600, 1, 0x10, 1, .u8, .rw, .service, 0, 1⟩, ⟨0x6600, 1, 0x11, 1, .blob, .ro, .operator, 0, 16⟩,
    ⟨0x6600, 1, 0x12, 1, .blob, .ro, .operator, 0, 16⟩, ⟨0x6600, 1, 0x13, 1, .u32, .ro, .observer, 0, 4⟩ ]

/-- Rows of the dictionary, part 8: from FIXES_DISCARDED (R385) to PWR_LIMIT (R414). -/
def dictRows8 : List ObjRow :=
  [
    ⟨0x6600, 1, 0x14, 1, .u32, .ro, .observer, 0, 4⟩, ⟨0x6600, 1, 0x15, 1, .u64, .ro, .observer, 0, 8⟩,
    ⟨0x6600, 1, 0x16, 1, .u32, .ro, .observer, 0, 4⟩, ⟨0x6600, 1, 0x17, 1, .u32, .rw, .job, 0, 4⟩,
    ⟨0x6600, 1, 0x18, 1, .u32, .rwp, .job, 0, 4⟩, ⟨0x6610, 1, 0x01, 32, .blob, .rw, .job, 0, 32⟩,
    ⟨0x4000, 1, 0x01, 1, .u16, .ro, .observer, 0, 2⟩, ⟨0x4000, 1, 0x02, 1, .u8, .ro, .observer, 0, 1⟩,
    ⟨0x4000, 1, 0x03, 1, .u64, .rwp, .service, 3865516442000, 8⟩, ⟨0x4000, 1, 0x04, 1, .u64, .rwp, .service, 3865516442000, 8⟩,
    ⟨0x4000, 1, 0x05, 1, .u32, .w1c, .operator, 0, 4⟩, ⟨0x4000, 1, 0x06, 1, .u32, .ro, .observer, 0, 4⟩,
    ⟨0x4000, 1, 0x07, 1, .blob, .ro, .operator, 0, 32⟩, ⟨0x4000, 1, 0x08, 1, .u32, .rw, .service, 0, 4⟩,
    ⟨0x4000, 1, 0x09, 1, .time64, .ro, .observer, 0, 8⟩, ⟨0x4000, 1, 0x0A, 1, .u32, .rwp, .service, 600, 4⟩,
    ⟨0x4000, 1, 0x0B, 1, .u32, .rwp, .service, 100000, 4⟩, ⟨0x4000, 1, 0x0C, 1, .u16, .rwp, .service, 64, 2⟩,
    ⟨0x4000, 1, 0x0D, 1, .u8, .ro, .observer, 0, 1⟩, ⟨0x4200, 1, 0x01, 1, .bool, .rw, .job, 1, 1⟩,
    ⟨0x4200, 1, 0x02, 1, .u16, .wo, .job, 0, 2⟩, ⟨0x4200, 1, 0x03, 1, .blob, .ro, .observer, 0, 16⟩,
    ⟨0x4200, 1, 0x04, 1, .blob, .rwp, .service, 0, 16⟩, ⟨0x4200, 1, 0x05, 1, .blob, .ro, .observer, 1267650600228225179372052545535, 16⟩,
    ⟨0x4200, 1, 0x06, 1, .blob, .ro, .observer, 14263297245671843423377198272849821522830042646532050475447310243896098543842426777399416085332265896782465324199266527252738828690777720944927522773641967105118176616130823282305426510618942370914196396256594691880169334541394796545688493970675433343, 104⟩, ⟨0x4200, 1, 0x07, 1, .u8, .ro, .observer, 68, 1⟩,
    ⟨0x4210, 1, 0x01, 8, .u8, .ro, .observer, 0, 1⟩, ⟨0x4100, 104, 0x01, 1, .u16, .ro, .observer, 0, 2⟩,
    ⟨0x4100, 104, 0x02, 1, .u8, .ro, .observer, 0, 1⟩, ⟨0x4100, 104, 0x03, 1, .blob, .ro, .operator, 0, 16⟩,
    ⟨0x4100, 104, 0x04, 1, .i32, .ro, .observer, 0, 4⟩, ⟨0x4100, 104, 0x05, 1, .i32, .rwp, .service, 0, 4⟩,
    ⟨0x3000, 1, 0x01, 1, .u32, .ro, .observer, 0, 4⟩, ⟨0x3000, 1, 0x02, 1, .u32, .ro, .observer, 0, 4⟩,
    ⟨0x3000, 1, 0x03, 1, .u32, .ro, .observer, 0, 4⟩, ⟨0x3000, 1, 0x04, 1, .u32, .ro, .observer, 0, 4⟩,
    ⟨0x3000, 1, 0x05, 1, .u32, .ro, .observer, 0, 4⟩, ⟨0x3000, 1, 0x06, 1, .u32, .ro, .observer, 0, 4⟩,
    ⟨0x3000, 1, 0x07, 1, .u64, .ro, .observer, 0, 8⟩, ⟨0x3000, 1, 0x08, 1, .u16, .rwp, .service, 1800, 2⟩ ]

/-- Rows of the dictionary, part 9: from PWR_STATUS (R414) to VIOL_SELECT (R443). -/
def dictRows9 : List ObjRow :=
  [
    ⟨0x3000, 1, 0x09, 1, .u32, .w1c, .operator, 0, 4⟩, ⟨0x3000, 1, 0x0A, 1, .u32, .ro, .observer, 0, 4⟩,
    ⟨0x3000, 1, 0x0B, 1, .u8, .wo, .service, 0, 1⟩, ⟨0x3000, 1, 0x0C, 1, .u8, .ro, .observer, 0, 1⟩,
    ⟨0x3000, 1, 0x0D, 1, .u8, .rwp, .service, 4, 1⟩, ⟨0x3000, 1, 0x0E, 1, .u16, .wo, .operator, 0, 2⟩,
    ⟨0x3200, 1, 0x01, 24, .i32, .ro, .observer, 0, 4⟩, ⟨0x3300, 1, 0x01, 80, .u8, .ro, .observer, 0, 1⟩,
    ⟨0x3100, 2, 0x01, 1, .u8, .ro, .observer, 0, 1⟩, ⟨0x3100, 2, 0x02, 1, .u8, .rw, .operator, 0, 1⟩,
    ⟨0x3100, 2, 0x03, 1, .u32, .ro, .observer, 0, 4⟩, ⟨0x3100, 2, 0x04, 5, .u64, .ro, .observer, 0, 8⟩,
    ⟨0x3100, 2, 0x09, 1, .u32, .ro, .observer, 0, 4⟩, ⟨0x3100, 2, 0x0A, 1, .i32, .ro, .observer, 0, 4⟩,
    ⟨0x2000, 1, 0x01, 1, .u8, .ro, .observer, 3, 1⟩, ⟨0x2000, 1, 0x02, 1, .u32, .ro, .observer, 0, 4⟩,
    ⟨0x2000, 1, 0x03, 1, .u32, .w1c, .operator, 0, 4⟩, ⟨0x2000, 1, 0x04, 1, .u32, .ro, .observer, 0, 4⟩,
    ⟨0x2000, 1, 0x05, 1, .u32, .w1c, .operator, 0, 4⟩, ⟨0x2000, 1, 0x06, 1, .u8, .ro, .observer, 0, 1⟩,
    ⟨0x2000, 1, 0x07, 1, .u8, .ro, .observer, 0, 1⟩, ⟨0x2000, 1, 0x08, 1, .u16, .rwp, .service, 100, 2⟩,
    ⟨0x2000, 1, 0x09, 1, .bool, .rwp, .service, 1, 1⟩, ⟨0x2000, 1, 0x0A, 1, .u64, .ro, .observer, 0, 8⟩,
    ⟨0x2000, 1, 0x0B, 1, .u32, .ro, .observer, 0, 4⟩, ⟨0x2000, 1, 0x0C, 1, .u32, .ro, .observer, 0, 4⟩,
    ⟨0x2000, 1, 0x0D, 1, .u32, .ro, .observer, 0, 4⟩, ⟨0x2000, 1, 0x0E, 1, .u32, .ro, .observer, 0, 4⟩,
    ⟨0x2000, 1, 0x0F, 1, .u8, .ro, .observer, 0, 1⟩, ⟨0x2010, 1, 0x01, 1, .blob, .wo, .service, 0, 32⟩,
    ⟨0x2010, 1, 0x02, 1, .blob, .wo, .service, 0, 32⟩, ⟨0x2010, 1, 0x03, 1, .blob, .wo, .service, 0, 32⟩,
    ⟨0x2010, 1, 0x04, 1, .blob, .wo, .service, 0, 32⟩, ⟨0x2010, 1, 0x05, 1, .u32, .ro, .observer, 0, 4⟩,
    ⟨0x2020, 1, 0x01, 1, .u32, .ro, .observer, 0, 4⟩, ⟨0x2020, 1, 0x02, 1, .u32, .rw, .operator, 0, 4⟩,
    ⟨0x2020, 1, 0x03, 1, .blob, .ro, .operator, 0, 2048⟩, ⟨0x2020, 1, 0x04, 1, .u32, .ro, .observer, 0, 4⟩,
    ⟨0x2021, 1, 0x01, 1, .u32, .ro, .observer, 0, 4⟩, ⟨0x2021, 1, 0x02, 1, .u32, .rw, .operator, 0, 4⟩ ]

/-- Rows of the dictionary, part 10: from VIOL_BLOCK (R443) to HOST_CNP_RECEIVED (R472). -/
def dictRows10 : List ObjRow :=
  [
    ⟨0x2021, 1, 0x03, 1, .blob, .ro, .operator, 0, 2048⟩, ⟨0x2021, 1, 0x04, 1, .u32, .ro, .observer, 0, 4⟩,
    ⟨0x1000, 1, 0x01, 1, .str, .ro, .observer, 4050485633579765327, 16⟩, ⟨0x1000, 1, 0x02, 1, .u8, .ro, .observer, 0, 1⟩,
    ⟨0x1000, 1, 0x03, 1, .u32, .ro, .observer, 0, 4⟩, ⟨0x1000, 1, 0x04, 1, .str, .ro, .observer, 0, 16⟩,
    ⟨0x1000, 1, 0x05, 1, .u64, .ro, .observer, 0, 8⟩, ⟨0x1000, 1, 0x06, 1, .u8, .ro, .observer, 0, 1⟩,
    ⟨0x1000, 1, 0x07, 1, .u16, .ro, .observer, 65535, 2⟩, ⟨0x1000, 1, 0x08, 1, .blob, .ro, .observer, 0, 57⟩,
    ⟨0x1000, 1, 0x09, 1, .blob, .ro, .observer, 0, 32⟩, ⟨0x1000, 1, 0x0A, 1, .u16, .ro, .observer, 1, 2⟩,
    ⟨0x1000, 1, 0x0B, 1, .blob, .ro, .operator, 0, 192⟩, ⟨0x7000, 1, 0x01, 1, .u8, .ro, .observer, 0, 1⟩,
    ⟨0x7000, 1, 0x02, 1, .blob, .ro, .observer, 28638903918474961204418783933674838490721739172170652529441449702311064005352904159345284265824628375429359509218999720074396860757073376700445026041564579620512874307979212102266801261478978776245040008231745247475930553606737583615358787106474295295, 104⟩, ⟨0x7000, 1, 0x03, 1, .u16, .ro, .observer, 768, 2⟩,
    ⟨0x7020, 8, 0x01, 1, .bool, .rw, .service, 0, 1⟩, ⟨0x7020, 8, 0x02, 1, .u16, .rw, .service, 65535, 2⟩,
    ⟨0x7020, 8, 0x03, 1, .blob, .rw, .service, 0, 16⟩, ⟨0x7020, 8, 0x04, 1, .blob, .rw, .service, 0, 96⟩,
    ⟨0x7020, 8, 0x05, 1, .u8, .ro, .observer, 0, 1⟩, ⟨0x7020, 8, 0x06, 1, .u8, .wo, .service, 0, 1⟩,
    ⟨0xF000, 1, 0x01, 1, .u8, .wo, .service, 0, 1⟩, ⟨0xF000, 1, 0x02, 1, .bool, .ro, .observer, 0, 1⟩,
    ⟨0xF000, 1, 0x03, 1, .u64, .ro, .observer, 0, 8⟩, ⟨0xF000, 1, 0x04, 1, .u32, .ro, .observer, 0, 4⟩,
    ⟨0xA000, 1, 0x01, 1, .u8, .ro, .observer, 0, 1⟩, ⟨0xA000, 1, 0x02, 1, .u32, .ro, .observer, 0, 4⟩,
    ⟨0xA000, 1, 0x03, 1, .u64, .ro, .observer, 0, 8⟩, ⟨0xA000, 1, 0x04, 1, .u64, .ro, .observer, 0, 8⟩,
    ⟨0xA008, 4, 0x01, 1, .u8, .rw, .service, 0, 1⟩, ⟨0xA008, 4, 0x02, 1, .u8, .rw, .service, 1, 1⟩,
    ⟨0xA008, 4, 0x03, 1, .u8, .ro, .observer, 0, 1⟩, ⟨0xA008, 4, 0x04, 1, .blob, .rw, .service, 0, 16⟩,
    ⟨0xA008, 4, 0x05, 1, .u16, .rw, .service, 65535, 2⟩, ⟨0xA008, 4, 0x06, 1, .u8, .rw, .service, 255, 1⟩,
    ⟨0xA008, 4, 0x07, 1, .u64, .ro, .observer, 0, 8⟩, ⟨0xA008, 4, 0x08, 1, .u64, .ro, .observer, 0, 8⟩,
    ⟨0xA008, 4, 0x09, 1, .u64, .ro, .observer, 0, 8⟩, ⟨0xA008, 4, 0x0A, 1, .u32, .ro, .observer, 0, 4⟩ ]

/-- Rows of the dictionary, part 11: from QP_CTRL (R472) to BIST_RESULT (R486). -/
def dictRows11 : List ObjRow :=
  [
    ⟨0xA010, 240, 0x01, 1, .u8, .wo, .service, 0, 1⟩, ⟨0xA010, 240, 0x02, 1, .u8, .ro, .observer, 0, 1⟩,
    ⟨0xA010, 240, 0x03, 1, .u8, .rw, .service, 255, 1⟩, ⟨0xA010, 240, 0x04, 1, .u8, .rw, .service, 0, 1⟩,
    ⟨0xA010, 240, 0x05, 1, .u32, .ro, .observer, 256, 4⟩, ⟨0xA010, 240, 0x06, 1, .blob, .rw, .service, 0, 32⟩,
    ⟨0xA010, 240, 0x07, 1, .u32, .rw, .service, 0, 4⟩, ⟨0xA010, 240, 0x08, 1, .u8, .rw, .service, 0, 1⟩,
    ⟨0xA010, 240, 0x09, 1, .u64, .rw, .service, 0, 8⟩, ⟨0xA010, 240, 0x0A, 1, .blob, .ro, .operator, 0, 16⟩,
    ⟨0xA010, 240, 0x0B, 1, .u64, .ro, .observer, 0, 8⟩, ⟨0xA010, 240, 0x0C, 1, .u32, .ro, .observer, 0, 4⟩,
    ⟨0x1100, 1, 0x01, 1, .blob, .rw, .operator, 0, 32⟩, ⟨0x1100, 1, 0x02, 1, .u8, .wo, .operator, 0, 1⟩,
    ⟨0x1100, 1, 0x03, 1, .u8, .ro, .observer, 0, 1⟩, ⟨0x1100, 1, 0x04, 1, .blob, .ro, .observer, 0, 448⟩,
    ⟨0x1100, 1, 0x05, 1, .blob, .ro, .observer, 0, 192⟩, ⟨0x1100, 1, 0x06, 1, .u8, .ro, .observer, 0, 1⟩,
    ⟨0xF100, 1, 0x01, 1, .u8, .ro, .observer, 0, 1⟩, ⟨0xF100, 1, 0x02, 1, .u8, .wo, .service, 0, 1⟩,
    ⟨0xF100, 1, 0x03, 1, .u8, .ro, .observer, 0, 1⟩, ⟨0xF100, 1, 0x04, 1, .u32, .rw, .service, 0, 4⟩,
    ⟨0xF100, 1, 0x05, 1, .blob, .wo, .service, 0, 2048⟩, ⟨0xF100, 1, 0x06, 1, .blob, .ro, .observer, 0, 64⟩,
    ⟨0xF100, 1, 0x07, 1, .u32, .ro, .observer, 0, 4⟩, ⟨0xF100, 1, 0x08, 1, .u16, .ro, .observer, 0, 2⟩,
    ⟨0xF110, 1, 0x01, 1, .u16, .rw, .service, 0, 2⟩, ⟨0xF110, 1, 0x02, 1, .blob, .wo, .service, 0, 256⟩,
    ⟨0xF110, 1, 0x03, 1, .u8, .wo, .service, 0, 1⟩, ⟨0xF110, 1, 0x04, 1, .u32, .ro, .observer, 0, 4⟩,
    ⟨0xF120, 1, 0x01, 1, .u8, .wo, .service, 0, 1⟩, ⟨0xF120, 1, 0x02, 1, .blob, .rw, .service, 0, 16⟩,
    ⟨0xF120, 1, 0x03, 1, .u8, .rw, .service, 0, 1⟩, ⟨0xF120, 1, 0x04, 1, .u8, .ro, .observer, 0, 1⟩,
    ⟨0xF120, 1, 0x05, 1, .blob, .ro, .operator, 0, 16⟩ ]

/-- Every object of the manual (R448). -/
def dictRows : List ObjRow :=
  dictRows1 ++ dictRows2 ++ dictRows3 ++ dictRows4 ++ dictRows5 ++ dictRows6 ++ dictRows7 ++ dictRows8 ++ dictRows9 ++ dictRows10 ++ dictRows11

/-- The row of an object, if the dictionary holds one at the key. -/
def dictRow (key : Nat) : Option ObjRow :=
  let i := key / 256
  let s := key % 256
  dictRows.find? (fun r => decide (r.base ≤ i) && decide (i < r.base + r.n) && decide (r.sub ≤ s) && decide (s < r.sub + r.subs))

/-- The highest sub-index at an index, 0 where the dictionary holds no object there (R444). -/
def highestSub (i : Nat) : Nat :=
  dictRows.foldl (fun m r => if r.base ≤ i ∧ i < r.base + r.n then max m (r.sub + r.subs - 1) else m) 0

/-- A default that the tables show as a dash (R447) or that depends on the instance. CORE_STATE of a Reserve is OFF at reset
(R17, Table 5-11). The stepping is B1 and the firmware line 4.2 (R1, Table 18-3). -/
def specialDefault (key : Nat) : Option Nat :=
  let i := key / 256
  let s := key % 256
  if 0x8700 ≤ i ∧ i < 0x8768 ∧ s = 2 then
    let c := i - 0x8700
    if (48 ≤ c ∧ c ≤ 51) ∨ (100 ≤ c ∧ c ≤ 103) then some 0 else none
  else if i = 0x1000 ∧ s = 2 then some 0xB1
  else if i = 0x1000 ∧ s = 3 then some (0x04020000 + Config.identity 3 % 65536)
  else if i = 0x1000 ∧ s ∈ [4, 8, 0xB] then some (Config.identity s)
  else if i = 0x1000 ∧ s = 5 then some (Config.identity 5 % 2 ^ 48)
  else if 0xA008 ≤ i ∧ i < 0xA00C ∧ s = 7 then some (Config.identity 5 % 2 ^ 48 + 2 + (i - 0xA008))
  else if 0xA010 ≤ i ∧ i < 0xA100 ∧ s = 5 then some (0x100 + (i - 0xA010))
  else if i = 0xF100 ∧ s = 7 then some (0x04020000 + Config.identity 3 % 65536)
  else none

/-- What an object holds while nothing has written it: its default (R447, R448). -/
def dictDefault (key : Nat) : Nat :=
  match specialDefault key with
  | some v => v
  | none =>
    match dictRow key with
    | some r => r.dflt
    | none => 0

end Sys2Proof.Machine
end

