-- ==== Sys2Proof/Machine/Obj.lean ====
section
/-! DEFINITION. The keys of the dictionary's objects under their names in the manual: `Obj.NAME` or, where an object has
instances, `Obj.NAME n`. -/

namespace Sys2Proof.Machine.Obj

/-- R56, Table 2-11. -/
abbrev ARITH_FLAGS (n : Nat) : Nat := 0x840001 + 0x100 * n
/-- R56, Table 2-11. -/
abbrev INV_EVENTS (n : Nat) : Nat := 0x840002 + 0x100 * n
/-- R56, Table 2-11. -/
abbrev OVF_EVENTS (n : Nat) : Nat := 0x840003 + 0x100 * n
/-- R56, Table 2-11. -/
abbrev UFL_EVENTS (n : Nat) : Nat := 0x840004 + 0x100 * n
/-- R89, Table 3-9. -/
abbrev CHK_STATUS (n : Nat) : Nat := 0x850001 + 0x100 * n
/-- R89, Table 3-9. -/
abbrev CHK_PASS_EVENTS (n : Nat) : Nat := 0x850002 + 0x100 * n
/-- R89, Table 3-9. -/
abbrev CHK_MISMATCH_EVENTS (n : Nat) : Nat := 0x850003 + 0x100 * n
/-- R89, Table 3-9. -/
abbrev CHK_NONFINITE_EVENTS (n : Nat) : Nat := 0x850004 + 0x100 * n
/-- R89, Table 3-9. -/
abbrev CHK_CLIPPED_EVENTS (n : Nat) : Nat := 0x850005 + 0x100 * n
/-- R89, Table 3-9. -/
abbrev CHK_OFF_EVENTS (n : Nat) : Nat := 0x850006 + 0x100 * n
/-- R89, Table 3-9. -/
abbrev LAST_MISMATCH (n : Nat) : Nat := 0x850007 + 0x100 * n
/-- R89, Table 3-9. -/
abbrev STREAM_CYCLES (n : Nat) : Nat := 0x850008 + 0x100 * n
/-- R89, Table 3-9. -/
abbrev BUBBLE_CYCLES (n : Nat) : Nat := 0x850009 + 0x100 * n
/-- R89, Table 3-9. -/
abbrev DRAIN_STALL_CYCLES (n : Nat) : Nat := 0x85000A + 0x100 * n
/-- R89, Table 3-9. -/
abbrev WEIGHT_STALL_CYCLES (n : Nat) : Nat := 0x85000B + 0x100 * n
/-- R125, Table 4-10. -/
abbrev STEP_NF : Nat := 0x721001
/-- R125, Table 4-10. -/
abbrev SEAL_WP : Nat := 0x721002
/-- R125, Table 4-10. -/
abbrev SEAL_THRESH : Nat := 0x721003
/-- R125, Table 4-10. -/
abbrev NF_STEPS : Nat := 0x721004
/-- R125, Table 4-10. -/
abbrev SKIPPED_UPDATES : Nat := 0x721005
/-- R125, Table 4-10. -/
abbrev NF_FIRST : Nat := 0x721006
/-- R125, Table 4-11. -/
abbrev RNG_MODE (n : Nat) : Nat := 0x860001 + 0x100 * n
/-- R125, Table 4-11. -/
abbrev RNG_SEED (n : Nat) : Nat := 0x860002 + 0x100 * n
/-- R125, Table 4-11. -/
abbrev RNG_RANK (n : Nat) : Nat := 0x860003 + 0x100 * n
/-- R125, Table 4-11. -/
abbrev CHAINS_DONE (n : Nat) : Nat := 0x860004 + 0x100 * n
/-- R125, Table 4-11. -/
abbrev ELEM_CYCLES (n : Nat) : Nat := 0x860005 + 0x100 * n
/-- R125, Table 4-11. -/
abbrev PORT_WAIT_CYCLES (n : Nat) : Nat := 0x860006 + 0x100 * n
/-- R125, Table 4-11. -/
abbrev DEP_WAIT_CYCLES (n : Nat) : Nat := 0x860007 + 0x100 * n
/-- R125, Table 4-11. -/
abbrev GATE_WAIT_CYCLES (n : Nat) : Nat := 0x860008 + 0x100 * n
/-- R125, Table 4-11. -/
abbrev NF_REPORTS (n : Nat) : Nat := 0x860009 + 0x100 * n
/-- R164, Table 5-13. -/
abbrev CORE_MODE (n : Nat) : Nat := 0x870001 + 0x100 * n
/-- R164, Table 5-13. -/
abbrev CORE_STATE (n : Nat) : Nat := 0x870002 + 0x100 * n
/-- R164, Table 5-13. -/
abbrev CORE_CTRL (n : Nat) : Nat := 0x870003 + 0x100 * n
/-- R164, Table 5-13. -/
abbrev ENTRY_PC (n : Nat) : Nat := 0x870004 + 0x100 * n
/-- R164, Table 5-13. -/
abbrev LAUNCH_WP (n : Nat) : Nat := 0x870005 + 0x100 * n
/-- R164, Table 5-13. -/
abbrev LAUNCH_THRESH (n : Nat) : Nat := 0x870006 + 0x100 * n
/-- R164, Table 5-13. -/
abbrev LAUNCH_ARG (n : Nat) : Nat := 0x870007 + 0x100 * n
/-- R164, Table 5-13. -/
abbrev PROG_GEN (n : Nat) : Nat := 0x870008 + 0x100 * n
/-- R164, Table 5-13. -/
abbrev WDOG_LIMIT (n : Nat) : Nat := 0x870009 + 0x100 * n
/-- R164, Table 5-13. -/
abbrev RUN_LIMIT (n : Nat) : Nat := 0x87000A + 0x100 * n
/-- R164, Table 5-13. -/
abbrev FAULT_RECORD (n : Nat) : Nat := 0x87000B + 0x100 * n
/-- R164, Table 5-13. -/
abbrev BUNDLES_ISSUED (n : Nat) : Nat := 0x87000C + 0x100 * n
/-- R164, Table 5-13. -/
abbrev ISSUE_STALL_CYCLES (n : Nat) : Nat := 0x87000D + 0x100 * n
/-- R164, Table 5-13. -/
abbrev ZERO_TRIP_LOOPS (n : Nat) : Nat := 0x87000E + 0x100 * n
/-- R164, Table 5-13. -/
abbrev FETCH_MISSES (n : Nat) : Nat := 0x87000F + 0x100 * n
/-- R164, Table 5-13. -/
abbrev FETCH_FAULTS (n : Nat) : Nat := 0x870010 + 0x100 * n
/-- R164, Table 5-13. -/
abbrev ILLEGAL_PARKS (n : Nat) : Nat := 0x870011 + 0x100 * n
/-- R164, Table 5-13. -/
abbrev WATCHDOG_PARKS (n : Nat) : Nat := 0x870012 + 0x100 * n
/-- R164, Table 5-13. -/
abbrev REMOTE_ADD_ERRORS (n : Nat) : Nat := 0x870013 + 0x100 * n
/-- R184, Table 6-8. -/
abbrev LYR (n j : Nat) : Nat := 0x880001 + 0x100 * n + j
/-- R184, Table 6-8. -/
abbrev LYR_START (n : Nat) : Nat := 0x880041 + 0x100 * n
/-- R184, Table 6-8. -/
abbrev LAYERS_DONE (n : Nat) : Nat := 0x880042 + 0x100 * n
/-- R184, Table 6-8. -/
abbrev LAP (n : Nat) : Nat := 0x880043 + 0x100 * n
/-- R184, Table 6-8. -/
abbrev LAYER_FAULTS (n : Nat) : Nat := 0x880044 + 0x100 * n
/-- R184, Table 6-8. -/
abbrev EMB_OOB (n : Nat) : Nat := 0x880045 + 0x100 * n
/-- R184, Table 6-8. -/
abbrev CUR_RECORD (n : Nat) : Nat := 0x880046 + 0x100 * n
/-- R206, Table 7-6. -/
abbrev SP_ECC_CORRECTED (n : Nat) : Nat := 0x890001 + 0x100 * n
/-- R206, Table 7-6. -/
abbrev SP_ECC_UNCORRECTED (n : Nat) : Nat := 0x890002 + 0x100 * n
/-- R206, Table 7-6. -/
abbrev SP_SPARE_BANK (n : Nat) : Nat := 0x890003 + 0x100 * n
/-- R206, Table 7-6. -/
abbrev RD_PORT_WAIT_CYCLES (n : Nat) : Nat := 0x890004 + 0x100 * n
/-- R206, Table 7-6. -/
abbrev WR_PORT_WAIT_CYCLES (n : Nat) : Nat := 0x890005 + 0x100 * n
/-- R206, Table 7-6. -/
abbrev DMA0_DESCRIPTORS (n : Nat) : Nat := 0x890006 + 0x100 * n
/-- R206, Table 7-6. -/
abbrev DMA1_DESCRIPTORS (n : Nat) : Nat := 0x890007 + 0x100 * n
/-- R206, Table 7-6. -/
abbrev DMA_BYTES (n : Nat) : Nat := 0x890008 + 0x100 * n
/-- R206, Table 7-6. -/
abbrev DMA_ERRORS (n : Nat) : Nat := 0x890009 + 0x100 * n
/-- R206, Table 7-6. -/
abbrev DMA_OOB (n : Nat) : Nat := 0x89000A + 0x100 * n
/-- R206, Table 7-6. -/
abbrev DMA_LAST_ERROR (n : Nat) : Nat := 0x89000B + 0x100 * n
/-- R234, Table 8-5. -/
abbrev HBM_RATE : Nat := 0x600001
/-- R234, Table 8-5. -/
abbrev HBM_RATE_ACTIVE : Nat := 0x600002
/-- R234, Table 8-5. -/
abbrev ROW_CE_THRESH : Nat := 0x600003
/-- R234, Table 8-5. -/
abbrev LANE_CE_THRESH : Nat := 0x600004
/-- R234, Table 8-5. -/
abbrev SCRUB_PERIOD : Nat := 0x600005
/-- R234, Table 8-5. -/
abbrev LAST_UE : Nat := 0x600006
/-- R234, Table 8-5. -/
abbrev CBW_ACTIVE : Nat := 0x600007
/-- R234, Table 8-5. -/
abbrev CBW_MAP_BASE0 : Nat := 0x600008
/-- R234, Table 8-5. -/
abbrev CBW_MAP_BASE1 : Nat := 0x600009
/-- R234, Table 8-5. -/
abbrev CBW_STALLS : Nat := 0x60000A
/-- R234, Table 8-5. -/
abbrev CBW_STALL_MAX_NS : Nat := 0x60000B
/-- R234, Table 8-5. -/
abbrev SXT_CTRL : Nat := 0x650001
/-- R234, Table 8-5. -/
abbrev SXT_TARGET : Nat := 0x650002
/-- R234, Table 8-5. -/
abbrev SXT_AXIS : Nat := 0x650003
/-- R234, Table 8-5. -/
abbrev SXT_MODE : Nat := 0x650004
/-- R234, Table 8-5. -/
abbrev SXT_STATE : Nat := 0x650005
/-- R234, Table 8-5. -/
abbrev SXT_RESULT : Nat := 0x650006
/-- R234, Table 8-5. -/
abbrev SXT_MIN_UI : Nat := 0x650007
/-- R234, Table 8-6. -/
abbrev STACK_TEMP (n : Nat) : Nat := 0x610001 + 0x100 * n
/-- R234, Table 8-6. -/
abbrev STACK_STATE (n : Nat) : Nat := 0x610002 + 0x100 * n
/-- R234, Table 8-6. -/
abbrev REFRESH_X2 (n : Nat) : Nat := 0x610003 + 0x100 * n
/-- R234, Table 8-6. -/
abbrev STACK_HEALTH (n : Nat) : Nat := 0x610004 + 0x100 * n
/-- R234, Table 8-6. -/
abbrev CE_COUNT (n : Nat) : Nat := 0x610005 + 0x100 * n
/-- R234, Table 8-6. -/
abbrev UE_COUNT (n : Nat) : Nat := 0x610006 + 0x100 * n
/-- R234, Table 8-6. -/
abbrev LANES_REPAIRED (n : Nat) : Nat := 0x610007 + 0x100 * n
/-- R234, Table 8-6. -/
abbrev LANES_PENDING (n : Nat) : Nat := 0x610008 + 0x100 * n
/-- R234, Table 8-6. -/
abbrev REMAPS_USED (n : Nat) : Nat := 0x610009 + 0x100 * n
/-- R234, Table 8-6. -/
abbrev REMAP_EXHAUSTED (n : Nat) : Nat := 0x61000A + 0x100 * n
/-- R234, Table 8-6. -/
abbrev RFM_COUNT (n : Nat) : Nat := 0x61000B + 0x100 * n
/-- R234, Table 8-6. -/
abbrev MAX_BLOCK (n j : Nat) : Nat := 0x61000C + 0x100 * n + j
/-- R261, Table 9-7. -/
abbrev WP_COUNT : Nat := 0x900001
/-- R261, Table 9-7. -/
abbrev WP_SELECT : Nat := 0x900002
/-- R261, Table 9-7. -/
abbrev WP_ENTRY : Nat := 0x900003
/-- R261, Table 9-7. -/
abbrev WP_OPS : Nat := 0x900004
/-- R261, Table 9-7. -/
abbrev WP_OVF_EVENTS : Nat := 0x900005
/-- R261, Table 9-7. -/
abbrev WP_ERR_EVENTS : Nat := 0x900006
/-- R261, Table 9-7. -/
abbrev WP_ERR_PARKS : Nat := 0x900007
/-- R261, Table 9-7. -/
abbrev TIMED_PENDING : Nat := 0x900008
/-- R261, Table 9-7. -/
abbrev TIMED_FULL_WAITS : Nat := 0x900009
/-- R261, Table 9-7. -/
abbrev TIMED_DROPPED : Nat := 0x90000A
/-- R261, Table 9-7. -/
abbrev GROUP_SLICE (n : Nat) : Nat := 0x910001 + 0x100 * n
/-- R261, Table 9-7. -/
abbrev REACHED (n : Nat) : Nat := 0x910002 + 0x100 * n
/-- R261, Table 9-7. -/
abbrev ATTN (n : Nat) : Nat := 0x910003 + 0x100 * n
/-- R261, Table 9-7. -/
abbrev CHR_NOW : Nat := 0x920001
/-- R261, Table 9-7. -/
abbrev CHR_STATE : Nat := 0x920002
/-- R261, Table 9-7. -/
abbrev CHR_PARENT_PORT : Nat := 0x920003
/-- R261, Table 9-7. -/
abbrev CHR_ALT_PORT : Nat := 0x920004
/-- R261, Table 9-7. -/
abbrev CHR_SYNC_PERIOD : Nat := 0x920005
/-- R261, Table 9-7. -/
abbrev CHR_OFFSET_NS : Nat := 0x920006
/-- R261, Table 9-7. -/
abbrev CHR_ERR_BOUND_NS : Nat := 0x920007
/-- R261, Table 9-7. -/
abbrev CHR_SET : Nat := 0x920008
/-- R261, Table 9-7. -/
abbrev CHR_STEPS : Nat := 0x920009
/-- R261, Table 9-7. -/
abbrev CHR_LOCK_LOSSES : Nat := 0x92000A
/-- R261, Table 9-7. -/
abbrev CHR_PORT_CAL (j : Nat) : Nat := 0x921001 + j
/-- R302, Table 10-9. -/
abbrev CHART_ACTIVE : Nat := 0x500001
/-- R302, Table 10-9. -/
abbrev CHART0_STATE : Nat := 0x500002
/-- R302, Table 10-9. -/
abbrev CHART1_STATE : Nat := 0x500003
/-- R302, Table 10-9. -/
abbrev CHART_CTRL : Nat := 0x500004
/-- R302, Table 10-9. -/
abbrev CHART_SEL : Nat := 0x500005
/-- R302, Table 10-9. -/
abbrev CHART_SELF : Nat := 0x500006
/-- R302, Table 10-9. -/
abbrev CHART_LOAD : Nat := 0x500007
/-- R302, Table 10-9. -/
abbrev CHART_SWITCH_AT : Nat := 0x500008
/-- R302, Table 10-9. -/
abbrev CHART_READ_DEV : Nat := 0x500009
/-- R302, Table 10-9. -/
abbrev CHART_READ : Nat := 0x50000A
/-- R302, Table 10-9. -/
abbrev CHART_DIGEST : Nat := 0x50000B
/-- R302, Table 10-9. -/
abbrev FENCE_VEC : Nat := 0x50000C
/-- R302, Table 10-9. -/
abbrev CLASS_WEIGHTS : Nat := 0x50000D
/-- R302, Table 10-9. -/
abbrev E2E_RTO : Nat := 0x50000E
/-- R302, Table 10-9. -/
abbrev E2E_RETRANSMITS : Nat := 0x50000F
/-- R302, Table 10-9. -/
abbrev E2E_DUPLICATES : Nat := 0x500010
/-- R302, Table 10-9. -/
abbrev E2E_GAP_DROPS : Nat := 0x500011
/-- R302, Table 10-9. -/
abbrev E2E_CRC_ERRORS : Nat := 0x500012
/-- R302, Table 10-9. -/
abbrev HOP_DROPS : Nat := 0x500013
/-- R302, Table 10-9. -/
abbrev STALE_DROPS : Nat := 0x500014
/-- R302, Table 10-9. -/
abbrev SLICE_VIOLATIONS : Nat := 0x500015
/-- R302, Table 10-9. -/
abbrev PATH_LOST_EVENTS : Nat := 0x500016
/-- R302, Table 10-9. -/
abbrev LAST_PATH_LOST : Nat := 0x500017
/-- R302, Table 10-9. -/
abbrev PARTIAL_NOTICES : Nat := 0x500018
/-- R302, Table 10-9. -/
abbrev FAN_SEL : Nat := 0x530001
/-- R302, Table 10-9. -/
abbrev FAN_ENTRY : Nat := 0x530002
/-- R302, Table 10-10. -/
abbrev PORT_CTRL (n : Nat) : Nat := 0x510001 + 0x100 * n
/-- R302, Table 10-10. -/
abbrev PORT_CTRL_LANE (n : Nat) : Nat := 0x510002 + 0x100 * n
/-- R302, Table 10-10. -/
abbrev PORT_STATE (n : Nat) : Nat := 0x510003 + 0x100 * n
/-- R302, Table 10-10. -/
abbrev PORT_PHY (n : Nat) : Nat := 0x510004 + 0x100 * n
/-- R302, Table 10-10. -/
abbrev NEIGHBOR_DEV (n : Nat) : Nat := 0x510005 + 0x100 * n
/-- R302, Table 10-10. -/
abbrev LANE_MAP (n : Nat) : Nat := 0x510006 + 0x100 * n
/-- R302, Table 10-10. -/
abbrev TX_FRAMES (n : Nat) : Nat := 0x510007 + 0x100 * n
/-- R302, Table 10-10. -/
abbrev RX_FRAMES (n : Nat) : Nat := 0x510008 + 0x100 * n
/-- R302, Table 10-10. -/
abbrev TX_BYTES (n : Nat) : Nat := 0x510009 + 0x100 * n
/-- R302, Table 10-10. -/
abbrev RX_BYTES (n : Nat) : Nat := 0x51000A + 0x100 * n
/-- R302, Table 10-10. -/
abbrev QUEUE_DEPTH (n : Nat) : Nat := 0x51000B + 0x100 * n
/-- R302, Table 10-10. -/
abbrev QUEUE_MAX (n : Nat) : Nat := 0x51000C + 0x100 * n
/-- R302, Table 10-10. -/
abbrev STALL_CYCLES (n : Nat) : Nat := 0x51000D + 0x100 * n
/-- R302, Table 10-10. -/
abbrev FEC_CORRECTED (n : Nat) : Nat := 0x51000E + 0x100 * n
/-- R302, Table 10-10. -/
abbrev FEC_UNCORRECTED (n : Nat) : Nat := 0x51000F + 0x100 * n
/-- R302, Table 10-10. -/
abbrev LINK_RETRIES (n : Nat) : Nat := 0x510010 + 0x100 * n
/-- R302, Table 10-10. -/
abbrev LINK_DOWN_EVENTS (n : Nat) : Nat := 0x510011 + 0x100 * n
/-- R302, Table 10-10. -/
abbrev RETRAINS (n : Nat) : Nat := 0x510012 + 0x100 * n
/-- R302, Table 10-10. -/
abbrev FENCE_SKIPS (n : Nat) : Nat := 0x510013 + 0x100 * n
/-- R302, Table 10-10. -/
abbrev PORT_HEALTH (n : Nat) : Nat := 0x510014 + 0x100 * n
/-- R325, Table 11-6. -/
abbrev CTX_FREE : Nat := 0x540001
/-- R325, Table 11-6. -/
abbrev COLL_RUNS : Nat := 0x540002
/-- R325, Table 11-6. -/
abbrev RED_ELEMENTS : Nat := 0x540003
/-- R325, Table 11-6. -/
abbrev LATE_DECLARED : Nat := 0x540004
/-- R325, Table 11-6. -/
abbrev LATE_RECEIVED : Nat := 0x540005
/-- R325, Table 11-6. -/
abbrev FOLDED_ELEMENTS : Nat := 0x540006
/-- R325, Table 11-6. -/
abbrev DROPPED_ELEMENTS : Nat := 0x540007
/-- R325, Table 11-6. -/
abbrev STALE_LATE : Nat := 0x540008
/-- R325, Table 11-6. -/
abbrev REFUSED_FRAMES : Nat := 0x540009
/-- R325, Table 11-6. -/
abbrev ABSENT_MEMBERS : Nat := 0x54000A
/-- R325, Table 11-6. -/
abbrev ABSENT_DISCARDS : Nat := 0x54000B
/-- R325, Table 11-6. -/
abbrev MISSING_CHUNKS : Nat := 0x54000C
/-- R325, Table 11-6. -/
abbrev BAD_INDEX : Nat := 0x54000D
/-- R325, Table 11-7. -/
abbrev CTX_STATE (n : Nat) : Nat := 0x541001 + 0x100 * n
/-- R325, Table 11-7. -/
abbrev CTX_ARM (n : Nat) : Nat := 0x541002 + 0x100 * n
/-- R325, Table 11-7. -/
abbrev CTX_CTRL (n : Nat) : Nat := 0x541003 + 0x100 * n
/-- R325, Table 11-7. -/
abbrev CTX_SLICE (n : Nat) : Nat := 0x541004 + 0x100 * n
/-- R325, Table 11-7. -/
abbrev CTX_INSTANCE (n : Nat) : Nat := 0x541005 + 0x100 * n
/-- R325, Table 11-7. -/
abbrev CTX_LAST (n : Nat) : Nat := 0x541006 + 0x100 * n
/-- R328, Table 12-1. -/
abbrev STG_CTRL (n : Nat) : Nat := 0x730001 + 0x100 * n
/-- R328, Table 12-1. -/
abbrev STG_STATE (n : Nat) : Nat := 0x730002 + 0x100 * n
/-- R328, Table 12-1. -/
abbrev STG_CORES (n : Nat) : Nat := 0x730003 + 0x100 * n
/-- R328, Table 12-1. -/
abbrev STG_POS (n : Nat) : Nat := 0x730004 + 0x100 * n
/-- R328, Table 12-1. -/
abbrev IN_WP (n : Nat) : Nat := 0x730005 + 0x100 * n
/-- R328, Table 12-1. -/
abbrev GRAD_WP (n : Nat) : Nat := 0x730006 + 0x100 * n
/-- R328, Table 12-1. -/
abbrev COLL_WP (n : Nat) : Nat := 0x730007 + 0x100 * n
/-- R328, Table 12-1. -/
abbrev CHARGE_WP (n : Nat) : Nat := 0x730008 + 0x100 * n
/-- R328, Table 12-1. -/
abbrev FREE_WP (n : Nat) : Nat := 0x730009 + 0x100 * n
/-- R328, Table 12-1. -/
abbrev ACT_LIMIT (n : Nat) : Nat := 0x73000A + 0x100 * n
/-- R328, Table 12-1. -/
abbrev ACT_USED (n : Nat) : Nat := 0x73000B + 0x100 * n
/-- R328, Table 12-1. -/
abbrev ACT_HIGH (n : Nat) : Nat := 0x73000C + 0x100 * n
/-- R328, Table 12-1. -/
abbrev ACT_STATUS (n : Nat) : Nat := 0x73000D + 0x100 * n
/-- R328, Table 12-1. -/
abbrev ACT_OVER_EVENTS (n : Nat) : Nat := 0x73000E + 0x100 * n
/-- R335, Table 12-2. -/
abbrev IDLE_FENCED (n : Nat) : Nat := 0x8A0001 + 0x100 * n
/-- R335, Table 12-2. -/
abbrev IDLE_REPLAY (n : Nat) : Nat := 0x8A0002 + 0x100 * n
/-- R335, Table 12-2. -/
abbrev IDLE_WAIT_INPUT (n : Nat) : Nat := 0x8A0003 + 0x100 * n
/-- R335, Table 12-2. -/
abbrev IDLE_WAIT_GRAD (n : Nat) : Nat := 0x8A0004 + 0x100 * n
/-- R335, Table 12-2. -/
abbrev IDLE_WAIT_COLL (n : Nat) : Nat := 0x8A0005 + 0x100 * n
/-- R335, Table 12-2. -/
abbrev IDLE_WAIT_MEM (n : Nat) : Nat := 0x8A0006 + 0x100 * n
/-- R335, Table 12-2. -/
abbrev IDLE_WAIT_WP (n : Nat) : Nat := 0x8A0007 + 0x100 * n
/-- R335, Table 12-2. -/
abbrev IDLE_THROTTLED (n : Nat) : Nat := 0x8A0008 + 0x100 * n
/-- R335, Table 12-2. -/
abbrev BUSY_NS (n : Nat) : Nat := 0x8A0009 + 0x100 * n
/-- R362, Table 13-5. -/
abbrev STEP_STATE : Nat := 0x710001
/-- R362, Table 13-5. -/
abbrev STEP_CTRL : Nat := 0x710002
/-- R362, Table 13-5. -/
abbrev STEP_SLICE : Nat := 0x710003
/-- R362, Table 13-5. -/
abbrev STEP_FIRST : Nat := 0x710004
/-- R362, Table 13-5. -/
abbrev STEP_NUM : Nat := 0x710005
/-- R362, Table 13-5. -/
abbrev STEP_ATTEMPT : Nat := 0x710006
/-- R362, Table 13-5. -/
abbrev END_WP : Nat := 0x710007
/-- R362, Table 13-5. -/
abbrev END_THRESH : Nat := 0x710008
/-- R362, Table 13-5. -/
abbrev DECIDE_WP : Nat := 0x710009
/-- R362, Table 13-5. -/
abbrev READY_WP : Nat := 0x71000A
/-- R362, Table 13-5. -/
abbrev READY_THRESH : Nat := 0x71000B
/-- R362, Table 13-5. -/
abbrev COMMIT_ROOT : Nat := 0x71000C
/-- R362, Table 13-5. -/
abbrev COMMIT_FAN : Nat := 0x71000D
/-- R362, Table 13-5. -/
abbrev MEMBERS : Nat := 0x71000E
/-- R362, Table 13-5. -/
abbrev CHECK_TIMEOUT : Nat := 0x71000F
/-- R362, Table 13-5. -/
abbrev STEP_STATUS : Nat := 0x710010
/-- R362, Table 13-5. -/
abbrev STEP_MISMATCHES : Nat := 0x710011
/-- R362, Table 13-5. -/
abbrev STEPS_COMMITTED : Nat := 0x710012
/-- R362, Table 13-5. -/
abbrev STEPS_ABORTED : Nat := 0x710013
/-- R362, Table 13-5. -/
abbrev ROLLBACKS : Nat := 0x710014
/-- R362, Table 13-5. -/
abbrev STALE_FRAMES : Nat := 0x710015
/-- R362, Table 13-5. -/
abbrev STATUS_EVENTS : Nat := 0x710016
/-- R362, Table 13-5. -/
abbrev LAST_DECISION : Nat := 0x710017
/-- R362, Table 13-8. -/
abbrev WAKE_STATE : Nat := 0x740001
/-- R362, Table 13-8. -/
abbrev WAKE_BYTES : Nat := 0x740002
/-- R362, Table 13-8. -/
abbrev WAKE_DISCARDS : Nat := 0x740003
/-- R362, Table 13-8. -/
abbrev WAKE_REFUSALS : Nat := 0x740004
/-- R362, Table 13-8. -/
abbrev WAKE_ENTRY (j : Nat) : Nat := 0x740101 + j
/-- R362, Table 13-8. -/
abbrev WAKE_LOG (j : Nat) : Nat := 0x740201 + j
/-- R362, Table 13-8. -/
abbrev CONSORT_PARTNER : Nat := 0x750001
/-- R362, Table 13-8. -/
abbrev CONSORT_OF : Nat := 0x750002
/-- R362, Table 13-8. -/
abbrev SHARD_PARAMS : Nat := 0x750003
/-- R362, Table 13-8. -/
abbrev SHARD_MASTER : Nat := 0x750004
/-- R362, Table 13-8. -/
abbrev SHARD_M1 : Nat := 0x750005
/-- R362, Table 13-8. -/
abbrev SHARD_M2 : Nat := 0x750006
/-- R362, Table 13-8. -/
abbrev SHARD_WEIGHTS : Nat := 0x750007
/-- R362, Table 13-8. -/
abbrev MIRROR_SLOT0 : Nat := 0x750008
/-- R362, Table 13-8. -/
abbrev MIRROR_SLOT1 : Nat := 0x750009
/-- R362, Table 13-8. -/
abbrev MIRROR_PARAMS : Nat := 0x75000A
/-- R362, Table 13-8. -/
abbrev MIRROR_ACTIVE : Nat := 0x75000B
/-- R362, Table 13-8. -/
abbrev MIRROR_STEP : Nat := 0x75000C
/-- R362, Table 13-8. -/
abbrev CONSORT_STATE : Nat := 0x75000D
/-- R362, Table 13-8. -/
abbrev CONSORT_TIMEOUT : Nat := 0x75000E
/-- R362, Table 13-8. -/
abbrev CONSORT_LAST : Nat := 0x75000F
/-- R362, Table 13-8. -/
abbrev RESTORE_STATE : Nat := 0x750010
/-- R362, Table 13-8. -/
abbrev RESTORES : Nat := 0x750011
/-- R362, Table 13-9. -/
abbrev FENCE_CTRL : Nat := 0x760001
/-- R362, Table 13-9. -/
abbrev FENCE_STATE : Nat := 0x760002
/-- R362, Table 13-9. -/
abbrev FENCE_CAUSE : Nat := 0x760003
/-- R362, Table 13-9. -/
abbrev FENCE_REQ_DEV : Nat := 0x760004
/-- R362, Table 13-9. -/
abbrev FENCE_EVENTS : Nat := 0x760005
/-- R362, Table 13-9. -/
abbrev FENCE_LAST : Nat := 0x760006
/-- R385, Table 14-9. -/
abbrev FIX_CTRL : Nat := 0x660001
/-- R385, Table 14-9. -/
abbrev FIX_SVC : Nat := 0x660002
/-- R385, Table 14-9. -/
abbrev FIX_STATE : Nat := 0x660003
/-- R385, Table 14-9. -/
abbrev FIX_CFG : Nat := 0x660004
/-- R385, Table 14-9. -/
abbrev FIX_GROUP : Nat := 0x660005
/-- R385, Table 14-9. -/
abbrev FIX_STORE_BASE : Nat := 0x660006
/-- R385, Table 14-9. -/
abbrev FIX_STORE_LEN : Nat := 0x660007
/-- R385, Table 14-9. -/
abbrev FIX_STAGE_BASE0 : Nat := 0x660008
/-- R385, Table 14-9. -/
abbrev FIX_STAGE_BASE1 : Nat := 0x660009
/-- R385, Table 14-9. -/
abbrev FIX_STAGE_LEN : Nat := 0x66000A
/-- R385, Table 14-9. -/
abbrev FIX_TIMEOUT : Nat := 0x66000B
/-- R385, Table 14-9. -/
abbrev FIX_LAST_ID : Nat := 0x66000C
/-- R385, Table 14-9. -/
abbrev FIX_STEP : Nat := 0x66000D
/-- R385, Table 14-9. -/
abbrev FIX_DRAINED_SLOTS : Nat := 0x66000E
/-- R385, Table 14-9. -/
abbrev FIX_APPLY_ADDR : Nat := 0x66000F
/-- R385, Table 14-9. -/
abbrev FIX_REBUILD_POS : Nat := 0x660010
/-- R385, Table 14-9. -/
abbrev FIX_LAST_DECISION : Nat := 0x660011
/-- R385, Table 14-9. -/
abbrev FIX_LAST_DISCARD : Nat := 0x660012
/-- R385, Table 14-9. -/
abbrev FIXES_COMMITTED : Nat := 0x660013
/-- R385, Table 14-9. -/
abbrev FIXES_DISCARDED : Nat := 0x660014
/-- R385, Table 14-9. -/
abbrev FIX_STREAM_BYTES : Nat := 0x660015
/-- R385, Table 14-9. -/
abbrev FIX_STALE : Nat := 0x660016
/-- R385, Table 14-9. -/
abbrev FIX_ARM_ID : Nat := 0x660017
/-- R385, Table 14-9. -/
abbrev FIX_BASE_ID : Nat := 0x660018
/-- R385, Table 14-9. -/
abbrev FIX_REGION (j : Nat) : Nat := 0x661001 + j
/-- R400, Table 15-6. -/
abbrev DRIFT_MODULE : Nat := 0x400001
/-- R400, Table 15-6. -/
abbrev DRIFT_STATE : Nat := 0x400002
/-- R400, Table 15-6. -/
abbrev DRIFT_THRESH : Nat := 0x400003
/-- R400, Table 15-6. -/
abbrev CORE_DRIFT_THRESH : Nat := 0x400004
/-- R400, Table 15-6. -/
abbrev MODULE_HEALTH : Nat := 0x400005
/-- R400, Table 15-6. -/
abbrev HEALTH_EVENTS : Nat := 0x400006
/-- R400, Table 15-6. -/
abbrev DRIFT_TERMS : Nat := 0x400007
/-- R400, Table 15-6. -/
abbrev SPARE_PRESSURE : Nat := 0x400008
/-- R400, Table 15-6. -/
abbrev SPARE_PRESSURE_AT : Nat := 0x400009
/-- R400, Table 15-6. -/
abbrev SPARE_PRESSURE_TTL : Nat := 0x40000A
/-- R400, Table 15-6. -/
abbrev LANE_SWAP_THRESH : Nat := 0x40000B
/-- R400, Table 15-6. -/
abbrev SP_BANK_CE_THRESH : Nat := 0x40000C
/-- R400, Table 15-6. -/
abbrev PHASE_SHED : Nat := 0x40000D
/-- R400, Table 15-6. -/
abbrev RSV_AUTO : Nat := 0x420001
/-- R400, Table 15-6. -/
abbrev RSV_SWAP : Nat := 0x420002
/-- R400, Table 15-6. -/
abbrev RSV_PENDING : Nat := 0x420003
/-- R400, Table 15-6. -/
abbrev RETIRED_MAP : Nat := 0x420004
/-- R400, Table 15-6. -/
abbrev ACTIVE_MAP : Nat := 0x420005
/-- R400, Table 15-6. -/
abbrev CORE_ALIAS : Nat := 0x420006
/-- R400, Table 15-6. -/
abbrev RESERVES_FREE : Nat := 0x420007
/-- R400, Table 15-6. -/
abbrev RSV_STATE (j : Nat) : Nat := 0x421001 + j
/-- R400, Table 15-7. -/
abbrev DRIFT_CORE (n : Nat) : Nat := 0x410001 + 0x100 * n
/-- R400, Table 15-7. -/
abbrev CORE_DRIFT_STATE (n : Nat) : Nat := 0x410002 + 0x100 * n
/-- R400, Table 15-7. -/
abbrev CORE_TERMS (n : Nat) : Nat := 0x410003 + 0x100 * n
/-- R400, Table 15-7. -/
abbrev CANARY_PS (n : Nat) : Nat := 0x410004 + 0x100 * n
/-- R400, Table 15-7. -/
abbrev CANARY_BASE_PS (n : Nat) : Nat := 0x410005 + 0x100 * n
/-- R414, Table 16-6. -/
abbrev V_IN : Nat := 0x300001
/-- R414, Table 16-6. -/
abbrev I_IN : Nat := 0x300002
/-- R414, Table 16-6. -/
abbrev P_IN : Nat := 0x300003
/-- R414, Table 16-6. -/
abbrev P_IN_10MS : Nat := 0x300004
/-- R414, Table 16-6. -/
abbrev P_IN_1S : Nat := 0x300005
/-- R414, Table 16-6. -/
abbrev P_IN_MAX : Nat := 0x300006
/-- R414, Table 16-6. -/
abbrev ENERGY : Nat := 0x300007
/-- R414, Table 16-6. -/
abbrev PWR_LIMIT : Nat := 0x300008
/-- R414, Table 16-6. -/
abbrev PWR_STATUS : Nat := 0x300009
/-- R414, Table 16-6. -/
abbrev PWR_EVENTS : Nat := 0x30000A
/-- R414, Table 16-6. -/
abbrev POWER_CTRL : Nat := 0x30000B
/-- R414, Table 16-6. -/
abbrev EPO_STATE : Nat := 0x30000C
/-- R414, Table 16-6. -/
abbrev THR_PIN_STEP : Nat := 0x30000D
/-- R414, Table 16-6. -/
abbrev PD_CTRL : Nat := 0x30000E
/-- R414, Table 16-6. -/
abbrev SITE_TEMP (j : Nat) : Nat := 0x320001 + j
/-- R414, Table 16-6. -/
abbrev PD_STATE (j : Nat) : Nat := 0x330001 + j
/-- R414, Table 16-7. -/
abbrev CLK_STEP (n : Nat) : Nat := 0x310001 + 0x100 * n
/-- R414, Table 16-7. -/
abbrev CLK_CAP (n : Nat) : Nat := 0x310002 + 0x100 * n
/-- R414, Table 16-7. -/
abbrev THR_CAUSE (n : Nat) : Nat := 0x310003 + 0x100 * n
/-- R414, Table 16-7. -/
abbrev STEP_NS (n j : Nat) : Nat := 0x310004 + 0x100 * n + j
/-- R414, Table 16-7. -/
abbrev STEP_CHANGES (n : Nat) : Nat := 0x310009 + 0x100 * n
/-- R414, Table 16-7. -/
abbrev DIE_TEMP_MAX (n : Nat) : Nat := 0x31000A + 0x100 * n
/-- R443, Table 17-9. -/
abbrev HMU_STATUS : Nat := 0x200001
/-- R443, Table 17-9. -/
abbrev HMU_RESETS : Nat := 0x200002
/-- R443, Table 17-9. -/
abbrev MGMT_STATUS : Nat := 0x200003
/-- R443, Table 17-9. -/
abbrev MGMT_EVENTS : Nat := 0x200004
/-- R443, Table 17-9. -/
abbrev ALERT_SUMMARY : Nat := 0x200005
/-- R443, Table 17-9. -/
abbrev SEG_STATE : Nat := 0x200006
/-- R443, Table 17-9. -/
abbrev PLCA_NODE_ID : Nat := 0x200007
/-- R443, Table 17-9. -/
abbrev BEACON_PERIOD : Nat := 0x200008
/-- R443, Table 17-9. -/
abbrev OBS_OPEN : Nat := 0x200009
/-- R443, Table 17-9. -/
abbrev HDP_REQUESTS : Nat := 0x20000A
/-- R443, Table 17-9. -/
abbrev HDP_AUTH_FAILS : Nat := 0x20000B
/-- R443, Table 17-9. -/
abbrev HDP_BUSY : Nat := 0x20000C
/-- R443, Table 17-9. -/
abbrev HDP_DUPS : Nat := 0x20000D
/-- R443, Table 17-9. -/
abbrev HDP_MALFORMED : Nat := 0x20000E
/-- R443, Table 17-9. -/
abbrev SUB_ACTIVE : Nat := 0x20000F
/-- R443, Table 17-9. -/
abbrev KEY_OBSERVER : Nat := 0x201001
/-- R443, Table 17-9. -/
abbrev KEY_OPERATOR : Nat := 0x201002
/-- R443, Table 17-9. -/
abbrev KEY_JOB : Nat := 0x201003
/-- R443, Table 17-9. -/
abbrev KEY_SERVICE : Nat := 0x201004
/-- R443, Table 17-9. -/
abbrev KEY_CHANGES : Nat := 0x201005
/-- R443, Table 17-9. -/
abbrev LOG_HEAD : Nat := 0x202001
/-- R443, Table 17-9. -/
abbrev LOG_SELECT : Nat := 0x202002
/-- R443, Table 17-9. -/
abbrev LOG_BLOCK : Nat := 0x202003
/-- R443, Table 17-9. -/
abbrev LOG_WRAPS : Nat := 0x202004
/-- R443, Table 17-9. -/
abbrev VIOL_HEAD : Nat := 0x202101
/-- R443, Table 17-9. -/
abbrev VIOL_SELECT : Nat := 0x202102
/-- R443, Table 17-9. -/
abbrev VIOL_BLOCK : Nat := 0x202103
/-- R443, Table 17-9. -/
abbrev VIOL_WRAPS : Nat := 0x202104
/-- R449, Table 18-3. -/
abbrev PART_NUMBER : Nat := 0x100001
/-- R449, Table 18-3. -/
abbrev STEPPING : Nat := 0x100002
/-- R449, Table 18-3. -/
abbrev FW_RELEASE : Nat := 0x100003
/-- R449, Table 18-3. -/
abbrev SERIAL : Nat := 0x100004
/-- R449, Table 18-3. -/
abbrev MAC_BASE : Nat := 0x100005
/-- R449, Table 18-3. -/
abbrev SLOT : Nat := 0x100006
/-- R449, Table 18-3. -/
abbrev SELF : Nat := 0x100007
/-- R449, Table 18-3. -/
abbrev IDENTITY_KEY : Nat := 0x100008
/-- R449, Table 18-3. -/
abbrev CONFIG_DIGEST : Nat := 0x100009
/-- R449, Table 18-3. -/
abbrev DICT_VERSION : Nat := 0x10000A
/-- R449, Table 18-3. -/
abbrev HBM_STACK_IDS : Nat := 0x10000B
/-- R449, Table 18-4. -/
abbrev SLICES_ASSIGNED : Nat := 0x700001
/-- R449, Table 18-4. -/
abbrev CORE_SLOT : Nat := 0x700002
/-- R449, Table 18-4. -/
abbrev HBM_FREE_GIB : Nat := 0x700003
/-- R449, Table 18-5. -/
abbrev KERNEL_RIGHT (n : Nat) : Nat := 0x702001 + 0x100 * n
/-- R449, Table 18-5. -/
abbrev SLICE_ID (n : Nat) : Nat := 0x702002 + 0x100 * n
/-- R449, Table 18-5. -/
abbrev SLICE_CORES (n : Nat) : Nat := 0x702003 + 0x100 * n
/-- R449, Table 18-5. -/
abbrev SLICE_HBM (n : Nat) : Nat := 0x702004 + 0x100 * n
/-- R449, Table 18-5. -/
abbrev SLICE_STATE (n : Nat) : Nat := 0x702005 + 0x100 * n
/-- R449, Table 18-5. -/
abbrev SLICE_CTRL (n : Nat) : Nat := 0x702006 + 0x100 * n
/-- R453, Table 18-6. -/
abbrev DICT_DEFAULTS : Nat := 0xF00001
/-- R453, Table 18-6. -/
abbrev DICT_DEFAULTS_PENDING : Nat := 0xF00002
/-- R453, Table 18-6. -/
abbrev PERSIST_WRITES : Nat := 0xF00003
/-- R453, Table 18-6. -/
abbrev PERSIST_FAULTS : Nat := 0xF00004
/-- R472, Table 19-4. -/
abbrev HOST_CONNS_READY : Nat := 0xA00001
/-- R472, Table 19-4. -/
abbrev HOST_NAKS : Nat := 0xA00002
/-- R472, Table 19-4. -/
abbrev HOST_BYTES_IN : Nat := 0xA00003
/-- R472, Table 19-4. -/
abbrev HOST_BYTES_OUT : Nat := 0xA00004
/-- R472, Table 19-4. -/
abbrev HOST_PHY (n : Nat) : Nat := 0xA00801 + 0x100 * n
/-- R472, Table 19-4. -/
abbrev HOST_PORT_CTRL (n : Nat) : Nat := 0xA00802 + 0x100 * n
/-- R472, Table 19-4. -/
abbrev HOST_PORT_STATE (n : Nat) : Nat := 0xA00803 + 0x100 * n
/-- R472, Table 19-4. -/
abbrev HOST_ADDR (n : Nat) : Nat := 0xA00804 + 0x100 * n
/-- R472, Table 19-4. -/
abbrev HOST_VLAN (n : Nat) : Nat := 0xA00805 + 0x100 * n
/-- R472, Table 19-4. -/
abbrev HOST_PFC_PRIO (n : Nat) : Nat := 0xA00806 + 0x100 * n
/-- R472, Table 19-4. -/
abbrev HOST_MAC (n : Nat) : Nat := 0xA00807 + 0x100 * n
/-- R472, Table 19-4. -/
abbrev HOST_FEC_CORRECTED (n : Nat) : Nat := 0xA00808 + 0x100 * n
/-- R472, Table 19-4. -/
abbrev HOST_FEC_UNCORRECTED (n : Nat) : Nat := 0xA00809 + 0x100 * n
/-- R472, Table 19-4. -/
abbrev HOST_CNP_RECEIVED (n : Nat) : Nat := 0xA0080A + 0x100 * n
/-- R472, Table 19-4. -/
abbrev QP_CTRL (n : Nat) : Nat := 0xA01001 + 0x100 * n
/-- R472, Table 19-4. -/
abbrev QP_STATE (n : Nat) : Nat := 0xA01002 + 0x100 * n
/-- R472, Table 19-4. -/
abbrev QP_SLICE_SLOT (n : Nat) : Nat := 0xA01003 + 0x100 * n
/-- R472, Table 19-4. -/
abbrev QP_PORT (n : Nat) : Nat := 0xA01004 + 0x100 * n
/-- R472, Table 19-4. -/
abbrev QP_LOCAL_QPN (n : Nat) : Nat := 0xA01005 + 0x100 * n
/-- R472, Table 19-4. -/
abbrev QP_REMOTE (n : Nat) : Nat := 0xA01006 + 0x100 * n
/-- R472, Table 19-4. -/
abbrev QP_RKEY (n : Nat) : Nat := 0xA01007 + 0x100 * n
/-- R472, Table 19-4. -/
abbrev QP_REGIONS (n : Nat) : Nat := 0xA01008 + 0x100 * n
/-- R472, Table 19-4. -/
abbrev QP_PROG (n : Nat) : Nat := 0xA01009 + 0x100 * n
/-- R472, Table 19-4. -/
abbrev QP_LAST_ERROR (n : Nat) : Nat := 0xA0100A + 0x100 * n
/-- R472, Table 19-4. -/
abbrev QP_REQUESTS (n : Nat) : Nat := 0xA0100B + 0x100 * n
/-- R472, Table 19-4. -/
abbrev QP_NAKS (n : Nat) : Nat := 0xA0100C + 0x100 * n
/-- R486, Table 20-7. -/
abbrev ATT_NONCE : Nat := 0x110001
/-- R486, Table 20-7. -/
abbrev ATT_CTRL : Nat := 0x110002
/-- R486, Table 20-7. -/
abbrev ATT_STATE : Nat := 0x110003
/-- R486, Table 20-7. -/
abbrev ATT_REPORT : Nat := 0x110004
/-- R486, Table 20-7. -/
abbrev IDENTITY_CERT : Nat := 0x110005
/-- R486, Table 20-7. -/
abbrev PUF_STATUS : Nat := 0x110006
/-- R486, Table 20-7. -/
abbrev START_STATE : Nat := 0xF10001
/-- R486, Table 20-7. -/
abbrev FW_CTRL : Nat := 0xF10002
/-- R486, Table 20-7. -/
abbrev FW_STATE : Nat := 0xF10003
/-- R486, Table 20-7. -/
abbrev FW_OFFSET : Nat := 0xF10004
/-- R486, Table 20-7. -/
abbrev FW_CHUNK : Nat := 0xF10005
/-- R486, Table 20-7. -/
abbrev FW_STAGED_DIGEST : Nat := 0xF10006
/-- R486, Table 20-7. -/
abbrev FW_FLASH_RELEASE : Nat := 0xF10007
/-- R486, Table 20-7. -/
abbrev FW_LAST_ERROR : Nat := 0xF10008
/-- R486, Table 20-7. -/
abbrev CFG_OFFSET : Nat := 0xF11001
/-- R486, Table 20-7. -/
abbrev CFG_CHUNK : Nat := 0xF11002
/-- R486, Table 20-7. -/
abbrev CFG_CTRL : Nat := 0xF11003
/-- R486, Table 20-7. -/
abbrev CFG_SEQ : Nat := 0xF11004
/-- R486, Table 20-7. -/
abbrev BIST_CTRL : Nat := 0xF12001
/-- R486, Table 20-7. -/
abbrev BIST_TARGET : Nat := 0xF12002
/-- R486, Table 20-7. -/
abbrev BIST_LEVEL : Nat := 0xF12003
/-- R486, Table 20-7. -/
abbrev BIST_STATE : Nat := 0xF12004
/-- R486, Table 20-7. -/
abbrev BIST_RESULT : Nat := 0xF12005

end Sys2Proof.Machine.Obj
end

