-- ==== Sys2Proof/Machine/State.lean ====
section
/-! DEFINITION. The state of the module as plain data, the reasons a step can stop, and the state right after reset. -/

namespace Sys2Proof.Machine

/-! ### Cores (05, 03, 04, 06, 07) -/

/-- The states of Table 5-11. -/
inductive CoreSt where
  | off | idle | armed | running | waiting | parkedFault | fenced
  deriving DecidableEq, Repr

/-- The operations of the matrix slot (Table 5-6). -/
inductive MatKind where
  | mcfg | mwld | mstr | mcls
  deriving DecidableEq, Repr

/-- An operation in the matrix queue (R142): its scratchpad offset, the offset of its scales and the number of the bundle
that issued it. -/
structure MatOp where
  kind : MatKind
  off  : Nat
  soff : Nat
  tag  : Nat
  deriving DecidableEq, Repr

/-- The configuration block of Table 5-7. -/
structure MatCfg where
  arrcfg    : Nat
  opfmt     : Nat
  cvtctl    : Nat
  scaleOff  : Nat
  biasOff   : Nat
  outStride : Nat
  deriving DecidableEq, Repr

/-- A weight bank (R64, R65): what the last load ran under, the weight codes by grid row × 512 + grid column, the scale codes
by scale row × 512 + grid column, and the checksum weights w_k and v_k by (array × 128 + row) × 16 + check group (FP32 codes,
or 64-bit two's complement for integer weights). `cfg`: the configuration that the last load ran under, from which its checksum
weights form. `undef`: the load was inconsistent, or what it left is open. -/
structure Bank where
  loaded : Bool
  cfg    : MatCfg
  mode   : Nat
  bfmt   : Nat
  bmx    : Bool
  kcnt   : Nat
  ncnt   : Nat
  undef  : Bool
  w      : List (Nat × Nat)
  sc     : List (Nat × Nat)
  wk     : List (Nat × Nat)
  vk     : List (Nat × Nat)
  deriving DecidableEq, Repr

/-- An accumulator (R79, R35): FP32 codes of sum and err, or the integer and whether it was clipped. -/
structure Acc where
  sum  : Nat
  err  : Nat
  int  : Int
  clip : Bool
  deriving DecidableEq, Repr

/-- A checksum accumulator with its magnitude accumulator (R78, R84), or the exact integer sum (R85). -/
structure ChkAcc where
  sum : Nat
  err : Nat
  mag : Nat
  int : Int
  deriving DecidableEq, Repr

/-- A tile (R63, R66): its number since core reset, the configuration it opened with, its accumulators (array by array, row
by row, column by column) and checksum accumulators (array, row, group), the K-steps taken, the flags raised so far, and
whether its result is undefined (R40, R46, R62, R505). -/
structure Tile where
  seq    : Nat
  cfg    : MatCfg
  accs   : List Acc
  chks   : List ChkAcc
  steps  : Nat
  flags  : AFlags
  undef  : Bool
  deriving DecidableEq, Repr

/-- A closed tile at the drain (R67): the tile, the output offset and the number of the bundle that issued the close. -/
structure Closed where
  tile : Tile
  off  : Nat
  tag  : Nat
  deriving DecidableEq, Repr

/-- The matrix array of a core. `fresh`: a weight load has filled the shadow bank since the previous stream (R65); `ready`:
its checksum weights are complete. -/
structure ArrayUnit where
  pend   : MatCfg
  shadow : Bank
  active : Bank
  fresh  : Bool
  ready  : Bool
  tile   : Option Tile
  drain  : List Closed
  seq    : Nat
  deriving DecidableEq, Repr

/-- A range of bytes that a chain reads or writes: space 0 is scratchpad, 1–4 are TB0–TB3. -/
structure VRange where
  space : Nat
  lo    : Nat
  len   : Nat
  deriving DecidableEq, Repr

/-- A chain with its descriptor as handed over or copied (1,024 bits; R143, R100), where it came from and the bundle that
issued it. -/
structure Chain where
  desc : Nat
  off  : Nat
  tag  : Nat
  /-- SEAL_THRESH was 0 when its VCH issued (R123); a linked chain is issued with the VCH of its run. -/
  unsealable : Bool
  deriving DecidableEq, Repr

/-- A chain that has started and not completed (R100, R102): what it reads and writes, the flags of its pass. -/
structure ChainRun where
  chain  : Chain
  reads  : List VRange
  writes : List VRange
  flags  : AFlags
  cycles : Nat
  deriving DecidableEq, Repr

/-- The vector engine of a core: the linked chain due next, the chain waiting at the gate (R122), the running chains, the
lane generators (R109), the mode, seed and rank in force (R111) and the count of entropy loads. -/
structure VectorUnit where
  link    : Option Chain
  gate    : Option Chain
  running : List ChainRun
  lanes   : List (Nat × Nat)
  stepped : Bool
  seed    : Nat
  rank    : Nat
  loadNo  : Nat
  deriving DecidableEq, Repr

/-- A DMA descriptor as copied (512 bits, R193) with its offset and the bundle that issued it. -/
structure DmaOp where
  desc : Nat
  off  : Nat
  tag  : Nat
  deriving DecidableEq, Repr

/-- A DMA descriptor in progress: bytes written and flags raised. -/
structure DmaRun where
  op    : DmaOp
  bytes : Nat
  flags : AFlags
  deriving DecidableEq, Repr

/-- An entry of the release buffer (R151). -/
inductive RelKind where
  | add (wp value : Nat)
  | addRemote (dev wp value : Nat)
  | set (wp value : Nat)
  | addTimed (wp value time : Nat)
  | done (wp value : Nat)
  deriving DecidableEq, Repr

structure RelEntry where
  kind : RelKind
  tag  : Nat
  /-- A timed add that has found the table full (R247), counted once. -/
  fullWait : Bool
  deriving DecidableEq, Repr

/-- An active hardware loop (R134): its counter, the first and the last bundle of its body as program-sequence numbers, and
its latched trip count. -/
structure Loop where
  k     : Nat
  first : Nat
  last  : Nat
  count : Nat
  deriving DecidableEq, Repr

/-- What holds issue beside queues and registers (R153, R154). -/
inductive Hold where
  | none
  /-- A WWAIT is unsatisfied. -/
  | wwait (wp threshold : Nat)
  /-- The WWAIT of the bundle that is due has been satisfied. -/
  | woken
  | fence (units : Nat)
  | ending
  deriving DecidableEq, Repr

/-- What a layer is doing (R170). -/
inductive LayerSt where
  | none
  /-- A record is being loaded from this address (R166). -/
  | loading (addr : Nat)
  /-- Waiting for wait A or wait B. -/
  | waiting
  /-- Its chains wait for the seal (R179, R182). -/
  | gated
  /-- A collective step waits for its context to be IDLE (R306): the context and the descriptor's address. -/
  | ctxWait (ctx addr : Nat)
  /-- A collective engine has the descriptor (R180), on this context. -/
  | collective (ctx : Nat)
  /-- Its work has ended with this code. -/
  | worked (code : Nat)
  deriving DecidableEq, Repr

/-- A program page as it stood when the core first fetched from it under a generation (R144, R149): its number (address / 65,536), the
GEN, and its bytes that are not 0. -/
structure PageSeen where
  page  : Nat
  gen   : Nat
  cells : List Host.Cell
  deriving DecidableEq, Repr

/-- A Dweirok core's own state. Registers and memories that a map holds as lists are in canonical form. -/
structure Core where
  a      : List (Nat × AddrReg)
  k      : List (Nat × LoopReg)
  p      : Nat
  pc     : Nat
  loops  : List Loop
  /-- Pending LDA writes, oldest first: register and value (R141). -/
  lda    : List (Nat × AddrReg × Nat)
  matQ   : List MatOp
  vecQ   : List Chain
  dmaQ0  : List DmaOp
  dmaQ1  : List DmaOp
  rel    : List RelEntry
  /-- Remote adds and other frames sent and not acknowledged (R24, R249). -/
  remote : Nat
  /-- Lines of the instruction cache by line number (address / 512), each as its 4,096 bits. -/
  icache : List (Nat × Option Nat)
  /-- The line that issue needs and the lines requested ahead (R145, R146). -/
  demand : Option Nat
  ahead  : List Nat
  /-- The pages fetched from: by them a bundle shows that was written without its page's GEN changing (R161). -/
  seen   : List PageSeen
  hold   : Hold
  /-- Bundles issued since core reset: numbers the operations for R151. -/
  issueNo  : Nat
  /-- Chronometer time of the launch or of the layer's START (R163, R184). -/
  launch   : Nat
  /-- What the progress watchdog has counted (R163, R184), in hundredths of a cycle. -/
  wdog     : Nat
  array  : ArrayUnit
  vec    : VectorUnit
  dma0   : List DmaRun
  dma1   : List DmaRun
  layer  : LayerSt
  /-- The CORE_MODE taken at ARM or LYR_START (R158). -/
  mode   : Nat
  /-- How often the core's operations have been abandoned (R159, R162): an add acknowledged later is told by it. -/
  resets : Nat
  /-- The free value that what the tile buffers hold unwritten depends on: taken at core reset (R93) and by an undefined result
  (R161). -/
  tiles  : Nat
  /-- The parts of a nanosecond, in 1/130 ns, that IDLE_THROTTLED and BUSY_NS have not shown yet (R337). -/
  thrFrac : Nat
  busyFrac : Nat
  deriving DecidableEq, Repr

/-- The reset configuration of Tables 3-2, 2-6 and 2-8 (R63). -/
def MatCfg.reset : MatCfg :=
  { arrcfg := 8 + 127 * 2 ^ 4 + 127 * 2 ^ 11 + 127 * 2 ^ 21, opfmt := 0x322, cvtctl := 0x242, scaleOff := 0, biasOff := 0,
    outStride := 0 }

/-- A bank filled with +0 and checksum weights 0 (R65). -/
def Bank.reset : Bank :=
  { loaded := false, cfg := .reset, mode := 0, bfmt := 0, bmx := false, kcnt := 0, ncnt := 0, undef := false, w := [], sc := [], wk := [], vk := [] }

/-- The array after core reset (R63, R65). -/
def ArrayUnit.reset : ArrayUnit :=
  { pend := .reset, shadow := .reset, active := .reset, fresh := false, ready := false, tile := none, drain := [], seq := 0 }

/-- A core as core reset leaves it, before any lane load. -/
def Core.reset : Core :=
  { a := [], k := [], p := 0, pc := 0, loops := [], lda := [], matQ := [], vecQ := [], dmaQ0 := [], dmaQ1 := [], rel := [],
    remote := 0, icache := [], demand := none, ahead := [], seen := [], hold := .none, issueNo := 0, launch := 0, wdog := 0,
    array := .reset,
    vec := { link := none, gate := none, running := [], lanes := [], stepped := false, seed := 0, rank := 0, loadNo := 0 },
    dma0 := [], dma1 := [], layer := .none, mode := 0, resets := 0, tiles := 0, thrFrac := 0, busyFrac := 0 }

/-! ### Waypoints (09) -/

/-- A Waypoint entry (Table 9-1), with what the operations of the instant LAST_TIME have set: OVF, and the first code and the
count of its error completions (R243). -/
structure Wp where
  value    : Nat
  mark     : Nat
  lastTime : Nat
  ovf      : Bool
  err      : Bool
  errCode  : Nat
  errCount : Nat
  nowOvf   : Bool
  nowErr   : Option (Nat × Nat)
  deriving DecidableEq, Repr

/-- The entry at start-up (R235). -/
def Wp.reset : Wp :=
  { value := 0, mark := 0, lastTime := 0, ovf := false, err := false, errCode := 0, errCount := 0, nowOvf := false, nowErr := none }

/-- What a waiter waits for: the launch of an armed core (R157), a WWAIT (R245), wait A or B of a layer (R170). -/
inductive WaitKind where
  | launch | wwait | layer
  deriving DecidableEq, Repr

/-- A waiter entry of the Waypoint unit (R245). -/
structure Waiter where
  core      : Nat
  wp        : Nat
  threshold : Nat
  kind      : WaitKind
  deriving DecidableEq, Repr

/-- A registered timed add (R247). -/
structure Timed where
  wp    : Nat
  value : Nat
  time  : Nat
  slice : Nat
  deriving DecidableEq, Repr

/-- Who asks for a Waypoint operation (R236, R507): a core through a slot (0xFF for none), an XD unit, a host connection, a frame's source device and core,
or the timed-add table. -/
inductive Asker where
  | core (n slot : Nat)
  | unit
  | host (conn : Nat)
  | frame (dev core : Nat)
  | timed
  deriving DecidableEq, Repr

/-- The operations of Table 9-3 that change an entry; a CLEAR names the bits it clears, and whether it has arrived in one cycle
with the operations performed at LAST_TIME (R243). -/
inductive WpKind where
  | add (v : Nat)
  | set (v : Nat)
  | error (code : Nat)
  | mark (m : Nat)
  | clear (ovf err together : Bool)
  deriving DecidableEq, Repr

/-- A Waypoint operation on its way to the unit. -/
structure WpReq where
  asker : Asker
  slice : Nat
  wp    : Nat
  kind  : WpKind
  deriving DecidableEq, Repr

/-! ### Memory errors (07, 08) -/

/-- The error that a burst or granule holds (R191, R211). -/
inductive MemErr where
  | none
  | correctable (pin : Nat)
  | uncorrectable
  deriving DecidableEq, Repr


/-! ### Fabric (10) -/

/-- A Chart (R282): SELF, the entries that differ from their reset value, and the time of the switch from which it drains. -/
structure Chart where
  self    : Nat
  entries : List (Nat × Nat)
  drainAt : Nat
  deriving DecidableEq, Repr

/-- A pending switch (R286): the Chart it was issued on, whether it is SWITCH_CLOSE, and its time. -/
structure PendSwitch where
  chart : Nat
  close : Bool
  time  : Nat
  deriving DecidableEq, Repr

/-- The operation that a sent frame belongs to: who learns of its acknowledgement, refusal or loss. -/
inductive OpRef where
  | none
  /-- A remote WADD of a core (R249), with the core's count of resets when it was sent. -/
  | remoteAdd (core resets : Nat)
  /-- Another frame of a core (R24), with the same count. -/
  | remoteFrame (core resets : Nat)
  /-- A frame of a collective context. -/
  | ctx (n : Nat)
  /-- A frame of the step unit or the Consort. -/
  | step
  /-- A frame of the Fix engine. -/
  | fix
  /-- A READ answered by this module's READ_DATA, or a READ of its own. -/
  | read
  deriving DecidableEq, Repr

/-- A frame that its flow holds unacknowledged (R280); for a multicast frame the leaves that acknowledged it and those that
PARTIAL frames list (R294). -/
structure TxFrame where
  frame   : Frame
  op      : OpRef
  acked   : List Nat
  skipped : List Nat
  /-- Where its payload is read again for a resend: a local address, or none for a payload the unit itself holds. -/
  source  : Option Nat
  deriving DecidableEq, Repr

/-- The sending state of a flow (R277, R280, R281). -/
structure TxFlow where
  key      : FlowKey
  next     : Nat
  unacked  : List TxFrame
  /-- Frames of units that wait because the flow is full (R280). -/
  queued   : List (Frame × OpRef × Option Nat)
  progress : Nat
  resentAt : Nat
  lost     : Bool
  /-- The port that the flow leaves by (R283). -/
  port     : Option Nat
  /-- SEQs that an ERR_RESP has answered and no ACK has covered yet (R279). -/
  refused  : List Nat
  deriving DecidableEq, Repr

/-- The receiving state of a flow (R278, R279): the expected SEQ, the accepted frames that no ACK covers, the time of the first of
them, and the slice of the last, in which its ACK leaves. -/
structure RxFlow where
  key       : FlowKey
  expected  : Nat
  uncovered : Nat
  since     : Nat
  slice     : Nat
  deriving DecidableEq, Repr

/-- A frame in a port with the time it came into the router, and the port whose input buffer it fills until it leaves (R275). -/
structure Held where
  frame   : Frame
  since   : Nat
  arrival : Option Nat
  deriving DecidableEq, Repr

/-- A frame in a retry buffer (R274) with its link sequence number, how often it was replayed and when it came into the router. -/
structure Retry where
  seqNo   : Nat
  frame   : Frame
  replays : Nat
  since   : Nat
  deriving DecidableEq, Repr

/-- A fabric port (R266, R274, R275, R296). -/
structure Port where
  queue    : List Held
  retry    : List Retry
  nextLink : Nat
  expLink  : Nat
  /-- Credits given back by the next hop beyond the first grant, per class, in 256 B units: used so far minus returned. -/
  used     : List (Nat × Nat)
  /-- Units of the own input buffers freed and not yet returned, per class. -/
  owed     : List (Nat × Nat)
  /-- Deficit round robin over classes 1–6 (R273): each class's deficit and the class served. -/
  deficit  : List (Nat × Nat)
  turn     : Nat
  /-- When acknowledgement last progressed, and when the port last replayed. -/
  progress : Nat
  replayAt : Nat
  /-- When the training in progress began. -/
  trainAt  : Nat
  /-- Tenths of a cycle that STALL_CYCLES has not counted yet (R275). -/
  stall    : Nat
  /-- Bytes of class 0 sent beyond its share (R273), and when. -/
  ctrl     : Nat
  ctrlAt   : Nat
  deriving DecidableEq, Repr

/-- A frame that waits inside the central router (R276, R297). -/
structure Waiting where
  frame   : Frame
  arrival : Option Nat
  since   : Nat
  deriving DecidableEq, Repr

/-- What has left the module: a frame on a fabric port with the link sequence number of its prefix, a link control block, an HDP message (DUP beside it), a response of a host
port. An HDP message's `hdr.src` and `hdr.port` are where it goes. -/
inductive OutMsg where
  | frame (port linkSeq : Nat) (f : Frame)
  | control (port : Nat) (acked : Nat) (credits : List (Nat × Nat)) (nak : Option Nat)
  | hdp (seg : Seg) (dup : Bool) (q : HdpReq)
  | neighborAdvert (link : NdLink) (addr : Nat)
  | neighborSolicit (link : NdLink) (addr : Nat)
  | rdmaAck (conn psn : Nat)
  | rdmaData (conn psn : Nat) (data : List Byte)
  | rdmaAtomic (conn psn : Nat) (old : Nat)
  | rdmaNak (conn psn syndrome : Nat)
  | cnp (conn : Nat)
  deriving DecidableEq, Repr

/-- A port with nothing in it. -/
def Port.reset : Port :=
  { queue := [], retry := [], nextLink := 0, expLink := 0, used := [], owed := [], deficit := [], turn := 1,
    progress := 0, replayAt := 0, trainAt := 0, stall := 0, ctrl := 0, ctrlAt := 0 }

/-- A Chart at reset. -/
def Chart.reset : Chart := { self := 0, entries := [], drainAt := 0 }

/-! ### Memory waits -/

/-- Whose write waits for a copy-before-write (R204, R228). -/
inductive WriteBy where
  | dma (core engine tag : Nat)
  | layer (core : Nat)
  | ctx (n : Nat)
  | frame (dev cls : Nat)
  | host (conn msg : Nat)
  | unit
  deriving DecidableEq, Repr

/-- A write that waits (R228): it has met a marked page itself (`met`), or stands behind one of its source that has (R24). -/
structure HeldWrite where
  page  : Nat
  addr  : Nat
  bytes : List Byte
  who   : WriteBy
  since : Nat
  met   : Bool
  deriving DecidableEq, Repr

/-- The events that enter the event log or the violation log; the number of each but the refusal for state is the
implementation's (log 9). -/
inductive Ev where
  /-- EVENT 0x2410 (R435). -/
  | stateRefused
  /-- An entry of the violation log (R438). -/
  | violation
  | unownedWaypoint | remoteAdd
  | coreFault | checksumMismatch | nfAfterSeal
  | spUncorrected | hbmUncorrected | hbmRateForced
  | hopDrop | pathLost
  | actOver | selfFence | moduleFence | fenceRequest
  | fixDiscarded | reserveFailed | reserveIn
  | powerFail | epo | domainFail
  | persistFault | selfTestFail | pufFail
  | hostError
  | hbmBlocked
  | addressInUse
  deriving DecidableEq, Repr

/-! ### Logs (17) -/

/-- A log entry (Table 17-6). The event stands for the number in EVENT, `data` for ARGS; in a refusal for state and in a
violation `data` is ARGS itself (R438, R503). -/
structure LogEntry where
  time   : Nat
  seq    : Nat
  event  : Ev
  code   : Nat
  source : Nat
  slice  : Nat
  data   : Nat
  rep    : Nat
  deriving DecidableEq, Repr

/-- A log ring, newest entry first, with the SEQ of its newest entry and how many entries are not in flash yet. -/
structure Log where
  entries   : List LogEntry
  seq       : Nat
  unflushed : Nat
  deriving DecidableEq, Repr

/-! ### Collectives (11) -/

/-- What a context knows of one member in the present instance (R311–R323): elements of its contribution accepted in this
instance and in the next, elements of its result chunk accepted in both, whether it is late or absent, RECEIVED_UPTO of a LATE of
its that came before GO and of one for the next instance (R321), and the element ranges of its chunk that were folded or dropped. -/
structure CtxMember where
  got     : Nat
  gotNext : Nat
  res     : Nat
  resNext : Nat
  late    : Bool
  absent  : Bool
  lateAt   : Option Nat
  lateNext : Option Nat
  folded  : List (Nat × Nat)
  deriving DecidableEq, Repr

/-- A member of which nothing is known. -/
def CtxMember.fresh : CtxMember :=
  { got := 0, gotNext := 0, res := 0, resNext := 0, late := false, absent := false, lateAt := none, lateNext := none, folded := [] }

/-- A collective context (R303): its descriptor as copied (1,024 bits), the members' devices in rank order, T_GO, whether its
reducing role has closed, what it knows of each rank, the core whose layer issued it, the counts PRESENT, LATE and ABSENT as the close
raised them (R311), whether a multicast of the instance was lost with its path (R312), the ranges that no program may write while
the context runs, as home addresses and lengths, and whether one has (R313). -/
structure Ctx where
  desc    : Nat
  devs    : List Nat
  tGo     : Nat
  closed  : Bool
  members : List CtxMember
  layer   : Option Nat
  tally    : Option (Nat × Nat × Nat)
  lostCast : Bool
  guard    : List (Nat × Nat)
  blurred  : Bool
  deriving DecidableEq, Repr

/-- An idle context. -/
def Ctx.idle : Ctx :=
  { desc := 0, devs := [], tGo := 0, closed := false, members := [], layer := none, tally := none, lostCast := false, guard := []
    blurred := false }

/-! ### Step, Wake and Consort (13) -/

/-- A vote or a decision (Table 13-3). -/
structure Vote where
  step    : Nat
  attempt : Nat
  kind    : Nat
  code    : Nat
  deriving DecidableEq, Repr

/-- The root's tally of a key (R345): devices that voted COMMIT and READY, and the decision once there is one. -/
structure Tally where
  step     : Nat
  attempt  : Nat
  commits  : List Nat
  readies  : List Nat
  decision : Option Nat
  deriving DecidableEq, Repr

/-- A stream that the Consort receives, or a restore that the restorer receives: its step, the bytes so far, and whether its
CONSORT_DONE has come, with the attempt it named. -/
structure Stream13 where
  step    : Nat
  bytes   : Nat
  done    : Option Nat
  ok      : Bool
  deriving DecidableEq, Repr

/-- The step unit beside its objects: the last vote; the root's tallies, newest last; whether the abort actions hold sealing
(R343); whether NOT_CHECKED was entered from VOTED; failure bits that came after the vote (R342); whether the attempt recorded
or carried an uncorrected error (R356), and the addresses of those it met; since when CHECK_TIMEOUT runs and when the Consort stream
started; the stream received into the pending slot; the restore in progress, whether its CONSORT_PULL still waits for a Chart,
whether one has failed or been done in the present REPLAY_WAIT, whether a spare makes it, and the device ID that the spare stood by under; the kept Wake entries with the adds
each has still to discard (R350); whether a Chart has become ACTIVE since the last vote (R347). -/
structure StepUnit where
  lastVote  : Option Vote
  tallies   : List Tally
  noSeal    : Bool
  fromVoted : Bool
  carried   : Nat
  ueSeen    : Bool
  ueAddrs   : List Nat
  checkAt   : Option Nat
  streamAt  : Nat
  received  : Option Stream13
  restore   : Option Stream13
  pullDue   : Bool
  restoreFailed : Bool
  rolled    : Bool
  spare     : Bool
  standby   : Nat
  kept      : List (Nat × Nat)
  resend    : Bool
  /-- Whether the interval that IDLE_REPLAY counts is running (R336). -/
  replaying : Bool
  /-- The ranges of a shard that streams, as home addresses and lengths (R353). -/
  guard     : List (Nat × Nat)
  deriving DecidableEq, Repr

/-- The step unit at start-up. -/
def StepUnit.reset : StepUnit :=
  { lastVote := none, tallies := [], noSeal := false, fromVoted := false, carried := 0, ueSeen := false, ueAddrs := [],
    checkAt := none, streamAt := 0, received := none, restore := none, pullDue := false, restoreFailed := false, rolled := false,
    spare := false, standby := 0xFFFF, kept := [], resend := false, replaying := false, guard := [] }

/-! ### Fixes (14) -/

/-- A page in the staging area of a die (R368): the page (local address / 65,536) and its place. -/
structure Staged where
  page : Nat
  slot : Nat
  deriving DecidableEq, Repr

/-- A parity row that the module holds (R371): its store slot, and the bytes that each position has contributed. -/
structure ParityRow where
  row  : Nat
  slot : Nat
  got  : List (Nat × Nat)
  complete : Bool
  deriving DecidableEq, Repr

/-- A stripe that is repeated after a refusal for room (R372). -/
structure StripeRetry where
  frame : Frame
  due   : Nat
  deriving DecidableEq, Repr

/-- The root's count of a Fix (R374). -/
structure FixTally where
  id   : Nat
  step : Nat
  devs : List Nat
  deriving DecidableEq, Repr

/-- A decision that the root keeps (R374): Fix, step, and whether it is DISCARD. -/
structure FixDecision where
  id      : Nat
  step    : Nat
  discard : Bool
  deriving DecidableEq, Repr

/-- A rebuild in progress (R381): the Fix, the lost member's position, the rows still awaited with the bytes that came, and the
chunks rebuilt so far, chunk by chunk. -/
structure Rebuild where
  id     : Nat
  pos    : Nat
  rows   : List (Nat × Nat)
  chunks : List (Nat × List Byte)
  deriving DecidableEq, Repr

/-- The last Fix committed, as a rebuild of it needs it (R381): FIX_ID, BASE_ID, step, whether it is FULL, and the chunk counts by
position. -/
structure FixLast where
  id     : Nat
  base   : Nat
  step   : Nat
  full   : Bool
  counts : List (Nat × Nat)
  deriving DecidableEq, Repr

/-- The Fix engine beside its objects: the Fix in hand with its base and kind, the time of marking, the first Fix after a BEGIN
still to come; each die's staged pages in order; the bytes of rows whose page has been freed; the records that wait for their place
in the stream (R366), by region × 2^40 + address; the stream so far, the chunks
closed and whether the end record is written; the ring's next slot, the slots allocated since ARM and the slot of each chunk;
stripes waiting for a repeat; parity rows; chunk counts by position; the last Fix committed; the root's tally and last four
decisions; a rebuild or an application in progress. -/
structure FixUnit where
  id        : Nat
  baseId    : Nat
  full      : Bool
  since     : Nat
  firstAfterBegin : Bool
  staged0   : List Staged
  staged1   : List Staged
  carry     : List Host.Cell
  records   : List (Nat × List Byte)
  stream    : List Byte
  opened    : Nat
  closed    : Nat
  ended     : Bool
  head      : Nat
  allocated : Nat
  slots     : List (Nat × Nat)
  retries   : List StripeRetry
  rows      : List ParityRow
  counts    : List (Nat × Nat)
  last      : Option FixLast
  tally     : Option FixTally
  decisions : List FixDecision
  rebuild   : Option Rebuild
  apply     : Option Nat
  /-- A stripe was refused for another cause than room: its chunk is never acknowledged, and the Fix cannot be prepared. -/
  refused   : Bool
  /-- A COMMIT waits for a free slot for its record (R372, R375). -/
  commitDue : Bool
  /-- A Chart has become ACTIVE since the last FIX_PREPARED (R376). -/
  resend    : Bool
  deriving DecidableEq, Repr

/-- The Fix engine at start-up. -/
def FixUnit.reset : FixUnit :=
  { id := 0, baseId := 0, full := false, since := 0, firstAfterBegin := false, staged0 := [], staged1 := [], carry := [], records := [],
    stream := [], opened := 0, closed := 0, ended := false, head := 0, allocated := 0, slots := [], retries := [],
    rows := [], counts := [], last := none, tally := none, decisions := [], rebuild := none, apply := none, refused := false,
    commitDue := false, resend := false }

/-! ### Chronometer (09) -/

/-- The Chronometer's exchanges (R254–R256): an exchange outstanding with its t1 and port, runs of exchanges with a small offset
and of failed ones, whether it has been LOCKED or ROOT, the nanoseconds still to slew out, and the bound and time at which
holdover began. -/
structure ChrUnit where
  sent     : Option (Nat × Nat)
  good     : Nat
  bad      : Nat
  locked   : Bool
  everSync : Bool
  slew     : Int
  bound    : Nat
  heldAt   : Nat
  phase    : Nat
  deriving DecidableEq, Repr

/-- The Chronometer's unit at start-up. -/
def ChrUnit.reset : ChrUnit :=
  { sent := none, good := 0, bad := 0, locked := false, everSync := false, slew := 0, bound := 0xFFFFFFFF, heldAt := 0, phase := 0 }

/-! ### HBM upkeep (08) -/

/-- A stack's refresh and temperature (R220, R225): when its temperature last fell to 82 °C or below, when a valid reading was
last taken; the rolling activation counts of its banks (R222). -/
structure StackUnit where
  coolAt : Option Nat
  seenAt : Nat
  acts   : List (Nat × Nat)
  deriving DecidableEq, Repr

/-- A stack of which nothing has been read. -/
def StackUnit.reset : StackUnit := { coolAt := none, seenAt := 0, acts := [] }

/-- A Sextant run in progress (R231–R233). -/
structure Sextant where
  target : Nat
  axis   : Nat
  full   : Bool
  since  : Nat
  deriving DecidableEq, Repr

/-! ### Power, clocks, temperature (16) -/

/-- The arithmetic PLLs of a compute die (R409): the target that the idle PLL relocks toward for a step change, whether the
idle PLL is locked at THR_PIN_STEP, and since when the slowest request has stood above the present step (R410). -/
structure Pll where
  relock  : Option Nat
  idle    : Bool
  upSince : Option Nat
  deriving DecidableEq, Repr

/-- A pair at 1.3 GHz. -/
def Pll.reset : Pll := { relock := none, idle := true, upSince := none }

/-- The power unit: the step that each source of Table 16-4 requests, by die × 16 + bit; since when a temperature source has
lain below its row (R410); the PLLs; the input's samples in mW, newest first (R403); since when the conditions of Table 16-1
have held (below 30 V, below 27 V, above 40.5 V, above 44 V, at or above 31 V, within 30 to 40 V); since when the 10 ms mean
has lain below 0.9 × PWR_LIMIT, and when the mean last made a request; energy below a millijoule, in nJ; the domains that wake, with the time by
which they miss power-good (R407), and those that wait for a ramp (R406); the pins THROTTLE_N, EPO_N and FENCE_N; whether the input switch is open. -/
structure PowerUnit where
  requests : List (Nat × Nat)
  calm     : List (Nat × Option Nat)
  plls     : List (Nat × Pll)
  samples  : List Nat
  below30  : Option Nat
  below27  : Option Nat
  above40  : Option Nat
  above44  : Option Nat
  good31   : Option Nat
  inRange  : Option Nat
  low      : Option Nat
  meanAt   : Option Nat
  residue  : Nat
  waking   : List (Nat × Nat)
  waitRamp : List Nat
  thrPin   : Bool
  epoPin   : Bool
  fencePin : Bool
  open_    : Bool
  dark     : Bool
  deriving DecidableEq, Repr

/-- The power unit at power-good. -/
def PowerUnit.reset : PowerUnit :=
  { requests := [], calm := [], plls := [], samples := [], below30 := none, below27 := none, above40 := none, above44 := none,
    good31 := none, inRange := none, low := none, meanAt := none, residue := 0, waking := [], waitRamp := [],
    thrPin := false, epoPin := false, fencePin := false, open_ := false, dark := false }

/-! ### Reserves and Drift (15) -/

/-- A pending swap (R390): the retiring core, and the Reserve that the request has. -/
structure Swap where
  core    : Nat
  reserve : Option Nat
  deriving DecidableEq, Repr

/-- What the HMU keeps for Reserves and the Drift score beside its objects: pending swaps; since when a READY Reserve has had no
request (R390); cores left OFF by a failed self-test (R484); corrected errors by scratchpad bank since start-up, as core × 32 +
bank, and banks that wait for the redundant bank (Table 15-1); the redundant bank's use by core; sensors lost, as site × 2 +
sensor, the times of their last valid readings and since when a site's sensors disagree (R389); cores whose site is above
105 °C (Table 15-3); phases shed by rail (R388); lanes that wait for a spare lane, as port × 4 + lane (R387); flash spare
blocks used; whether RETIRED_MAP was lost at start-up (R456); Drift states' times below their thresholds, as unit × 4 + level, 104 for the module (R397); canary margins lost
of XD, in ps; the time of the last evaluation and of the last saving of the inputs, and the inputs as saved; RETIRED_MAP as the last
start-up applied it (R395); the lower valid reading of each rail's voltage monitors, in mV (R389); corrected symbols by lane in the present
1 s window, how many windows in a row each lane has stood over LANE_SWAP_THRESH, and the number of that window (R387). -/
structure HealthUnit where
  swaps       : List Swap
  idleSince   : List (Nat × Option Nat)
  selfFailed  : List Nat
  bankCe      : List (Nat × Nat)
  bankPending : List (Nat × Nat)
  sensorsLost : List Nat
  sensorSeen  : List (Nat × Nat)
  disagree    : List (Nat × Option Nat)
  hot         : List Nat
  phases      : List (Nat × Nat)
  lanePending : List Nat
  flashUsed   : Nat
  calm        : List (Nat × Option Nat)
  xdLost      : Nat
  evaluated   : Nat
  evaluateDue : Bool
  saved       : Nat
  savedInputs : List (Nat × Nat)
  retiredLost : Bool
  retired     : Nat
  volts       : List (Nat × Int)
  laneCounts  : List (Nat × Nat)
  laneRuns    : List (Nat × Nat)
  laneWindow  : Nat
  deriving DecidableEq, Repr

/-- Nothing worn. -/
def HealthUnit.reset : HealthUnit :=
  { swaps := [], idleSince := [], selfFailed := [], bankCe := [], bankPending := [], sensorsLost := [], sensorSeen := [],
    disagree := [], hot := [], phases := [], lanePending := [], flashUsed := 0, calm := [], xdLost := 0,
    evaluated := 0, evaluateDue := false, saved := 0, savedInputs := [], retiredLost := false, retired := 0, volts := [], laneCounts := [], laneRuns := [],
    laneWindow := 0 }

/-! ### Host link (19) -/

/-- A request of a host that waits (R259, R467, R468): a write for its bytes to be performed, a read for the writes before it, an
operation on a Waypoint (a write of its entry, or a fetch-add) for everything before it. `silent`: the connection answers it no more. -/
inductive HostWait where
  | write (msg psn : Nat) (silent : Bool)
  | op (wp slice psn : Nat) (kind : WpKind) (silent : Bool)
  | read (m : HostMsg) (slice : Nat) (silent : Bool)
  | add (m : HostMsg) (slice : Nat) (silent : Bool)
  deriving DecidableEq, Repr

/-- A connection beside its objects (R464–R471): the number of its next write, requests that wait, its send rate in bit/s, when it
last sent a congestion notification, when it last received one or restored its rate, and whether it becomes UNBOUND once what
waits is done; the packet sequence number that it expects, and the old values that its last fetch-adds have returned, by their numbers
(R463). -/
structure HostConn where
  next    : Nat
  waits   : List HostWait
  rate    : Nat
  cnpSent : Option Nat
  cnpAt   : Nat
  unbind  : Bool
  expPsn  : Nat
  replays : List (Nat × Nat)
  deriving DecidableEq, Repr

/-- The port rate (R461). -/
def hostRate : Nat := 400000000000

/-- A connection that has done nothing. -/
def HostConn.fresh : HostConn := { next := 0, waits := [], rate := hostRate, cnpSent := none, cnpAt := 0, unbind := false, expPsn := 0, replays := [] }

/-! ### Management unit (17) -/

/-- A message that waits for a transmit opportunity (R432): whether it yields to responses, whether it is a copy of a cached
response, and the role key that takes effect when it has left (R430). -/
structure HdpOut where
  msg  : HdpReq
  low  : Bool
  dup  : Bool
  key  : Option (Nat × List Byte)
  deriving DecidableEq, Repr

/-- What a role key has (R429–R431): the key, the highest counter accepted, the counters accepted within the window, the ceiling
persisted, the counter that a request has to exceed since a reset of the unit, the cached requests with their responses,
newest first, and messages that have drawn none. -/
structure RoleKey where
  key     : Option (List Byte)
  top     : Option Nat
  seen    : List Nat
  ceiling : Option Nat
  floor   : Option Nat
  cache   : List (HdpReq × HdpReq)
  quiet   : List HdpReq
  deriving DecidableEq, Repr

/-- A key of which no counter has been accepted. -/
def RoleKey.fresh (k : Option (List Byte)) : RoleKey := { key := k, top := none, seen := [], ceiling := none, floor := none, cache := [], quiet := [] }

/-- An open transfer (R425, R426): the opening request, whether it writes, the total length, the bytes received so far or those to
send, how many segments have been received or acknowledged in unbroken order, how many sent, and when it last progressed. -/
structure Transfer where
  opener   : HdpReq
  write    : Bool
  total    : Nat
  bytes    : List Byte
  done     : Nat
  sent     : Nat
  progress : Nat
  resentAt : Nat
  deriving DecidableEq, Repr

/-- A subscription (R427): the request, the value last seen, whether it has changed since the last NOTIFY, the time of that NOTIFY,
its number, and when the lease ends. -/
structure Subscription where
  req     : HdpReq
  seen    : Nat
  dirty   : Bool
  last    : Option Nat
  segno   : Nat
  expires : Nat
  deriving DecidableEq, Repr

/-- A neighbour discovery frame that waits for a transmit opportunity (R419, R420): the answer to a solicitation, or the solicitation by
which the module asks whether an address of its own is in use. -/
inductive NdOut where
  | advert (addr : Nat)
  | solicit (addr : Nat)
  deriving DecidableEq, Repr

/-- The management unit beside its objects: whether it sleeps and when it last worked (R416); the role keys by role; its send
counter and that counter's ceiling (R429); transfers and subscriptions by slot; messages that wait on T1S-A and T1S-B; a key that takes effect
when the present command's response has left (R430); the Beacon
number and when a periodic and an immediate Beacon were last sent; neighbour discovery frames that wait on T1S-A and T1S-B, and the
addresses that duplicate address detection has found in use (R420, R497); the PHY in force of each host port (R461). -/
structure HmuUnit where
  asleep      : Bool
  lastWork    : Nat
  observer    : RoleKey
  operator    : RoleKey
  job         : RoleKey
  service     : RoleKey
  sendCounter : Nat
  sendCeiling : Nat
  transfers   : List (Nat × Option Transfer)
  subs        : List (Nat × Option Subscription)
  queueA      : List HdpOut
  queueB      : List HdpOut
  keyDue      : Option (Nat × List Byte)
  beaconNo    : Nat
  beaconAt    : Option Nat
  immediateAt : Option Nat
  ndA         : List NdOut
  ndB         : List NdOut
  taken       : List NdTaken
  hostPhys    : List (Nat × Nat)
  deriving DecidableEq, Repr

/-- The unit as manufactured: KEY_OBSERVER and KEY_OPERATOR stand in flash (log 7), KEY_JOB and KEY_SERVICE are not set. -/
def HmuUnit.reset : HmuUnit :=
  { asleep := true, lastWork := 0, observer := .fresh (some (Config.factoryKey 0)), operator := .fresh (some (Config.factoryKey 1)),
    job := .fresh none, service := .fresh none, sendCounter := 1, sendCeiling := 0, transfers := [], subs := [], queueA := [],
    queueB := [], keyDue := none, beaconNo := 0, beaconAt := none, immediateAt := none,
    ndA := [], ndB := [], taken := [], hostPhys := [] }

/-! ### Firmware, record, identity (20) -/

/-- The image region of the flash, or the image in SRAM (R473, R474): the one the module is manufactured with, one that a COMMIT has
programmed, or none that is whole (R482). -/
inductive Image where
  | factory
  | programmed (bytes : List Byte)
  | torn
  deriving DecidableEq, Repr

/-- Flash, mask ROM and update state: the staging area in 2 KiB chunks (R482); the image in flash and the one that runs; the two
copies of the configuration record, whether one is in force, and the buffer (R476, R483); an attestation's
snapshot (R481); the mask ROM's firmware keys (R474); the PUF seed (R480); whether the
loader is due to run (R478); cores under the bench self-test with the states they had (R485). -/
structure FwUnit where
  staging : List (Nat × List Byte)
  flash   : Image
  running : Image
  copy0   : List Byte
  copy1   : List Byte
  inForce : Bool
  buffer  : List Byte
  report  : List Byte
  romKey0 : List Byte
  romKey1 : List Byte
  puf     : Nat
  loader  : Bool
  bist    : List (Nat × Nat)
  deriving DecidableEq, Repr

/-- The module as manufactured, with no configuration record delivered yet (log 7). -/
def FwUnit.reset : FwUnit :=
  { staging := [], flash := .factory, running := .factory, copy0 := [], copy1 := [], inForce := false, buffer := List.replicate 512 0#8, report := [],
    romKey0 := Config.firmwareKey 0, romKey1 := Config.firmwareKey 1, puf := Config.pufSeed, loader := true, bist := [] }


/-! ### Consequences inside one command -/

/-- A consequence that a command brings about and that is performed before the command ends, in order: a Waypoint operation,
a failed condition of the step check (its bit of STEP_STATUS, and the address of an uncorrected error, R340), a layer that may run, a layer whose adds are
performed. Between commands there
is none (log 8). -/
inductive Post where
  | wp (r : WpReq)
  | stepFail (bit code : Nat)
  | layer (core : Nat)
  | layerNext (core : Nat)
  /-- A frame that has reached this module, with the fabric port it came in by. -/
  | frame (port : Option Nat) (f : Frame)
  /-- A frame that this module sends to itself: it crosses no port, carries SEQ 0 and takes no acknowledgement (R265). -/
  | onModule (op : OpRef) (f : Frame)
  /-- A sent frame is acknowledged (R280), refused with a code (R288, R290), or lost with its path (R281). -/
  | landed (op : OpRef) (f : Frame)
  | failed (op : OpRef) (f : Frame) (code : Nat)
  | lost (op : OpRef) (f : Frame)
  /-- A context tests whether it may go, close or complete (R307, R311, R312). -/
  | context (n : Nat)
  /-- The step unit tests its conditions (R341, R344). -/
  | stepTest
  /-- The Fix engine tests whether it is prepared (R373), or ends with a cause of Table 14-6. -/
  | fixTest
  | fixEnd (cause : Nat)
  /-- The swaps and bank copies of a step's entry, between its item 4 and its add to DECIDE_WP (R386, R392). -/
  | entrySwaps
  /-- The module fences itself on a fatal event (R360). -/
  | selfFence (event : Nat)
  /-- The module goes off: on EPO_N or a power fail (R412), with the input switch open (R402), or starts anew
  (R413). -/
  | epo (cause : Nat)
  | inputOff | inputDark
  | restart
  /-- Swaps, bank copies and lane swaps that wait for no job are performed if there is none (R386, R392). -/
  | bringIn
  deriving DecidableEq, Repr

/-! ### The state -/

/-- The module. -/
structure State where
  /-- The commands that wait, first in first out. -/
  pending  : List Instr
  /-- True time since power-good, ns. -/
  now      : Nat
  /-- How many free values have been taken. -/
  free     : Nat
  /-- Consequences still to be performed within the present command. -/
  posts    : List Post
  /-- The dictionary: values by key, those at their default not listed (18). -/
  dict     : List (Nat × Nat)
  /-- HBM and scratchpads by local address, bytes at 0 not listed (R186, R207). -/
  mem      : List Host.Cell
  /-- Tile buffers by (core × 4 + buffer) × 65,536 + offset; an unlisted byte holds a free value (R93). -/
  tb       : List (Nat × Option Byte)
  /-- Stored errors by HBM burst and by scratchpad granule (local address / 32). -/
  errs     : List (Nat × MemErr)
  cores    : List (Nat × Core)
  wps      : List (Nat × Wp)
  waiters  : List Waiter
  timed    : List Timed
  /-- Timed adds that have found the table full, oldest first (R247). -/
  timedHeld : List Timed
  /-- The Chronometer's count, ns (R252). -/
  chr      : Nat
  charts   : List (Nat × Chart)
  switchAt : Option PendSwitch
  fans     : List (Nat × Nat)
  txFlows  : List TxFlow
  rxFlows  : List RxFlow
  ports    : List (Nat × Port)
  /-- The port and lane that each quad's spare lane serves, as port × 4 + lane (R300). -/
  spares   : List (Nat × Option Nat)
  routerQ  : List Waiting
  /-- Writes that wait for a page copy (R228). -/
  held     : List HeldWrite
  /-- Corrected errors since start-up by row group (R217) and pin-corrected bursts by lane (R215). -/
  rowCe    : List (Nat × Nat)
  laneCe   : List (Nat × Nat)
  /-- Row groups marked for remap, oldest first (R213, R217). -/
  marked   : List Nat
  /-- Remapped row groups, in the order in which their banks' held-back groups were used; persisted (R216, R219). -/
  remaps   : List Nat
  /-- Lanes pending repair, and lanes repaired, in the persisted lane-repair record (R215). -/
  lanesPending  : List Nat
  lanesRepaired : List Nat
  /-- Refreshes postponed by bank (R221). -/
  postponed : List (Nat × Nat)
  /-- The stacks' temperature upkeep (R220, R225) and a Sextant run in progress (R231). -/
  stackUnits : List (Nat × StackUnit)
  sextant  : Option Sextant
  chrU     : ChrUnit
  ctxs     : List (Nat × Ctx)
  stepU    : StepUnit
  fixU     : FixUnit
  power    : PowerUnit
  health   : HealthUnit
  hosts    : List (Nat × HostConn)
  hmu      : HmuUnit
  fw       : FwUnit
  /-- A change that an immediate Beacon reports has come about (R442). -/
  beaconDue : Bool
  /-- Drift inputs: counts by (input × 256 + unit) × 2^24 + hour (R396). -/
  drift    : List (Nat × Nat)
  /-- What has left the module, newest first. -/
  out      : List OutMsg
  events   : Log
  violations : Log
  deriving DecidableEq, Repr

/-- Why a step stops: nothing in this machine does, since a refused command is answered with its code and has no effect (R12). -/
inductive Fault where
  deriving DecidableEq, Repr

/-- Why a command has no meaning. -/
inductive Refusal where
  /-- The command's meaning is not written yet: raised by `exec`. Safe. -/
  | notModelled (mnemonic : String)
  deriving DecidableEq, Repr

/-- The module at power-good, before start-up (log 3). -/
def State.reset : State :=
  { pending := [], now := 0, free := 0, posts := [], dict := [], mem := [], tb := [], errs := [], cores := [], wps := [],
    waiters := [], timed := [], timedHeld := [], chr := 0, charts := [], switchAt := none, fans := [], txFlows := [], rxFlows := [], ports := [],
    spares := [], routerQ := [], held := [], rowCe := [], laneCe := [], marked := [], remaps := [],
    lanesPending := [], lanesRepaired := [], postponed := [], stackUnits := [], sextant := none, chrU := .reset, ctxs := [], stepU := .reset, fixU := .reset, power := .reset, health := .reset, hosts := [],
    hmu := .reset, fw := .reset, beaconDue := false,
    drift := [], out := [], events := ⟨[], 0, 0⟩, violations := ⟨[], 0, 0⟩ }

end Sys2Proof.Machine
end

