-- ==== Sys2Proof/Machine/Ops.lean ====
section
/-! DEFINITION. The named operations over the state: objects of the dictionary, cores, Waypoints, memory bytes, logs,
ownership (R452), free values, and what follows from a command (`Post`). -/

namespace Sys2Proof.Machine

/-- The outcome of a command. -/
abbrev Out := Host.Outcome State Fault Refusal

/-! ### Objects -/

/-- What the dictionary's store holds at a key. -/
def State.obj (s : State) (key : Nat) : Nat := Sparse.get dictDefault s.dict key

/-- The state with a value stored at a key. -/
def State.setObj (s : State) (key v : Nat) : State := { s with dict := Sparse.set dictDefault s.dict key v }

/-- A counter of `w` bits raised by `n`; counters stop at their largest value. -/
def State.count (s : State) (w key n : Nat) : State := s.setObj key (satInc w (s.obj key) n)

/-- Status bits set. -/
def State.raise (s : State) (key mask : Nat) : State := s.setObj key (s.obj key ||| mask)

/-- Bits of `mask` that a word lacks. -/
def newBits (old mask : Nat) : Nat := mask &&& (mask ^^^ (old &&& mask))

/-- Bits of a sticky word set by hardware: its event counter rises for each bit that was clear (R55). -/
def State.raiseCounted (s : State) (key mask counter : Nat) : State :=
  (s.count 32 counter (popCount 32 (newBits (s.obj key) mask))).raise key mask

/-- MGMT_STATUS bits set (Table 17-9). -/
def State.mgmtStatus (s : State) (mask : Nat) : State := s.raiseCounted Obj.MGMT_STATUS mask Obj.MGMT_EVENTS

/-- Several objects set. -/
def State.setObjs (s : State) : List (Nat × Nat) → State
  | [] => s
  | (k, v) :: r => (s.setObj k v).setObjs r

/-- HEALTH bits of the module set (Table 15-8). -/
def State.moduleHealth (s : State) (mask : Nat) : State := s.raiseCounted Obj.MODULE_HEALTH mask Obj.HEALTH_EVENTS

/-- Bits of ALERT_SUMMARY set; ALERT_N is asserted while it is not 0 (R436), and an assertion makes a Beacon due (R442). -/
def State.alert (s : State) (mask : Nat) : State :=
  let s' := s.raise Obj.ALERT_SUMMARY mask
  if s.obj Obj.ALERT_SUMMARY = 0 then { s' with beaconDue := true } else s'

/-! ### The management flash (R386, R473) -/

/-- A block of the management flash has failed to program or erase: a spare block takes its contents; with none left the write fails
(Tables 15-1, 15-8 and 17-5). -/
def State.blockFailed (s : State) : State :=
  let used := s.health.flashUsed + 1
  if 256 < used then s.alert 32
  else
    let s := { s with health := { s.health with flashUsed := used } }
    if 256 - used < 64 then s.moduleHealth 0x800 else s

/-- A write of a block of the management flash. -/
def State.flashWrite (s : State) : State :=
  let t := { s with free := s.free + 1 }
  if Config.flashFails s.free then t.blockFailed else t

/-- A value enters the flash journal (R448, R457): PERSIST_WRITES counts it. -/
def State.journalled (s : State) : State := (s.count 64 Obj.PERSIST_WRITES 1).flashWrite

/-- A persisted value that hardware writes. -/
def State.persist (s : State) (key v : Nat) : State := (s.setObj key v).journalled

/-! ### Units -/

/-- A core's own state. -/
def State.core (s : State) (n : Nat) : Core := Sparse.get (fun _ => Core.reset) s.cores n

/-- The state with a core's own state replaced. -/
def State.setCore (s : State) (n : Nat) (c : Core) : State :=
  { s with cores := Sparse.set (fun _ => Core.reset) s.cores n c }

/-- The code of a core state (Table 5-11). -/
def CoreSt.code : CoreSt → Nat
  | .off => 0 | .idle => 1 | .armed => 2 | .running => 3 | .waiting => 4 | .parkedFault => 5 | .fenced => 6

/-- The core state of a code. -/
def CoreSt.ofCode (c : Nat) : CoreSt :=
  match c with
  | 0 => .off | 1 => .idle | 2 => .armed | 3 => .running | 4 => .waiting | 5 => .parkedFault | _ => .fenced

/-- CORE_STATE of a core. -/
def State.coreSt (s : State) (n : Nat) : CoreSt := .ofCode (s.obj (Obj.CORE_STATE n))

/-- The state with CORE_STATE of a core set. -/
def State.setCoreSt (s : State) (n : Nat) (c : CoreSt) : State := s.setObj (Obj.CORE_STATE n) c.code

/-- A Waypoint entry. -/
def State.wp (s : State) (i : Nat) : Wp := Sparse.get (fun _ => Wp.reset) s.wps i

/-- The state with a Waypoint entry replaced. -/
def State.setWp (s : State) (i : Nat) (w : Wp) : State := { s with wps := Sparse.set (fun _ => Wp.reset) s.wps i w }

/-- A Chart. -/
def State.chart (s : State) (n : Nat) : Chart := Sparse.get (fun _ => Chart.reset) s.charts n

/-- The state with a Chart replaced. -/
def State.setChart (s : State) (n : Nat) (c : Chart) : State :=
  { s with charts := Sparse.set (fun _ => Chart.reset) s.charts n c }

/-- A fabric port. -/
def State.port (s : State) (n : Nat) : Port := Sparse.get (fun _ => Port.reset) s.ports n

/-- The state with a fabric port replaced. -/
def State.setPort (s : State) (n : Nat) (p : Port) : State :=
  { s with ports := Sparse.set (fun _ => Port.reset) s.ports n p }

/-- A consequence put behind those that are waiting. -/
def State.post (s : State) (p : Post) : State := { s with posts := s.posts ++ [p] }

/-- The present free value, and the state in which it is taken. -/
def State.fresh (s : State) : Nat × State := (s.free, { s with free := s.free + 1 })

/-- A counter of `w` bits raised by at least `least`, by a number that the manual leaves to timing (log 23). -/
def State.countFree (s : State) (w key least : Nat) : State :=
  let (n, s) := s.fresh
  s.count w key (least + Config.freeNat n)

/-- A message leaves the module. -/
def State.send (s : State) (m : OutMsg) : State := { s with out := m :: s.out }

/-! ### Memory bytes -/

/-- What a byte of HBM or scratchpad that nothing has written reads as (log 4). -/
def memDefault : Nat → Byte := fun _ => 0#8

/-- The canonical form of memory: addresses rising strictly, no entry equal to what an unlisted address reads as. -/
def Memory.wf (m : List Host.Cell) : Bool := Sparse.wf memDefault m

/-- A byte of memory by local address. -/
def State.byte (s : State) (a : Nat) : Byte := Sparse.get memDefault s.mem a

/-- `n` bytes of memory from a local address. -/
def State.bytes (s : State) (a n : Nat) : List Byte := Sparse.getRun memDefault s.mem a n

/-- The state with bytes written at a local address. -/
def State.setBytes (s : State) (a : Nat) (l : List Byte) : State := { s with mem := Sparse.setRun memDefault s.mem a l }

/-- A byte of a tile buffer (R93). -/
def State.tileByte (s : State) (core buf off : Nat) : Byte :=
  match Sparse.get (fun _ => (none : Option Byte)) s.tb ((core * 4 + buf) * 65536 + off) with
  | some b => b
  | none => Config.tileByte (s.core core).tiles core buf off

/-- Bytes of a tile buffer. -/
def State.tileBytes (s : State) (core buf off n : Nat) : List Byte :=
  (List.range n).map (fun i => s.tileByte core buf (off + i))

/-- The state with bytes written into a tile buffer. -/
def State.setTileBytes (s : State) (core buf off : Nat) (l : List Byte) : State :=
  { s with tb := Sparse.setRun (fun _ => none) s.tb ((core * 4 + buf) * 65536 + off) (l.map some) }

/-- SPBASE of a core (Table 5-2). -/
def spBase (core : Nat) : Nat := 0xC000000000 + core * 0x800000

/-- The bytes of scratchpad that a core addresses (R186). -/
def spSize : Nat := 0x600000

/-- The core that serves a core's scratchpad window (R394). -/
def State.serves (s : State) (core : Nat) : Nat :=
  let b := bits (s.obj Obj.CORE_ALIAS) (8 * core + 7) (8 * core)
  if b = 0x7F then core else b

/-- `n` bytes of a core's own scratchpad. -/
def State.spBytes (s : State) (core off n : Nat) : List Byte := s.bytes (spBase core + off) n

/-! ### The local address map (R20, R186, R235, R238, R458) -/

/-- Where a local address lies. A scratchpad address names the core that serves its window. -/
inductive Region where
  | hbm
  | sp (core off : Nat)
  | waypoints
  | dictionary
  | unmapped
  deriving DecidableEq, Repr

/-- The region of a local address. -/
def State.region (s : State) (a : Nat) : Region :=
  if a < 0xC000000000 then .hbm
  else if a < 0xC000000000 + 104 * 0x800000 then
    let w := (a - 0xC000000000) / 0x800000
    let off := (a - 0xC000000000) % 0x800000
    if off < spSize then .sp (s.serves w) off else .unmapped
  else if 0xE000000000 ≤ a ∧ a < 0xE000081000 then .waypoints
  else if 0xE800000000 ≤ a ∧ a < 0xF000000000 then .dictionary
  else .unmapped

/-- The address at which memory holds a local address: scratchpad windows resolved to the serving core. -/
def State.home (s : State) (a : Nat) : Nat :=
  match s.region a with
  | .sp c off => spBase c + off
  | _ => a

/-! ### Slices (R450, R452) -/

/-- The codes of SLICE_STATE. -/
def State.slotAssigned (s : State) (k : Nat) : Bool := s.obj (Obj.SLICE_STATE k) == 1

/-- The slot that holds a core. -/
def State.slotOfCore (s : State) (n : Nat) : Option Nat :=
  (List.range 8).find? (fun k => s.slotAssigned k && bit (s.obj (Obj.SLICE_CORES k)) n)

/-- The slot that owns an HBM address. -/
def State.slotOfHbm (s : State) (a : Nat) : Option Nat :=
  (List.range 8).find? (fun k => s.slotAssigned k && bit (s.obj (Obj.SLICE_HBM k)) (a / 2 ^ 30))

/-- The slot that a slice ID holds. -/
def State.slotOfSlice (s : State) (slice : Nat) : Option Nat :=
  (List.range 8).find? (fun k => s.slotAssigned k && s.obj (Obj.SLICE_ID k) == slice)

/-- The slice ID of a slot; 0xFFFF for none. -/
def State.sliceId (s : State) : Option Nat → Nat
  | some k => s.obj (Obj.SLICE_ID k)
  | none => 0xFFFF

/-- The slice that holds a core; 0xFFFF for none. -/
def State.sliceOfCore (s : State) (n : Nat) : Nat := s.sliceId (s.slotOfCore n)

/-- The slice that owns a local address of HBM or of a scratchpad window (R452). -/
def State.ownerOf (s : State) (a : Nat) : Nat :=
  match s.region a with
  | .hbm => s.sliceId (s.slotOfHbm a)
  | .sp c _ => s.sliceOfCore c
  | _ => 0xFFFF

/-- SLICES_ASSIGNED (Table 18-4). -/
def State.slicesAssigned (s : State) : Nat := ((List.range 8).filter s.slotAssigned).length

/-- "No slice holds cores on the module" (R453). -/
def State.noSliceHoldsCores (s : State) : Bool := s.slicesAssigned == 0

/-- The slice that owns a Waypoint's group; 0xFFFF for none (R236), and for a group whose slice no ASSIGNED slot holds (R452). -/
def State.wpOwner (s : State) (wp : Nat) : Nat :=
  let slice := s.obj (Obj.GROUP_SLICE (wp / 64))
  if (s.slotOfSlice slice).isSome then slice else 0xFFFF

/-- The device ID of the module in the current Chart, 0xFFFF when no Chart is active (Table 18-3, R282). -/
def State.selfId (s : State) : Nat :=
  if s.obj Obj.CHART0_STATE = 3 then (s.chart 0).self
  else if s.obj Obj.CHART1_STATE = 3 then (s.chart 1).self
  else 0xFFFF

/-! ### Logs (R437, R438) -/

/-- SOURCE of a log entry: kind and number (Table 17-6). -/
def srcCode (kind n : Nat) : Nat := kind * 256 + n

/-- The entries of a log that flash lacks, with one more: before its 33rd the unit flushes it, so that the two logs never hold more than 64
(R439, log 154). -/
def Log.unflushedNext (l : Log) : Nat := if 32 ≤ l.unflushed then 1 else l.unflushed + 1

/-- A log with an entry added: one that equals the newest in all but TIME, SEQ and REPEAT within 1 s raises REPEAT (R437). -/
def Log.enter (l : Log) (cap : Nat) (e : LogEntry) : Log :=
  match l.entries with
  | n :: r =>
    if n.event = e.event ∧ n.code = e.code ∧ n.source = e.source ∧ n.slice = e.slice ∧ n.data = e.data ∧
        e.time ≤ n.time + 1000000000 then
      { l with entries := { n with rep := min 0xFFFF (n.rep + 1) } :: r }
    else
      { entries := { e with seq := l.seq + 1 } :: (n :: r).take (cap - 1), seq := l.seq + 1, unflushed := l.unflushedNext }
  | [] => { entries := [{ e with seq := l.seq + 1 }], seq := l.seq + 1, unflushed := l.unflushedNext }

/-- Whether an entry would take a place of a full ring (R437). -/
def Log.wraps (l : Log) (cap : Nat) (e : LogEntry) : Bool :=
  decide (cap ≤ l.entries.length) && decide (l.seq < (l.enter cap e).seq)

/-- An event enters the event log. -/
def State.logEvent (s : State) (ev : Ev) (code source slice data : Nat) : State :=
  let e : LogEntry := { time := s.chr, seq := 0, event := ev, code, source, slice, data, rep := 0 }
  let s' := if s.events.wraps 8192 e then (s.count 32 Obj.LOG_WRAPS 1).mgmtStatus 16 else s
  { s' with events := s.events.enter 8192 e }

/-- A refusal with 0x0801, 0x0808 or 0x080A enters the violation log. -/
def State.logViolation (s : State) (code source slice args : Nat) : State :=
  let e : LogEntry := { time := s.chr, seq := 0, event := .violation, code, source, slice, data := args, rep := 0 }
  let s' := if s.violations.wraps 1024 e then (s.count 32 Obj.VIOL_WRAPS 1).mgmtStatus 32 else s
  { s' with violations := s.violations.enter 1024 e }

/-- ARGS of a violation of a fabric or Waypoint source (R438). -/
def fabricArgs (srcDev srcCore dstDev addr : Nat) : Nat :=
  srcDev % 2 ^ 14 + srcCore % 2 ^ 7 * 2 ^ 14 + dstDev % 2 ^ 14 * 2 ^ 21 + addr % 2 ^ 40 * 2 ^ 35

/-- ARGS of a refusal for state whose target is no dictionary object (Table 17-11). -/
def refusalArgs (addr tcore req reqCore path state : Nat) : Nat :=
  addr % 2 ^ 40 + tcore % 2 ^ 7 * 2 ^ 40 + req % 2 ^ 14 * 2 ^ 47 + reqCore % 2 ^ 7 * 2 ^ 61 + path % 16 * 2 ^ 68 +
    state % 2 ^ 7 * 2 ^ 72 + 2 ^ 79

/-- A violation by a core on an address. -/
def State.coreViolation (s : State) (core addr : Nat) : State :=
  s.logViolation 0x0801 (srcCode 1 core) (s.sliceOfCore core) (fabricArgs s.selfId core s.selfId addr)

/-! ### Checks of address ranges -/

/-- The first and the last GiB slot of a range, each with the owner it needs. -/
def State.hbmOwnedBy (s : State) (slice lo len : Nat) : Bool :=
  (List.range ((lo + len - 1) / 2 ^ 30 - lo / 2 ^ 30 + 1)).all
    (fun i => s.sliceId (s.slotOfHbm ((lo / 2 ^ 30 + i) * 2 ^ 30)) == slice)

/-- Whether a range lies whole in HBM or in one scratchpad window. -/
def State.rangeMapped (s : State) (lo len : Nat) : Bool :=
  match s.region lo with
  | .hbm => decide (lo + len ≤ 0xC000000000)
  | .sp _ off => decide (off + len ≤ spSize)
  | _ => false

/-- Whether a mapped range lies whole in a slice. -/
def State.rangeOwned (s : State) (slice lo len : Nat) : Bool :=
  match s.region lo with
  | .hbm => s.hbmOwnedBy slice lo len
  | .sp c _ => s.sliceOfCore c == slice
  | _ => false

/-- The Wake's valid entries as HBM ranges: bases and lengths. -/
abbrev WakeRange := Nat × Nat

/-- The check of R195 for one range: 0x0802 unmapped, 0x0801 outside the slice; an empty range passes. -/
def State.checkRange (s : State) (slice lo len : Nat) : Nat :=
  if len = 0 then 0
  else if !s.rangeMapped lo len then 0x0802
  else if slice = 0xFFFF || !s.rangeOwned slice lo len then 0x0801
  else 0

/-- The dies of cores, 0 for CD0 (R17). -/
def dieOfCore (core : Nat) : Nat := if core < 52 then 0 else 1

/-- Compute-clock frequencies of the throttle steps in units of 10 MHz (Table 1-2). -/
def stepFreq (step : Nat) : Nat :=
  match step with
  | 0 => 130 | 1 => 120 | 2 => 110 | 3 => 95 | _ => 80

end Sys2Proof.Machine
end

