-- ==== Sys2Proof/Machine/Memory.lean ====
section
/-! DEFINITION. Memory accesses: HBM address decoding (R210), stored errors and their counting (R191, R211–R213, R508),
writes that meet a mark (R227, R228), and the step flag's reports (R118). -/

namespace Sys2Proof.Machine

/-! ### HBM locations (R210) -/

/-- Where an HBM address lies (R210). -/
structure HbmLoc where
  stack : Nat
  pc    : Nat
  bank  : Nat
  row   : Nat
  col   : Nat
  deriving DecidableEq, Repr

/-- The decoding of R210. -/
def decodeHbm (a : Nat) : HbmLoc :=
  let die := if 0x6000000000 ≤ a then 1 else 0
  let off := a - die * 0x6000000000
  let b := off >>> 8
  let q := b % 192
  let j := b / 192
  { stack := 6 * die + q % 6, pc := q / 6, bank := (bits j 4 0) ^^^ (bits j 11 7), row := bits j 22 7,
    col := 256 * bits j 6 5 + off % 256 }

/-- The number of a bank among the module's. -/
def HbmLoc.bankNo (l : HbmLoc) : Nat := (l.stack * 32 + l.pc) * 32 + l.bank

/-- The number of an address's row group: 16 rows of one bank (R216). -/
def HbmLoc.group (l : HbmLoc) : Nat := l.bankNo * 4096 + l.row / 16

/-- The bank of a row group. -/
def bankOfGroup (g : Nat) : Nat := g / 4096

/-- The stack of a row group. -/
def stackOfGroup (g : Nat) : Nat := g / 4096 / 1024

/-! ### Drift inputs (R396) -/

/-- The inputs of Tables 15-3 and 15-4 that count events, in table order: core inputs 0–5, module inputs 8–21. -/
def driftKey (input unit hour : Nat) : Nat := (input * 256 + unit) * 2 ^ 24 + hour

/-- An event that counts toward a Drift score, in the present 1 h bucket (R396); a mismatch, an uncorrected error and a Reserve's
failure make an evaluation due. -/
def State.driftEvent (s : State) (input unit n : Nat) : State :=
  let key := driftKey input unit (s.now / 3600000000000 % 2 ^ 24)
  let s := { s with drift := Sparse.set (fun _ => 0) s.drift key (Sparse.get (fun _ => 0) s.drift key + n) }
  if input = 1 ∨ input = 2 ∨ input = 9 ∨ input = 20 then { s with health := { s.health with evaluateDue := true } } else s

/-! ### Stored errors -/

/-- The error that the burst or granule of a home address holds. -/
def State.errAt (s : State) (unitNo : Nat) : MemErr := Sparse.get (fun _ => MemErr.none) s.errs unitNo

/-- The state with the error of a burst or granule set. -/
def State.setErr (s : State) (unitNo : Nat) (e : MemErr) : State :=
  { s with errs := Sparse.set (fun _ => MemErr.none) s.errs unitNo e }

/-- HEALTH bits of a stack set (Table 8-6). -/
def State.stackHealth (s : State) (stack mask : Nat) : State := s.raise (Obj.STACK_HEALTH stack) mask

/-- Entries in use in a bank's remap table (R216). -/
def State.remapsOf (s : State) (bank : Nat) : Nat := (s.remaps.filter (fun g => bankOfGroup g == bank)).length

/-- A row group that meets a trigger of R217 waits for its remap; one whose bank has no free entry stays as it is, and each such
trigger is counted. -/
def State.markGroup (s : State) (g : Nat) : State :=
  if s.remapsOf (bankOfGroup g) < 64 then (if g ∈ s.marked then s else { s with marked := s.marked ++ [g] })
  else ((s.count 32 (Obj.REMAP_EXHAUSTED (stackOfGroup g)) 1).stackHealth (stackOfGroup g) 32).driftEvent 11 0 1

/-- How many lanes of a record lie in a channel. -/
def lanesOfChannel (l : List Nat) (ch : Nat) : Nat := (l.filter (fun x => x / 68 == ch)).length

/-- A lane goes into the lane-repair record as pending (R215); lanes are numbered (stack × 16 + channel) × 68 + lane. -/
def State.lanePend (s : State) (lane : Nat) : State :=
  if lane ∈ s.lanesPending then s
  else
    let stack := lane / 68 / 16
    let ch := lane / 68
    let full := decide (Config.redundantLanes ≤ lanesOfChannel s.lanesRepaired ch + lanesOfChannel s.lanesPending ch)
    let s := { s with lanesPending := s.lanesPending ++ [lane] }
    let s := (s.count 8 (Obj.LANES_PENDING stack) 1).stackHealth stack 8
    (if full then s.stackHealth stack 16 else s).flashWrite

/-- What a count reaches when a threshold moves from one value to a lower one: the keys of the counts at or beyond the new value that
had not reached the old (log 32). -/
def reachedBy (l : List (Nat × Nat)) (old new : Nat) : List Nat := (l.filter (fun e => decide (new ≤ e.2) && decide (e.2 < old))).map (·.1)

/-- A corrected error of a burst that a read meets (R212, R215, R217). The count of a group reaches ROW_CE_THRESH once (log 32). -/
def State.noteCorrected (s : State) (burst pin : Nat) : State :=
  let l := decodeHbm (burst * 32)
  let s := ((s.count 32 (Obj.CE_COUNT l.stack) 1).stackHealth l.stack 1).driftEvent 8 0 1
  let n := Sparse.get (fun _ => 0) s.rowCe l.group + 1
  let s := { s with rowCe := Sparse.set (fun _ => 0) s.rowCe l.group n }
  let s := if n = max 1 (s.obj Obj.ROW_CE_THRESH) then s.markGroup l.group else s
  let lane := (l.stack * 16 + l.pc / 2) * 68 + pin
  let m := Sparse.get (fun _ => 0) s.laneCe lane + 1
  let s := { s with laneCe := Sparse.set (fun _ => 0) s.laneCe lane m }
  if s.obj Obj.LANE_CE_THRESH ≤ m then s.lanePend lane else s

/-- An uncorrected error of a burst that a requester of a priority class meets (R213). -/
def State.noteUncorrected (s : State) (burst cls : Nat) : State :=
  let l := decodeHbm (burst * 32)
  let s := ((s.count 32 (Obj.UE_COUNT l.stack) 1).stackHealth l.stack 2).driftEvent 9 0 1
  let s := s.setObj Obj.LAST_UE (s.chr + burst * 32 * 2 ^ 64 + l.stack * 2 ^ 104 + cls * 2 ^ 112)
  let s := s.logEvent .hbmUncorrected 0 (srcCode 2 l.stack) 0xFFFF (burst * 32)
  (s.markGroup l.group).post (.stepFail 1 (burst * 32))

/-- The core whose scratchpad holds a granule. -/
def coreOfGranule (g : Nat) : Nat := (g * 32 - 0xC000000000) / 0x800000

/-- The bank of a granule (R186). -/
def bankOfGranule (g : Nat) : Nat := g % 32

/-- A bank has met a trigger of Table 15-1: it waits for the redundant bank, or counts toward the core's score where that is in
use already (Table 15-3). -/
def State.bankTrigger (s : State) (core bank : Nat) : State :=
  if s.obj (Obj.SP_SPARE_BANK core) ≠ 0xFF then
    (if s.obj (Obj.SP_SPARE_BANK core) = bank then s else s.driftEvent 5 core 1)
  else if (core, bank) ∈ s.health.bankPending then s
  else ({ s with health := { s.health with bankPending := s.health.bankPending ++ [(core, bank)] } }).post .bringIn

/-- A corrected error of a scratchpad bank (Table 15-1). -/
def State.bankCorrected (s : State) (core bank : Nat) : State :=
  let k := core * 32 + bank
  let n := Sparse.get (fun _ => 0) s.health.bankCe k + 1
  let s := { s with health := { s.health with bankCe := Sparse.set (fun _ => 0) s.health.bankCe k n } }
  if n = s.obj Obj.SP_BANK_CE_THRESH then s.bankTrigger core bank else s

/-- A stored error that a read of a burst or granule meets (R191, R212, R213). -/
def State.noteError (s : State) (cls : Nat) (u : Nat) : State :=
  if u * 32 < 0xC000000000 then
    match s.errAt u with
    | .none => s
    | .correctable pin => s.noteCorrected u pin
    | .uncorrectable => s.noteUncorrected u cls
  else
    let core := coreOfGranule u
    match s.errAt u with
    | .none => s
    | .correctable _ => ((s.count 32 (Obj.SP_ECC_CORRECTED core) 1).driftEvent 0 core 1).bankCorrected core (bankOfGranule u)
    | .uncorrectable =>
      let s := ((s.count 32 (Obj.SP_ECC_UNCORRECTED core) 1).driftEvent 1 core 1).bankTrigger core (bankOfGranule u)
      (s.logEvent .spUncorrected 0 (srcCode 1 core) (s.sliceOfCore core) (u * 32)).post (.stepFail 1 (u * 32))

/-- The bursts or granules of a range that hold an error. -/
def State.errorsIn (s : State) (lo len : Nat) : List Nat :=
  if len = 0 then [] else (s.errs.filter (fun e => decide (lo / 32 ≤ e.1) && decide (e.1 ≤ (lo + len - 1) / 32))).map (·.1)

/-- A read of a range of home addresses by a requester of a class: its errors are counted; the data is `State.bytes`. -/
def State.noteRead (s : State) (cls lo len : Nat) : State := (s.errorsIn lo len).foldl (fun t u => t.noteError cls u) s

/-- A read of several ranges, as first addresses and lengths: an error in any of them is counted once, however many of the ranges it
lies in (log 36). -/
def State.noteSpans (s : State) (cls : Nat) (l : List (Nat × Nat)) : State :=
  let met (u : Nat) : Bool := l.any (fun r => rangesMeet r.1 r.2 (u * 32) 32)
  ((s.errs.map (·.1)).filter met).foldl (fun t u => t.noteError cls u) s

/-- A burst or granule becomes uncorrectable: it holds bytes that nothing constrains. -/
def State.strikeOut (s : State) (u : Nat) : State :=
  let (n, s) := s.fresh
  (s.setBytes (u * 32) ((List.range 32).map (Config.errorByte n))).setErr u .uncorrectable

/-- An error comes about in a stored burst or granule. The code corrects one on a single pin or bit; a second one on another is more
than it corrects (R191, R211). -/
def State.strike (s : State) (e : StoredError) : State :=
  match s.errAt e.unitNo, e.pin with
  | .none, some p => s.setErr e.unitNo (.correctable p)
  | .correctable q, some p => if p = q then s else s.strikeOut e.unitNo
  | .uncorrectable, some _ => s
  | _, none => s.strikeOut e.unitNo

/-- Several errors come about. -/
def State.strikes (s : State) (l : List StoredError) : State := l.foldl State.strike s

/-- How a write of [lo, lo + len) leaves the errors of the bursts it meets (R508). -/
def State.writeError (s : State) (lo len : Nat) (u : Nat) : State :=
  if lo ≤ u * 32 ∧ u * 32 + 32 ≤ lo + len then s.setErr u .none
  else
    match s.errAt u with
    | .none => s
    | .correctable _ => (s.noteError 2 u).setErr u .none
    | .uncorrectable => s.noteError 2 u

/-- A write performed at a home address: stored errors as R508 says, then the bytes. One store holds every destination, so the model
keeps one order of all writes where the spec gives no common order to different destinations (R24, R258): no two observers ever see
two writes in opposite orders (DESIGN CHOICE, log 33). -/
def State.writeNow (s : State) (lo : Nat) (l : List Byte) : State :=
  ((s.errorsIn lo l.length).foldl (fun t u => t.writeError lo l.length u) s).setBytes lo l

/-! ### Marks (R227, R228) -/

/-- CBW_MAP_BASE of a die. -/
def State.mapBase (s : State) (die : Nat) : Nat := if die = 0 then s.obj Obj.CBW_MAP_BASE0 else s.obj Obj.CBW_MAP_BASE1

/-- The die and the page of the die that an HBM address lies in. -/
def pageOf (a : Nat) : Nat × Nat := if a < 0x6000000000 then (0, a / 65536) else (1, (a - 0x6000000000) / 65536)

/-- The first address of a page given as local address / 65,536. -/
def State.pageMarked (s : State) (page : Nat) : Bool :=
  let (die, p) := pageOf (page * 65536)
  (s.byte (s.mapBase die + p / 8)).toNat.testBit (p % 8)

/-- The mark of a page set or cleared in its bitmap, by a write of its byte. -/
def State.setMark (s : State) (page : Nat) (b : Bool) : State :=
  let (die, p) := pageOf (page * 65536)
  let a := s.mapBase die + p / 8
  s.writeNow a [BitVec.ofNat 8 (putBit (s.byte a).toNat (p % 8) b)]

/-- The check of a page's mark reads the bitmap at class P0 on a miss of the mark cache (R227). The spec does not say what the cache
holds, so whether a byte whose burst has an error is read is a free value (log 34). -/
def State.checkMark (s : State) (page : Nat) : State :=
  let (die, p) := pageOf (page * 65536)
  let a := s.mapBase die + p / 8
  if (s.errorsIn a 1).isEmpty then s
  else
    let (n, s) := s.fresh
    if Config.freeNat n % 2 = 0 then s else s.noteRead 0 a 1

/-- The pieces of a write, one for each page it meets. -/
def pagePieces : Nat → Nat → List Byte → List (Nat × List Byte)
  | 0, _, _ => []
  | _, _, [] => []
  | f + 1, a, l => let n := 65536 - a % 65536; (a, l.take n) :: pagePieces f (a + n) (l.drop n)

/-- Whether two requesters are one source and class of R257: an engine, whatever its descriptor; a connection, whatever its message. -/
def WriteBy.sameSource : WriteBy → WriteBy → Bool
  | .dma c e _, .dma c' e' _ => c == c' && e == e'
  | .host k _, .host k' _ => k == k'
  | w, w' => w == w'

/-- Whether two ranges of HBM share a pseudo-channel: blocks of 256 B rotate over the 192 of a die (R210). -/
def channelsMeet (a n b m : Nat) : Bool :=
  let i := a / 256
  let j := b / 256
  (pageOf a).1 == (pageOf b).1 &&
    (decide ((j + 192 - i % 192) % 192 ≤ (a + n - 1) / 256 - i) || decide ((i + 192 - j % 192) % 192 ≤ (b + m - 1) / 256 - j))

/-- Whether a write's page is marked (R227, R228). -/
def State.meetsMark (s : State) (a : Nat) : Bool :=
  decide (a < 0xC000000000) && s.obj Obj.CBW_ACTIVE == 1 && s.pageMarked (a / 65536)

/-- Whether a write stands behind one of its source that waits for the same pseudo-channel (R24, R257). -/
def State.behindHeld (s : State) (who : WriteBy) (a n : Nat) : Bool :=
  decide (a < 0xC000000000) && s.held.any (fun h => h.who.sameSource who && channelsMeet h.addr h.bytes.length a n)

/-- Whether a range of HBM lies on a stack that a Sextant run has taken: it serves no other requester (R231). Blocks of 256 B rotate
over the six stacks of a die (R210). -/
def State.sextantBars (s : State) (a n : Nat) : Bool :=
  match s.sextant with
  | some x =>
    decide (a < 0xC000000000) && (List.range (min 6 ((a + n - 1) / 256 - a / 256 + 1))).any (fun i =>
      bit x.target 8 || (decodeHbm ((a / 256 + i) * 256)).stack == bits x.target 3 0)
  | none => false

/-- Whether a write waits: its page is marked (R228), its stack runs Sextant (R231), or it stands behind another of its source. -/
def State.writeStalls (s : State) (who : WriteBy) (a n : Nat) : Bool := s.meetsMark a || s.sextantBars a n || s.behindHeld who a n

/-- One piece of a write: it waits, or is performed. -/
def State.writePiece (who : WriteBy) (s : State) (pc : Nat × List Byte) : State :=
  let met := s.meetsMark pc.1
  if s.writeStalls who pc.1 pc.2.length then
    { s with held := s.held ++ [{ page := pc.1 / 65536, addr := pc.1, bytes := pc.2, who, since := s.now, met }] }
  else s.writeNow pc.1 pc.2

/-- Whether a write touches one of a list of guarded ranges. -/
def touches (a len : Nat) (l : List (Nat × Nat)) : Bool := l.any (fun g => decide (a < g.1 + g.2) && decide (g.1 < a + len))

/-- A context whose guarded ranges a write touches has an undefined result from now on (R313). -/
def Ctx.blur (a len : Nat) (c : Ctx) : Ctx := if touches a len c.guard then { c with blurred := true } else c

/-- Whether a frame carries a part of the Consort stream (Table 13-3). -/
def streamPart (op : OpRef) (f : Frame) : Bool := op == .step && f.opcode == 0x20 && f.cls == 4

/-- A payload of free bytes in a frame's place. -/
def blurred (n : Nat) (f : Frame) : Frame :=
  { f with payload := f.payload.zipIdx.map (fun x => BitVec.ofNat 8 (Config.freeNat (n + x.2))) }

/-- Frames whose data a program has written under them (R313, R353): what has not been acknowledged of them carries free bytes, and
nothing is read again for a resend (log 91). -/
def State.blurFrames (s : State) (p : OpRef → Frame → Bool) : State :=
  let (n, s) := s.fresh
  { s with txFlows := s.txFlows.map (fun x =>
      { x with
        unacked := x.unacked.map (fun y => if p y.op y.frame then { y with frame := blurred n y.frame, source := none } else y)
        queued := x.queued.map (fun y => if p y.2.1 y.1 then (blurred n y.1, y.2.1, none) else y) }) }

/-- Whether a frame carries data of a context whose guarded ranges a write touches. -/
def State.guardHit (s : State) (a len : Nat) (op : OpRef) (f : Frame) : Bool :=
  (f.opcode == 0x10 || f.opcode == 0x11) &&
    (match op with | .ctx n => touches a len (Sparse.get (fun _ => Ctx.idle) s.ctxs n).guard | _ => false)

/-- A write at a home address as the collectives and the Consort stream see it (R313, R353); a collective engine's own is excepted from
R313 alone. -/
def State.disturb (s : State) (engine : Bool) (a len : Nat) : State :=
  let shard := touches a len s.stepU.guard
  let coll := !engine && s.ctxs.any (fun e => touches a len e.2.guard)
  let hit (op : OpRef) (f : Frame) : Bool := (coll && s.guardHit a len op f) || (shard && streamPart op f)
  let t := if coll then { s with ctxs := s.ctxs.map (fun e => (e.1, e.2.blur a len)) } else s
  if coll || shard then t.blurFrames hit else t

/-- Whether a write is a collective engine's own, the exception of R313. -/
def WriteBy.engine : WriteBy → Bool
  | .ctx _ => true
  | _ => false

/-- The valid Wake entries, as ranges of HBM (Table 13-7). -/
def State.wakeRanges (s : State) : List (Nat × Nat) :=
  ((List.range 64).map (fun i => s.obj (Obj.WAKE_ENTRY i))).filterMap (fun e =>
    if bit e 54 then some (bits e 23 0 * 65536, bits e 39 24 * 65536) else none)

/-- Whether a write range meets a Wake entry that the module's own units may only read (R348). -/
def State.wakeReadOnly (s : State) (a n : Nat) : Bool :=
  let st := s.obj Obj.STEP_STATE
  decide (2 ≤ st) && decide (st ≤ 7) && s.wakeRanges.any (fun r => rangesMeet r.1 r.2 a n)

/-- A write of bytes at a local address of HBM or of a scratchpad window. One that meets a mark counts as one stalled write (R230); one of
the module's own units into a Wake entry that is read-only to them has no effect but its count (R348, log 53). -/
def State.write (s : State) (who : WriteBy) (a : Nat) (l : List Byte) : State :=
  if who = .unit ∧ s.wakeReadOnly (s.home a) l.length then s.count 32 Obj.WAKE_REFUSALS 1 else
  let ps := pagePieces (l.length / 65536 + 2) (s.home a) l
  let s := s.disturb who.engine (s.home a) l.length
  let s := if s.obj Obj.CBW_ACTIVE = 1 ∧ s.home a < 0xC000000000 then ps.foldl (fun t p => t.checkMark (p.1 / 65536)) s else s
  let s := if ps.any (fun p => s.meetsMark p.1) then s.count 64 Obj.CBW_STALLS 1 else s
  ps.foldl (State.writePiece who) s

/-- A held write that nothing holds any longer is performed; the longest stall by a mark is kept (R230), and a context that waits
for its writes is tested. -/
def State.resubmit (s : State) (h : HeldWrite) : State :=
  if s.writeStalls h.who h.addr h.bytes.length then { s with held := s.held ++ [h] }
  else
    let s := s.writeNow h.addr h.bytes
    let s := if h.met then s.setObj Obj.CBW_STALL_MAX_NS (max (s.obj Obj.CBW_STALL_MAX_NS) (min (2 ^ 32 - 1) (s.now - h.since))) else s
    match h.who with
    | .ctx n => s.post (.context n)
    | _ => s

/-- Every held write that nothing holds any longer performed, in order. -/
def State.releaseHeld (s : State) : State := s.held.foldl State.resubmit { s with held := [] }

/-- Bytes at a home address as a requester's own writes leave them, those that still wait among them (R181, R200). -/
def State.overlay (s : State) (who : WriteBy) (a : Nat) (l : List Byte) : List Byte :=
  (s.held.filter (fun h => h.who == who)).foldl (fun l h =>
    l.zipIdx.map (fun (b, i) =>
      if h.addr ≤ a + i ∧ a + i < h.addr + h.bytes.length then h.bytes.getD (a + i - h.addr) b else b)) l

/-- Several writes in order. -/
def State.writes (s : State) (who : WriteBy) (l : List (Nat × List Byte)) : State :=
  l.foldl (fun t w => t.write who w.1 w.2) s

/-- Whether a requester still has a write waiting. -/
def State.writeWaits (s : State) (who : WriteBy) : Bool := s.held.any (fun h => h.who == who)

/-- Whether a write of a device's frames waits. -/
def State.frameWaits (s : State) (dev : Nat) : Bool :=
  s.held.any (fun h => match h.who with | .frame d _ => d == dev | _ => false)

/-! ### The step flag (R118–R121) -/

/-- A core's unit reports non-finite: source 0 drain, 1 NFD, 2 top-k, 3 sign (R118, R120, R121). -/
def State.reportNonFinite (s : State) (core source : Nat) : State :=
  let w := s.obj Obj.STEP_NF
  let s := s.count 32 (Obj.NF_REPORTS core) 1
  let s := if bit w 0 || bit w 2 then s else s.setObj Obj.NF_FIRST (s.chr + core * 2 ^ 64 + source * 2 ^ 72)
  if bit w 1 then
    let first := !bit w 2
    let s := (s.raise Obj.STEP_NF 4).logEvent .nfAfterSeal 0 (srcCode 1 core) (s.sliceOfCore core) source
    if first then s.post (.stepFail 2 0) else s
  else s.raise Obj.STEP_NF 1

/-! ### Flags (R53, R54) -/

/-- The flags of an operation set in a core's ARITH_FLAGS (R53). -/
def State.setFlags (s : State) (core : Nat) (f : AFlags) : State := s.raise (Obj.ARITH_FLAGS core) f.word

/-- One event of R54: each counter whose condition occurred rises by 1. -/
def State.flagEvent (s : State) (core : Nat) (f : AFlags) : State :=
  let s := if f.inv then s.count 32 (Obj.INV_EVENTS core) 1 else s
  let s := if f.ovf then s.count 32 (Obj.OVF_EVENTS core) 1 else s
  if f.ufl then s.count 32 (Obj.UFL_EVENTS core) 1 else s

end Sys2Proof.Machine
end

