-- ==== Sys2Proof/Machine/CoreFault.lean ====
section
/-! DEFINITION. A core's fault (R162), what it abandons (R159), and undefined results with their containment (R161). -/

namespace Sys2Proof.Machine

/-- A core with its queued and running operations abandoned (R159, R162): writes already made stand. -/
def Core.abandon (c : Core) : Core :=
  { c with
    resets := c.resets + 1, lda := [], matQ := [], vecQ := [], dmaQ0 := [], dmaQ1 := [], rel := [], remote := 0, demand := none, ahead := [],
    hold := .none, loops := [], dma0 := [], dma1 := [], layer := .none
    array := { c.array with tile := none, drain := [] }
    vec := { c.vec with link := none, gate := none, running := [] } }

/-- The waiters of a core and its waiting writes dropped. -/
def State.dropWaits (s : State) (core : Nat) : State :=
  { s with
    waiters := s.waiters.filter (fun w => w.core != core)
    held := s.held.filter (fun h => match h.who with | .dma c _ _ => c != core | .layer c => c != core | _ => true) }

/-- FAULT_RECORD (Table 5-12). -/
def faultRecord (time pc code cause slot addr gen : Nat) : Nat :=
  time % 2 ^ 64 + pc % 2 ^ 48 * 2 ^ 64 + code % 2 ^ 16 * 2 ^ 112 + cause % 256 * 2 ^ 128 + slot % 256 * 2 ^ 136 +
    addr % 2 ^ 48 * 2 ^ 144 + gen % 2 ^ 32 * 2 ^ 192

/-- The counter that a cause raises (Tables 5-13, 6-8, R246). -/
def causeCounter (core cause : Nat) : Nat :=
  match cause with
  | 1 => Obj.FETCH_FAULTS core
  | 5 => Obj.WATCHDOG_PARKS core
  | 6 => Obj.WATCHDOG_PARKS core
  | 8 => Obj.LAYER_FAULTS core
  | 9 => Obj.WP_ERR_PARKS
  | _ => Obj.ILLEGAL_PARKS core

/-- A Waypoint operation that a core's unit or rule asks for. -/
def State.postCoreWp (s : State) (core wp : Nat) (k : WpKind) : State :=
  s.post (.wp { asker := .core core 0xFF, slice := s.sliceOfCore core, wp, kind := k })

/-- A fault parks a core (R162): it stops issuing, abandons its operations, writes FAULT_RECORD, is logged, raises the
counter of its cause, and LAUNCH_WP receives an error completion with the fault's code. -/
def State.faultPark (s : State) (core cause code slot addr gen : Nat) : State :=
  let c := s.core core
  let s := (s.setCore core c.abandon).dropWaits core
  let s := s.setObj (Obj.FAULT_RECORD core) (faultRecord s.chr c.pc code cause slot addr gen)
  let s := s.setCoreSt core .parkedFault
  let s := s.logEvent .coreFault code (srcCode 1 core) (s.sliceOfCore core) cause
  let s := s.count 32 (causeCounter core cause) 1
  s.postCoreWp core (s.obj (Obj.LAUNCH_WP core)) (.error code)

/-- A core's access outside its slice (R161): logged, and the core parks with cause 7. -/
def State.outOfSlice (s : State) (core slot addr : Nat) : State :=
  (s.coreViolation core addr).faultPark core 7 0x0801 slot addr 0

/-- One write of an undefined result: performed where the core's slice owns the byte (R161). -/
def undefWrite (slice : Nat) (s : State) (w : Nat × Byte) : State :=
  if s.checkRange slice w.1 1 = 0 then s.write .unit w.1 [w.2] else s

/-- One Waypoint add of an undefined result: performed where the core's slice owns the group (R161). -/
def undefAdd (core slice : Nat) (s : State) (w : Nat × Nat) : State :=
  let wp := w.1 % 16384
  if slice ≠ 0xFFFF ∧ s.wpOwner wp = slice then s.postCoreWp core wp (.add (w.2 % 2 ^ 64)) else s

/-- A core's tile buffers hold free values from now on (R93, R161). -/
def State.tilesFree (s : State) (core : Nat) : State :=
  let s := s.setCore core { s.core core with tiles := s.free }
  { s with tb := Sparse.eraseRange s.tb (core * 4 * 65536) (4 * 65536), free := s.free + 1 }

/-- An undefined result of a core's operation: free values where its slice and its tile buffers reach, the core's own flags, and
perhaps an access at an address outside the slice, which is dropped, logged and parks the core (R161, R40, log 12). -/
def State.undefinedResult (s : State) (core : Nat) : State :=
  let s := s.tilesFree core
  let (n, s) := s.fresh
  let slice := s.sliceOfCore core
  let s := (Config.undefWrites n).foldl (undefWrite slice) s
  let s := (Config.undefAdds n).foldl (undefAdd core slice) s
  let s := s.raise (Obj.ARITH_FLAGS core) (Config.freeNat n % 8)
  match Config.undefOutside n with
  | some a => if s.checkRange slice a 1 = 0x0801 then s.outOfSlice core 0xFF a else s
  | none => s

/-- A core whose progress watchdog starts from 0 (R163, R184). -/
def Core.fed (c : Core) : Core := { c with wdog := 0 }

/-- A unit of the core advances: in layer-descriptor mode the progress watchdog clears (R184); a program clears it only by issuing
(R163). -/
def State.progressed (s : State) (core : Nat) : State :=
  if (s.core core).layer = .none then s else s.setCore core (s.core core).fed

/-- Elements of a stream of codes in memory: element `i` of width `w` bits from a bit offset, little-endian (R28, R29). -/
def unpackElems (w : Nat) (n : Nat) (l : List Byte) : List Nat :=
  let v := leNat l
  (List.range n).map (fun i => bits v (w * i + w - 1) (w * i))

/-- Stored element codes as the value of their bytes, the first element lowest (R28, R29). -/
def packElems (w : Nat) : List Nat → Nat
  | [] => 0
  | c :: r => c % 2 ^ w + 2 ^ w * packElems w r

/-- The code of a stored element (R29: an E8M10 container keeps its value in bits [31:13]). -/
def Fmt.fromStored (f : Fmt) (c : Nat) : Nat := if f = .e8m10 then c >>> 13 else c

/-- The stored form of an element's code. -/
def Fmt.toStored (f : Fmt) (c : Nat) : Nat := if f = .e8m10 then c <<< 13 else c

/-- The bytes that `n` elements take. -/
def Fmt.bytesFor (f : Fmt) (n : Nat) : Nat := ceilDiv (f.storeBits * n) 8

/-- The bytes of element codes; the bits of a last byte that no element takes stay as `old` has them. -/
def Fmt.pack (f : Fmt) (codes : List Nat) (old : List Byte) : List Byte :=
  let nb := f.storeBits * codes.length
  let v := packElems f.storeBits (codes.map f.toStored)
  leBytes (ceilDiv nb 8) (v + (leNat old >>> nb) <<< nb)

/-- Element codes from bytes. -/
def Fmt.unpack (f : Fmt) (n : Nat) (l : List Byte) : List Nat := (unpackElems f.storeBits n l).map f.fromStored

end Sys2Proof.Machine
end

