-- ==== Sys2Proof/Machine/Lanes.lean ====
section
/-! DEFINITION. The lane generators of a vector engine (R109–R113). -/

namespace Sys2Proof.Machine

/-- One step of a lane (R109). -/
def laneStep (v : Nat) : Nat := (v + 0x9E3779B97F4A7C15) % 2 ^ 64

/-- The output of a state (R109). -/
def laneOut (v : Nat) : Nat :=
  let z := (v ^^^ (v >>> 30)) * 0xBF58476D1CE4E5B9 % 2 ^ 64
  let z := (z ^^^ (z >>> 27)) * 0x94D049BB133111EB % 2 ^ 64
  z ^^^ (z >>> 31)

/-- A lane's state: an unlisted lane holds what the entropy source gave it (R110). -/
def State.lane (s : State) (core i : Nat) : Nat :=
  let v := (s.core core).vec
  Sparse.get (Config.laneEntropy v.loadNo core) v.lanes i % 2 ^ 64

/-- A draw from a lane: in stepped mode the lane steps once and gives its output; in free-running mode the output depends on
timing and is a free value (R110, R111). -/
def State.draw (s : State) (core i : Nat) : Nat × State :=
  let c := s.core core
  if c.vec.stepped then
    let v := laneStep (s.lane core i)
    let lanes := Sparse.set (Config.laneEntropy c.vec.loadNo core) c.vec.lanes i v
    (laneOut v, s.setCore core { c with vec := { c.vec with lanes } })
  else
    let (n, s) := s.fresh
    (Config.laneDraw n % 2 ^ 64, s)

/-- The state a lane takes in stepped mode (R111). -/
def steppedLane (seed step dev rank lane : Nat) : Nat :=
  (seed ^^^ (step % 2 ^ 35 * 2 ^ 29 + dev % 2 ^ 14 * 2 ^ 15 + rank % 2 ^ 7 * 2 ^ 8 + lane % 2 ^ 8)) % 2 ^ 64

/-- The lanes of a core loaded under the mode, seed and rank in force: at a core reset and, in stepped mode, at every step advance
and when the mode becomes stepped (R110, R111). -/
def State.loadLanes (s : State) (core : Nat) : State :=
  let c := s.core core
  if c.vec.stepped then
    let f := steppedLane c.vec.seed (s.obj Obj.STEP_NUM) s.selfId c.vec.rank
    let lanes := Sparse.setRun (Config.laneEntropy c.vec.loadNo core) [] 0 ((List.range 256).map f)
    s.setCore core { c with vec := { c.vec with lanes } }
  else
    s.setCore core { c with vec := { c.vec with lanes := [], loadNo := c.vec.loadNo + 1 } }

/-- What a step advance does to a core's lanes (R111): what RNG_MODE, RNG_SEED and RNG_RANK hold takes effect, and stepped lanes are
loaded. -/
def State.stepLanes (s : State) (core : Nat) : State :=
  let c := s.core core
  let stepped := s.obj (Obj.RNG_MODE core) == 1
  let s := s.setCore core
    { c with vec := { c.vec with stepped, seed := s.obj (Obj.RNG_SEED core), rank := s.obj (Obj.RNG_RANK core) } }
  if stepped then s.loadLanes core else s

end Sys2Proof.Machine
end

