-- ==== Sys2Proof/Machine/Operands.lean ====
section
/-! DEFINITION. The operand forms of the array: the configuration words of Tables 2-6, 2-8, 3-2 and 5-7, their consistency
(R40, R46, R62), and the places of weights, operands and scales in scratchpad (R59, R60, R70, R71, R83, R504). -/

namespace Sys2Proof.Machine

/-- The configuration block of Table 5-7 and whether its fixed bits are as the table says. -/
def MatCfg.ofBytes (l : List Byte) : MatCfg × Bool :=
  let v := leNat l
  ({ arrcfg := bits v 31 0, opfmt := bits v 63 32, cvtctl := bits v 95 64, scaleOff := bits v 127 96,
     biasOff := bits v 159 128, outStride := bits v 191 160 }, bits v 255 192 == 0)

/-- The fields of ARRCFG (Table 3-2). -/
def MatCfg.mode (c : MatCfg) : Nat := bits c.arrcfg 1 0
def MatCfg.broadcast (c : MatCfg) : Bool := bit c.arrcfg 2
def MatCfg.chkEn (c : MatCfg) : Bool := bit c.arrcfg 3
def MatCfg.kCnt (c : MatCfg) : Nat := bits c.arrcfg 10 4 + 1
def MatCfg.nCnt (c : MatCfg) : Nat := bits c.arrcfg 20 11 + 1
def MatCfg.mT (c : MatCfg) : Nat := bits c.arrcfg 29 21 + 1

/-- The fields of OPFMT (Table 2-6). -/
def MatCfg.aFmt (c : MatCfg) : Nat := bits c.opfmt 3 0
def MatCfg.bFmt (c : MatCfg) : Nat := bits c.opfmt 7 4
def MatCfg.aSigned (c : MatCfg) : Bool := bit c.opfmt 8
def MatCfg.bSigned (c : MatCfg) : Bool := bit c.opfmt 9
def MatCfg.aMx (c : MatCfg) : Bool := bit c.opfmt 10
def MatCfg.bMx (c : MatCfg) : Bool := bit c.opfmt 11

/-- The fields of CVTCTL (Table 2-8). -/
def MatCfg.outFmt (c : MatCfg) : Nat := bits c.cvtctl 3 0
def MatCfg.rnd (c : MatCfg) : Nat := bits c.cvtctl 5 4
def MatCfg.clipSat (c : MatCfg) : Bool := bit c.cvtctl 6
def MatCfg.perColumn (c : MatCfg) : Bool := bit c.cvtctl 7
def MatCfg.biasEn (c : MatCfg) : Bool := bit c.cvtctl 8
def MatCfg.outSigned (c : MatCfg) : Bool := bit c.cvtctl 9

/-- The format of an operand code of OPFMT: the split's planes are BF16 (R36). -/
def operandFmt (code : Nat) : Fmt := if code = 0xF then .bf16 else .ofCode code

/-- Whether an operand format is an integer format. -/
def MatCfg.isInt (c : MatCfg) : Bool := (operandFmt c.aFmt).isInt

/-- The products per cell and cycle of an operand format's class (R38, R59). -/
def classW (f : Fmt) : Nat :=
  match f with
  | .e2m1 | .int4 => 4
  | .e4m3 | .e5m2 | .e3m2 | .e2m3 | .int8 => 2
  | _ => 1

/-- w of the operand pair: the wider operand's class (R38, R59). -/
def MatCfg.w (c : MatCfg) : Nat := min (classW (operandFmt c.aFmt)) (classW (operandFmt c.bFmt))

/-- K rows per array (Table 3-1). -/
def modeK (mode : Nat) : Nat := match mode with | 0 => 128 | 1 => 32 | _ => 16

/-- Arrays of a mode, and arrays per row band (Table 3-1). -/
def modeArrays (mode : Nat) : Nat := match mode with | 0 => 1 | 1 => 16 | _ => 64
def modePerBand (mode : Nat) : Nat := match mode with | 0 => 1 | 1 => 4 | _ => 8

/-- Logical columns per array. -/
def MatCfg.cols (c : MatCfg) : Nat := modeK c.mode * c.w

/-- Check groups per array (Table 3-1, R83). -/
def MatCfg.groups (c : MatCfg) : Nat := match c.mode with | 0 => 4 * c.w | 1 => c.w | _ => 0

/-- The largest M_T (Table 3-1). -/
def MatCfg.maxMT (c : MatCfg) : Nat := (match c.mode with | 0 => 512 | 1 => 128 | _ => 64) / c.w

/-- The tree depth (Table 3-1). -/
def modeDepth (mode : Nat) : Nat := match mode with | 0 => 7 | 1 => 5 | _ => 4

/-- R40. -/
def MatCfg.opfmtOk (c : MatCfg) : Bool :=
  let ok (f : Nat) : Bool := decide (f ∈ [0x1, 0x2, 0x5, 0x6, 0x7, 0x8, 0x9, 0xD, 0xE, 0xF])
  let int (f : Nat) : Bool := decide (f ∈ [0xD, 0xE])
  let mx (f : Nat) : Bool := decide (5 ≤ f) && decide (f ≤ 9)
  ok c.aFmt && ok c.bFmt && (int c.aFmt == int c.bFmt) && ((c.aFmt == 0xF) == (c.bFmt == 0xF)) &&
    (!c.aMx || mx c.aFmt) && (!c.bMx || mx c.bFmt)

/-- R46: the consistency of a CVTCTL word. -/
def cvtWordOk (w : Nat) : Bool :=
  decide (bits w 5 4 ≠ 3) && decide (bits w 3 0 ∈ [0, 1, 2, 3, 4, 5, 6, 7, 8, 9, 0xB, 0xD, 0xE])
def MatCfg.cvtOk (c : MatCfg) : Bool := cvtWordOk c.cvtctl

/-- R62. -/
def MatCfg.arrOk (c : MatCfg) : Bool :=
  decide (c.mode ≠ 3) && decide (c.kCnt ≤ modeK c.mode) && decide (c.nCnt ≤ c.cols) && decide (c.mT ≤ c.maxMT)

/-- A configuration that an operation of the array can run under: R40, R46, R62, and the rules of Table 5-7. -/
def MatCfg.ok (c : MatCfg) : Bool := c.opfmtOk && c.cvtOk && c.arrOk && decide (c.outStride % 64 = 0)

/-- Whether the drain tests checksums (Table 3-2, R83). -/
def MatCfg.checks (c : MatCfg) : Bool := c.chkEn && decide (c.mode ≠ 2)

/-- Bytes between grid rows of weights: 128w logical weights of B's format (R504). For a pair of mixed width, w is the pair's and this
formula and the figures that the rule lists for B's width alone differ; the model takes the formula (DESIGN CHOICE, log 25). -/
def MatCfg.pitchW (c : MatCfg) : Nat := (operandFmt c.bFmt).bytesFor (128 * c.w)

/-- The line pitch of A: 128 elements (R70, R71, Table 7-4). -/
def MatCfg.pitchA (c : MatCfg) : Nat := (operandFmt c.aFmt).bytesFor 128

/-- The skew of segment b (R70). -/
def skewOf (mode b : Nat) : Nat := match mode with | 0 => b | 1 => b % 2 | _ => 0

/-- The grid row of row k, and the grid column of column n, of an array (R504). -/
def gridRow (mode arr k : Nat) : Nat := arr / modePerBand mode * modeK mode + k
def MatCfg.gridCol (c : MatCfg) (arr n : Nat) : Nat := arr % modePerBand c.mode * c.cols + n

/-- The scale row of a grid row (R504). -/
def scaleRow (mode row : Nat) : Nat := if mode = 2 then row / 16 else row / 32

/-- The columns of a check group among the first `n` columns of an array (R83). -/
def MatCfg.groupCols (c : MatCfg) (g n : Nat) : List Nat :=
  ((List.range 32).map (fun i => c.w * (32 * (g / c.w) + i) + g % c.w)).filter (fun x => decide (x < n))

/-- A number of an exact value or an integer: what array operands carry. -/
inductive Num where
  | f (v : FVal)
  | i (v : Int)
  deriving DecidableEq, Repr

/-- An element of an operand under its scale (R33). -/
def operandValue (fmt : Fmt) (signed : Bool) (code : Nat) (scale : Option Nat) : Num :=
  if fmt.isInt then .i (fmt.decodeInt signed code)
  else match scale with
    | some e => .f ((fmt.decode code).mul (Fmt.e8m0.decode e))
    | none => .f (fmt.decode code)

/-- RND of a control word with its random bits. -/
def rndOf (rnd u : Nat) : Rnd := match rnd with | 0 => .rne | 1 => .rtz | _ => .sr (u % 65536)

end Sys2Proof.Machine
end

