-- ==== Sys2Proof/Machine/Array.lean ====
section
/-! DEFINITION. The matrix array (03): weight loads, streams, closes, the drain's conversion (R47) and the checksum test
(R84), and the commands MCFG, MWLD, CHECKSUM_WEIGHTS_READY, MSTR, MCLS, DRAIN and PORT_STARVATION_OVERRIDE. -/

namespace Sys2Proof.Machine

/-! ### The matrix queue -/

/-- The operation at the head of a core's matrix queue, if it is of this kind. -/
def Core.matHead (c : Core) (k : MatKind) : Option MatOp :=
  match c.matQ with
  | op :: _ => if op.kind = k then some op else none
  | [] => none

/-- A core with the head of its matrix queue taken and its array replaced. -/
def Core.matDone (c : Core) (a : ArrayUnit) : Core := { c with matQ := c.matQ.drop 1, array := a }

/-- An event of a core, beside the state without it: one that names a core beyond C103 is no event (log 2). -/
def withCore (s : State) (core : Nat) (o : Out) : Out := if core < 104 then o else .next s

/-- MCFG (R142, R63): the block at the head of the queue becomes the pending configuration at once. A block whose fixed bits
are set, or that lies beyond the scratchpad, has an undefined result (R142, R161). -/
def doMcfg (core : Nat) (s : State) : Out :=
  withCore s core <|
    match (s.core core).matHead .mcfg with
    | none => .next s
    | some op =>
      let c := s.core core
      if spSize < op.off + 32 then
        .next (((s.setCore core (c.matDone c.array)).progressed core).undefinedResult core)
      else
        let (cfg, ok) := MatCfg.ofBytes (s.spBytes core op.off 32)
        let s := (s.noteRead 0 (spBase core + op.off) 32).setCore core (c.matDone { c.array with pend := cfg })
        let s := s.progressed core
        .next (if ok then s else s.undefinedResult core)

/-! ### Weight loads (R64, R65, R504) -/

/-- The grid rows a load takes, each with its array and row within the array, and the columns of the array. -/
def MatCfg.loadCells (c : MatCfg) : List (Nat × Nat) :=
  (List.range (modeArrays c.mode)).flatMap (fun a => (List.range c.kCnt).map (fun k => (a, k)))

/-- The code of the weight at (array, row, column) as the load reads it from scratchpad (R504). -/
def weightAt (s : State) (core off : Nat) (c : MatCfg) (a k n : Nat) : Nat :=
  let f := operandFmt c.bFmt
  let w := f.storeBits
  let e := c.gridCol a n
  let bitOff := w * e
  let v := leNat (s.spBytes core (off + gridRow c.mode a k * c.pitchW + bitOff / 8) 4)
  bits v (bitOff % 8 + w - 1) (bitOff % 8)

/-- The scale code of the weight at (array, row, column) (R504). -/
def weightScaleAt (s : State) (core soff : Nat) (c : MatCfg) (a k n : Nat) : Nat :=
  leNat (s.spBytes core (soff + scaleRow c.mode (gridRow c.mode a k) * (128 * c.w) + c.gridCol a n) 1)

/-- The last byte that a load reads of its weight grid, and of its scales. -/
def MatCfg.loadEnd (c : MatCfg) (off : Nat) : Nat :=
  let arr := modeArrays c.mode - 1
  off + gridRow c.mode arr (c.kCnt - 1) * c.pitchW +
    ceilDiv ((operandFmt c.bFmt).storeBits * (c.gridCol (modePerBand c.mode - 1) (c.nCnt - 1) + 1)) 8

def MatCfg.scaleEnd (c : MatCfg) (soff : Nat) : Nat :=
  soff + scaleRow c.mode (gridRow c.mode (modeArrays c.mode - 1) (c.kCnt - 1)) * (128 * c.w) +
    c.gridCol (modePerBand c.mode - 1) (c.nCnt - 1) + 1

/-- A bank after a load: the cells of the load's counts replaced, the others as they were. -/
def loadBank (s : State) (core : Nat) (op : MatOp) (c : MatCfg) (b : Bank) : Bank :=
  let cells := c.loadCells.flatMap (fun (a, k) => (List.range c.nCnt).map (fun n => (a, k, n)))
  let w := cells.foldl (fun m (a, k, n) =>
    Sparse.set (fun _ => 0) m (gridRow c.mode a k * 512 + c.gridCol a n) (weightAt s core op.off c a k n)) b.w
  let sc := if c.bMx then cells.foldl (fun m (a, k, n) =>
      Sparse.set (fun _ => 0) m (scaleRow c.mode (gridRow c.mode a k) * 512 + c.gridCol a n)
        (weightScaleAt s core op.soff c a k n)) b.sc
    else b.sc
  { loaded := true, cfg := c, mode := c.mode, bfmt := c.bFmt, bmx := c.bMx, kcnt := c.kCnt, ncnt := c.nCnt, undef := false,
    w, sc, wk := [], vk := [] }

/-- What a weight load reads: of each grid row the elements of the columns loaded, and of each scale row their scale bytes (R504). -/
def MatCfg.loadSpans (c : MatCfg) (base sbase : Nat) : List (Nat × Nat) :=
  let w := (operandFmt c.bFmt).storeBits
  let row (q : Nat × Nat) : Nat × Nat :=
    let lo := w * c.gridCol q.1 0 / 8
    (base + gridRow c.mode q.1 q.2 * c.pitchW + lo, ceilDiv (w * (c.gridCol q.1 (c.nCnt - 1) + 1)) 8 - lo)
  let scales (q : Nat × Nat) : Nat × Nat := (sbase + scaleRow c.mode (gridRow c.mode q.1 q.2) * (128 * c.w) + c.gridCol q.1 0, c.nCnt)
  c.loadCells.map row ++ (if c.bMx then c.loadCells.map scales else [])

/-- MWLD (R64): fills the shadow bank under the pending configuration. The checksum weights follow 12 cycles after
(CHECKSUM_WEIGHTS_READY). -/
def doMwld (core : Nat) (s : State) : Out :=
  withCore s core <|
    match (s.core core).matHead .mwld with
    | none => .next s
    | some op =>
      let c := s.core core
      let cfg := c.array.pend
      if cfg.opfmtOk && cfg.arrOk && decide (cfg.loadEnd op.off ≤ spSize) && (!cfg.bMx || decide (cfg.scaleEnd op.soff ≤ spSize)) then
        let bank := loadBank s core op cfg c.array.shadow
        let s := s.noteSpans 0 (cfg.loadSpans (spBase core + op.off) (spBase core + op.soff))
        let s := s.setCore core (c.matDone { c.array with shadow := bank, fresh := true, ready := false })
        .next (s.progressed core)
      else
        let bank := { c.array.shadow with loaded := true, undef := true }
        let s := s.setCore core (c.matDone { c.array with shadow := bank, fresh := true, ready := false })
        .next ((s.progressed core).undefinedResult core)

/-- The value of the weight in a bank at (array, row, column), under configuration `c`: a stream reads its integer weights by its
tile's B_SIGNED, the loader's checksum weights by the load's (log 24). -/
def Bank.value (b : Bank) (c : MatCfg) (a k n : Nat) : Num :=
  let r := gridRow c.mode a k
  let e := c.gridCol a n
  let code := Sparse.get (fun _ => 0) b.w (r * 512 + e)
  operandValue (operandFmt c.bFmt) c.bSigned code
    (if c.bMx then some (Sparse.get (fun _ => 0) b.sc (scaleRow c.mode r * 512 + e)) else none)

/-- The magnitude of a number. -/
def Num.abs : Num → Num
  | .f v => .f v.abs
  | .i v => .i v.natAbs

/-- The sum of numbers, exact. -/
def Num.sum : List Num → Num
  | [] => .i 0
  | [x] => x
  | x :: r =>
    match x, Num.sum r with
    | .f a, .f b => .f (a.add b)
    | .i a, .i b => .i (a + b)
    | x, _ => x

/-- A checksum weight as it is stored: rounded once to FP32 by RNE, or the exact 64-bit integer (R64). -/
def Num.weightCode : Num → Nat
  | .f v => code32 (round32 v).1
  | .i v => ofSigned 64 v

/-- w_k and v_k of row k of a check group over the first `n` columns (R64, R76). -/
def Bank.checkWeights (b : Bank) (c : MatCfg) (a k g n : Nat) : Nat × Nat :=
  let vals := (c.groupCols g n).map (b.value c a k)
  ((Num.sum vals).weightCode, (Num.sum (vals.map Num.abs)).weightCode)

/-- A bank with its checksum weights formed (R64, R65). -/
def Bank.formed (b : Bank) (c : MatCfg) : Bank :=
  let rows := c.loadCells.flatMap (fun (a, k) => (List.range c.groups).map (fun g => (a, k, g)))
  let key (a k g : Nat) : Nat := (a * 128 + k) * 16 + g
  { b with
    wk := rows.foldl (fun m (a, k, g) => Sparse.set (fun _ => 0) m (key a k g) (b.checkWeights c a k g c.nCnt).1) []
    vk := rows.foldl (fun m (a, k, g) => Sparse.set (fun _ => 0) m (key a k g) (b.checkWeights c a k g c.nCnt).2) [] }

/-- CHECKSUM_WEIGHTS_READY (R65): the checksum weights of the load in the shadow bank are complete, formed under the configuration
that the load ran under (R63, R64). -/
def execChecksumWeightsReady (core : Nat) (s : State) : Out :=
  withCore s core <|
    let c := s.core core
    if c.array.fresh && !c.array.ready then
      let shadow := if c.array.shadow.undef then c.array.shadow else c.array.shadow.formed c.array.shadow.cfg
      .next ((s.setCore core { c with array := { c.array with shadow, ready := true } }).progressed core)
    else .next s

/-! ### Streams (R66, R70–R79) -/

/-- The code of element `e` of A row `m`, from the skewed or the plain layout (R70, R71). -/
def operandAt (s : State) (core off : Nat) (c : MatCfg) (m e : Nat) : Nat :=
  let f := operandFmt c.aFmt
  let w := f.storeBits
  let line := if c.broadcast then m else m + skewOf c.mode (e / 16)
  let bitOff := w * e
  let v := leNat (s.spBytes core (off + line * c.pitchA + bitOff / 8) 4)
  bits v (bitOff % 8 + w - 1) (bitOff % 8)

/-- The value of element `e` of A row `m` under its scale: 4 B of scales per row (R33, R197). -/
def operandNum (s : State) (core : Nat) (op : MatOp) (c : MatCfg) (m e : Nat) : Num :=
  operandValue (operandFmt c.aFmt) c.aSigned (operandAt s core op.off c m e)
    (if c.aMx then some (leNat (s.spBytes core (op.soff + 4 * m + e / 32) 1)) else none)

/-- The end of the bytes that a stream may read. -/
def MatCfg.streamEnd (c : MatCfg) (off : Nat) : Nat :=
  let bands := modeArrays c.mode / modePerBand c.mode
  let e := (bands - 1) * modeK c.mode + c.kCnt - 1
  let line := c.mT - 1 + (if c.broadcast then 0 else skewOf c.mode (e / 16))
  off + line * c.pitchA + (operandFmt c.aFmt).bytesFor (e + 1)

/-- A product leaf with the flags it raises (R41, Table 2-7). -/
def leaf (a b : FVal) : FVal × AFlags :=
  match a.mul b with
  | .nan => (.nan, .i)
  | p => roundFlush p

/-- A node of the summation tree (R77). -/
def treeNode (a b : FVal) : FVal × AFlags :=
  match a.add b with
  | .nan => (.nan, .i)
  | p => roundFlush p

/-- A node of a tree that keeps gradual underflow and raises nothing (R78, R84). -/
def quietNode (a b : FVal) : FVal × AFlags := ((round32 (a.add b)).1, .none)

/-- One level of a tree: adjacent pairs; a masked input passes its partner through (R75, R77). -/
def treeLevel (node : FVal → FVal → FVal × AFlags) : List (Option FVal) → List (Option FVal) × AFlags
  | a :: b :: r =>
    let (l, f) := treeLevel node r
    match a, b with
    | some x, some y => let (v, g) := node x y; (some v :: l, f.or g)
    | some x, none => (some x :: l, f)
    | none, y => (y :: l, f)
  | l => (l, .none)

/-- The balanced tree over leaves, `d` levels deep (R77). -/
def tree (node : FVal → FVal → FVal × AFlags) : Nat → List (Option FVal) → Option FVal × AFlags
  | 0, l => (l.head?.join, .none)
  | d + 1, l =>
    let (l', f) := treeLevel node l
    let (v, g) := tree node d l'
    (v, f.or g)

/-- The flags of several results. -/
def AFlags.all : List AFlags → AFlags
  | [] => .none
  | f :: r => f.or (AFlags.all r)

/-- The leaves of a column, masked at or beyond K_CNT (R75), up to the array's K rows. -/
def maskedLeaves (rows : Nat) (l : List FVal) : List (Option FVal) :=
  l.map some ++ List.replicate (rows - l.length) none

/-- A K-step result of a floating-point column and its flags. -/
def columnStep (mode : Nat) (as bs : List FVal) : FVal × AFlags :=
  let leaves := List.zipWith leaf as bs
  let (v, f) := tree treeNode (modeDepth mode) (maskedLeaves (modeK mode) (leaves.map (·.1)))
  (v.getD (.fin false 0 1), f.or (AFlags.all (leaves.map (·.2))))

/-- The magnitude tree of a check group: leaves |a| × v, gradual underflow, no flag (R78). -/
def magnitudeStep (mode : Nat) (as vs : List FVal) : FVal :=
  let leaves := List.zipWith (fun a v => (round32 (a.abs.mul v)).1) as vs
  ((tree quietNode (modeDepth mode) (maskedLeaves (modeK mode) leaves)).1).getD (.fin false 0 1)

/-- The compensated accumulation of R79; `none` opens the accumulator. Where finite sum and x round to an infinity, the exact d is a
finite number less that infinity, so that err becomes the infinity of the other sign (Table 2-7) and the drain finds NaN (R47; log 20,
DEDUCED). -/
def accumulate (old : Option (Nat × Nat)) (x : FVal) : Nat × Nat × AFlags :=
  match old with
  | none => (code32 x, 0, .none)
  | some (sc, ec) =>
    let sum := val32 sc
    let err := val32 ec
    if sum.nonFinite || x.nonFinite then
      match sum.add x with
      | .nan => (Fmt.fp32.nanCode, 0, .i)
      | v => (code32 v, 0, .none)
    else
      let t := sum.add x
      let (s1, f1) := roundFlush t
      let (e1, f2) := roundFlush (err.add (t.add s1.neg))
      (code32 s1, code32 e1, f1.or f2)

/-- The K-step of one output row of one array: the columns' accumulators and the check groups'. -/
structure StepRow where
  accs  : List Acc
  chks  : List ChkAcc
  flags : AFlags

/-- An INT32 accumulation, clipped with OVF (R35). -/
def accumulateInt (old x : Int) : Int × Bool :=
  let t := old + x
  if t < -2147483648 then (-2147483648, true) else if 2147483647 < t then (2147483647, true) else (t, false)

/-- The floating-point values of numbers. -/
def Num.floats (l : List Num) : List FVal := l.map (fun n => match n with | .f v => v | .i v => .ofInt v)

/-- The integers of numbers. -/
def Num.ints (l : List Num) : List Int := l.map (fun n => match n with | .i v => v | .f _ => 0)

/-- Σ a_k b_k of integers. -/
def dot (a b : List Int) : Int := (List.zipWith (· * ·) a b).foldl (· + ·) 0

/-- One accumulator takes a K-step. -/
def accStep (c : MatCfg) (old : Option Acc) (as bs : List Num) : Acc × AFlags :=
  if c.isInt then
    let (v, clip) := accumulateInt ((old.map (·.int)).getD 0) (dot (Num.ints as) (Num.ints bs))
    ({ sum := 0, err := 0, int := v, clip := clip || (old.map (·.clip)).getD false }, { ovf := clip })
  else
    let (x, f) := columnStep c.mode (Num.floats as) (Num.floats bs)
    let (s, e, g) := accumulate (old.map (fun a => (a.sum, a.err))) x
    ({ sum := s, err := e, int := 0, clip := false }, f.or g)

/-- One checksum accumulator takes a K-step: `wv` are w_k and v_k by row (R78, R84, R85). -/
def chkStep (c : MatCfg) (old : Option ChkAcc) (as : List Num) (wv : List (Nat × Nat)) : ChkAcc × AFlags :=
  if c.isInt then
    ({ sum := 0, err := 0, mag := 0,
       int := toSigned 64 (ofSigned 64 ((old.map (·.int)).getD 0 + dot (Num.ints as) (wv.map (fun p => toSigned 64 p.1)))) },
     .none)
  else
    let av := Num.floats as
    let (x, f) := columnStep c.mode av (wv.map (fun p => val32 p.1))
    let m := magnitudeStep c.mode av (wv.map (fun p => val32 p.2))
    let (s, e, g) := accumulate (old.map (fun a => (a.sum, a.err))) x
    let mag := match old with | none => m | some o => (round32 ((val32 o.mag).add m)).1
    ({ sum := s, err := e, mag := code32 mag, int := 0 }, f.or g)

/-- w_k and v_k of a row over the tile's unmasked columns: those stored with the bank, or, for a tile of fewer columns,
those of its columns (R76, R505), formed under the tile's configuration. Where the load's pair had another class w, the stored ones stand
by their group's number (DESIGN CHOICE, log 24). -/
def Bank.rowWeights (b : Bank) (c : MatCfg) (a g k : Nat) : Nat × Nat :=
  if !b.loaded then (0, 0)
  else if b.ncnt = c.nCnt then
    (Sparse.get (fun _ => 0) b.wk ((a * 128 + k) * 16 + g), Sparse.get (fun _ => 0) b.vk ((a * 128 + k) * 16 + g))
  else b.checkWeights c a k g c.nCnt

/-- The tile's accumulators after a stream (R66, R77–R79): arrays, then rows, then columns or check groups. `row a m` are the
K operand values of A row m for array a. With CHK_EN = 0 no checksum column is formed, and none raises a flag (log 21). -/
def streamTile (c : MatCfg) (b : Bank) (t : Tile) (row : Nat → Nat → List Num) : Tile :=
  let ks := List.range c.kCnt
  let places := (List.range (modeArrays c.mode)).flatMap (fun a => (List.range c.mT).map (fun m => (a, m)))
  let weights (a n : Nat) : List Num := ks.map (fun k => b.value c a k n)
  let groups := if c.checks then (List.range c.groups).filter (fun g => !(c.groupCols g c.nCnt).isEmpty) else []
  let old (i : Nat) : Option Acc := if t.steps = 0 then none else t.accs[i]?
  let oldC (i : Nat) : Option ChkAcc := if t.steps = 0 then none else t.chks[i]?
  let accs := places.flatMap (fun (a, m) => (List.range c.nCnt).map (fun n =>
    accStep c (old ((a * c.mT + m) * c.nCnt + n)) (row a m) (weights a n)))
  let chks := places.flatMap (fun (a, m) => groups.zipIdx.map (fun (g, j) =>
    chkStep c (oldC ((a * c.mT + m) * groups.length + j)) (row a m) (ks.map (b.rowWeights c a g))))
  { t with
    accs := accs.map (·.1), chks := chks.map (·.1), steps := t.steps + 1
    flags := t.flags.or ((AFlags.all (accs.map (·.2))).or (AFlags.all (chks.map (·.2)))) }

/-- Whether a bank's weights are consistent with a tile (R505); the reset weights are consistent with every tile. -/
def Bank.fits (b : Bank) (c : MatCfg) : Bool :=
  !b.loaded || (!b.undef && b.mode == c.mode && b.bfmt == c.bFmt && b.bmx == c.bMx &&
    decide (c.kCnt ≤ b.kcnt) && decide (c.nCnt ≤ b.ncnt))

/-- Whether the stream at the head of the queue can start (R65, R67): its weights are ready, and a tile it opens finds an
accumulator half. -/
def ArrayUnit.canStream (a : ArrayUnit) : Bool :=
  (!a.fresh || a.ready) && (a.tile.isSome || decide (a.drain.length ≤ 1))

/-- The array as a stream step finds it: freshly loaded weights become the active bank, and a new tile takes the next number
(R62, R68). -/
def ArrayUnit.turned (a : ArrayUnit) : ArrayUnit :=
  let a := if a.fresh then { a with active := a.shadow, shadow := a.active, fresh := false, ready := false } else a
  if a.tile.isSome then a else { a with seq := (a.seq + 1) % 2 ^ 32 }

/-- The tile in progress, or the tile that a stream step opens with the pending configuration. -/
def ArrayUnit.openTile (a : ArrayUnit) : Tile :=
  a.tile.getD { seq := a.seq, cfg := a.pend, accs := [], chks := [], steps := 0, flags := .none, undef := false }

/-- Whether a stream step's result is defined: configuration, weights and addresses are as the rules ask. -/
def streams (op : MatOp) (a : ArrayUnit) (t : Tile) : Bool :=
  let cfg := t.cfg
  !t.undef && cfg.ok && a.active.fits cfg && decide (cfg.streamEnd op.off ≤ spSize) && (!cfg.aMx || decide (op.soff + 4 * cfg.mT ≤ spSize))

/-- A stream step: the rows stream through the weights into the tile's accumulators. The flags that this step raises are set, and
kept with the tile for its event at the drain (R53, R81). STREAM_CYCLES takes M_T, or 8 × M_T in broadcast (log 22); the bubbles that
contention inserts are a free number (R73, log 23). -/
def State.streamStep (s : State) (core : Nat) (op : MatOp) (a : ArrayUnit) (t : Tile) : State :=
  let cfg := t.cfg
  let row (arr m : Nat) : List Num := (List.range cfg.kCnt).map (fun k => operandNum s core op cfg m (gridRow cfg.mode arr k))
  let t' := streamTile cfg a.active { t with flags := .none } row
  let c := s.core core
  let s := s.noteRead 0 (spBase core + op.off) (cfg.streamEnd op.off - op.off)
  let s := if cfg.aMx then s.noteRead 0 (spBase core + op.soff) (4 * cfg.mT) else s
  let s := s.setCore core (c.matDone { a with tile := some { t' with flags := t.flags.or t'.flags } })
  let s := (s.setFlags core t'.flags).count 64 (Obj.STREAM_CYCLES core) (if cfg.broadcast then 8 * cfg.mT else cfg.mT)
  let s := s.countFree 64 (Obj.BUBBLE_CYCLES core) 0
  s.progressed core

/-- MSTR (R66): swaps in fresh weights, opens or continues a tile and runs one K-step. A feeder that is held counts the cycles
that it is held, at least one (R74, log 23). -/
def doMstr (core : Nat) (s : State) : Out :=
  withCore s core <|
    match (s.core core).matHead .mstr with
    | none => .next s
    | some op =>
      let c := s.core core
      let a := c.array
      if a.fresh && !a.ready then .next (s.countFree 64 (Obj.WEIGHT_STALL_CYCLES core) 1)
      else if !a.canStream then .next (s.countFree 64 (Obj.DRAIN_STALL_CYCLES core) 1)
      else
        let a := a.turned
        let t := a.openTile
        if streams op a t then .next (s.streamStep core op a t)
        else
          let s := s.setCore core (c.matDone { a with tile := some { t with undef := true } })
          .next ((s.progressed core).undefinedResult core)

/-- MCLS (R67): passes the tile in progress to the drain; without one it completes at once and has no effect. -/
def execMcls (core : Nat) (s : State) : Out :=
  withCore s core <|
    match (s.core core).matHead .mcls with
    | none => .next s
    | some op =>
      let c := s.core core
      let a := c.array
      match a.tile with
      | none => .next ((s.setCore core (c.matDone a)).progressed core)
      | some t =>
        let a := { a with tile := none, drain := a.drain ++ [{ tile := t, off := op.off, tag := op.tag }] }
        .next ((s.setCore core (c.matDone a)).progressed core)

/-! ### The drain (R47, R68, R84–R88) -/

/-- The exact value of an accumulator (R47, R79): when sum and err are both zero it takes the sign of sum. -/
def Acc.exact (c : MatCfg) (a : Acc) : FVal :=
  if c.isInt then .ofInt a.int
  else
    let s := val32 a.sum
    let e := val32 a.err
    if s.isZero && e.isZero then s else s.add e

/-- The drain's conversion of one accumulator (R47): the code, the flags and whether it reports non-finite. -/
def drainConvert (c : MatCfg) (u : Nat) (a s : FVal) (bias : Option FVal) : Nat × AFlags × Bool :=
  let fmt := Fmt.ofCode c.outFmt
  let conv (t : FVal) : Nat × AFlags := fmt.convert (rndOf c.rnd u) c.clipSat c.outSigned t
  let nanOut : Nat × AFlags × Bool := ((conv .nan).1, .i, true)
  if a.isNan || s.isNan || (bias.map FVal.isNan).getD false then nanOut
  else
    let p := s.mul a
    let t := match bias with | some b => p.add b | none => p
    match t with
    | .nan => nanOut
    | .inf neg => ((conv (.inf neg)).1, (conv (.inf neg)).2, true)
    | t =>
      let (code, f) := conv t
      (code, f, !fmt.isInt && (fmt.decode code).nonFinite)

/-- The FP32 value at a scratchpad offset. -/
def State.spF32 (s : State) (core off : Nat) : FVal := val32 (leNat (s.spBytes core off 4))

/-- One output row: codes, flags, whether anything is non-finite, and the state after its draws (R51). -/
def drainRow (core : Nat) (c : MatCfg) (s0 : State) : List Acc → Nat → State → List Nat × AFlags × Bool × State
  | [], _, s => ([], .none, false, s)
  | a :: r, j, s =>
    let (u, s) := if c.rnd = 2 then s.draw core (j % 256) else (0, s)
    let sc := s0.spF32 core (if c.perColumn then c.scaleOff + 4 * j else c.scaleOff)
    let bias := if c.biasEn then some (s0.spF32 core (c.biasOff + 4 * j)) else none
    let (code, f, nf) := drainConvert c u (a.exact c) sc bias
    let (codes, f', nf', s') := drainRow core c s0 r (j + 1) s
    (code :: codes, f.or f', nf || nf', s')

/-- The rows of a tile written in drain order: row r goes to off + r × OUT_STRIDE (R68, R142). -/
def drainRows (core : Nat) (c : MatCfg) (off : Nat) : List (List Acc) → Nat → State → AFlags × Bool × State
  | [], _, s => (.none, false, s)
  | row :: rest, r, s =>
    let fmt := Fmt.ofCode c.outFmt
    let (codes, f, nf, s) := drainRow core c s row 0 s
    let a := off + r * c.outStride
    let s := s.write .unit (spBase core + a) (fmt.pack codes (s.spBytes core a (fmt.bytesFor codes.length)))
    let (f', nf', s) := drainRows core c off rest (r + 1) s
    (f.or f', nf || nf', s)

/-- The result of a check (Table 3-8). -/
inductive Chk where
  | pass | mismatch | nonfinite | clipped
  deriving DecidableEq, Repr

/-- The group sum S: a balanced RNE32 tree over RNE32(sum_j + err_j) (R84), 32 columns wide. -/
def groupSum (c : MatCfg) (accs : List (Option Acc)) : FVal :=
  let leaves := accs.map (fun o => o.map (fun a => (round32 (a.exact c)).1))
  ((tree quietNode 5 (leaves ++ List.replicate (32 - leaves.length) none)).1).getD (.fin false 0 1)

/-- tau of R84: (2d + 10) × 2^-24 × Mg + n × 2^-113. -/
def checkTau (c : MatCfg) (n : Nat) (mg : FVal) : FVal :=
  ((FVal.fin false (2 * modeDepth c.mode + 10) (2 ^ 24)).mul mg).add (.fin false n (2 ^ 113))

/-- The check of one output row and group: the result, |c − S| and tau (R84, R85). `accs` are the group's accumulators by
position, masked columns none. -/
def checkRow (c : MatCfg) (n : Nat) (k : ChkAcc) (accs : List (Option Acc)) : Chk × FVal × FVal :=
  let present := accs.filterMap id
  if c.isInt then
    let sum := (present.map (·.int)).foldl (· + ·) 0
    if present.any (·.clip) then (.clipped, .fin false 0 1, .fin false 0 1)
    else if k.int = sum then (.pass, .fin false 0 1, .fin false 0 1)
    else (.mismatch, .ofInt (k.int - sum).natAbs, .fin false 0 1)
  else
    let cv := (val32 k.sum).add (val32 k.err)
    let mg := val32 k.mag
    let sv := groupSum c accs
    if cv.nonFinite || mg.nonFinite || sv.nonFinite || present.any (fun a => (val32 a.sum).nonFinite) then
      (.nonfinite, .nan, .nan)
    else
      let diff := (cv.add sv.neg).abs
      let tau := checkTau c n mg
      if tau.lt diff then (.mismatch, diff, tau) else (.pass, diff, tau)

/-- FP32 code of a non-negative value rounded down, and rounded up (Table 3-11). -/
def codeDown (v : FVal) : Nat := (Fmt.fp32.convert .rtz true true v).1
def codeUp (v : FVal) : Nat :=
  let c := codeDown v
  if v.eq (val32 c) then c else c + 1

/-- The precedence of R87: a group's results over its rows merged, with the first mismatching row. -/
def mergeChecks : List (Chk × FVal × FVal) → Nat → Chk × Option (Nat × FVal × FVal)
  | [], _ => (.pass, none)
  | (r, d, t) :: rest, m =>
    let (r', w) := mergeChecks rest (m + 1)
    match r with
    | .mismatch => (.mismatch, some (m, d, t))
    | .nonfinite => (if r' = .mismatch then r' else .nonfinite, w)
    | .clipped => (if r' = .mismatch ∨ r' = .nonfinite then r' else .clipped, w)
    | .pass => (r', w)

/-- LAST_MISMATCH (Table 3-11). -/
def mismatchRecord (time seq arr group row diff tau step : Nat) : Nat :=
  time % 2 ^ 64 + seq % 2 ^ 32 * 2 ^ 64 + arr % 256 * 2 ^ 96 + group % 256 * 2 ^ 104 + row % 1024 * 2 ^ 112 +
    diff % 2 ^ 32 * 2 ^ 128 + tau % 2 ^ 32 * 2 ^ 160 + step % 2 ^ 64 * 2 ^ 192

/-- A check group's result recorded (R87, R88, R89). -/
def State.recordCheck (s : State) (core : Nat) (c : MatCfg) (t : Tile) (arr g : Nat)
    (r : Chk × Option (Nat × FVal × FVal)) : State :=
  match r with
  | (.pass, _) => s.count 32 (Obj.CHK_PASS_EVENTS core) 1
  | (.nonfinite, _) => (s.raise (Obj.CHK_STATUS core) 2).count 32 (Obj.CHK_NONFINITE_EVENTS core) 1
  | (.clipped, _) => (s.raise (Obj.CHK_STATUS core) 4).count 32 (Obj.CHK_CLIPPED_EVENTS core) 1
  | (.mismatch, w) =>
    let (m, d, tau) := w.getD (0, .fin false 0 1, .fin false 0 1)
    let s := (s.raise (Obj.CHK_STATUS core) 1).count 32 (Obj.CHK_MISMATCH_EVENTS core) 1
    let diff := if c.isInt then (match d with | .fin _ n _ => min n (2 ^ 32 - 1) | _ => 0) else codeUp d
    let s := s.setObj (Obj.LAST_MISMATCH core)
      (mismatchRecord s.chr t.seq arr g m diff (if c.isInt then 0 else codeDown tau) (s.obj Obj.STEP_NUM))
    let s := s.logEvent .checksumMismatch 0 (srcCode 1 core) (s.sliceOfCore core) (t.seq * 256 + g)
    let s := s.driftEvent 2 core 1
    if s.sliceOfCore core ≠ 0xFFFF ∧ s.sliceOfCore core = s.obj Obj.STEP_SLICE then s.post (.stepFail 0 0) else s

/-- Every check group of a tile with its result over the tile's rows (R83, R87). -/
def tileChecks (c : MatCfg) (t : Tile) : List (Nat × Nat × List (Chk × FVal × FVal)) :=
  let groups := (List.range c.groups).filter (fun g => !(c.groupCols g c.nCnt).isEmpty)
  (List.range (modeArrays c.mode)).flatMap (fun a => groups.zipIdx.map (fun (g, j) =>
    let rows := (List.range c.mT).map (fun m =>
      let base := (a * c.mT + m) * c.nCnt
      let accs := (List.range 32).map (fun i =>
        let n := c.w * (32 * (g / c.w) + i) + g % c.w
        if n < c.nCnt then t.accs[base + n]? else none)
      match t.chks[(a * c.mT + m) * groups.length + j]? with
      | some k => checkRow c t.steps k accs
      | none => (.pass, .fin false 0 1, .fin false 0 1))
    (a, g, rows)))

/-- The end of the bytes that a drain writes, and of the scales and biases it reads. -/
def MatCfg.drainEnd (c : MatCfg) (off : Nat) : Nat :=
  off + (modeArrays c.mode * c.mT - 1) * c.outStride + (Fmt.ofCode c.outFmt).bytesFor c.nCnt
def MatCfg.scalesEnd (c : MatCfg) : Nat :=
  max (c.scaleOff + (if c.perColumn then 4 * c.nCnt else 4)) (if c.biasEn then c.biasOff + 4 * c.nCnt else 0)

/-- Whether a drain's result is defined: the tile's is, it has a step, and its addresses lie in the scratchpad. -/
def drains (d : Closed) : Bool :=
  !(d.tile.undef || d.tile.steps == 0 || !(decide (d.tile.cfg.drainEnd d.off ≤ spSize) && decide (d.tile.cfg.scalesEnd ≤ spSize)))

/-- A tile drained: its rows scaled, converted and written, its flags shown, its checks recorded. -/
def State.drainTile (s : State) (core : Nat) (d : Closed) : State :=
  let cfg := d.tile.cfg
  let s := s.noteRead 0 (spBase core + cfg.scaleOff) (if cfg.perColumn then 4 * cfg.nCnt else 4)
  let s := if cfg.biasEn then s.noteRead 0 (spBase core + cfg.biasOff) (4 * cfg.nCnt) else s
  let rows := chunks cfg.nCnt (d.tile.accs.length + 1) d.tile.accs
  let (f, nf, s) := drainRows core cfg d.off rows 0 s
  let flags := d.tile.flags.or f
  let s := (s.setFlags core f).flagEvent core flags
  let checks := if cfg.checks then tileChecks cfg d.tile else []
  let nf := nf || checks.any (fun r => r.2.2.any (fun k => k.1 == .nonfinite))
  let s := if nf then s.reportNonFinite core 0 else s
  let s := checks.foldl (fun t r => t.recordCheck core cfg d.tile r.1 r.2.1 (mergeChecks r.2.2 0)) s
  let s := if cfg.checks then s
    else (s.raise (Obj.CHK_STATUS core) 8).count 32 (Obj.CHK_OFF_EVENTS core) (modeArrays cfg.mode)
  s

/-- DRAIN (R68): the tile at the head of the drain is converted, checked and written. -/
def doDrain (core : Nat) (errors : List StoredError) (s : State) : Out :=
  withCore s core <|
    let c := s.core core
    match c.array.drain with
    | [] => .next s
    | d :: rest =>
      let s := s.strikes errors
      let s := (s.setCore core { c with array := { c.array with drain := rest } }).progressed core
      if drains d then .next (s.drainTile core d) else .next (s.undefinedResult core)

/-! ### Port arbitration (R189) -/

/-- Whether a requester uses the read port (Table 7-1). -/
def readsPort : SpRequester → Bool
  | .lda | .feeder | .vectorRead | .weightLoader | .dmaRead _ | .meshRead => true
  | _ => false

/-- The bubbles that a requester's 32 refused cycles bring to a stream that feeds (R73, R189): a refused feeder misses its line in each
of them; any other read requester takes the next cycle, and whether the feeder misses its line in it is free. -/
def overrideBubbles (r : SpRequester) (n : Nat) : Nat := if r = .feeder then 32 else if readsPort r then Config.freeNat n % 2 else 0

/-- PORT_STARVATION_OVERRIDE (R189): a requester refused in 32 consecutive cycles takes the next cycle. The cycles count as the port's
waits, and for the vector engine as its own (Table 4-11). -/
def execPortStarvationOverride (core : Nat) (r : SpRequester) (s : State) : Out :=
  withCore s core <|
    let s := s.count 64 (if readsPort r then Obj.RD_PORT_WAIT_CYCLES core else Obj.WR_PORT_WAIT_CYCLES core) 32
    let s := if r = .vectorRead ∨ r = .vectorWrite then s.count 64 (Obj.PORT_WAIT_CYCLES core) 32 else s
    let (n, s) := s.fresh
    .next (if ((s.core core).matHead .mstr).isSome then s.count 64 (Obj.BUBBLE_CYCLES core) (overrideBubbles r n) else s)

end Sys2Proof.Machine
end

