-- ==== Sys2Proof/Machine/Keccak.lean ====
section
/-! DEFINITION. SHAKE256 (FIPS 202) and KMAC256 (SP 800-185), which the manual names for digests and tags (R286, R375, R428). A
state is the list of its 25 lanes, lane (x, y) at x + 5y. -/

namespace Sys2Proof.Machine

/-- A 64-bit lane rotated left. -/
def rotl64 (w r : Nat) : Nat := ((w <<< r) ||| (w >>> (64 - r))) % 2 ^ 64

/-- A step of the 8-bit shift register that ι draws its bits from: x⁸ is x⁶ + x⁵ + x⁴ + 1. -/
def iotaStep (r : Nat) : Nat := if r < 128 then 2 * r else (2 * r - 256) ^^^ 0x71

/-- A round constant from the register: its bit j stands at place 2^j − 1; with the register after the round. -/
def iotaWord (r : Nat) : Nat × Nat :=
  [0, 1, 3, 7, 15, 31, 63].foldl (fun (acc : Nat × Nat) at_ => (acc.1 + acc.2 % 2 * 2 ^ at_, iotaStep acc.2)) (0, r)

/-- The walk of ρ: from lane (x, y), the lane that comes next is (y, 2x + 3y), and step t turns by the t-th triangular number. -/
def rhoWalk : Nat → Nat → Nat → Nat → List (Nat × Nat)
  | 0, _, _, _ => []
  | n + 1, x, y, turn => (x + 5 * y, turn % 64) :: rhoWalk n y ((2 * x + 3 * y) % 5) (turn + 25 - n)

/-- ρ's turn of every lane: lane (0, 0) stays, and the walk that begins at (1, 0) meets the others. -/
def rhoTurns : List Nat :=
  (List.range 25).map (fun i => (((rhoWalk 24 1 0 1).find? (fun s => s.1 == i)).map (·.2)).getD 0)

/-- The parities of the five columns. -/
def columnParities : List Nat → List Nat
  | a :: b :: c :: d :: e :: rest =>
    match columnParities rest with
    | [p, q, r, s, t] => [a ^^^ p, b ^^^ q, c ^^^ r, d ^^^ s, e ^^^ t]
    | _ => [a, b, c, d, e]
  | _ => []

/-- θ: a lane takes the parities of the column to its left and of the turned one to its right. -/
def keccakTheta (a : List Nat) : List Nat :=
  match columnParities a with
  | [p, q, r, s, t] =>
    let mixed := [t ^^^ rotl64 q 1, p ^^^ rotl64 r 1, q ^^^ rotl64 s 1, r ^^^ rotl64 t 1, s ^^^ rotl64 p 1]
    List.zipWith (· ^^^ ·) a (mixed ++ mixed ++ mixed ++ mixed ++ mixed)
  | _ => a

/-- ρ, with π after it: lane (x, y) of the result comes from lane (x + 3y, x). -/
def keccakRhoPi (a : List Nat) : List Nat :=
  let turned := List.zipWith rotl64 a rhoTurns
  (List.range 25).map (fun i => turned.getD ((i % 5 + i / 5 * 3) % 5 + i % 5 * 5) 0)

/-- χ: within a row, a lane takes what the next but one has and the next has not. -/
def keccakChi : List Nat → List Nat
  | a :: b :: c :: d :: e :: rest =>
    (a ^^^ (c - (c &&& b))) :: (b ^^^ (d - (d &&& c))) :: (c ^^^ (e - (e &&& d))) :: (d ^^^ (a - (a &&& e))) :: (e ^^^ (b - (b &&& a))) :: keccakChi rest
  | _ => []

/-- ι: a constant goes into the first lane. -/
def keccakIota (rc : Nat) : List Nat → List Nat
  | [] => []
  | l :: rest => (l ^^^ rc) :: rest

/-- Rounds of Keccak-f, with the register that their constants come from. -/
def keccakRounds : Nat → Nat → List Nat → List Nat
  | 0, _, a => a
  | n + 1, r, a => keccakRounds n (iotaWord r).2 (keccakIota (iotaWord r).1 (keccakChi (keccakRhoPi (keccakTheta a))))

/-- Keccak-f[1600]: 24 rounds. -/
def keccakF (a : List Nat) : List Nat := keccakRounds 24 1 a

/-- The rate in bytes of a capacity of 512 bits. -/
def keccakRate : Nat := 136

/-- A block of the rate XORed into a state. -/
def keccakAbsorb (a : List Nat) (block : List Byte) : List Nat :=
  keccakF ((List.range 25).map (fun i => a.getD i 0 ^^^ (if i < 17 then leNat (slice block (8 * i) 8) else 0)))

/-- A message padded to whole blocks with a domain suffix (its low bits first) and the final bit. -/
def keccakPad (suffix : Nat) (m : List Byte) : List Byte :=
  let n := keccakRate - m.length % keccakRate
  if n = 1 then m ++ [BitVec.ofNat 8 (suffix + 128)]
  else m ++ [BitVec.ofNat 8 suffix] ++ List.replicate (n - 2) 0#8 ++ [0x80#8]

/-- The first `n` bytes of the sponge's output, at most one block. -/
def keccakOut (suffix n : Nat) (m : List Byte) : List Byte :=
  let p := keccakPad suffix m
  let a := (chunks keccakRate (p.length / keccakRate + 1) p).foldl keccakAbsorb (List.replicate 25 0)
  ((a.take 17).map (leBytes 8)).flatten.take n

/-- SHAKE256 with `n` bytes of output. -/
def shakeBytes (n : Nat) (m : List Byte) : List Byte := keccakOut 0x1F n m

/-- SHAKE256 with 256 bits of output, as a number of 32 little-endian bytes. -/
def shake256 (m : List Byte) : Nat := leNat (shakeBytes 32 m)

/-- The bytes of a number, the most significant first, without leading zeros but at least one byte. -/
def beBytes (n : Nat) : List Byte :=
  let k := max 1 ((List.range 9).foldl (fun m i => if n / 256 ^ i = 0 then m else i + 1) 0)
  (leBytes k n).reverse

/-- left_encode and right_encode (SP 800-185). -/
def leftEncode (n : Nat) : List Byte := BitVec.ofNat 8 (beBytes n).length :: beBytes n
def rightEncode (n : Nat) : List Byte := beBytes n ++ [BitVec.ofNat 8 (beBytes n).length]

/-- encode_string (SP 800-185). -/
def encodeString (l : List Byte) : List Byte := leftEncode (8 * l.length) ++ l

/-- bytepad (SP 800-185) to the rate. -/
def bytepad (l : List Byte) : List Byte :=
  let z := leftEncode keccakRate ++ l
  z ++ List.replicate ((keccakRate - z.length % keccakRate) % keccakRate) 0#8

/-- KMAC256(K, X, 8n, S) (SP 800-185). -/
def kmacBytes (n : Nat) (key x custom : List Byte) : List Byte :=
  keccakOut 0x04 n
    (bytepad (encodeString [0x4B#8, 0x4D#8, 0x41#8, 0x43#8] ++ encodeString custom) ++ bytepad (encodeString key) ++ x ++ rightEncode (8 * n))

/-- KMAC256(K, X, 256, S) as a number of 32 little-endian bytes. -/
def kmac256 (key x custom : List Byte) : Nat := leNat (kmacBytes 32 key x custom)

/-- The customisation strings "HDP1" (R428), "WRAP" (R477) and "IDEN" (R480). -/
def hdpCustom : List Byte := [0x48#8, 0x44#8, 0x50#8, 0x31#8]
def wrapCustom : List Byte := [0x57#8, 0x52#8, 0x41#8, 0x50#8]
def idenCustom : List Byte := [0x49#8, 0x44#8, 0x45#8, 0x4E#8]

end Sys2Proof.Machine
end

