-- ==== Sys2Proof/Machine/Vector.lean ====
section
/-! DEFINITION. The vector engine (04): chain descriptors and their consistency (R98, R99), the stages (R103–R107), the top-k
and sign units (R114–R116), the passes over positions, the loss-scale record (R124), and CHAIN_START and CHAIN_COMPLETE. -/

namespace Sys2Proof.Machine

/-! ### Descriptors (Tables 4-1 to 4-4) -/

/-- A stream specification (Table 4-2). -/
structure Stream where
  off    : Nat
  loc    : Nat
  fmt    : Nat
  signed : Bool
  kind   : Nat
  src    : Nat
  deriving DecidableEq, Repr

/-- A stage word (Table 4-3). -/
structure Stage where
  op   : Nat
  a    : Nat
  b    : Nat
  c    : Nat
  int  : Bool
  var  : Nat
  arg  : Nat
  deriving DecidableEq, Repr

/-- A chain descriptor, decoded (R98). -/
structure ChainDesc where
  n      : Nat
  gate   : Bool
  lsUpd  : Bool
  link   : Bool
  seg    : Nat
  doneWp : Nat
  doneEn : Bool
  rnd    : Nat
  clip   : Bool
  lsOff  : Nat
  ins    : List Stream
  outs   : List Stream
  stages : List Stage
  consts : List Nat
  deriving DecidableEq, Repr

/-- Stream specification `i` of a descriptor. -/
def streamOf (d i : Nat) : Stream :=
  let v := bits d (128 + 64 * i + 63) (128 + 64 * i)
  { off := bits v 22 0, loc := bits v 25 23, fmt := bits v 29 26, signed := bit v 30, kind := bits v 32 31, src := bits v 35 33 }

/-- Stage word `j` of a descriptor. -/
def stageOf (d j : Nat) : Stage :=
  let v := bits d (640 + 32 * j + 31) (640 + 32 * j)
  { op := bits v 5 0, a := bits v 9 6, b := bits v 13 10, c := bits v 17 14, int := bit v 18, var := bits v 22 19,
    arg := bits v 31 23 }

/-- A descriptor from its 1,024 bits. -/
def ChainDesc.of (d : Nat) : ChainDesc :=
  { n := bits d 23 0, gate := bit d 28, lsUpd := bit d 29, link := bit d 30, seg := bits d 47 32 + 1, doneWp := bits d 61 48,
    doneEn := bit d 62, rnd := bits d 69 68, clip := bit d 70, lsOff := bits d 118 96,
    ins := (List.range 5).map (streamOf d), outs := (List.range 3).map (fun i => streamOf d (5 + i)),
    stages := (List.range (bits d 26 24 + 1)).map (stageOf d),
    consts := (List.range 3).map (fun i => bits d (896 + 32 * i + 31) (896 + 32 * i)) }

/-- The segments of a chain (R94). -/
def ChainDesc.segs (d : ChainDesc) : Nat := ceilDiv d.n d.seg

/-- The blocks of the top-k and sign units. -/
def ChainDesc.blocks (d : ChainDesc) : Nat := ceilDiv d.n 4096

/-- The last stage's operation, where it is the top-k (0x15) or the sign unit (0x16). -/
def ChainDesc.unitOp (d : ChainDesc) : Option Stage :=
  match d.stages.getLast? with
  | some st => if st.op = 0x15 ∨ st.op = 0x16 then some st else none
  | none => none

/-- Whether a stream is used. -/
def Stream.used (x : Stream) : Bool := x.loc != 0

/-- The bytes an input stream spans (R95). -/
def ChainDesc.inLen (d : ChainDesc) (x : Stream) : Nat :=
  let f := Fmt.ofCode x.fmt
  match x.kind with
  | 0 => f.bytesFor d.n
  | 1 => f.bytesFor (min d.seg d.n)
  | _ => f.bytesFor d.segs

/-- The bytes an output stream `i` spans (R95, R114, R115). -/
def ChainDesc.outLen (d : ChainDesc) (i : Nat) (x : Stream) : Nat :=
  let f := Fmt.ofCode x.fmt
  match d.unitOp with
  | some st =>
    if st.op = 0x15 then
      match i with
      | 0 => f.bytesFor (d.blocks * (st.arg + 1))
      | 1 => 2 * (d.blocks * (st.arg + 1))
      | _ => f.bytesFor d.n
    else
      match i with
      | 0 => if d.blocks = 0 then 0 else 512 * (d.blocks - 1) + ceilDiv (d.n - 4096 * (d.blocks - 1)) 8
      | 1 => f.bytesFor d.blocks
      | _ => f.bytesFor d.n
  | none => if x.kind = 2 then f.bytesFor d.segs else f.bytesFor d.n

/-- The range of a stream: scratchpad is space 0, TB0–TB3 are 1–4. -/
def Stream.range (x : Stream) (len : Nat) : VRange := { space := x.loc - 3, lo := x.off, len }

/-- What a chain reads, the loss-scale record where a stage names it or the chain updates it. -/
def ChainDesc.reads (d : ChainDesc) : List VRange :=
  ((d.ins.filter (fun x => x.loc == 1 || decide (4 ≤ x.loc))).map (fun x => x.range (d.inLen x))) ++
    (if d.lsUpd || d.stages.any (fun st => st.a == 15 || st.b == 15 || st.c == 15) then [{ space := 0, lo := d.lsOff, len := 16 }] else [])

/-- What a chain writes. -/
def ChainDesc.writes (d : ChainDesc) : List VRange :=
  ((d.outs.zipIdx.filter (fun p => p.1.used)).map (fun p => p.1.range (d.outLen p.2 p.1))) ++
    (if d.lsUpd then [{ space := 0, lo := d.lsOff, len := 16 }] else [])

/-- Whether two ranges share a byte. -/
def VRange.meets (a b : VRange) : Bool := a.space == b.space && rangesMeet a.lo a.len b.lo b.len

/-! ### Consistency (R99) -/

/-- The operands that an operation uses: a, b, c. -/
def opUses (op var : Nat) : Bool × Bool × Bool :=
  match op with
  | 0x01 | 0x02 | 0x03 | 0x05 | 0x06 | 0x0F => (true, true, false)
  | 0x04 | 0x10 => (true, true, true)
  | 0x12 => (true, var == 2 || var == 3, false)
  | 0x13 => (false, false, false)
  | _ => (true, false, false)

/-- Whether an operation has an integer class (Table 4-5); NSTAT has it for SUM, MAX and MIN only (R107). -/
def opIntOk (op var : Nat) : Bool :=
  match op with
  | 0x00 | 0x01 | 0x02 | 0x03 | 0x05 | 0x06 | 0x07 | 0x08 | 0x0F | 0x10 | 0x11 | 0x14 => true
  | 0x12 => var == 0 || var == 4 || var == 5
  | _ => false

/-- Whether a source exists and has a class: `some true` integer, `some false` floating point; constants take the class of
the stage that reads them (R98). -/
def ChainDesc.srcClass (d : ChainDesc) (j : Nat) (int : Bool) (code : Nat) : Option Bool :=
  if code ≤ 4 then
    match d.ins[code]? with
    | some x => if x.used then some (x.loc != 2 && (Fmt.ofCode x.fmt).isInt) else none
    | none => none
  else if code ≤ 7 then some int
  else if code ≤ 14 then
    if code - 8 < j then
      match d.stages[code - 8]? with
      | some st => if st.op = 0x12 then none else some st.int
      | none => none
    else none
  else some false

/-- Whether a stage obeys R99. -/
def ChainDesc.stageOk (d : ChainDesc) (j : Nat) (st : Stage) : Bool :=
  let (ua, ub, uc) := opUses st.op st.var
  let src (u : Bool) (code : Nat) : Bool :=
    !u || (match d.srcClass j st.int code with | some k => st.op == 0x11 || k == st.int | none => false)
  decide (st.op ≤ 0x16) && (!st.int || opIntOk st.op st.var) && src ua st.a && src ub st.b && src uc st.c &&
    (st.op != 0x0F || decide (st.var ≤ 5)) && (st.op != 0x12 || decide (st.var ≤ 6)) && (st.op != 0x11 || st.var != 15) &&
    ((st.op != 0x15 && st.op != 0x16) || j + 1 == d.stages.length)

/-- Whether a stream uses no reserved code and lies where its KIND allows, within its memory. -/
def streamOk (x : Stream) (len : Nat) (isOut : Bool) : Bool :=
  !x.used || (x.loc != 3 && x.fmt != 15 && x.kind != 3 && decide (x.off % 64 = 0) && !(isOut && (x.loc == 2 || x.kind == 1)) &&
    (x.kind == 0 || decide (4 ≤ x.loc)) &&
    (if 4 ≤ x.loc then decide (x.off + len ≤ 65536) else x.loc == 2 || decide (x.off + len ≤ spSize)))

/-- The random values that a position draws (R113). -/
def ChainDesc.draws (d : ChainDesc) : Nat :=
  (d.stages.filter (fun st => st.op == 0x13 || (st.op == 0x11 && d.rnd == 2))).length +
    (if d.rnd = 2 then (d.outs.filter Stream.used).length else 0)

/-- A chain's outputs name stages that exist; the result of NSTAT goes to KIND 2 alone. -/
def ChainDesc.outSrcOk (d : ChainDesc) (x : Stream) : Bool :=
  !x.used || d.unitOp.isSome ||
    (match d.stages[x.src]? with | some st => st.op != 0x12 || x.kind == 2 | none => false)

/-- Whether no two of the ranges meet. -/
def disjointRanges : List VRange → Bool
  | [] => true
  | r :: rest => rest.all (fun q => !r.meets q) && disjointRanges rest

/-- The consistency of a chain descriptor at a scratchpad offset (R99, R143, R46). -/
def ChainDesc.ok (d : ChainDesc) (off : Nat) : Bool :=
  decide (off % 128 = 0) && decide (off + 128 ≤ spSize) && d.rnd != 3 && (d.stages.zipIdx.all (fun p => d.stageOk p.2 p.1)) &&
    (d.ins.all (fun x => streamOk x (d.inLen x) false)) &&
    (d.outs.zipIdx.all (fun p => streamOk p.1 (d.outLen p.2 p.1) true && d.outSrcOk p.1)) &&
    decide (d.draws ≤ 4) && (!d.lsUpd || (d.gate && decide (d.lsOff % 16 = 0) && decide (d.lsOff + 16 ≤ spSize))) &&
    disjointRanges ((d.outs.zipIdx.filter (fun p => p.1.used)).map (fun p => p.1.range (d.outLen p.2 p.1)))

/-! ### Stages (Table 4-5) -/

/-- An integer result clipped to INT32 (R103). -/
def clip32 (i : Int) : Num × AFlags :=
  if i < -2147483648 then (.i (-2147483648), .o) else if 2147483647 < i then (.i 2147483647, .o) else (.i i, .none)

/-- A floating-point result rounded to FP32; a NaN raises INV (R104, Table 2-7). -/
def fresult (t : FVal) : Num × AFlags :=
  match t with
  | .nan => (.f .nan, .i)
  | t => let (v, f) := round32 t; (.f v, f)

/-- IEEE 754-2019 minimum and maximum of numbers that are not NaN, with −0 below +0 (R103). -/
def fmin (a b : FVal) : FVal := if a.lt b then a else if b.lt a then b else if a.sign then a else b
def fmax (a b : FVal) : FVal := if a.lt b then b else if b.lt a then a else if a.sign then b else a

/-- Whether a relation of CMP holds (R106): less, equal. -/
def relHolds (var : Nat) (lt eq : Bool) : Bool :=
  match var with
  | 0 => eq | 1 => !eq | 2 => lt | 3 => lt || eq | 4 => !lt && !eq | _ => !lt

/-- 1 or 0 in a class. -/
def oneOrZero (int b : Bool) : Num := if int then .i (b2n b) else .f (.fin false (b2n b) 1)

/-- CVT (R106). -/
def cvtStage (st : Stage) (rnd : Rnd) (clip : Bool) (a : Num) : Num × AFlags :=
  let fmt := Fmt.ofCode st.var
  if st.int then
    let (v, f) : Int × AFlags := match a with
      | .i v => (v, .none)
      | .f t =>
        let (c, f) := Fmt.int32.convert rnd clip true t
        (toSigned 32 c, if t.isNan then .i else f)
    if fmt = .int16 ∨ fmt = .int8 ∨ fmt = .int4 then
      let (c, g) := fmt.clipInt true v
      (.i (fmt.decodeInt true c), f.or g)
    else (.i v, f)
  else
    let t := match a with | .f t => t | .i v => .ofInt v
    if t.isNan then (.f .nan, .i)
    else
      let (c, f) := fmt.convert rnd clip true t
      (.f (round32 (fmt.valueOf true c)).1, f)

/-- The result of a stage that gives one value per position, with its flags. NSTAT, TOPK and SIGN pass their operand on. -/
def stageResult (st : Stage) (rnd : Rnd) (clip : Bool) (draw : Nat) (a b c : Num) : Num × AFlags :=
  match a, b, c with
  | .f x, .f y, .f z =>
    if st.op = 0x11 then cvtStage st rnd clip a
    else match st.op with
    | 0x01 => fresult (x.add y)
    | 0x02 => fresult (x.add y.neg)
    | 0x03 => fresult (x.mul y)
    | 0x04 => fresult ((x.mul y).add z)
    | 0x05 => if x.isNan || y.isNan then (.f .nan, .i) else (.f (fmin x y), .none)
    | 0x06 => if x.isNan || y.isNan then (.f .nan, .i) else (.f (fmax x y), .none)
    | 0x07 => if x.isNan then (.f .nan, .i) else (.f x.abs, .none)
    | 0x08 => if x.isNan then (.f .nan, .i) else (.f x.neg, .none)
    | 0x0F =>
      if x.isNan || y.isNan then (oneOrZero false (st.var == 1), .i)
      else (oneOrZero false (relHolds st.var (x.lt y) (x.eq y)), .none)
    | 0x10 => (.f (if z.isZero then y else x), .none)
    | 0x13 => (.f (.fin false (draw / 2 ^ 40) (2 ^ 24)), .none)
    | 0x00 | 0x12 | 0x14 | 0x15 | 0x16 => (.f x, .none)
    | op => let (v, f) := ownFunction op x; (.f v, f)
  | .i x, .i y, .i z =>
    match st.op with
    | 0x01 => clip32 (x + y)
    | 0x02 => clip32 (x - y)
    | 0x03 => clip32 (x * y)
    | 0x05 => (.i (min x y), .none)
    | 0x06 => (.i (max x y), .none)
    | 0x07 => clip32 x.natAbs
    | 0x08 => clip32 (-x)
    | 0x0F => (oneOrZero true (relHolds st.var (decide (x < y)) (decide (x = y))), .none)
    | 0x10 => (.i (if z = 0 then y else x), .none)
    | 0x11 => cvtStage st rnd clip a
    | _ => (.i x, .none)
  | a, _, _ => if st.op = 0x11 then cvtStage st rnd clip a else (a, .none)

/-! ### Segment statistics (R107) -/

/-- The exact sum of values. -/
def fsum : List FVal → FVal
  | [] => .fin false 0 1
  | [x] => x
  | x :: r => x.add (fsum r)

/-- A value divided by a count. -/
def FVal.over (v : FVal) (n : Nat) : FVal :=
  match v with
  | .fin s m d => .fin s m (d * n)
  | v => v

/-- RSQRT of an FP32 value, with flags. -/
def rsqrtStage (v : FVal) : FVal × AFlags := ownFunction 0x0C v

/-- One statistic of a floating-point segment that holds no NaN. -/
def nstatFinite (var : Nat) (xs : List FVal) (eps : FVal) : FVal × AFlags :=
  let n := xs.length
  let infP := xs.any (fun x => x == .inf false)
  let infN := xs.any (fun x => x == .inf true)
  let both := infP && infN
  let anyInf := infP || infN
  match var with
  | 0 => if both then (.nan, .i) else round32 (fsum xs)
  | 1 => if both then (.nan, .i) else round32 ((fsum xs).over n)
  | 2 =>
    if both then (.nan, .i)
    else if anyInf then (.fin false 0 1, .none)
    else
      let m := (fsum xs).over n
      let v := ((fsum (xs.map (fun x => x.mul x))).over n).add (m.mul m).neg
      let (var', f1) := round32 v
      let (t, f2) := round32 (var'.add eps)
      let (r, f3) := rsqrtStage t
      (r, f1.or (f2.or f3))
  | 3 =>
    if anyInf then (.fin false 0 1, .none)
    else
      let (t, f1) := round32 (((fsum (xs.map (fun x => x.mul x))).over n).add eps)
      let (r, f2) := rsqrtStage t
      (r, f1.or f2)
  | 4 => ((xs.drop 1).foldl fmax (xs.headD (.fin false 0 1)), .none)
  | 5 => ((xs.drop 1).foldl fmin (xs.headD (.fin false 0 1)), .none)
  | _ => if anyInf then (.inf false, .none) else round32 (fsum (xs.map (fun x => x.mul x)))

/-- The value of NSTAT over a segment (R107). -/
def nstat (st : Stage) (xs : List Num) (eps : Num) : Num × AFlags :=
  if st.int then
    let l := Num.ints xs
    match st.var with
    | 0 => clip32 (l.foldl (· + ·) 0)
    | 4 => (.i ((l.drop 1).foldl max (l.headD 0)), .none)
    | _ => (.i ((l.drop 1).foldl min (l.headD 0)), .none)
  else
    let l := Num.floats xs
    if l.any FVal.isNan then (.f .nan, .i)
    else let (v, f) := nstatFinite st.var l ((Num.floats [eps]).headD .nan); (.f v, f)

/-! ### Stream elements -/

/-- The bytes of a space: a core's scratchpad or one of its tile buffers. -/
def State.spaceBytes (s : State) (core loc off n : Nat) : List Byte :=
  if 4 ≤ loc then s.tileBytes core (loc - 4) off n else s.spBytes core off n

/-- Bytes written into a space. -/
def State.setSpace (s : State) (core loc off : Nat) (l : List Byte) : State :=
  if 4 ≤ loc then s.setTileBytes core (loc - 4) off l else s.write .unit (spBase core + off) l

/-- The code of element `i` of a stream. -/
def streamCode (s : State) (core : Nat) (x : Stream) (i : Nat) : Nat :=
  let f := Fmt.ofCode x.fmt
  let w := f.storeBits
  let v := leNat (s.spaceBytes core x.loc (x.off + w * i / 8) 5)
  f.fromStored (bits v (w * i % 8 + w - 1) (w * i % 8))

/-- The index of the element that a stream gives at a position (R95). -/
def streamIndex (d : ChainDesc) (x : Stream) (p : Nat) : Nat :=
  match x.kind with | 0 => p | 1 => p % d.seg | _ => p / d.seg

/-- The value an input stream gives at a position (R96); LOC 2 is the step flag (R121). An unsigned INT32 element above 2^31 − 1 keeps
its exact value (log 28, DESIGN CHOICE). -/
def streamValue (s : State) (core : Nat) (d : ChainDesc) (x : Stream) (p : Nat) : Num :=
  if x.loc = 2 then .f (if bit (s.obj Obj.STEP_NF) 0 then .inf false else .fin false 0 1)
  else
    let f := Fmt.ofCode x.fmt
    let c := streamCode s core x (streamIndex d x p)
    if f.isInt then .i (f.decodeInt x.signed c) else .f (f.decode c)

/-- An element code stored at index `i` of a stream. -/
def State.putElem (s : State) (core : Nat) (x : Stream) (f : Fmt) (i code : Nat) : State :=
  let w := f.storeBits
  let lo := w * i % 8
  let n := ceilDiv (lo + w) 8
  let a := x.off + w * i / 8
  let old := leNat (s.spaceBytes core x.loc a n)
  let v := old - bits old (lo + w - 1) lo * 2 ^ lo + f.toStored code % 2 ^ w * 2 ^ lo
  s.setSpace core x.loc a (leBytes n v)

/-- A stage result converted into an output stream's format (R96). -/
def convertOut (d : ChainDesc) (x : Stream) (u : Nat) (v : Num) : Nat × AFlags :=
  (Fmt.ofCode x.fmt).convert (rndOf d.rnd u) d.clip x.signed (match v with | .f t => t | .i i => .ofInt i)

/-! ### A pass over the positions (R94) -/

/-- What a pass carries from position to position. -/
structure Pass where
  s     : State
  flags : AFlags
  /-- The sources that report non-finite (Table 4-10), in the order of their first causes (R118). -/
  nf    : List Nat
  /-- Operands of each stage in the present segment, newest first (used by NSTAT), and the newest ε. -/
  segs  : List (List Num)
  eps   : List Num
  /-- Operands of the top-k or sign unit in the present block, with the draws of the used outputs at their positions (R112), newest
  first. -/
  block : List (FVal × List Nat)

/-- Operand of a stage. -/
def operand (d : ChainDesc) (scale : FVal) (st : Stage) (ins : List Num) (vals : List Num) (code : Nat) : Num :=
  if code ≤ 4 then ins.getD code (.i 0)
  else if code ≤ 7 then
    let c := d.consts.getD (code - 5) 0
    if st.int then .i (toSigned 32 c) else .f (val32 c)
  else if code ≤ 14 then vals.getD (code - 8) (.i 0)
  else .f scale

/-- The stages of one position in ascending order: values, flags, whether NFD found a cause, the operands a and b of each
stage, and the state after the draws. -/
def runStages (core p : Nat) (d : ChainDesc) (scale : FVal) (ins : List Num) :
    List Stage → List Num → State → List Num × AFlags × Bool × List (Num × Num) × State
  | [], vals, s => (vals, .none, false, [], s)
  | st :: rest, vals, s =>
    let drawn := st.op == 0x13 || (st.op == 0x11 && d.rnd == 2)
    let (u, s) := if drawn then s.draw core (p % 256) else (0, s)
    let (ua, ub, uc) := opUses st.op st.var
    let get (used : Bool) (code : Nat) : Num :=
      if used then operand d scale st ins vals code else if st.int then .i 0 else .f (.fin false 0 1)
    let a := get ua st.a
    let b := get ub st.b
    let (v, f) := stageResult st (rndOf d.rnd u) d.clip u a b (get uc st.c)
    let nfd := st.op == 0x14 && (match a with | .f x => x.nonFinite | .i _ => false)
    let (vals', f', nf', ops, s') := runStages core p d scale ins rest (vals ++ [v]) s
    (vals', f.or f', nfd || nf', (a, b) :: ops, s')

/-- The outputs of one position in ascending order; `ends` says that a segment ends here, `stats` are NSTAT's values. -/
def runOutputs (core p : Nat) (d : ChainDesc) (ends : Bool) (vals : List Num) (stats : List Num) :
    List Stream → State → AFlags × State
  | [], s => (.none, s)
  | x :: rest, s =>
    if !x.used then runOutputs core p d ends vals stats rest s
    else
      let (u, s) := if d.rnd = 2 then s.draw core (p % 256) else (0, s)
      let isStat := match d.stages[x.src]? with | some st => st.op == 0x12 | none => false
      let (f, s) :=
        if x.kind = 2 then
          if ends then
            let (c, f) := convertOut d x u (if isStat then stats.getD x.src (.i 0) else vals.getD x.src (.i 0))
            (f, s.putElem core x (Fmt.ofCode x.fmt) (p / d.seg) c)
          else (.none, s)
        else
          let (c, f) := convertOut d x u (vals.getD x.src (.i 0))
          (f, s.putElem core x (Fmt.ofCode x.fmt) p c)
      let (f', s') := runOutputs core p d ends vals stats rest s
      (f.or f', s')

/-- The draws that the outputs of a top-k or sign chain make at a position, used outputs in ascending order (R112); an unused one
draws nothing. -/
def unitDraws (core p : Nat) (d : ChainDesc) (s : State) : List Nat × State :=
  d.outs.foldl (fun w x =>
    if d.rnd = 2 ∧ x.used then let (u, s) := w.2.draw core (p % 256); (w.1 ++ [u], s) else (w.1 ++ [0], w.2)) ([], s)

/-- The key order of TOPK (R114): whether entry (i, a) ranks before entry (j, b). -/
def ranksBefore (byValue : Bool) (x y : Nat × FVal) : Bool :=
  let key (v : FVal) : FVal := if byValue then v else v.abs
  match x.2.isNan, y.2.isNan with
  | true, true => decide (x.1 < y.1)
  | true, false => true
  | false, true => false
  | false, false =>
    if (key y.2).lt (key x.2) then true else if (key x.2).lt (key y.2) then false else decide (x.1 < y.1)

/-- An entry put into a ranked list. -/
def rankInsert (byValue : Bool) (x : Nat × FVal) : List (Nat × FVal) → List (Nat × FVal)
  | [] => [x]
  | y :: r => if ranksBefore byValue x y then x :: y :: r else y :: rankInsert byValue x r

/-- Values of a stream written at consecutive indices, each converted with the draw beside it. -/
def putConverted (core : Nat) (d : ChainDesc) (x : Stream) (i : Nat) : List (FVal × Nat) → State → AFlags × State
  | [], s => (.none, s)
  | (v, u) :: r, s =>
    let (c, f) := convertOut d x u (.f v)
    let (f', s') := putConverted core d x (i + 1) r (s.putElem core x (Fmt.ofCode x.fmt) i c)
    (f.or f', s')

/-- TOPK over a block (R114): block number `j`, its values in order, each with its position's draws. An entry that OUT0 takes rounds
with the draw that OUT0 made at the entry's position (log 29). -/
def topkBlock (core : Nat) (d : ChainDesc) (st : Stage) (j : Nat) (b : List (FVal × List Nat)) (s : State) : AFlags × State :=
  let l := b.map Prod.fst
  let u (out i : Nat) : Nat := ((b.map Prod.snd).getD i []).getD out 0
  let k := st.arg + 1
  let entries : List (Nat × FVal) := l.zipIdx.map (fun p => (p.2, p.1))
  let ranked := entries.foldl (fun r e => rankInsert (bit st.var 0) e r) []
  let top : List (Nat × FVal) := ranked.take k
  let fill := k - top.length
  let zero : FVal := .fin false 0 1
  let x0 := d.outs.getD 0 (streamOf 0 0)
  let x1 := d.outs.getD 1 (streamOf 0 0)
  let x2 := d.outs.getD 2 (streamOf 0 0)
  let (f0, s) := if x0.used then putConverted core d x0 (j * k) (top.map (fun e => (e.2, u 0 e.1)) ++ List.replicate fill (zero, 0)) s else (.none, s)
  let s := if x1.used then s.setSpace core x1.loc (x1.off + 2 * j * k)
      ((top.map Prod.fst ++ List.replicate fill 0xFFFF).flatMap (leBytes 2)) else s
  let (f2, s) := if x2.used then
      putConverted core d x2 (j * 4096) (l.zipIdx.map (fun p => (if top.any (fun e => e.1 == p.2) then zero else p.1, u 2 p.2))) s
    else (.none, s)
  (f0.or f2, s)

/-- SIGN over a block (R115, R116). The scale rounds with the draw that OUT1 made at the block's last position (log 29). -/
def signBlock (core : Nat) (d : ChainDesc) (j : Nat) (b : List (FVal × List Nat)) (s : State) : AFlags × State :=
  let l := b.map Prod.fst
  let u (out i : Nat) : Nat := ((b.map Prod.snd).getD i []).getD out 0
  let neg (v : FVal) : Bool := !v.isNan && v.sign
  let x0 := d.outs.getD 0 (streamOf 0 0)
  let x1 := d.outs.getD 1 (streamOf 0 0)
  let x2 := d.outs.getD 2 (streamOf 0 0)
  let bitsN := maskOf ((l.zipIdx.filter (fun p => neg p.1)).map (·.2))
  let nb := l.length
  let s := if x0.used then
      let a := x0.off + 512 * j
      let n := ceilDiv nb 8
      s.setSpace core x0.loc a (leBytes n (bitsN + (leNat (s.spaceBytes core x0.loc a n) >>> nb) <<< nb))
    else s
  let (scale, fs) : FVal × AFlags :=
    if l.any FVal.isNan then (.nan, .none)
    else if l.any FVal.nonFinite then (.inf false, .none)
    else round32 ((fsum (l.map FVal.abs)).over nb)
  let (f1, s) := if x1.used then putConverted core d x1 j [(scale, u 1 (nb - 1))] s else (.none, s)
  let rest := l.map (fun v => fresult (v.add (if neg v then scale else scale.neg)))
  let (f2, s) := if x2.used then putConverted core d x2 (j * 4096) ((Num.floats (rest.map (·.1))).zipIdx.map (fun p => (p.1, u 2 p.2))) s else (.none, s)
  let fr := if x2.used then AFlags.all (rest.map (·.2)) else .none
  (fs.or (f1.or (f2.or fr)), s)

/-- One position of a pass (R94, R112). Where NSTAT's operand b varies within a segment, ε is its value at the segment's last position,
and all NFD stages of a chain are one source of a report (R107, R118; DESIGN CHOICE, log 138). -/
def stepPosition (core : Nat) (d : ChainDesc) (scale : FVal) (w : Pass) (p : Nat) : Pass :=
  let ins := d.ins.map (fun x => if x.used then streamValue w.s core d x p else .i 0)
  let (vals, f, nfd, ops, s) := runStages core p d scale ins d.stages [] w.s
  let segs := List.zipWith (fun (l : List Num) (o : Num × Num) => o.1 :: l) w.segs ops
  let eps : List Num := ops.map Prod.snd
  let note (l : List Nat) (b : Bool) (src : Nat) : List Nat := if b && !l.contains src then l ++ [src] else l
  let nf := note w.nf nfd 1
  let ends := p % d.seg + 1 == d.seg || p + 1 == d.n
  let stat (q : Stage × Num) (l : List Num) : Num × AFlags :=
    if q.1.op = 0x12 then nstat q.1 l.reverse q.2 else (.i 0, .none)
  let stats := if ends then List.zipWith stat (List.zip d.stages eps) segs else []
  let flags := w.flags.or (f.or (AFlags.all (stats.map (·.2))))
  let segs := if ends then d.stages.map (fun _ => []) else segs
  match d.unitOp with
  | some st =>
    let (us, s) := unitDraws core p d s
    let block := (((Num.floats [(ops.getLast?.map Prod.fst).getD (.i 0)]).headD .nan), us) :: w.block
    if p % 4096 = 4095 ∨ p + 1 = d.n then
      let b := block.reverse
      let (g, s) := if st.op = 0x15 then topkBlock core d st (p / 4096) b s else signBlock core d (p / 4096) b s
      { s, flags := flags.or (g.or (.invIf (b.any (·.1.isNan))))
        nf := note nf (b.any (·.1.nonFinite)) (if st.op = 0x15 then 2 else 3), segs, eps, block := [] }
    else { s, flags, nf, segs, eps, block }
  | none =>
    let (g, s) := runOutputs core p d ends vals (stats.map (·.1)) d.outs s
    { s, flags := flags.or g, nf, segs, eps, block := [] }

/-- A whole pass: the state, the flags, and the sources that report non-finite. -/
def runPass (s : State) (core : Nat) (d : ChainDesc) : State × AFlags × List Nat :=
  let scale := s.spF32 core d.lsOff
  let w := (List.range d.n).foldl (stepPosition core d scale)
    { s, flags := .none, nf := [], segs := d.stages.map (fun _ => []), eps := [], block := [] }
  (w.s, w.flags, w.nf)

/-- The bytes that output `i` writes for each block of 4,096 positions (R97, R117): what TOPK and SIGN write of a block, and the
elements of any other stream. -/
def ChainDesc.blockBytes (d : ChainDesc) (i : Nat) (x : Stream) : Nat :=
  let f := Fmt.ofCode x.fmt
  match d.unitOp, i with
  | some st, 0 => if st.op = 0x15 then f.bytesFor (st.arg + 1) else 512
  | some st, 1 => if st.op = 0x15 then 2 * (st.arg + 1) else f.bytesFor 1
  | _, _ => 512 * f.storeBits

/-- The cycles in which positions advance (R97, R117). -/
def ChainDesc.cycles (d : ChainDesc) : Nat :=
  let bin := (d.ins.filter (fun x => x.loc == 1 && x.kind == 0)).foldl (fun n x => n + (Fmt.ofCode x.fmt).storeBits) 0
  let bout := (d.outs.zipIdx.filter (fun p => p.1.loc == 1 && p.1.kind == 0)).foldl (fun n p => n + d.blockBytes p.2 p.1) 0
  max (ceilDiv d.n 256) (max (ceilDiv (d.n * bin) 8192) (ceilDiv (d.n * bout) (4096 * 512)))

/-- The loss-scale record updated (R124). -/
def lossScale (nf : Bool) (v : Nat) : Nat :=
  let scale := val32 (bits v 31 0)
  let good := bits v 47 32
  let interval := bits v 63 48
  let floor := val32 (bits v 95 64)
  let ceil := val32 (bits v 127 96)
  let mk (sc good : Nat) : Nat := sc + good * 2 ^ 32 + interval * 2 ^ 48 + bits v 127 64 * 2 ^ 64
  if nf then mk (code32 (fmax (round32 (scale.mul (.fin false 1 2))).1 floor)) 0
  else if interval = 0 then mk (bits v 31 0) (min (good + 1) 0xFFFF)
  else if interval ≤ good + 1 then mk (code32 (fmin (round32 (scale.mul (.fin false 2 1))).1 ceil)) 0
  else mk (bits v 31 0) (good + 1)

/-- The loss-scale record at an offset updated under the sealed flag. -/
def State.updateLossScale (s : State) (core off : Nat) : State :=
  let v := leNat (s.spBytes core off 16)
  s.write .unit (spBase core + off) (leBytes 16 (lossScale (bit (s.obj Obj.STEP_NF) 0) v))

/-- STEP_STATUS bits set, each counted where it was clear (Table 13-6, R362). -/
def State.stepStatus (s : State) (mask : Nat) : State :=
  let new := popCount 10 (clearMask mask (s.obj Obj.STEP_STATUS))
  (s.raise Obj.STEP_STATUS mask).count 32 Obj.STATUS_EVENTS new

/-- UPDATED (R356): a gated chain or a kind-6 layer of the step's slice starts with NF = 0. -/
def State.noteUpdated (s : State) (core : Nat) : State :=
  if s.sliceOfCore core ≠ 0xFFFF ∧ s.sliceOfCore core = s.obj Obj.STEP_SLICE then s.stepStatus 0x100 else s

/-- Reads of a chain whose stored errors are counted: its scratchpad ranges. -/
def State.noteReads (s : State) (core : Nat) (l : List VRange) : State :=
  l.foldl (fun t r => if r.space = 0 then t.noteRead 0 (spBase core + r.lo) r.len else t) s

/-- A consistent chain's pass, with its flags set and its non-finite reports made, one of each source (R118). -/
def State.passChain (s : State) (core : Nat) (d : ChainDesc) : State × AFlags :=
  let s := s.noteReads core d.reads
  let (s, f, nf) := runPass s core d
  let s := s.setFlags core f
  (nf.foldl (fun t src => t.reportNonFinite core src) s, f)

/-- The chain that a descriptor with LINK = 1 names, copied when its predecessor starts (R100). -/
def State.linked (s : State) (core : Nat) (ch : Chain) (d : ChainDesc) : Option Chain :=
  if d.link then some { desc := leNat (s.spBytes core (ch.off + 128) 128), off := ch.off + 128, tag := ch.tag, unsealable := ch.unsealable } else none

/-- A chain as the sealed flag lets it run: under NF = 1 a gated chain reads no stream and writes no output (R122). -/
def ChainDesc.under (d : ChainDesc) (nf : Bool) : ChainDesc := if d.gate && nf then { d with ins := [], outs := [], stages := [] } else d

/-- The read of a linked chain's descriptor meets the stored errors of its granules (R100, R191). -/
def State.readLink (s : State) (core : Nat) (ch : Chain) (d : ChainDesc) : State :=
  if d.link then s.noteRead 0 (spBase core + ch.off + 128) 128 else s

/-- A core's vector engine with a chain started: it joins the running chains and leaves its successor due. -/
def Core.startChain (c : Core) (run : ChainRun) (link : Option Chain) : Core :=
  { c with vec := { c.vec with link, gate := none, running := c.vec.running ++ [run] } }

/-- An inconsistent or refused chain is over as it starts; its successor is due (R99, R123). -/
def Core.endChain (c : Core) (link : Option Chain) : Core := { c with vec := { c.vec with link, gate := none } }

/-- A chain starts and runs (R94, R100, R122); a gated one under the sealed flag. One of N = 0 reads and writes no stream, and with
LS_UPD = 1 still updates its record (DESIGN CHOICE, log 137). -/
def State.runChain (s : State) (core : Nat) (ch : Chain) : State :=
  let d := ChainDesc.of ch.desc
  let link := s.linked core ch d
  let s := s.readLink core ch d
  if !d.ok ch.off then
    ((s.setCore core ((s.core core).endChain link)).progressed core).undefinedResult core
  else if d.gate && bit (s.obj Obj.STEP_NF) 0 then
    let s := s.count 32 Obj.SKIPPED_UPDATES 1
    let u := d.under true
    let s := if d.lsUpd then (s.noteReads core u.reads).updateLossScale core d.lsOff else s
    let run : ChainRun := { chain := ch, reads := u.reads, writes := u.writes, flags := .none, cycles := 0 }
    (s.setCore core ((s.core core).startChain run link)).progressed core
  else
    let s := if d.gate then s.noteUpdated core else s
    let (s, f) := s.passChain core d
    let s := if d.lsUpd then s.updateLossScale core d.lsOff else s
    let run : ChainRun := { chain := ch, reads := d.reads, writes := d.writes, flags := f, cycles := d.cycles }
    (s.setCore core ((s.core core).startChain run link)).progressed core

/-- Whether a chain conflicts with an unfinished earlier one (R100). -/
def chainConflicts (d : ChainDesc) (running : List ChainRun) : Bool :=
  running.any (fun r => r.writes.any (fun w => (d.reads ++ d.writes).any w.meets) || r.reads.any (fun q => d.writes.any q.meets))

/-- The next chain of a core in issue order, and the core without it: a linked chain comes first. -/
def Core.nextChain (c : Core) : Option (Chain × Core) :=
  match c.vec.link with
  | some ch => some (ch, { c with vec := { c.vec with link := none } })
  | none =>
    match c.vecQ with
    | ch :: rest => some (ch, { c with vecQ := rest })
    | [] => none

/-- The refusal of a gated chain while sealing is disabled (R123, R503). -/
def State.refuseGated (s : State) (core : Nat) (ch : Chain) (d : ChainDesc) : State :=
  let link := s.linked core ch d
  let s := s.readLink core ch d
  let s := (s.setCore core ((s.core core).endChain link)).progressed core
  let s := s.logEvent .stateRefused 0x0805 (srcCode 1 core) (s.sliceOfCore core) (refusalArgs ch.off core s.selfId core 2 0)
  s.postCoreWp core (if d.doneEn then d.doneWp else s.obj (Obj.LAUNCH_WP core)) (.error 0x0805)

/-- CHAIN_START (R100): the next chain starts once no earlier chain conflicts; a gated chain waits for the seal (R122) and is refused
where sealing was disabled when it issued (R123). The cycles that a chain waits are at least one for each command that finds it waiting
(log 23). -/
def doChainStart (core : Nat) (s : State) : Out :=
  withCore s core <|
    let c := s.core core
    if c.vec.gate.isSome then .next (s.countFree 64 (Obj.GATE_WAIT_CYCLES core) 1)
    else match c.nextChain with
    | none => .next s
    | some (ch, c') =>
      let d := ChainDesc.of ch.desc
      if d.ok ch.off && d.gate && ch.unsealable then .next ((s.setCore core c').refuseGated core ch d)
      else if d.ok ch.off && d.gate && !bit (s.obj Obj.STEP_NF) 1 then
        .next (s.setCore core { c' with vec := { c'.vec with gate := some ch } })
      else if d.ok ch.off && chainConflicts (d.under (bit (s.obj Obj.STEP_NF) 0)) c.vec.running then
        .next (s.countFree 64 (Obj.DEP_WAIT_CYCLES core) 1)
      else .next ((s.setCore core c').runChain core ch)

/-- CHAIN_COMPLETE (R102): the oldest running chain completes first (DESIGN CHOICE, log 139); its pass is one event of R54. The cycles that it was held for a port are
a free number (log 23). -/
def doChainComplete (core : Nat) (s : State) : Out :=
  withCore s core <|
    let c := s.core core
    match c.vec.running with
    | [] => .next s
    | r :: rest =>
      let d := ChainDesc.of r.chain.desc
      let s := (s.setCore core { c with vec := { c.vec with running := rest } }).progressed core
      let s := (s.count 64 (Obj.CHAINS_DONE core) 1).count 64 (Obj.ELEM_CYCLES core) r.cycles
      let s := s.countFree 64 (Obj.PORT_WAIT_CYCLES core) 0
      let s := s.flagEvent core r.flags
      .next (if d.doneEn then s.postCoreWp core d.doneWp (.add 1) else s)

end Sys2Proof.Machine
end

