-- ==== Sys2Proof/Machine/Dma.lean ====
section
/-! DEFINITION. The DMA engines (07): descriptors, their consistency (R194, R506) and range checks (R195), the operations of
Table 7-3, and DMA_DESCRIPTOR_START and DMA_COMPLETE. -/

namespace Sys2Proof.Machine

/-- A DMA descriptor, decoded (Table 7-2). -/
structure DmaDesc where
  op      : Nat
  dver    : Nat
  doneWp  : Nat
  doneEn  : Bool
  ord     : Bool
  sfmt    : Nat
  dfmt    : Nat
  rnd     : Nat
  clip    : Bool
  src     : Nat
  sspace  : Nat
  dst     : Nat
  dspace  : Nat
  cols    : Nat
  rows    : Nat
  sstride : Nat
  dstride : Nat
  arg0    : Nat
  arg1    : Nat
  arg2    : Nat
  /-- The reserved bits of the words beside the arguments. -/
  resv    : Nat
  deriving DecidableEq, Repr

/-- A descriptor from its 512 bits. -/
def DmaDesc.of (d : Nat) : DmaDesc :=
  { op := bits d 3 0, dver := bits d 7 4, doneWp := bits d 21 8, doneEn := bit d 22, ord := bit d 23, sfmt := bits d 27 24,
    dfmt := bits d 31 28, rnd := bits d 33 32, clip := bit d 34, src := bits d 103 64, sspace := bits d 104 104,
    dst := bits d 167 128, dspace := bits d 168 168, cols := bits d 215 192, rows := bits d 239 216,
    sstride := bits d 287 256, dstride := bits d 319 288, arg0 := bits d 383 320, arg1 := bits d 447 384,
    arg2 := bits d 511 448,
    resv := bits d 63 35 + bits d 127 105 + bits d 191 169 + bits d 255 240 }

/-- A reference in an ARG field: space and address. -/
def refSpace (a : Nat) : Nat := bits a 40 40
def refAddr (a : Nat) : Nat := bits a 39 0

/-- The formats that DMA engine fields name. -/
def DmaDesc.sf (d : DmaDesc) : Fmt := .ofCode d.sfmt
def DmaDesc.df (d : DmaDesc) : Fmt := .ofCode d.dfmt

/-- ALAYOUT's skew, split and lo plane (Table 7-3). -/
def DmaDesc.skw (d : DmaDesc) : Nat := bits d.arg0 1 0
def DmaDesc.split (d : DmaDesc) : Bool := d.op == 2 && bit d.arg0 2
def DmaDesc.plane (d : DmaDesc) : Nat := bits d.arg0 25 3

/-- The format that a destination element is stored in: a plane of the split is BF16. -/
def DmaDesc.outF (d : DmaDesc) : Fmt := if d.split then .bf16 else d.df

/-- The storage unit of a format (R506). -/
def storageUnit (code : Nat) : Nat :=
  if code = 0 ∨ code = 3 ∨ code = 0xB then 4 else if code = 1 ∨ code = 2 ∨ code = 0xC then 2 else 1

/-- Whether a row of a format fills whole bytes (R506). -/
def wholeBytes (code cols : Nat) : Bool :=
  if code = 9 ∨ code = 0xE then aligned 2 cols else if code = 7 ∨ code = 8 then aligned 4 cols else true

/-- The line pitch of a skewed layout (Table 7-4) and the bytes of a segment. -/
def DmaDesc.lineP (d : DmaDesc) : Nat := d.outF.bytesFor 128
def DmaDesc.segB (d : DmaDesc) : Nat := d.outF.bytesFor 16

/-- The alignments of R506. -/
def DmaDesc.alignOk (d : DmaDesc) : Bool :=
  let su := storageUnit d.sfmt
  let du := storageUnit (if d.split then 2 else d.dfmt)
  let idxOk (a : Nat) : Bool := aligned (if bit a 41 then 2 else 4) (refAddr a)
  let whole := wholeBytes d.sfmt d.cols && wholeBytes (if d.split then 2 else d.dfmt) d.cols
  let rowsOk := aligned su d.src && aligned su d.sstride
  match d.op with
  | 1 => rowsOk && whole && aligned du d.dst && aligned du d.dstride
  | 2 => rowsOk && aligned 64 d.dst && aligned 64 d.plane && (d.skw != 0 || aligned du d.dstride)
  | 3 => rowsOk && whole && aligned du d.dst && aligned du d.dstride && idxOk d.arg0
  | 4 => rowsOk && whole && aligned du d.dst && aligned du d.dstride && idxOk d.arg0
  | 5 => aligned 8 d.src && aligned 8 d.dst && aligned 8 (refAddr d.arg0) && aligned 8 d.dstride
  | 6 => aligned 8 d.src && aligned 8 d.dst && aligned 8 d.dstride
  | 7 => aligned 8 d.src && aligned 8 d.dst && aligned 8 d.dstride
  | _ => true

/-- The reserved bits of the arguments of an operation (Table 7-3). -/
def DmaDesc.argsOk (d : DmaDesc) : Bool :=
  match d.op with
  | 2 => d.arg0 >>> 26 == 0 && d.arg1 == 0 && d.arg2 == 0
  | 3 => d.arg0 >>> 42 == 0 && d.arg1 >>> 32 == 0 && d.arg2 == 0
  | 4 => d.arg0 >>> 42 == 0 && d.arg1 >>> 33 == 0 && d.arg2 >>> 42 == 0
  | 5 => d.arg0 >>> 43 == 0 && d.arg1 >>> 32 == 0 && d.arg2 == 0
  | 7 => d.arg1 == 0 && d.arg2 == 0
  | _ => d.arg0 == 0 && d.arg1 == 0 && d.arg2 == 0

/-- The rules of the operations' own sections (R197, R198, R200, R201). -/
def DmaDesc.opOk (d : DmaDesc) : Bool :=
  match d.op with
  | 2 =>
    (!d.split || ((d.sfmt == 0 || d.sfmt == 3) && d.dfmt == 0xF && d.dspace == 0)) && d.skw != 3 &&
      (d.skw == 0 || (d.dspace == 0 && decide (d.cols ≤ 128) && (d.split || d.sfmt == d.dfmt) &&
        decide ((if d.split then 2 else d.dfmt) ∈ [1, 2, 5, 6, 7, 8, 9, 0xC, 0xD, 0xE])))
  | 4 => !bit d.arg1 32 || d.dfmt == 0 || d.dfmt == 2
  | 5 => d.rows == 1
  | _ => true

/-- The consistency of a descriptor (R194). -/
def DmaDesc.ok (d : DmaDesc) : Bool :=
  d.dver == 1 && decide (d.op < 8) && d.resv == 0 && decide (d.rnd ≤ 1) && d.sfmt != 0xF && (d.dfmt != 0xF || d.split) &&
    (d.split || d.sfmt == d.dfmt || (decide (d.sfmt ≤ 9) && decide (d.dfmt ≤ 9))) && d.alignOk && d.argsOk && d.opOk

/-- A range that a descriptor defines. -/
structure DmaRange where
  space : Nat
  addr  : Nat
  len   : Nat
  write : Bool
  deriving DecidableEq, Repr

/-- The bytes from the first to the last of strided rows. -/
def rowSpan (rows stride rowBytes : Nat) : Nat := if rows = 0 ∨ rowBytes = 0 then 0 else (rows - 1) * stride + rowBytes

/-- The largest encoded stream of `cols` words (R201). -/
def maxStream (cols : Nat) : Nat := 8 + 8 * cols + 2 * ceilDiv cols 32767 + 2

/-- Bytes at an address of a space, as a core's unit reads them. -/
def State.dataAt (s : State) (core space a n : Nat) : List Byte :=
  if space = 0 then s.spBytes core a n else s.bytes (s.home a) n

/-- Every range that a descriptor defines, in the order of R195. -/
def DmaDesc.ranges (d : DmaDesc) (s : State) (core : Nat) : List DmaRange :=
  let rd (a n : Nat) : DmaRange := { space := d.sspace, addr := a, len := n, write := false }
  let wr (a n : Nat) : DmaRange := { space := d.dspace, addr := a, len := n, write := true }
  let srcRows := rd d.src (rowSpan d.rows d.sstride (d.sf.bytesFor d.cols))
  let dstRows := wr d.dst (rowSpan d.rows d.dstride (d.outF.bytesFor d.cols))
  let idx : DmaRange := { space := refSpace d.arg0, addr := refAddr d.arg0, len := d.rows * (if bit d.arg0 41 then 2 else 4), write := false }
  let limit := bits d.arg1 31 0
  match d.op with
  | 1 => [srcRows, dstRows]
  | 2 =>
    let lines := (d.rows + (if d.skw = 1 then 7 else 1)) * d.lineP
    let out (a : Nat) : DmaRange := if d.skw = 0 then wr a (rowSpan d.rows d.dstride (d.outF.bytesFor d.cols)) else wr a lines
    srcRows :: out d.dst :: (if d.split then [out d.plane] else [])
  | 3 => [rd d.src (limit * d.sstride), dstRows, idx]
  | 4 =>
    [srcRows, wr d.dst (limit * d.dstride), idx] ++
      (if bit d.arg2 41 then [{ space := refSpace d.arg2, addr := refAddr d.arg2, len := ceilDiv limit 8, write := true }] else [])
  | 5 =>
    [rd d.src (8 * d.cols), wr d.dst (max 8 (min (bits d.arg1 31 0) (maxStream d.cols)))] ++
      (if bit d.arg0 41 && !bit d.arg0 42 then []
       else [{ space := refSpace d.arg0, addr := refAddr d.arg0, len := 8 * d.cols, write := bit d.arg0 42 }])
  | 6 => [rd d.src (max 8 (bits (leNat (s.dataAt core d.sspace d.src 8)) 31 0)), wr d.dst (8 * d.cols)]
  | 7 => [wr d.dst (rowSpan d.rows d.dstride (8 * d.cols))]
  | _ => []

/-- The check of R195 for one range of a core. -/
def State.checkDma (s : State) (core : Nat) (r : DmaRange) : Nat :=
  if r.len = 0 then 0
  else if r.space = 0 then (if r.addr + r.len ≤ spSize then 0 else 0x0802)
  else
    match s.checkRange (s.sliceOfCore core) r.addr r.len with
    | 0 => if r.write && s.wakeReadOnly r.addr r.len then 0x0803 else 0
    | c => c

/-- The first failing range of a list: its code and its address. -/
def State.firstFailure (s : State) (core : Nat) : List DmaRange → Option (Nat × Nat)
  | [] => none
  | r :: rest => match s.checkDma core r with | 0 => s.firstFailure core rest | c => some (c, r.addr)

/-! ### The operations -/

/-- What a descriptor's work leaves: the writes in order (space, address, bytes), flags, indices out of bounds, and a code
that ends it with no write (R202). -/
structure DmaWork where
  writes : List (Nat × Nat × List Byte)
  flags  : AFlags
  oob    : Nat
  code   : Nat

/-- Work that only writes. -/
def DmaWork.of (w : List (Nat × Nat × List Byte)) : DmaWork := { writes := w, flags := .none, oob := 0, code := 0 }

/-- Elements of a row read in a format. -/
def State.rowCodes (s : State) (core space a : Nat) (f : Fmt) (n : Nat) : List Nat :=
  f.unpack n (s.dataAt core space a (f.bytesFor n))

/-- An element converted (R196). -/
def DmaDesc.convertCode (d : DmaDesc) (c : Nat) : Nat × AFlags :=
  if d.sfmt = d.dfmt then (c, .none)
  else d.df.convert (if d.rnd = 0 then .rne else .rtz) d.clip true (d.sf.decode c)

/-- A row converted and packed, with its flags. -/
def DmaDesc.convertRow (d : DmaDesc) (codes : List Nat) : List Byte × AFlags :=
  let l := codes.map d.convertCode
  (d.df.pack (l.map Prod.fst) [], AFlags.all (l.map Prod.snd))

/-- The split of an element (R36, R198): hi and lo codes and the flags. -/
def splitElem (x : FVal) : Nat × Nat × AFlags :=
  match x with
  | .nan => (Fmt.bf16.nanCode, 0, .none)
  | .inf neg => (Fmt.bf16.withSign neg Fmt.bf16.infCode, 0, .none)
  | x =>
    let (hi, f) := Fmt.bf16.convert .rne true true x
    match Fmt.bf16.decode hi with
    | .fin s n d => (hi, (Fmt.bf16.convert .rne true true (x.add (FVal.fin s n d).neg)).1, f)
    | _ => (hi, 0, f)

/-- The rows of a COPY (R196). -/
def copyWork (s : State) (core : Nat) (d : DmaDesc) : DmaWork :=
  let rows := (List.range d.rows).map (fun i => d.convertRow (s.rowCodes core d.sspace (d.src + i * d.sstride) d.sf d.cols))
  { DmaWork.of (rows.zipIdx.map (fun p => (d.dspace, d.dst + p.2 * d.dstride, p.1.1))) with
    flags := AFlags.all (rows.map Prod.snd) }

/-- The pieces that one row of element codes writes in a layout (R70, R197): at `base`, row `r`. -/
def DmaDesc.layoutRow (d : DmaDesc) (base r : Nat) (codes : List Nat) : List (Nat × Nat × List Byte) :=
  if d.skw = 0 then [(d.dspace, base + r * d.dstride, d.outF.pack codes [])]
  else (chunks 16 (codes.length + 1) codes).zipIdx.map (fun p =>
    (0, base + (r + skewOf (d.skw - 1) p.2) * d.lineP + p.2 * d.segB, d.outF.pack p.1 []))

/-- ALAYOUT (R197, R198). -/
def alayoutWork (s : State) (core : Nat) (d : DmaDesc) : DmaWork :=
  let row (r : Nat) : List (Nat × Nat × List Byte) × AFlags :=
    let codes := s.rowCodes core d.sspace (d.src + r * d.sstride) d.sf d.cols
    if d.split then
      let parts := codes.map (fun c => splitElem (d.sf.decode c))
      (d.layoutRow d.dst r (parts.map (·.1)) ++ d.layoutRow d.plane r (parts.map (·.2.1)), AFlags.all (parts.map (·.2.2)))
    else
      let l := codes.map d.convertCode
      (d.layoutRow d.dst r (l.map Prod.fst), AFlags.all (l.map Prod.snd))
  let rows := (List.range d.rows).map row
  { DmaWork.of (rows.flatMap Prod.fst) with flags := AFlags.all (rows.map Prod.snd) }

/-- The indices of a GATHER or SCATTER. -/
def indices (s : State) (core : Nat) (d : DmaDesc) : List Nat :=
  let w := if bit d.arg0 41 then 2 else 4
  (List.range d.rows).map (fun i => leNat (s.dataAt core (refSpace d.arg0) (refAddr d.arg0 + w * i) w))

/-- GATHER (R199). -/
def gatherWork (s : State) (core : Nat) (d : DmaDesc) : DmaWork :=
  let limit := bits d.arg1 31 0
  let rows := (indices s core d).map (fun v =>
    if v < limit then d.convertRow (s.rowCodes core d.sspace (d.src + v * d.sstride) d.sf d.cols)
    else (List.replicate (d.df.bytesFor d.cols) 0#8, .none))
  { writes := rows.zipIdx.map (fun p => (d.dspace, d.dst + p.2 * d.dstride, p.1.1))
    flags := AFlags.all (rows.map Prod.snd)
    oob := ((indices s core d).filter (fun v => decide (limit ≤ v))).length, code := 0 }

/-- XOR of words and the runs of R201: whether each word belongs to a literal; a lone zero between non-zero words does. -/
def literalWords : Bool → List Nat → List Bool
  | _, [] => []
  | prev, d :: r =>
    let next := match r with | e :: _ => e != 0 | [] => false
    (d != 0 || (prev && next)) :: literalWords (d != 0) r

/-- Maximal runs: whether literal, and the words. -/
def runsOf : List (Bool × Nat) → List (Bool × List Nat)
  | [] => []
  | (b, d) :: r =>
    match runsOf r with
    | (b', l) :: rest => if b = b' then (b, d :: l) :: rest else (b, [d]) :: (b', l) :: rest
    | [] => [(b, [d])]

/-- The tokens of a run, cut at 32,767 words. -/
def runTokens (run : Bool × List Nat) : List Byte :=
  (chunks 32767 (run.2.length + 1) run.2).flatMap (fun w =>
    if run.1 then leBytes 2 (0x8000 + w.length) ++ w.flatMap (leBytes 8) else leBytes 2 w.length)

/-- The encoded stream of deltas (R201): the header only, with OVF, when it would exceed CAP. -/
def encodeDelta (ds : List Nat) (cap : Nat) : List Byte :=
  let body := (runsOf (List.zip (literalWords false ds) ds)).flatMap runTokens ++ leBytes 2 0
  let len := 8 + body.length
  let nz := (ds.filter (fun d => d != 0)).length
  if cap < len then leBytes 8 (8 + nz * 2 ^ 32 + 2 ^ 63) else leBytes 8 (len + nz * 2 ^ 32) ++ body

/-- Words of 8 B. -/
def wordsOf (l : List Byte) : List Nat := (chunks 8 (l.length + 1) l).map leNat

/-- XDELTA (R201). -/
def xdeltaWork (s : State) (core : Nat) (d : DmaDesc) : DmaWork :=
  let cur := wordsOf (s.dataAt core d.sspace d.src (8 * d.cols))
  let ref := if bit d.arg0 41 then List.replicate d.cols 0 else wordsOf (s.dataAt core (refSpace d.arg0) (refAddr d.arg0) (8 * d.cols))
  let ds := List.zipWith (· ^^^ ·) cur ref
  .of ((d.dspace, d.dst, encodeDelta ds (bits d.arg1 31 0)) ::
    (if bit d.arg0 42 then [(refSpace d.arg0, refAddr d.arg0, cur.flatMap (leBytes 8))] else []))

/-- The deltas of an encoded stream's tokens: the words and the bytes consumed, `none` where no end token closes it. -/
def decodeTokens : Nat → List Byte → Option (List Nat × Nat)
  | 0, _ => none
  | f + 1, l =>
    if l.length < 2 then none
    else
      let t := leNat (l.take 2)
      let n := t % 32768
      if t = 0 then some ([], 2)
      else if t < 32768 then (decodeTokens f (l.drop 2)).map (fun r => (List.replicate n 0 ++ r.1, r.2 + 2))
      else if l.length < 2 + 8 * n then none
      else (decodeTokens f (l.drop (2 + 8 * n))).map (fun r => (wordsOf ((l.drop 2).take (8 * n)) ++ r.1, r.2 + 2 + 8 * n))

/-- The deltas of a stream that passes the first pass of R202 for `cols` words. -/
def decodeDelta (stream : List Byte) (cols : Nat) : Option (List Nat) :=
  let h := leNat (stream.take 8)
  if bit h 63 then none
  else match decodeTokens (stream.length + 1) (stream.drop 8) with
    | some (ds, n) => if ds.length = cols ∧ bits h 31 0 = 8 + n then some ds else none
    | none => none

/-- XAPPLY (R202). -/
def xapplyWork (s : State) (core : Nat) (d : DmaDesc) : DmaWork :=
  let len := bits (leNat (s.dataAt core d.sspace d.src 8)) 31 0
  match decodeDelta (s.dataAt core d.sspace d.src (max 8 len)) d.cols with
  | some ds =>
    let cur := wordsOf (s.dataAt core d.dspace d.dst (8 * d.cols))
    .of [(d.dspace, d.dst, (List.zipWith (· ^^^ ·) cur ds).flatMap (leBytes 8))]
  | none => { DmaWork.of [] with code := 0x0809 }

/-- FILL (R193). -/
def fillWork (d : DmaDesc) : DmaWork :=
  .of ((List.range d.rows).map (fun i => (d.dspace, d.dst + i * d.dstride, (List.replicate d.cols (leBytes 8 d.arg0)).flatten)))

/-- The work of a descriptor but SCATTER. -/
def dmaWork (s : State) (core : Nat) (d : DmaDesc) : DmaWork :=
  if d.rows = 0 then .of []
  else match d.op with
  | 1 => copyWork s core d
  | 2 => alayoutWork s core d
  | 3 => gatherWork s core d
  | 5 => xdeltaWork s core d
  | 6 => xapplyWork s core d
  | 7 => fillWork d
  | _ => .of []

/-! ### What a descriptor reads -/

/-- The home address of a place of a core's space. -/
def State.placeOf (s : State) (core space a : Nat) : Nat := if space = 0 then spBase core + a else s.home a

/-- Errors met in ranges that a unit reads, each burst or granule once however many of the ranges it lies in (log 36). -/
def State.noteRanges (s : State) (core cls : Nat) (l : List DmaRange) : State :=
  s.noteSpans cls (l.map (fun r => (s.placeOf core r.space r.addr, r.len)))

/-- What a descriptor reads of memory before it writes (R195–R202): rows without the gaps between them, and of a table the rows that
an index names. A SCATTER's reads of the rows it adds to and of the bitmap come as it writes. -/
def DmaDesc.reads (d : DmaDesc) (s : State) (core : Nat) : List DmaRange :=
  let at' (space a n : Nat) : DmaRange := { space, addr := a, len := n, write := false }
  let row (i : Nat) : DmaRange := at' d.sspace (d.src + i * d.sstride) (d.sf.bytesFor d.cols)
  let idx : DmaRange := at' (refSpace d.arg0) (refAddr d.arg0) (d.rows * (if bit d.arg0 41 then 2 else 4))
  let inTable (v : Nat) : Bool := decide (v < bits d.arg1 31 0)
  match d.op with
  | 1 => (List.range d.rows).map row
  | 2 => (List.range d.rows).map row
  | 3 => idx :: ((indices s core d).filter inTable).map row
  | 4 => idx :: ((indices s core d).zipIdx.filter (fun p => inTable p.1)).map (fun p => row p.2)
  | 5 =>
    at' d.sspace d.src (8 * d.cols) ::
      (if bit d.arg0 41 then [] else [at' (refSpace d.arg0) (refAddr d.arg0) (8 * d.cols)])
  | 6 =>
    let n := max 8 (bits (leNat (s.dataAt core d.sspace d.src 8)) 31 0)
    at' d.sspace d.src n ::
      (if (decodeDelta (s.dataAt core d.sspace d.src n) d.cols).isSome then [at' d.dspace d.dst (8 * d.cols)] else [])
  | _ => []

/-- A write of a unit that works through an engine. -/
def State.dmaWrite (s : State) (core : Nat) (who : WriteBy) (w : Nat × Nat × List Byte) : State :=
  s.write who (s.placeOf core w.1 w.2.1) w.2.2

/-- Bytes that a unit reads back while it writes: its own writes are in them, also those that wait for a page copy. -/
def State.ownData (s : State) (core : Nat) (who : WriteBy) (space a n : Nat) : List Byte :=
  if space = 0 then s.spBytes core a n else s.overlay who (s.home a) (s.bytes (s.home a) n)

/-- A bit of a TOUCH bitmap set (R181, R200). -/
def State.touch (s : State) (core : Nat) (who : WriteBy) (space base v : Nat) : State :=
  let a := base + v / 8
  let s := s.noteRead 1 (s.placeOf core space a) 1
  s.dmaWrite core who (space, a, leBytes 1 (setBit (leNat (s.ownData core who space a 1)) (v % 8)))

/-- SCATTER (R200): rows in ascending order, each reading what the one before wrote: the state, bytes written, flags and
indices out of bounds. Of an ADD the flags are those of its conversion into DFMT, the ones that R196 names; whether the FP32 add
itself raises OVF or INV the spec leaves open, and here it raises none (DESIGN CHOICE, log 37). -/
def scatterRows (core : Nat) (who : WriteBy) (d : DmaDesc) : List Nat → Nat → State → State × Nat × AFlags × Nat
  | [], _, s => (s, 0, .none, 0)
  | v :: rest, i, s =>
    if bits d.arg1 31 0 ≤ v then
      let (s, n, f, o) := scatterRows core who d rest (i + 1) s
      (s, n, f, o + 1)
    else
      let codes := s.rowCodes core d.sspace (d.src + i * d.sstride) d.sf d.cols
      let a := d.dst + v * d.dstride
      let add := bit d.arg1 32
      let s := if add then s.noteRead 1 (s.placeOf core d.dspace a) (d.df.bytesFor d.cols) else s
      let (row, f) : List Byte × AFlags :=
        if add then
          let old := d.df.unpack d.cols (s.ownData core who d.dspace a (d.df.bytesFor d.cols))
          let l := List.zipWith (fun c o =>
            d.df.convert .rne d.clip true (round32 ((d.df.decode o).add (d.sf.decode c))).1) codes old
          (d.df.pack (l.map Prod.fst) [], AFlags.all (l.map Prod.snd))
        else d.convertRow codes
      let s := s.dmaWrite core who (d.dspace, a, row)
      let touch := bit d.arg2 41
      let s := if touch then s.touch core who (refSpace d.arg2) (refAddr d.arg2) v else s
      let (s, n, f', o) := scatterRows core who d rest (i + 1) s
      (s, n + row.length + (if touch then 1 else 0), f.or f', o)

/-! ### The engine's queue -/

/-- The queue and the descriptors in progress of an engine. -/
def Core.dmaQ (c : Core) (e : Nat) : List DmaOp := if e = 0 then c.dmaQ0 else c.dmaQ1
def Core.dmaRun (c : Core) (e : Nat) : List DmaRun := if e = 0 then c.dma0 else c.dma1
def Core.setDma (c : Core) (e : Nat) (q : List DmaOp) (r : List DmaRun) : Core :=
  if e = 0 then { c with dmaQ0 := q, dma0 := r } else { c with dmaQ1 := q, dma1 := r }

/-- DMA_LAST_ERROR (Table 7-6). -/
def State.dmaError (s : State) (core engine op code : Nat) : State :=
  (s.count 32 (Obj.DMA_ERRORS core) 1).setObj (Obj.DMA_LAST_ERROR core)
    (s.chr + code * 2 ^ 64 + engine * 2 ^ 80 + op * 2 ^ 84)

/-- The end of a descriptor that fails: its error completion, and the park that 0x0801 brings (R195, R202). -/
def State.failDma (s : State) (core engine : Nat) (d : DmaDesc) (code addr : Nat) : State :=
  let s := s.dmaError core engine d.op code
  if code = 0x0801 then
    let s := if d.doneEn then s.postCoreWp core d.doneWp (.error code) else s
    s.outOfSlice core 0xFF addr
  else s.postCoreWp core (if d.doneEn then d.doneWp else s.obj (Obj.LAUNCH_WP core)) (.error code)

/-- A consistent descriptor whose ranges pass does its work: the state, bytes, flags, or the code that ends it. -/
def State.doDma (s : State) (core : Nat) (who : WriteBy) (d : DmaDesc) : State × Nat × AFlags × Nat :=
  let s := s.noteRanges core 1 (if d.rows = 0 then [] else d.reads s core)
  let (s, n, f, oob, code) : State × Nat × AFlags × Nat × Nat :=
    if d.op = 4 ∧ d.rows ≠ 0 then
      let (s, n, f, o) := scatterRows core who d (indices s core d) 0 s
      (s, n, f, o, 0)
    else
      let w := dmaWork s core d
      (w.writes.foldl (fun t x => t.dmaWrite core who x) s, (w.writes.map (fun x => x.2.2.length)).foldl (· + ·) 0, w.flags, w.oob, w.code)
  ((s.count 32 (Obj.DMA_OOB core) oob).setFlags core f, n, f, code)

/-- DMA_DESCRIPTOR_START (R195): the descriptor at the head of the queue starts; a failing range or stream ends it. -/
def doDmaDescriptorStart (core engine : Nat) (errors : List StoredError) (s : State) : Out :=
  if 2 ≤ engine then .next s else
  withCore s core <|
    let c := s.core core
    match c.dmaQ engine with
    | [] => .next s
    | op :: rest =>
      let d := DmaDesc.of op.desc
      let run := c.dmaRun engine
      if d.ord && !run.isEmpty then .next s
      else
        let s := s.strikes errors
        let s := (s.setCore core (c.setDma engine rest run)).progressed core
        if !d.ok then .next (s.undefinedResult core)
        else match s.firstFailure core (if d.rows = 0 then [] else d.ranges s core) with
        | some (code, a) =>
          let s := if code = 0x0803 then s.count 32 Obj.WAKE_REFUSALS 1 else s
          .next (s.failDma core engine d code a)
        | none =>
          let (s, n, f, code) := s.doDma core (.dma core engine op.tag) d
          if code ≠ 0 then .next (s.failDma core engine d code d.src)
          else
            let c := s.core core
            .next (s.setCore core (c.setDma engine (c.dmaQ engine) (c.dmaRun engine ++ [{ op, bytes := n, flags := f }])))

/-- DMA_COMPLETE (R203): the oldest descriptor in progress completes once every one of its own writes is performed. -/
def doDmaComplete (core engine : Nat) (s : State) : Out :=
  if 2 ≤ engine then .next s else
  withCore s core <|
    let c := s.core core
    match c.dmaRun engine with
    | [] => .next s
    | r :: rest =>
      if s.writeWaits (.dma core engine r.op.tag) then .next s
      else
        let d := DmaDesc.of r.op.desc
        let s := (s.setCore core (c.setDma engine (c.dmaQ engine) rest)).progressed core
        let s := s.count 64 (if engine = 0 then Obj.DMA0_DESCRIPTORS core else Obj.DMA1_DESCRIPTORS core) 1
        let s := (s.count 64 (Obj.DMA_BYTES core) r.bytes).flagEvent core r.flags
        .next (if d.doneEn then s.postCoreWp core d.doneWp (.add 1) else s)

end Sys2Proof.Machine
end

