-- ==== Sys2Proof/Machine/Waypoint.lean ====
section
/-! DEFINITION. The Waypoint unit (09): ownership (R236), operations on an entry (R239–R243), waits and what wakes or faults a
core (R245, R246), launches (R131, R157, R168) and the table of timed adds (R247, R248). -/

namespace Sys2Proof.Machine

/-! ### Lines of the instruction cache that are asked for (R145, R146) -/

/-- The number of the 512 B line that holds a bundle address. -/
def lineOf (a : Nat) : Nat := a / 512

/-- A line that the instruction cache holds, as its 4,096 bits. -/
def Core.line (c : Core) (l : Nat) : Option Nat := Sparse.get (fun _ => none) c.icache l

/-- The check of a line's address before the fetcher reads it (R146): 0x0802 in no HBM, 0x0801 outside the slice. -/
def State.lineCode (s : State) (core line : Nat) : Nat :=
  if 0xC000000000 ≤ line * 512 then 0x0802
  else if s.sliceOfCore core ≠ 0xFFFF ∧ s.hbmOwnedBy (s.sliceOfCore core) (line * 512) 512 then 0 else 0x0801

/-- A sequential prefetch or a PFI asks for a line (R145, R146): one that is present, asked for or fails the check has no
effect. -/
def State.prefetchLine (s : State) (core line : Nat) : State :=
  let c := s.core core
  if (c.line line).isSome || c.demand == some line || c.ahead.contains line || s.lineCode core line != 0 then s
  else s.setCore core { c with ahead := c.ahead ++ [line] }

/-- The core enters a line: the next in program sequence is asked for (R145). -/
def State.enterLine (s : State) (core pc : Nat) : State := s.prefetchLine core (lineOf pc + 1)

/-! ### Ownership (R236, R507) -/

/-- The local address of a Waypoint's entry (R235). -/
def wpAddr (wp : Nat) : Nat := 0xE000000000 + 32 * wp

/-- The check of R236: 0x0802 for an unowned group, 0x0801 for another slice's. -/
def State.wpCode (s : State) (slice wp : Nat) : Nat :=
  if s.wpOwner wp = 0xFFFF then 0x0802 else if s.wpOwner wp = slice then 0 else 0x0801

/-- SOURCE of a log entry about a Waypoint operation (Table 17-6). -/
def Asker.source : Asker → Nat
  | .core n _ => srcCode 1 n
  | .unit => 0
  | .host _ => srcCode 6 0
  | .frame _ _ => srcCode 3 0
  | .timed => 0

/-- The device and core that a log entry about a Waypoint operation names (R438). -/
def Asker.origin (a : Asker) (self : Nat) : Nat × Nat :=
  match a with
  | .core n _ => (self, n)
  | .frame d c => (d, c)
  | _ => (self, 0x7F)

/-- The entry that a refusal by R236 makes: the violation log for a mismatch, the event log for an unowned group. -/
def State.logWpRefusal (s : State) (a : Asker) (slice wp code : Nat) : State :=
  let (dev, core) := a.origin s.selfId
  let args := fabricArgs dev core s.selfId (wpAddr wp)
  if code = 0x0801 then s.logViolation code a.source slice args else s.logEvent .unownedWaypoint code a.source slice args

/-- Whether a fault can park a core: it is ARMED, RUNNING or WAITING. -/
def State.canFault (s : State) (core : Nat) : Bool :=
  s.coreSt core == .armed || s.coreSt core == .running || s.coreSt core == .waiting

/-- What follows a refused operation: the log entry, and the park of the core that asked, unless it asked for an error
completion (R507). -/
def State.refuseWp (s : State) (r : WpReq) (code : Nat) : State :=
  let s := s.logWpRefusal r.asker r.slice r.wp code
  match r.asker, r.kind with
  | .core _ _, .error _ => s
  | .core n slot, _ => if s.canFault n then s.faultPark n 7 code slot r.wp 0 else s
  | _, _ => s

/-! ### Operations (R239–R243) -/

/-- An entry as an operation at a Chronometer time finds it: what an earlier instant has set is no longer of the same cycle. -/
def Wp.at (w : Wp) (time : Nat) : Wp :=
  if w.lastTime = time then w else { w with lastTime := time, nowOvf := false, nowErr := none }

/-- A CLEAR that arrives in one cycle with the sets of `nowOvf` and `nowErr`: those stay (R243). -/
def Wp.clearTogether (w : Wp) (o e : Bool) : Wp :=
  let w := if o then { w with ovf := w.nowOvf } else w
  if e then
    match w.nowErr with
    | some (c, n) => { w with err := true, errCode := c, errCount := min 255 n }
    | none => { w with err := false, errCode := 0, errCount := 0 }
  else w

/-- A CLEAR of the bits named (R241). -/
def Wp.clear (w : Wp) (o e : Bool) : Wp :=
  let w := if o then { w with ovf := false, nowOvf := false } else w
  if e then { w with err := false, errCode := 0, errCount := 0, nowErr := none } else w

/-- An entry after an operation performed at a Chronometer time. -/
def Wp.apply (w : Wp) (k : WpKind) (time : Nat) : Wp :=
  let w := w.at time
  match k with
  | .add v =>
    if 2 ^ 64 ≤ w.value + v then { w with value := 2 ^ 64 - 1, ovf := true, nowOvf := true } else { w with value := w.value + v }
  | .set v => { w with value := v % 2 ^ 64 }
  | .error c =>
    { w with
      err := true, errCode := if w.err then w.errCode else c, errCount := min 255 (w.errCount + 1)
      nowErr := match w.nowErr with | some (d, n) => some (d, n + 1) | none => some (c, 1) }
  | .mark m => { w with mark := m % 2 ^ 64 }
  | .clear o e together => if together then w.clearTogether o e else w.clear o e

/-- The counters that an operation raises (Table 9-7). -/
def State.countWp (s : State) (k : WpKind) (w : Wp) : State :=
  let s := s.count 64 Obj.WP_OPS 1
  match k with
  | .add v => if 2 ^ 64 ≤ w.value + v then s.count 32 Obj.WP_OVF_EVENTS 1 else s
  | .error _ => s.count 32 Obj.WP_ERR_EVENTS 1
  | _ => s

/-- An operation performed on an entry, before anything that watches the Waypoint is tested. -/
def State.applyWp (s : State) (wp : Nat) (k : WpKind) : State :=
  (s.countWp k (s.wp wp)).setWp wp ((s.wp wp).apply k s.chr)

/-! ### Activation accounts (R331) -/

/-- Whether a slot is ACTIVE. -/
def State.stageActive (s : State) (k : Nat) : Bool := s.obj (Obj.STG_STATE k) == 1

/-- The account of an ACTIVE slot after an operation on one of its two Waypoints (R331). -/
def State.account (s : State) (k : Nat) : State :=
  let charge := (s.wp (s.obj (Obj.CHARGE_WP k))).value
  let free := (s.wp (s.obj (Obj.FREE_WP k))).value
  let used := charge - free
  let s := s.setObjs [(Obj.ACT_USED k, used), (Obj.ACT_HIGH k, max used (s.obj (Obj.ACT_HIGH k)))]
  let s := if charge < free then s.raise (Obj.ACT_STATUS k) 2 else s
  let limit := s.obj (Obj.ACT_LIMIT k)
  if limit ≠ 0 ∧ limit < used then
    ((s.raise (Obj.ACT_STATUS k) 1).count 32 (Obj.ACT_OVER_EVENTS k) 1).logEvent .actOver 0 (srcCode 0 0) 0xFFFF (k + used * 2 ^ 8)
  else s

/-- The accounts that an operation on a Waypoint concerns. -/
def State.accounts (s : State) (wp : Nat) : State :=
  ((List.range 8).filter (fun k => s.stageActive k && (s.obj (Obj.CHARGE_WP k) == wp || s.obj (Obj.FREE_WP k) == wp))).foldl State.account s

/-! ### Waits (R245, R246) -/

/-- How a wait arrives at the unit. -/
inductive WaitAns where
  | refused (code : Nat)
  | fault (code : Nat)
  | satisfied
  | held
  deriving DecidableEq, Repr

/-- The test of a wait that arrives (R236, R245, R246). -/
def State.waitAns (s : State) (slice wp threshold : Nat) : WaitAns :=
  if s.wpCode slice wp ≠ 0 then .refused (s.wpCode slice wp)
  else if (s.wp wp).err then .fault (s.wp wp).errCode
  else if threshold ≤ (s.wp wp).value then .satisfied
  else .held

/-- A wait that the unit takes is an operation on its Waypoint (Table 9-3): it is counted, LAST_TIME is its time (R242),
and the accounts of its Waypoint are recomputed (R331, log 80). -/
def State.tookWait (s : State) (wp : Nat) : State := ((s.count 64 Obj.WP_OPS 1).setWp wp ((s.wp wp).at s.chr)).accounts wp

/-- A waiter entry. -/
def State.addWaiter (s : State) (core wp threshold : Nat) (k : WaitKind) : State :=
  { s with waiters := s.waiters ++ [{ core, wp, threshold, kind := k }] }

/-- SLOT of FAULT_RECORD for a wait: the sync slot of a program's WWAIT. -/
def WaitKind.slot : WaitKind → Nat
  | .wwait => 5
  | _ => 0xFF

/-- A refused wait parks its core (R507); one on a Waypoint with ERR = 1 faults it (R246). -/
def State.failWait (s : State) (core wp : Nat) (k : WaitKind) (ans : WaitAns) : State :=
  match ans with
  | .refused code => (s.logWpRefusal (.core core k.slot) (s.sliceOfCore core) wp code).faultPark core 7 code k.slot wp 0
  | .fault code => (s.tookWait wp).faultPark core 9 code k.slot wp 0
  | _ => s

/-- The registers at launch in program mode (R131). -/
def Core.launchProgram (c : Core) (arg entry now : Nat) : Core :=
  { c with
    a := Sparse.set (fun _ => 0#48) [] 0 (BitVec.ofNat 48 arg), k := [], p := 0, loops := [], pc := entry % 2 ^ 48
    hold := .none, launch := now, wdog := 0 }

/-- A launch (R131, R157, R168): a program starts at ENTRY_PC; a core in layer mode loads the record there with LAP 0. -/
def State.launchCore (s : State) (core : Nat) : State :=
  let c := s.core core
  let entry := s.obj (Obj.ENTRY_PC core)
  let s := s.setCoreSt core .running
  if c.mode = 0 then
    (s.setCore core (c.launchProgram (s.obj (Obj.LAUNCH_ARG core)) entry s.now)).enterLine core entry
  else
    (s.setObj (Obj.LAP core) 0).setCore core
      { c with layer := .loading (entry % 2 ^ 40), pc := entry % 2 ^ 48, launch := s.now, wdog := 0 }

/-- A satisfied wait: the launch, the program goes on, or the layer may run once nothing else holds it. -/
def State.wake (s : State) (w : Waiter) : State :=
  match w.kind with
  | .launch => s.launchCore w.core
  | .wwait => (s.setCoreSt w.core .running).setCore w.core { s.core w.core with hold := .woken }
  | .layer => if s.waiters.any (fun x => x.core == w.core) then s else s.post (.layer w.core)

/-- The waiters of a Waypoint tested after an operation (R245): those that VALUE meets wake. -/
def State.testWaiters (s : State) (wp : Nat) : State :=
  let v := (s.wp wp).value
  let met (w : Waiter) : Bool := w.wp == wp && decide (w.threshold ≤ v)
  let s' := { s with waiters := s.waiters.filter (fun w => !met w) }
  (s.waiters.filter met).foldl State.wake s'

/-- An error completion reaches a Waypoint on which cores wait: each faults (R246). -/
def State.faultWaiters (s : State) (wp : Nat) : State :=
  (s.waiters.filter (fun w => w.wp == wp)).foldl
    (fun t w => if t.canFault w.core then t.faultPark w.core 9 (t.wp wp).errCode w.kind.slot wp 0 else t) s

/-- An operation performed with the waits on its Waypoint tested. -/
def State.performWp (s : State) (wp : Nat) (k : WpKind) : State :=
  let s := s.applyWp wp k
  match k with
  | .error _ => s.faultWaiters wp
  | _ => s.testWaiters wp

/-! ### Timed adds (R247, R248) -/

/-- The timed adds that wait. -/
def timedSlots : Nat := 2048

/-- A registration in the table: due at once where its time has passed. -/
def State.registerTimed (s : State) (t : Timed) : State :=
  if t.time ≤ s.chr then s.post (.wp { asker := .timed, slice := t.slice, wp := t.wp, kind := .add t.value })
  else { s with timed := s.timed ++ [t] }

/-- The registered add with the least time, the first registered of equals. -/
def earliest : List Timed → Option Timed
  | [] => none
  | t :: r =>
    match earliest r with
    | some u => if u.time < t.time then some u else some t
    | none => some t

/-- Adds that wait for the table registered in order while it has room (R247): one whose time has passed takes no entry. -/
def State.admitEach : List Timed → State → State
  | [], s => s
  | t :: r, s =>
    if s.timed.length < timedSlots then State.admitEach r (s.registerTimed t) else { s with timedHeld := s.timedHeld ++ t :: r }

/-- Every add that waits for the table tried. -/
def State.admitTimed (s : State) : State := State.admitEach s.timedHeld { s with timedHeld := [] }

/-- Timed adds dropped and counted: all that `p` names (R248); those that wait for the table with them. -/
def State.dropTimed (s : State) (p : Timed → Bool) : State :=
  let n := (s.timed.filter p).length + (s.timedHeld.filter p).length
  { s.count 32 Obj.TIMED_DROPPED n with timed := s.timed.filter (fun t => !p t), timedHeld := s.timedHeld.filter (fun t => !p t) }.admitTimed

/-- The entries of a group set to 0 and its timed adds dropped (R237). -/
def State.clearGroup (s : State) (g : Nat) : State :=
  ({ s with wps := Sparse.eraseRange s.wps (64 * g) 64 }).dropTimed (fun t => t.wp / 64 == g)

/-- Whether a core waits on a Waypoint of a group or is ARMED on one (R237). -/
def State.groupWaited (s : State) (g : Nat) : Bool := s.waiters.any (fun w => w.wp / 64 == g)

/-- The summary words of a group (Table 9-2). -/
def State.reached (s : State) (g : Nat) : Nat :=
  maskOf ((List.range 64).filter (fun j => (s.wp (64 * g + j)).mark != 0 && decide ((s.wp (64 * g + j)).mark ≤ (s.wp (64 * g + j)).value)))
def State.attn (s : State) (g : Nat) : Nat :=
  maskOf ((List.range 64).filter (fun j => (s.wp (64 * g + j)).ovf || (s.wp (64 * g + j)).err))

/-- The 256 bits of an entry (Table 9-1). -/
def Wp.word (w : Wp) : Nat :=
  w.value + w.mark * 2 ^ 64 + w.lastTime * 2 ^ 128 + b2n w.ovf * 2 ^ 192 + b2n w.err * 2 ^ 193 + w.errCode * 2 ^ 208 +
    w.errCount * 2 ^ 224

/-- The Waypoint window as bytes of its layout (R235, R238): entries, then summaries. -/
def State.windowWord (s : State) (off : Nat) : Nat :=
  if off < 0x80000 then bits (s.wp (off / 32)).word (8 * (off % 32) + 63) (8 * (off % 32))
  else if off % 16 < 8 then s.reached ((off - 0x80000) / 16) else s.attn ((off - 0x80000) / 16)

/-! ### The commands of the unit -/

/-- A command on a Waypoint that the module has. -/
def withWp (s : State) (wp : Nat) (k : Out) : Out := if wp < 16384 then k else .next s

/-- An operation of the unit asked for by a requester of a slice (R236). -/
def State.askWp (s : State) (a : Asker) (slice wp : Nat) (k : WpKind) : State := s.post (.wp { asker := a, slice, wp, kind := k })

/-- WAYPOINT_ADD (R240). -/
def doWaypointAdd (slice wp value : Nat) (s : State) : Out := withWp s wp (.next (s.askWp .unit slice wp (.add (value % 2 ^ 64))))

/-- WAYPOINT_SET (R239). -/
def doWaypointSet (slice wp value : Nat) (s : State) : Out := withWp s wp (.next (s.askWp .unit slice wp (.set (value % 2 ^ 64))))

/-- ERROR_COMPLETION (R241). -/
def doErrorCompletion (slice wp code : Nat) (s : State) : Out := withWp s wp (.next (s.askWp .unit slice wp (.error (code % 2 ^ 16))))

/-- WAYPOINT_WAIT (R245): the wait of a running program arrives. -/
def doWaypointWait (core wp threshold : Nat) (s : State) : Out :=
  if 104 ≤ core then .next s else
  withWp s wp <|
    if s.coreSt core = .running ∧ (s.core core).hold = .none then
      match s.waitAns (s.sliceOfCore core) wp (threshold % 2 ^ 64) with
      | .satisfied => let s := s.tookWait wp; .next (s.setCore core { s.core core with hold := .woken })
      | .held =>
        let s := ((s.tookWait wp).addWaiter core wp (threshold % 2 ^ 64) .wwait).setCoreSt core .waiting
        .next (s.setCore core { s.core core with hold := .wwait wp (threshold % 2 ^ 64) })
      | ans => .next (s.failWait core wp .wwait ans)
    else .next s

/-- TIMED_ADD (R247): registered where the table has room; a full table leaves it waiting until an entry frees, which is counted. -/
def doTimedAdd (slice wp value time : Nat) (s : State) : Out :=
  withWp s wp <|
    let code := s.wpCode slice wp
    if code ≠ 0 then .next (s.logWpRefusal .unit slice wp code)
    else
      let t : Timed := { wp, value := value % 2 ^ 64, time, slice }
      if timedSlots ≤ s.timed.length then
        .next { s.count 32 Obj.TIMED_FULL_WAITS 1 with timedHeld := s.timedHeld ++ [t] }
      else .next (s.registerTimed t)

/-- TIMED_ADD_DUE (R247): the Chronometer has reached the earliest registered time. -/
def doTimedAddDue (s : State) : Out :=
  match earliest s.timed with
  | none => .next s
  | some t =>
    if t.time ≤ s.chr then
      .next (({ s with timed := s.timed.erase t }.askWp .timed t.slice t.wp (.add t.value)).admitTimed)
    else .next s

end Sys2Proof.Machine
end

