-- ==== Sys2Proof/Machine/Issue.lean ====
section
/-! DEFINITION. Core programs (05): the bundle and its slots, legality (R160), the holds of R154, the effects of every slot,
hardware loops and branches, and BUNDLE_ISSUE, LDA_WRITEBACK and LINE_FILL. -/

namespace Sys2Proof.Machine

/-! ### Registers (R130, R131) -/

/-- A[i]. -/
def Core.reg (c : Core) (i : Nat) : Nat := (Sparse.get (fun _ => 0#48) c.a i).toNat

/-- A[i] written, modulo 2^48. -/
def Core.setReg (c : Core) (i v : Nat) : Core := { c with a := Sparse.set (fun _ => 0#48) c.a i (BitVec.ofNat 48 v) }

/-- K[i]. -/
def Core.loopReg (c : Core) (i : Nat) : Nat := (Sparse.get (fun _ => 0#32) c.k i).toNat

/-- K[i] written. -/
def Core.setLoopReg (c : Core) (i v : Nat) : Core := { c with k := Sparse.set (fun _ => 0#32) c.k i (BitVec.ofNat 32 v) }

/-- P[i]; P0 reads as 1 (R128). -/
def Core.pred (c : Core) (i : Nat) : Bool := i == 0 || bit c.p i

/-- P[i] written; a write to P0 has no effect (R130). -/
def Core.setPred (c : Core) (i : Nat) (b : Bool) : Core := if i = 0 then c else { c with p := putBit c.p i b }

/-- The 64-bit value of a register pair (R150). -/
def Core.pair (c : Core) (r : Nat) : Nat := c.reg (r + 1) % 2 ^ 16 * 2 ^ 48 + c.reg r

/-! ### Slots (Tables 5-1, 5-3, 5-5, 5-6, 5-9) -/

/-- The six slots of a bundle as their words. -/
structure Slots where
  scalar : Nat
  load   : Nat
  store  : Nat
  matrix : Nat
  vector : Nat
  sync   : Nat
  deriving DecidableEq, Repr

/-- The slots of a bundle (Table 5-1). -/
def Slots.of (b : Nat) : Slots :=
  { scalar := bits b 63 16, load := bits b 103 64, store := bits b 143 104, matrix := bits b 183 144,
    vector := bits b 215 184, sync := bits b 255 216 }

/-- OP of a slot; the vector slot's is four bits wide (R143). -/
def slotOp (w : Nat) : Nat := bits w 9 4
def vectorOp (w : Nat) : Nat := bits w 7 4

/-- Whether a slot's operation takes effect (R128). -/
def Core.takes (c : Core) (w : Nat) : Bool := xor (c.pred (bits w 2 0)) (bit w 3)

/-- Scalar fields (Table 5-3). -/
def scD (w : Nat) : Nat := bits w 14 10
def scS1 (w : Nat) : Nat := bits w 20 15
def scS2 (w : Nat) : Nat := bits w 26 21
def scImm (w : Nat) : Nat := bits w 47 27

/-- Fields of the load, store and matrix slots (Tables 5-5, 5-6): D or R1, B or R2, OFF or IMM. -/
def memD (w : Nat) : Nat := bits w 14 10
def memB (w : Nat) : Nat := bits w 19 15
def memOff (w : Nat) : Int := toSigned 20 (bits w 39 20)

/-- Sync fields (Table 5-9). -/
def syR1 (w : Nat) : Nat := bits w 14 10
def syR2 (w : Nat) : Nat := bits w 19 15
def syImmv (w : Nat) : Bool := bit w 34
def syIdx (w : Nat) : Bool := bit w 35
def syRemote (w : Nat) : Bool := bit w 36
def syUnits (w : Nat) : Nat := bits w 38 35

/-- A base register plus a signed offset, modulo 2^48. -/
def Core.offset (c : Core) (r : Nat) (off : Int) : Nat := ofSigned 48 ((c.reg r : Int) + off)

/-! ### Legality (R160) -/

/-- The source codes that exist (Table 5-2). -/
def sourceOk (code : Nat) : Bool := decide (code ≤ 0x27) || code == 0x3F

/-- How many sources a scalar operation reads. -/
def scSources (w : Nat) : Nat :=
  match slotOp w with
  | 0x01 => 2 | 0x02 => 1 | 0x03 => 2 | 0x04 => 1 | 0x05 => 1 | 0x06 => 2 | 0x07 => 2 | 0x08 => 2 | 0x09 => 1 | 0x0A => 2
  | 0x0C => 1 | 0x0D => 1 | 0x0E => 2 | 0x0F => 2 | 0x10 => 2 | 0x11 => 1
  | 0x20 => if bit (scD w) 4 then 0 else 1
  | _ => 0

/-- The source codes that a scalar operation reads; one in a field that the operation does not read is not looked at (R160; DESIGN
CHOICE, log 140). -/
def scReads (w : Nat) : List Nat := [scS1 w, scS2 w].take (scSources w)

/-- The scalar slot's rules (R132, R134, R160). -/
def scalarOk (w : Nat) : Bool :=
  let op := slotOp w
  (decide (op ≤ 0x12) || op == 0x20 || op == 0x21) && (scReads w).all sourceOk &&
    (!(op == 0x10 || op == 0x11) || decide (bits (scImm w) 2 0 < 6)) && (op != 0x20 || bits (scD w) 3 2 == 0)

/-- The sync slot's rules (R150, R160). -/
def syncOk (w : Nat) : Bool :=
  let op := slotOp w
  if op = 5 then !syImmv w && !bit w 39
  else
    decide (op ≤ 7) && bits w 39 37 == 0 && !(syIdx w && syRemote w) && (!syRemote w || op == 1) &&
      (!(decide (1 ≤ op) && decide (op ≤ 4) && !syImmv w) || syR2 w % 2 == 0) &&
      (!(op == 4 || op == 6) || syR1 w % 2 == 0)

/-- The address registers that a bundle's slots write, each slot's apart (R129). -/
def slotWrites (b : Slots) : List Nat :=
  (if 1 ≤ slotOp b.scalar ∧ slotOp b.scalar ≤ 0x0F then [scD b.scalar] else []) ++
    (if slotOp b.load = 1 then [memD b.load] else []) ++
    (if slotOp b.sync = 6 then [syR1 b.sync, syR1 b.sync + 1] else [])

/-- Whether a list has no repeats. -/
def noRepeats : List Nat → Bool
  | [] => true
  | x :: r => !r.contains x && noRepeats r

/-- The slot that makes a bundle illegal (R160), 0xFF where no single slot does; `none` for a legal bundle. -/
def illegalSlot (b : Nat) : Option Nat :=
  let s := Slots.of b
  if bits b 3 0 ≠ 1 ∨ bits b 15 4 ≠ 0 then some 0xFF
  else if !scalarOk s.scalar then some 0
  else if 3 < slotOp s.load then some 1
  else if 2 < slotOp s.store then some 2
  else if 4 < slotOp s.matrix then some 3
  else if 1 < vectorOp s.vector then some 4
  else if !syncOk s.sync then some 5
  else if !noRepeats (slotWrites s) then some 0xFF
  else none

/-! ### Program sequence and loops (R134–R139, R144) -/

/-- The number of a bundle in program sequence. -/
def seqOf (pc : Nat) : Nat := pc / 65536 * 2046 + (pc % 65536 - 64) / 32

/-- The address of a bundle by its number, modulo 2^48. -/
def addrOfSeq (n : Nat) : Nat := (n / 2046 * 65536 + 64 + 32 * (n % 2046)) % 2 ^ 48

/-- The bundle numbers of the whole 48-bit address space. -/
def seqSpan : Nat := 2 ^ 32 * 2046

/-- Whether a bundle number lies in a loop's body. -/
def Loop.holds (l : Loop) (n : Nat) : Bool := decide (l.first ≤ n) && decide (n ≤ l.last)

/-- The cases of R138 for a LOOP that takes effect at a bundle. -/
def Core.loopIllegal (c : Core) (w n : Nat) : Bool :=
  c.loops.any (fun l => l.k == scD w % 4) ||
    c.loops.any (fun l => l.holds n && decide (l.last < n + 1 + bits (scImm w) 10 0))

/-- The next bundle after `last` in program sequence, innermost loop first (R137): Kn, the loops still active, and where
issue goes on. -/
def Core.wrap (c : Core) : List Loop → Nat → Core × Nat
  | [], last => ({ c with loops := [] }, last + 1)
  | l :: rest, last =>
    if l.last = last then
      if c.loopReg l.k + 1 < l.count then ({ (c.setLoopReg l.k (c.loopReg l.k + 1)) with loops := l :: rest }, l.first)
      else Core.wrap (c.setLoopReg l.k l.count) rest last
    else ({ c with loops := l :: rest }, last + 1)

/-- Where issue goes after a bundle: LOOP (R134–R136), a taken BR (R139), or the sequence with its loops (R137). The flag says
that a LOOP's body was skipped. -/
def Core.flow (c : Core) (w : Nat) (takes : Bool) (count n : Nat) : Core × Nat × Bool :=
  if takes && slotOp w == 0x20 then
    let c := c.setLoopReg (scD w % 4) 0
    let last := n + 1 + bits (scImm w) 10 0
    if count = 0 then
      let (c, next) := c.wrap c.loops last
      (c, next, true)
    else ({ c with loops := { k := scD w % 4, first := n + 1, last, count } :: c.loops }, n + 1, false)
  else if takes && slotOp w == 0x21 then
    let t := (((n : Int) + toSigned 21 (scImm w)) % (seqSpan : Int)).toNat
    ({ c with loops := c.loops.filter (fun l => l.holds t) }, t, false)
  else
    let (c, next) := c.wrap c.loops n
    (c, next, false)

/-! ### The scalar slot (Table 5-4) -/

/-- A source (Table 5-2). -/
def State.source (s : State) (core code : Nat) : Nat :=
  let c := s.core core
  if code < 0x20 then c.reg code
  else if code < 0x24 then c.loopReg (code - 0x20)
  else if code = 0x24 then core
  else if code = 0x25 then s.selfId
  else if code = 0x26 then s.obj Obj.STEP_NUM % 2 ^ 48
  else if code = 0x27 then spBase core
  else 0

/-- The unsigned relations of CMP and CMPI. -/
def relation (rel a b : Nat) : Bool :=
  match rel with
  | 0 => a == b | 1 => a != b | 2 => decide (a < b) | 3 => decide (a ≤ b) | 4 => decide (b < a) | _ => decide (b ≤ a)

/-- What a scalar operation writes. -/
inductive ScWrite where
  | none
  | reg (d v : Nat)
  | pred (d : Nat) (b : Bool)
  deriving DecidableEq, Repr

/-- A scalar operation from its sources (Table 5-4). -/
def scalarResult (c : Core) (w x y : Nat) : ScWrite :=
  let imm := toSigned 21 (scImm w)
  let d := scD w
  let low (i : Int) : ScWrite := .reg d (ofSigned 48 i)
  match slotOp w with
  | 0x01 => low ((x : Int) + y)
  | 0x02 => low ((x : Int) + imm)
  | 0x03 => low ((x : Int) - y)
  | 0x04 => .reg d (x <<< bits (scImm w) 5 0 % 2 ^ 48)
  | 0x05 => .reg d (x >>> bits (scImm w) 5 0)
  | 0x06 => .reg d (x &&& y)
  | 0x07 => .reg d (x ||| y)
  | 0x08 => .reg d (x ^^^ y)
  | 0x09 => low ((x : Int) * imm)
  | 0x0A => low ((x : Int) + y * imm)
  | 0x0B => low imm
  | 0x0C => .reg d (x ||| scImm w <<< 21)
  | 0x0D => .reg d (x ||| bits (scImm w) 5 0 <<< 42)
  | 0x0E => .reg d (min x y)
  | 0x0F => .reg d (max x y)
  | 0x10 => .pred (d % 8) (relation (bits (scImm w) 2 0) x y)
  | 0x11 => .pred (d % 8) (relation (bits (scImm w) 2 0) x (ofSigned 48 (toSigned 18 (bits (scImm w) 20 3))))
  | 0x12 =>
    let p := c.pred (scS1 w % 8)
    let q := c.pred (scS2 w % 8)
    .pred (d % 8) (match bits (scImm w) 1 0 with | 0 => p && q | 1 => p || q | 2 => xor p q | _ => p && !q)
  | _ => .none

/-- A scalar write applied. -/
def Core.applySc (c : Core) : ScWrite → Core
  | .none => c
  | .reg d v => c.setReg d v
  | .pred d b => c.setPred d b

/-! ### What holds a bundle (R141, R150, R151, R154) -/

/-- Registers that a bundle's effective slots read or write, for the hold of R141. -/
def Core.touches (c : Core) (b : Slots) : List Nat :=
  let sy := slotOp b.sync
  (if c.takes b.scalar then (scReads b.scalar).filter (fun x => decide (x < 32)) ++
      (if 1 ≤ slotOp b.scalar ∧ slotOp b.scalar ≤ 0x0F then [scD b.scalar] else []) else []) ++
    (if c.takes b.load && slotOp b.load != 0 then memB b.load :: (if slotOp b.load = 1 then [memD b.load] else []) else []) ++
    (if c.takes b.store && slotOp b.store != 0 then memB b.store :: (if slotOp b.store = 1 then [memD b.store] else []) else []) ++
    (if c.takes b.matrix && slotOp b.matrix != 0 then
      memD b.matrix :: (if slotOp b.matrix = 2 ∨ slotOp b.matrix = 3 then [memB b.matrix] else []) else []) ++
    (if c.takes b.vector && vectorOp b.vector != 0 then [bits b.vector 12 8] else []) ++
    (if c.takes b.sync && sy != 0 && sy != 5 then
      (if 1 ≤ sy ∧ sy ≤ 4 ∧ !syImmv b.sync then [syR2 b.sync, syR2 b.sync + 1] else []) ++
        (if syIdx b.sync || syRemote b.sync then [syR1 b.sync] else []) ++
        (if sy = 4 ∨ sy = 6 then [syR1 b.sync, syR1 b.sync + 1] else []) else [])

/-- Whether a bundle targets a full queue (R154). -/
def Core.queueFull (c : Core) (b : Slots) : Bool :=
  (c.takes b.matrix && slotOp b.matrix != 0 && decide (4 ≤ c.matQ.length)) ||
    (c.takes b.vector && vectorOp b.vector != 0 && decide (4 ≤ c.vecQ.length)) ||
    (c.takes b.load && slotOp b.load == 2 && decide (8 ≤ c.dmaQ0.length)) ||
    (c.takes b.store && slotOp b.store == 2 && decide (8 ≤ c.dmaQ1.length))

/-- Operations of a unit that have not completed, as the numbers of their bundles: 0 array, 1 vector engine, 2 and 3 the DMA
engines. -/
def Core.outstanding (c : Core) (unit : Nat) : List Nat :=
  match unit with
  | 0 => c.matQ.map (·.tag) ++ c.array.drain.map (·.tag)
  | 1 => c.vecQ.map (·.tag) ++ c.vec.link.toList.map (·.tag) ++ c.vec.gate.toList.map (·.tag) ++ c.vec.running.map (·.chain.tag)
  | 2 => c.dmaQ0.map (·.tag) ++ c.dma0.map (·.op.tag)
  | _ => c.dmaQ1.map (·.tag) ++ c.dma1.map (·.op.tag)

/-- Whether a FENCE on units holds issue (R150): an operation of one of them has not completed. -/
def Core.fenceHolds (c : Core) (units : Nat) : Bool := (setBits 4 units).any (fun u => !(c.outstanding u).isEmpty)

/-- Whether a sync operation enters the release buffer (R151, R153). -/
def releases (op : Nat) : Bool := op == 1 || op == 2 || op == 4 || op == 7

/-- The local Waypoint that a sync slot names. -/
def Core.syncWp (c : Core) (w : Nat) : Nat :=
  if syIdx w then (bits w 33 20 + c.reg (syR1 w)) % 16384 else bits w 33 20

/-- The value that a sync slot names. -/
def Core.syncValue (c : Core) (w : Nat) : Nat := if syImmv w then syR2 w else c.pair (syR2 w)

/-- The entry that a sync operation places in the release buffer. -/
def Core.entryOf (c : Core) (w tag : Nat) : RelEntry :=
  let kind : RelKind :=
    match slotOp w with
    | 1 => if syRemote w then .addRemote (c.reg (syR1 w) % 2 ^ 14) (bits w 33 20) (c.syncValue w) else .add (c.syncWp w) (c.syncValue w)
    | 2 => .set (c.syncWp w) (c.syncValue w)
    | 4 => .addTimed (c.syncWp w) (c.syncValue w) (c.pair (syR1 w))
    | _ => .done (c.syncWp w) (if syImmv w then syR2 w else 0)
  { kind, tag, fullWait := false }

/-! ### Address checks (R140, R142) -/

/-- The configuration pending and the one of the tile in progress once an operation that waits in the matrix queue has run: an MCFG's
block is taken as it stands (log 31). -/
def State.cfgAfter (s : State) (core : Nat) (w : MatCfg × Option MatCfg) (op : MatOp) : MatCfg × Option MatCfg :=
  match op.kind with
  | .mcfg => ((MatCfg.ofBytes (s.spBytes core op.off 32)).1, w.2)
  | .mwld => w
  | .mstr => (w.1, some (w.2.getD w.1))
  | .mcls => (w.1, none)

/-- The configuration that a weight load, and the one that a stream, would run under behind what the matrix queue holds (R63, R142). -/
def State.cfgAhead (s : State) (core : Nat) : MatCfg × MatCfg :=
  let c := s.core core
  let (p, t) := c.matQ.foldl (s.cfgAfter core) (c.array.pend, c.array.tile.map (·.cfg))
  (p, t.getD p)

/-- The first slot whose address fails, with the address: scratchpad offsets of loads, stores, descriptors and array
operations. -/
def State.addressFault (s : State) (core : Nat) (b : Slots) : Option (Nat × Nat) :=
  let c := s.core core
  let memBad (w : Nat) : Bool :=
    let off := c.offset (memB w) (memOff w)
    c.takes w && ((slotOp w == 1 && !(aligned 8 off && decide (off < spSize))) ||
      (slotOp w == 2 && !(aligned 64 off && decide (off + 64 ≤ spSize))))
  let m := b.matrix
  let mo := c.offset (memD m) (memOff m)
  let scales := (slotOp m == 2 && (s.cfgAhead core).1.bMx) || (slotOp m == 3 && (s.cfgAhead core).2.aMx)
  -- PFI, OP 3 of the load slot, makes no check (R140).
  if memBad b.load then some (1, c.offset (memB b.load) (memOff b.load))
  else if memBad b.store then some (2, c.offset (memB b.store) (memOff b.store))
  else if c.takes m && slotOp m != 0 && !decide (mo < spSize) then some (3, mo)
  else if c.takes m && scales && !decide (c.reg (memB m) < spSize) then some (3, c.reg (memB m))
  else none

/-! ### The effects of an issue -/

/-- The load slot (Table 5-5): LDA reads at once and its register follows 6 cycles later (R141); DMAQ0 copies a descriptor
(R193); PFI asks for a line (R146). -/
def State.issueLoad (s : State) (core : Nat) (c : Core) (w tag : Nat) : State :=
  let off := c.offset (memB w) (memOff w)
  if !c.takes w then s
  else match slotOp w with
  | 1 =>
    let s := s.noteRead 0 (spBase core + off) 8
    let v := BitVec.ofNat 48 (leNat (s.spBytes core off 8))
    let c := s.core core
    s.setCore core { c with lda := c.lda ++ [(memD w, v, tag)] }
  | 2 =>
    let s := s.noteRead 0 (spBase core + off) 64
    let c := s.core core
    s.setCore core { c with dmaQ0 := c.dmaQ0 ++ [{ desc := leNat (s.spBytes core off 64), off, tag }] }
  | 3 => s.prefetchLine core (lineOf off)
  | _ => s

/-- The store slot (Table 5-5): STA writes 8 B; DMAQ1 copies a descriptor. -/
def State.issueStore (s : State) (core : Nat) (c : Core) (w tag : Nat) : State :=
  let off := c.offset (memB w) (memOff w)
  if !c.takes w then s
  else match slotOp w with
  | 1 => (s.disturb false (spBase core + off) 8).writeNow (spBase core + off) (leBytes 8 (c.reg (memD w)))
  | 2 =>
    let s := s.noteRead 0 (spBase core + off) 64
    let c := s.core core
    s.setCore core { c with dmaQ1 := c.dmaQ1 ++ [{ desc := leNat (s.spBytes core off 64), off, tag }] }
  | _ => s

/-- The matrix slot (R142): the operation joins the array's queue. -/
def State.issueMatrix (s : State) (core : Nat) (c : Core) (w tag : Nat) : State :=
  if !c.takes w || slotOp w == 0 then s
  else
    let kind : MatKind := match slotOp w with | 1 => .mcfg | 2 => .mwld | 3 => .mstr | _ => .mcls
    let op : MatOp := { kind, off := c.offset (memD w) (memOff w), soff := c.reg (memB w), tag }
    let c := s.core core
    s.setCore core { c with matQ := c.matQ ++ [op] }

/-- The vector slot (R143): VCH hands over the chain descriptor; one that does not lie in scratchpad makes an inconsistent
chain. -/
def State.issueVector (s : State) (core : Nat) (c : Core) (w tag : Nat) : State :=
  if !c.takes w || vectorOp w == 0 then s
  else
    let off := c.offset (bits w 12 8) (toSigned 19 (bits w 31 13))
    let inside := decide (off + 128 ≤ spSize)
    let s := if inside then s.noteRead 0 (spBase core + off) 128 else s
    let desc := if inside then leNat (s.spBytes core off 128) else 0
    let c := s.core core
    s.setCore core { c with vecQ := c.vecQ ++ [{ desc, off, tag, unsealable := s.obj Obj.SEAL_THRESH == 0 }] }

/-- The sync slot's effect at issue (R150, R151): an entry for the release buffer, the Chronometer in a pair, END's hold. -/
def State.issueSync (s : State) (core : Nat) (c : Core) (w tag : Nat) : State :=
  if !c.takes w then s
  else
    let c' := s.core core
    if releases (slotOp w) then
      let c' := { c' with rel := c'.rel ++ [c.entryOf w tag] }
      s.setCore core (if slotOp w = 7 then { c' with hold := .ending } else c')
    else if slotOp w = 6 then s.setCore core ((c'.setReg (syR1 w) s.chr).setReg (syR1 w + 1) (s.chr / 2 ^ 48))
    else s

/-- The core takes the next bundle's address; entering a line asks for the one after it (R145). -/
def State.goTo (s : State) (core : Nat) (c : Core) (pc : Nat) : State :=
  let entered := lineOf pc != lineOf c.pc
  let s := s.setCore core { c with pc }
  if entered then s.enterLine core pc else s

/-- A legal bundle that nothing holds issues: every slot reads the core as it stood (R129), and the load and vector slots read the
scratchpad as it stood before an STA of the bundle (R187); scalar writes and the flow of the program come last. -/
def State.issueBundle (s : State) (core : Nat) (b : Slots) : State :=
  let c := s.core core
  let tag := c.issueNo
  let sc := if c.takes b.scalar then scalarResult c b.scalar (s.source core (scS1 b.scalar)) (s.source core (scS2 b.scalar)) else .none
  let count := if bit (scD b.scalar) 4 then bits (scImm b.scalar) 20 11 else s.source core (scS1 b.scalar) % 2 ^ 32
  let s := s.setCore core { c with hold := .none, issueNo := c.issueNo + 1, wdog := 0 }
  let s := s.issueLoad core c b.load tag
  let s := s.issueVector core c b.vector tag
  let s := s.issueStore core c b.store tag
  let s := s.issueMatrix core c b.matrix tag
  let s := s.issueSync core c b.sync tag
  let s := (s.setCoreSt core .running).count 64 (Obj.BUNDLES_ISSUED core) 1
  let (c', next, skipped) := ((s.core core).applySc sc).flow b.scalar (c.takes b.scalar) count (seqOf c.pc)
  let s := if skipped then s.count 32 (Obj.ZERO_TRIP_LOOPS core) 1 else s
  s.goTo core c' (addrOfSeq next)

/-- A fault to which no address belongs: ADDR is left open. -/
def State.faultNoAddr (s : State) (core cause code slot : Nat) : State :=
  let (n, s) := s.fresh
  s.faultPark core cause code slot (Config.freeNat n) 0

/-- A cycle in which a bundle waits (R154). -/
def State.stall (s : State) (core : Nat) : State := s.count 64 (Obj.ISSUE_STALL_CYCLES core) 1

/-- A WWAIT that takes effect (R245, R246): satisfied, held, or a fault. -/
def State.syncWait (s : State) (core : Nat) (w : Nat) : Option State :=
  let c := s.core core
  let wp := c.syncWp w
  let t := c.syncValue w
  if !(c.takes w && slotOp w == 3) || c.hold == .woken then none
  else match s.waitAns (s.sliceOfCore core) wp t with
  | .satisfied => none
  | .held =>
    let s := (((s.tookWait wp).addWaiter core wp t .wwait).setCoreSt core .waiting).stall core
    some (s.setCore core { s.core core with hold := .wwait wp t })
  | ans => some (s.failWait core wp .wwait ans)

/-- A WWAIT that finds its Waypoint at the threshold is taken as its bundle issues; one that a core has woken from was taken when it
arrived. -/
def State.tookSync (s : State) (core : Nat) (w : Nat) : State :=
  let c := s.core core
  if c.takes w && slotOp w == 3 && c.hold != .woken then s.tookWait (c.syncWp w) else s

/-- A fetched bundle: illegal, waiting, faulting or issued (R129, R140, R141, R142, R154, R160). The address checks come before a
WWAIT's wait, whose registration is an effect, and after a FENCE's, which has none (DESIGN CHOICE, log 58). -/
def State.tryBundle (s : State) (core b : Nat) : State :=
  let c := s.core core
  match illegalSlot b with
  | some slot => s.faultNoAddr core 2 0x0809 slot
  | none =>
    let w := Slots.of b
    let units := syUnits w.sync
    let fence := c.takes w.sync && slotOp w.sync == 5 && c.fenceHolds units
    if c.takes w.scalar && slotOp w.scalar == 0x20 && c.loopIllegal w.scalar (seqOf c.pc) then s.faultNoAddr core 3 0x0805 0
    else if (c.touches w).any (fun r => c.lda.any (fun p => p.1 == r)) || c.queueFull w ||
        (c.takes w.sync && releases (slotOp w.sync) && decide (4 ≤ c.rel.length)) then s.stall core
    else if fence then ((s.setCoreSt core .waiting).setCore core { c with hold := .fence units }).stall core
    else match s.addressFault core w with
    | some (slot, a) => s.faultPark core 4 0x0802 slot a 0
    | none =>
      match s.syncWait core w.sync with
      | some s' => s'
      | none => (s.tookSync core w.sync).issueBundle core w

/-- The bundle at an address within its line. -/
def bundleIn (line pc : Nat) : Nat := bits line (8 * (pc % 512) + 255) (8 * (pc % 512))

/-- Whether a bundle that the core has cached was written into its page without the page's GEN changing (R161): it differs from what stood
there when the core first fetched from the page under this GEN. -/
def Core.tornBundle (c : Core) (gen b : Nat) : Bool :=
  match c.seen.find? (fun e => e.page == c.pc / 65536 && e.gen == gen) with
  | some e => leNat ((List.range 32).map (fun i => Sparse.get memDefault e.cells (c.pc + i))) != b
  | none => false

/-- A core's registers, predicates and pc as nothing constrains them: the bits of a free number. -/
def Core.anyRegs (c : Core) (x : Nat) : Core :=
  let c := (List.range 32).foldl (fun (c : Core) i => c.setReg i (bits x (48 * i + 47) (48 * i))) c
  let x := x / 2 ^ 1536
  let c := (List.range 4).foldl (fun (c : Core) i => { c with k := Sparse.set (fun _ => 0#32) c.k i (BitVec.ofNat 32 (bits x (32 * i + 31) (32 * i))) }) c
  { c with p := bits (x / 2 ^ 128) 7 1 * 2, pc := addrOfSeq (x / 2 ^ 136) }

/-- A bundle whose result is undefined issues (R161): the core's registers and pc are free, and memory and Waypoints change as an
undefined result may change them. -/
def State.issueTorn (s : State) (core : Nat) : State :=
  let (n, s) := s.fresh
  let c := s.core core
  let s := s.setCore core ({ c with hold := .none, issueNo := c.issueNo + 1, wdog := 0 }.anyRegs (Config.freeNat n))
  ((s.setCoreSt core .running).count 64 (Obj.BUNDLES_ISSUED core) 1).undefinedResult core

/-- A bundle's line is missed (R146): the fetcher checks its address and asks for it. -/
def State.missLine (s : State) (core line : Nat) : State :=
  match s.lineCode core line with
  | 0 =>
    let c := s.core core
    (s.count 64 (Obj.FETCH_MISSES core) 1).setCore core { c with demand := some line, ahead := c.ahead.filter (· != line) }
  | 0x0801 => s.outOfSlice core 0xFF (line * 512)
  | code => s.faultPark core 7 code 0xFF (line * 512) 0

/-- BUNDLE_ISSUE (R154): a running program issues the bundle at its pc, or waits. -/
def doBundleIssue (core : Nat) (s : State) : Out :=
  withCore s core <|
    let c := s.core core
    let st := s.coreSt core
    if (st = .running ∨ st = .waiting) ∧ c.mode = 0 ∧ c.layer = .none then
      match c.hold with
      | .ending => .next s
      | .wwait _ _ => .next (s.stall core)
      | _ =>
        match c.line (lineOf c.pc) with
        | some line =>
          let b := bundleIn line c.pc
          .next (if c.tornBundle (s.obj (Obj.PROG_GEN core)) b then s.issueTorn core else s.tryBundle core b)
        | none => if c.demand.isSome then .next s else .next (s.missLine core (lineOf c.pc))
    else .next s

/-- LDA_WRITEBACK (R141): the oldest pending load writes its register. -/
def execLdaWriteback (core : Nat) (s : State) : Out :=
  withCore s core <|
    let c := s.core core
    match c.lda with
    | [] => .next s
    | (d, v, _) :: rest => .next (s.setCore core { (c.setReg d v.toNat) with lda := rest })

/-- A line put into the cache (R145): 4 ways of 32 sets by line number; a full set gives up a line of the implementation's
choice. -/
def Core.insertLine (c : Core) (line data victim : Nat) : Core :=
  let set := c.icache.filter (fun e => e.1 % 32 == line % 32)
  let keep := if (c.line line).isSome || decide (set.length < 4) then c.icache
    else match (set.map (·.1))[victim % 4]? with
      | some l => Sparse.erase c.icache l
      | none => c.icache
  { c with icache := Sparse.set (fun _ => none) keep line (some data) }

/-- The page of a line as it stands, where the core has not fetched from it under this GEN before. -/
def State.notePage (s : State) (core line gen : Nat) : State :=
  let page := line * 512 / 65536
  let c := s.core core
  if c.seen.any (fun e => e.page == page && e.gen == gen) then s
  else
    let cells := s.mem.filter (fun e => decide (page * 65536 ≤ e.1) && decide (e.1 < page * 65536 + 65536))
    s.setCore core { c with seen := c.seen.filter (fun e => e.page != page) ++ [{ page, gen, cells }] }

/-- A line that has been read and its page's GEN enter the cache (R145, R146). -/
def State.fillLine (s : State) (core line gen : Nat) : State :=
  let s := s.notePage core line gen
  let (n, s) := s.fresh
  s.setCore core ((s.core core).insertLine line (leNat (s.bytes (line * 512) 512)) (Config.victimWay n))

/-- LINE_FILL (R146): the line and then its page's header return; the line enters the cache where the header's GEN is the
core's PROG_GEN, and a bundle that cannot be had faults. -/
def doLineFill (core : Nat) (s : State) : Out :=
  withCore s core <|
    let c := s.core core
    match c.demand, c.ahead with
    | none, [] => .next s
    | some line, _ =>
      let s := (s.noteRead 0 (line * 512) 512).noteRead 0 (line * 512 / 65536 * 65536) 64
      let gen := leNat (s.bytes (line * 512 / 65536 * 65536) 4)
      if gen = s.obj (Obj.PROG_GEN core) then .next ((s.setCore core { c with demand := none }).fillLine core line gen)
      else .next (s.faultPark core 1 0x0804 0xFF (line * 512 / 65536 * 65536) gen)
    | none, line :: rest =>
      let s := (s.noteRead 0 (line * 512) 512).noteRead 0 (line * 512 / 65536 * 65536) 64
      let gen := leNat (s.bytes (line * 512 / 65536 * 65536) 4)
      if gen = s.obj (Obj.PROG_GEN core) then .next ((s.setCore core { c with ahead := rest }).fillLine core line gen)
      else .next (s.setCore core { c with ahead := rest })

end Sys2Proof.Machine
end

