-- ==== Sys2Proof/Machine/Layers.lean ====
section
/-! DEFINITION. Layer-descriptor operation (06): the layer registers and the common header (R166–R171), tensor references
(R172), the kinds 0–6 (R173–R182), and RECORD_LOAD, LAYER_COMPLETE and GATED_UPDATE. -/

namespace Sys2Proof.Machine

/-! ### Registers and header (Table 6-1) -/

/-- LYR_i of a core. -/
def State.lyr (s : State) (core i : Nat) : Nat := s.obj (Obj.LYR core i)

/-- The bits of LYR_i that are not reserved for every kind (Table 6-1, R171; ARRCFG, OPFMT and CVTCTL as Tables 3-2, 2-6, 2-8). -/
def lyrMask (i : Nat) : Nat :=
  match i with
  | 0 => 2 ^ 40 - 1
  | 3 => 2 ^ 64 - 1 - 2 ^ 15 - 2 ^ 31
  | 4 => 2 ^ 32 - 1
  | 5 => 2 ^ 40 - 1
  | 6 => (2 ^ 30 - 1) + (2 ^ 12 - 1) * 2 ^ 32
  | 7 => 2 ^ 10 - 1
  | _ => 2 ^ 64 - 1

/-- A layer register written: reserved bits of the header take no value (R6, R171). -/
def State.setLyr (s : State) (core i v : Nat) : State := s.setObj (Obj.LYR core i) (v &&& lyrMask i)

/-- Every layer register from the bytes of a record (R166). -/
def State.setRecord (s : State) (core : Nat) (l : List Byte) : State :=
  (List.range 64).foldl (fun t i => t.setLyr core i (leNat (slice l (8 * i) 8))) s

/-- Header fields. -/
def State.lyKind (s : State) (core : Nat) : Nat := bits (s.lyr core 0) 3 0
def State.lyDoneWp (s : State) (core : Nat) : Nat := bits (s.lyr core 3) 13 0
def State.lyRelWp (s : State) (core : Nat) : Nat := bits (s.lyr core 3) 29 16

/-- The four Waypoints of the header, whatever their enables hold (R169). -/
def State.lyWps (s : State) (core : Nat) : List Nat :=
  let h := s.lyr core 0
  [bits h 24 11, bits h 39 26, s.lyDoneWp core, s.lyRelWp core]

/-- The waits of a layer with their thresholds (R170). -/
def State.lyWaits (s : State) (core : Nat) : List (Nat × Nat) :=
  let h := s.lyr core 0
  let lap := s.obj (Obj.LAP core)
  (if bit h 10 then [(bits h 24 11, s.lyr core 1 + lap * bits (s.lyr core 4) 15 0)] else []) ++
    (if bit h 25 then [(bits h 39 26, s.lyr core 2 + lap * bits (s.lyr core 4) 31 16)] else [])

/-- The waits of a layer arrive at the Waypoint unit one after the other (R245, R246). -/
def State.layerWaits (core : Nat) : List (Nat × Nat) → State → State
  | [], s => s
  | (wp, t) :: rest, s =>
    if !s.canFault core then s
    else match s.waitAns (s.sliceOfCore core) wp t with
    | .satisfied => State.layerWaits core rest (s.tookWait wp)
    | .held => State.layerWaits core rest (((s.tookWait wp).addWaiter core wp t .layer).setCoreSt core .waiting)
    | ans => s.failWait core wp .layer ans

/-- START (R167, R169, R170): the header is checked, the waits arrive, and with none unsatisfied the layer runs. A Waypoint outside the
slice enters the log as the refusal it is (R236, R438). -/
def State.startLayer (s : State) (core : Nat) : State :=
  let h := s.lyr core 0
  let slice := s.sliceOfCore core
  let s := (s.setCoreSt core .running).setCore core
    { s.core core with layer := .waiting, mode := 1, launch := s.now, wdog := 0 }
  if 7 < bits h 3 0 ∨ bits h 7 4 ≠ 1 ∨ (bit h 8 ∧ s.lyr core 5 % 512 ≠ 0) then s.faultNoAddr core 8 0x0809 0xFF
  else match (s.lyWps core).find? (fun w => s.wpCode slice w != 0) with
  | some w => (s.logWpRefusal (.core core 0xFF) slice w (s.wpCode slice w)).faultPark core 7 0x0801 0xFF w 0
  | none =>
    let s := State.layerWaits core (s.lyWaits core) s
    if s.canFault core && !(s.waiters.any (fun w => w.core == core)) then s.post (.layer core) else s

/-- RECORD_LOAD (R166, R168, R170): the record a core waits for fills the layer registers, and START follows. -/
def doRecordLoad (core : Nat) (s : State) : Out :=
  withCore s core <|
    match (s.core core).layer with
    | .loading a =>
      let slice := s.sliceOfCore core
      if !s.rangeMapped a 512 || 0xC000000000 ≤ a then .next (s.faultPark core 7 0x0802 0xFF a 0)
      else if slice = 0xFFFF ∨ !s.hbmOwnedBy slice a 512 then .next (s.outOfSlice core 0xFF a)
      else
        let s := s.noteRead 0 a 512
        let s := (s.setRecord core (s.bytes a 512)).setObj (Obj.CUR_RECORD core) a
        .next ((s.setCore core { s.core core with pc := a }).startLayer core)
    | _ => .next s

/-! ### Tensors (R172) -/

/-- A tensor reference (Table 6-2). -/
structure Tref where
  addr   : Nat
  space  : Nat
  fmt    : Nat
  signed : Bool
  deriving DecidableEq, Repr

/-- A tensor reference from its register. -/
def Tref.of (v : Nat) : Tref := { addr := bits v 39 0, space := bits v 40 40, fmt := bits v 44 41, signed := bit v 45 }

/-- The format of a tensor. -/
def Tref.f (t : Tref) : Fmt := .ofCode t.fmt

/-- Bytes as a layer's units read them, the layer's own writes among them. -/
def State.layerData (s : State) (core space a n : Nat) : List Byte := s.ownData core (.layer core) space a n

/-- The code of the element that begins at a bit of a tensor. -/
def State.codeAt (s : State) (core : Nat) (t : Tref) (bitOff : Nat) : Nat :=
  let w := t.f.storeBits
  let v := leNat (s.layerData core t.space (t.addr + bitOff / 8) 5)
  t.f.fromStored (bits v (bitOff % 8 + w - 1) (bitOff % 8))

/-- The value of the element that begins at a bit of a floating-point or integer tensor. -/
def State.valueAt (s : State) (core : Nat) (t : Tref) (bitOff : Nat) : FVal :=
  let c := s.codeAt core t bitOff
  if t.f.isInt then .ofInt (t.f.decodeInt t.signed c) else t.f.decode c

/-- A layer's write into a tensor's memory. -/
def State.layerWrite (s : State) (core : Nat) (space a : Nat) (l : List Byte) : State :=
  s.dmaWrite core (.layer core) (space, a, l)

/-- Codes written one after the other from a bit of a tensor; the bits around them stay. -/
def State.putCodes (s : State) (core : Nat) (t : Tref) (bitOff : Nat) (codes : List Nat) : State :=
  let w := t.f.storeBits
  let lo := bitOff % 8
  let n := ceilDiv (lo + w * codes.length) 8
  let a := t.addr + bitOff / 8
  let old := leNat (s.layerData core t.space a n)
  let v := old % 2 ^ lo + packElems w (codes.map t.f.toStored) * 2 ^ lo +
    (old >>> (lo + w * codes.length)) <<< (lo + w * codes.length)
  s.layerWrite core t.space a (leBytes n v)

/-- The bytes that a layer's tensor spans. -/
def Tref.range (t : Tref) (len : Nat) (write : Bool) : DmaRange := { space := t.space, addr := t.addr, len, write }

/-- WORK_OFF and WORK_LEN and their limits (Table 6-3, R183). -/
def workOk (w : Nat) : Bool := decide (0x40000 ≤ bits w 45 23) && decide (bits w 22 0 + bits w 45 23 ≤ spSize)

/-- What staging leaves in the WORK area: bytes that nothing constrains. -/
def State.scribble (s : State) (core w : Nat) : State :=
  let m := (Config.workWrites s.free).filter (fun e => decide (e.1 < bits w 45 23))
  { s with mem := m.foldl (fun m e => Sparse.set memDefault m (spBase core + bits w 22 0 + e.1) e.2) s.mem, free := s.free + 1 }

/-- The counters of cycles, descriptors and bytes that depend on how a layer is staged (log 23). -/
def State.stagingCounts (s : State) (core : Nat) : State :=
  [Obj.STREAM_CYCLES core, Obj.BUBBLE_CYCLES core, Obj.DRAIN_STALL_CYCLES core, Obj.WEIGHT_STALL_CYCLES core,
   Obj.RD_PORT_WAIT_CYCLES core, Obj.WR_PORT_WAIT_CYCLES core, Obj.DMA0_DESCRIPTORS core, Obj.DMA1_DESCRIPTORS core,
   Obj.DMA_BYTES core, Obj.PORT_WAIT_CYCLES core, Obj.DEP_WAIT_CYCLES core].foldl (fun t k => t.countFree 64 k 0) s

/-- The events of R54 inside a layer whose tiles, chain passes or descriptors the spec does not lay out: each flag that rose at least
once counts a free number of them, at least one (log 39). -/
def State.flagEventsFree (s : State) (core : Nat) (f : AFlags) : State :=
  let s := if f.inv then s.countFree 32 (Obj.INV_EVENTS core) 1 else s
  let s := if f.ovf then s.countFree 32 (Obj.OVF_EVENTS core) 1 else s
  if f.ufl then s.countFree 32 (Obj.UFL_EVENTS core) 1 else s

/-- Flags of a layer's work set, with their events. -/
def State.layerFlags (s : State) (core : Nat) (f : AFlags) : State := (s.setFlags core f).flagEventsFree core f

/-- The chains that a layer runs in a number and in cycles that the spec does not state (log 23). -/
def State.chainsFree (s : State) (core : Nat) : State := (s.countFree 64 (Obj.CHAINS_DONE core) 1).countFree 64 (Obj.ELEM_CYCLES core) 1

/-- The gated chains of a layer under NF = 1: each is skipped and completes (R122), and their number is free (log 23). -/
def State.chainsSkipped (s : State) (core : Nat) : State :=
  let (n, s) := s.fresh
  (s.count 32 Obj.SKIPPED_UPDATES (1 + Config.freeNat n)).count 64 (Obj.CHAINS_DONE core) (1 + Config.freeNat n)

/-- FP32 operation: a NaN raises INV, and the result is rounded by RNE (R104). -/
def fpOp (t : FVal) : FVal × AFlags :=
  match t with
  | .nan => (.nan, .i)
  | t => round32 t

/-! ### Matrix products (R174) -/

/-- The streams of a K-step (R69): one, or the three of split operands, as planes of A and of B. -/
def streamsOf (split : Bool) : List (Nat × Nat) := if split then [(0, 0), (0, 1), (1, 0)] else [(0, 0)]

/-- A product of two operands of the array: its size, and the operand values by plane with the flags of their split (R198). -/
structure Product where
  m : Nat
  n : Nat
  k : Nat
  a : Nat → Nat → List Num × AFlags
  b : Nat → Nat → List Num × AFlags

/-- A plane of an operand. -/
def planeOf (l : List Num) (p : Nat) : Num := l.getD p (.i 0)

/-- The K-steps of a product in order, each with its streams: first row of the step, rows, planes of A and B. -/
def Product.steps (p : Product) (c : MatCfg) : List (Nat × Nat × Nat × Nat) :=
  let kr := modeK c.mode
  (List.range (ceilDiv p.k kr)).flatMap (fun i =>
    (streamsOf (c.aFmt == 0xF)).map (fun q => (i * kr, min kr (p.k - i * kr), q.1, q.2)))

/-- The operands of one stream: A's for a row, B's for a column. -/
def Product.rowOps (p : Product) (m : Nat) (st : Nat × Nat × Nat × Nat) : List Num :=
  (List.range st.2.1).map (fun i => planeOf (p.a m (st.1 + i)).1 st.2.2.1)
def Product.colOps (p : Product) (n : Nat) (st : Nat × Nat × Nat × Nat) : List Num :=
  (List.range st.2.1).map (fun i => planeOf (p.b (st.1 + i) n).1 st.2.2.2)

/-- The flags of splitting a product's operands into planes (R198). -/
def Product.splitFlags (p : Product) : AFlags :=
  AFlags.all ((List.range p.k).flatMap (fun k =>
    (List.range p.m).map (fun m => (p.a m k).2) ++ (List.range p.n).map (fun n => (p.b k n).2)))

/-- An accumulator over every K-step of a product, with its flags. -/
def Product.acc (p : Product) (c : MatCfg) (m n : Nat) : Acc × AFlags :=
  let (a, f) := (p.steps c).foldl (fun (w : Option Acc × AFlags) st =>
    let (a, f) := accStep c w.1 (p.rowOps m st) (p.colOps n st)
    (some a, w.2.or f)) (none, .none)
  (a.getD { sum := 0, err := 0, int := 0, clip := false }, f)

/-- A checksum accumulator over every K-step, for a row and the columns of a check group. -/
def Product.chk (p : Product) (c : MatCfg) (m : Nat) (cols : List Nat) : ChkAcc × AFlags :=
  let (a, f) := (p.steps c).foldl (fun (w : Option ChkAcc × AFlags) st =>
    let wv := (List.range st.2.1).map (fun i =>
      let vals := cols.map (fun n => planeOf (p.b (st.1 + i) n).1 st.2.2.2)
      ((Num.sum vals).weightCode, (Num.sum (vals.map Num.abs)).weightCode))
    let (a, f) := chkStep c w.1 (p.rowOps m st) wv
    (some a, w.2.or f)) (none, .none)
  (a.getD { sum := 0, err := 0, mag := 0, int := 0 }, f)

/-- A rectangle of output: rows and columns, and the accumulators' flags. -/
structure Block where
  i0 : Nat
  mr : Nat
  j0 : Nat
  nc : Nat
  deriving DecidableEq, Repr

/-- The output tiles in order: row blocks, and column blocks within a row block (R174). -/
def Product.blocks (p : Product) (c : MatCfg) : List Block :=
  (List.range (ceilDiv p.m c.maxMT)).flatMap (fun i => (List.range (ceilDiv p.n c.cols)).map (fun j =>
    { i0 := i * c.maxMT, mr := min c.maxMT (p.m - i * c.maxMT), j0 := j * c.cols, nc := min c.cols (p.n - j * c.cols) }))

/-- The checks of an output tile (R83, R84, R87): each group's result over the rows. -/
def Product.checks (p : Product) (c : MatCfg) (b : Block) : List (Nat × List (Chk × FVal × FVal)) × AFlags :=
  let groups := (List.range c.groups).filter (fun g => !(c.groupCols g b.nc).isEmpty)
  let res := groups.map (fun g =>
    let cols := (c.groupCols g b.nc).map (· + b.j0)
    let rows := (List.range b.mr).map (fun m =>
      let (k, f) := p.chk c (b.i0 + m) cols
      let accs := (List.range 32).map (fun i =>
        let n := c.w * (32 * (g / c.w) + i) + g % c.w
        if n < b.nc then some (p.acc c (b.i0 + m) (b.j0 + n)).1 else none)
      (checkRow c (p.steps c).length k accs, f))
    ((g, rows.map Prod.fst), AFlags.all (rows.map Prod.snd)))
  (res.map Prod.fst, AFlags.all (res.map Prod.snd))

/-- What an output tile leaves once it is drained: the next number, its flags as one event, its non-finite report, its checks (R53, R81,
R84–R88). A tile of R174 is one array's in every mode: array 0, one number and one OFF record each (DESIGN CHOICE, log 136). -/
def State.tileDrained (s : State) (core : Nat) (p : Product) (c : MatCfg) (b : Block) (f : AFlags) (nf : Bool) : State :=
  let (checks, kf) := if c.checks then p.checks c b else ([], .none)
  let flags := f.or kf
  let a := (s.core core).array
  let seq := (a.seq + 1) % 2 ^ 32
  let s := s.setCore core { s.core core with array := { a with seq } }
  let s := (s.setFlags core flags).flagEvent core flags
  let s := if nf || checks.any (fun r => r.2.any (fun k => k.1 == .nonfinite)) then s.reportNonFinite core 0 else s
  let t : Tile := { seq, cfg := c, accs := [], chks := [], steps := 0, flags := .none, undef := false }
  let s := checks.foldl (fun s r => s.recordCheck core c t 0 r.1 (mergeChecks r.2 0)) s
  if c.checks then s else (s.raise (Obj.CHK_STATUS core) 8).count 32 (Obj.CHK_OFF_EVENTS core) 1

/-- One output tile drained (R47, R51, R68): `put` writes the codes of a row. -/
def Product.drainBlock (p : Product) (core : Nat) (c : MatCfg) (put : State → Nat → Nat → List Nat → State) (s : State)
    (b : Block) : State :=
  let tc := { c with scaleOff := if c.perColumn then c.scaleOff + 4 * b.j0 else c.scaleOff, biasOff := c.biasOff + 4 * b.j0 }
  let rows := (List.range b.mr).map (fun m => (List.range b.nc).map (fun n => p.acc c (b.i0 + m) (b.j0 + n)))
  let af := AFlags.all (rows.flatMap (fun r => r.map Prod.snd))
  let (s, f, nf) := rows.zipIdx.foldl (fun (w : State × AFlags × Bool) (r : List (Acc × AFlags) × Nat) =>
    let (codes, f, nf, s) := drainRow core tc w.1 (r.1.map Prod.fst) 0 w.1
    (put s (b.i0 + r.2) b.j0 codes, w.2.1.or f, w.2.2 || nf)) (s, AFlags.none, false)
  s.tileDrained core p c b (af.or f) nf

/-- What the weight loads of a layer leave in the array's banks: the spec does not lay them out, so a stream that runs on either bank
before a load of its own has an undefined result (R505, log 38). -/
def State.banksUsed (s : State) (core : Nat) : State :=
  let c := s.core core
  let used (b : Bank) : Bank := { b with loaded := true, undef := true }
  s.setCore core { c with array := { c.array with active := used c.array.active, shadow := used c.array.shadow, fresh := false, ready := false } }

/-- The work of a layer that is one product (R174): operands split where OPFMT asks for planes, tiles in order, the staging area. -/
def Product.run (p : Product) (core : Nat) (c : MatCfg) (put : State → Nat → Nat → List Nat → State) (work : Nat) (s : State) : State :=
  let s := if c.aFmt = 0xF then s.layerFlags core p.splitFlags else s
  (((p.blocks c).foldl (p.drainBlock core c put) s).banksUsed core).scribble core work

/-- A tensor's format agrees with an operand code: a split operand comes from FP32 or E8M10 (R198). Where a TREF's FMT, or for integers
its SIGNED, differs from OPFMT's the spec does not say which governs; the model makes such a layer inconsistent (DESIGN CHOICE, log
40). -/
def Tref.isOperand (t : Tref) (code : Nat) (signed : Bool) : Bool :=
  if code = 0xF then t.fmt == 0 || t.fmt == 3 else t.fmt == code && (!t.f.isInt || t.signed == signed)

/-- The planes of an element of an operand tensor, under its scale, and the flags of their making. -/
def State.planesAt (s : State) (core : Nat) (t : Tref) (code : Nat) (signed : Bool) (bitOff : Nat) (scale : Option Nat) :
    List Num × AFlags :=
  let c := s.codeAt core t bitOff
  if code = 0xF then
    let (hi, lo, f) := splitElem (t.f.decode c)
    ([.f (Fmt.bf16.decode hi), .f (Fmt.bf16.decode lo)], f)
  else ([operandValue (operandFmt code) signed c scale], .none)

/-- The scale code of an element of an MX operand, at its place in the tensor of scales. -/
def State.scaleAt (s : State) (core : Nat) (mx : Bool) (t : Tref) (off : Nat) : Option Nat :=
  if mx then some (leNat (s.layerData core t.space (t.addr + off) 1)) else none

/-- Planes of the operand +0, which stands for padding (R175). -/
def zeroPlanes (c : MatCfg) : List Num × AFlags :=
  (if c.isInt then [.i 0] else if c.aFmt = 0xF then [.f (.fin false 0 1), .f (.fin false 0 1)] else [.f (.fin false 0 1)], .none)

/-- What a layer's work comes to: whether it is consistent, the ranges it needs, what it reads before it writes, whether it stages
through WORK, and the state after it. -/
structure LayerWork where
  ok     : Bool
  ranges : List DmaRange
  reads  : List DmaRange
  staged : Bool
  run    : State → State

/-- Work with no effect. -/
def LayerWork.idle : LayerWork := { ok := true, ranges := [], reads := [], staged := false, run := id }

/-- Rows of a tensor that a layer reads, without what lies between them. -/
def Tref.rows (t : Tref) (n stride len : Nat) : List DmaRange :=
  (List.range n).map (fun i => { space := t.space, addr := t.addr + i * stride, len, write := false })

/-- The array configuration of kinds 0–2 from the header (R171). -/
def State.layerCfg (s : State) (core : Nat) (scaleOff biasOff : Nat) : MatCfg :=
  { arrcfg := bits (s.lyr core 6) 31 0, opfmt := bits (s.lyr core 6) 63 32, cvtctl := bits (s.lyr core 7) 31 0, scaleOff, biasOff,
    outStride := 0 }

/-- The consistency of the configuration of a layer (R40, R46, R183): its counts are set tile by tile. An output TREF whose FMT differs
from OUT_FMT makes a layer of kinds 0–2 inconsistent, for the spec does not say which governs; the sign of its integers is OUT_SIGNED's
there, and the TREF's in kinds 3 and 5, whose output the TREF's FMT alone lays out (DESIGN CHOICE, log 41). -/
def MatCfg.layerOk (c : MatCfg) : Bool := c.opfmtOk && c.cvtOk && decide (c.mode ≠ 3)

/-- The reads of the scales and biases of a drain. -/
def MatCfg.drainReads (c : MatCfg) (n : Nat) : List DmaRange :=
  { space := 0, addr := c.scaleOff, len := if c.perColumn then 4 * n else 4, write := false } ::
    (if c.biasEn then [{ space := 0, addr := c.biasOff, len := 4 * n, write := false }] else [])

/-- Kind 0 (R173, R174). -/
def State.matmulWork (s : State) (core : Nat) : LayerWork :=
  let L := s.lyr core
  let a := Tref.of (L 8)
  let b := Tref.of (L 9)
  let o := Tref.of (L 10)
  let m := bits (L 11) 19 0
  let n := bits (L 11) 39 20
  let k := bits (L 11) 59 40
  let ast := bits (L 12) 31 0
  let cst := bits (L 12) 63 32
  let bst := bits (L 13) 31 0
  let bt := bit (L 13) 32
  let c := s.layerCfg core (bits (L 14) 22 0) (bits (L 14) 45 23)
  let asc := Tref.of (L 16)
  let bsc := Tref.of (L 17)
  let aw := a.f.storeBits
  let bw := b.f.storeBits
  let aScale (i j : Nat) : Option Nat := s.scaleAt core c.aMx asc (i * ceilDiv k 32 + j / 32)
  let bScale (i j : Nat) : Option Nat := s.scaleAt core c.bMx bsc (i / 32 * n + j)
  let p : Product :=
    { m, n, k
      a := fun i j => s.planesAt core a c.aFmt c.aSigned (8 * (i * ast) + aw * j) (aScale i j)
      b := fun i j => s.planesAt core b c.bFmt c.bSigned (if bt then 8 * (j * bst) + bw * i else 8 * (i * bst) + bw * j) (bScale i j) }
  let put (s : State) (row j : Nat) (codes : List Nat) : State := s.putCodes core o (8 * (row * cst) + o.f.storeBits * j) codes
  let scales : List DmaRange :=
    (if c.aMx then [asc.range (m * ceilDiv k 32) false] else []) ++ (if c.bMx then [bsc.range (ceilDiv k 32 * n) false] else [])
  if m = 0 ∨ n = 0 ∨ k = 0 then .idle
  else
    { ok := c.layerOk && workOk (L 15) && a.isOperand c.aFmt c.aSigned && b.isOperand c.bFmt c.bSigned && o.fmt == c.outFmt &&
        (!c.aMx || asc.fmt != 0xF) && (!c.bMx || bsc.fmt != 0xF)
      ranges := [a.range ((m - 1) * ast + a.f.bytesFor k) false,
          b.range (((if bt then n else k) - 1) * bst + b.f.bytesFor (if bt then k else n)) false,
          o.range ((m - 1) * cst + o.f.bytesFor n) true] ++ scales ++ c.drainReads n
      reads := a.rows m ast (a.f.bytesFor k) ++ b.rows (if bt then n else k) bst (b.f.bytesFor (if bt then k else n)) ++ scales ++ c.drainReads n
      staged := true
      run := p.run core c put (L 15) }

/-- An output size of a convolution (R175). -/
def convOut (h pad dil k stride : Nat) : Nat :=
  (((h : Int) + 2 * pad - dil * ((k : Int) - 1) - 1) / (stride : Int) + 1).toNat

/-- Kind 1 (R173–R175). -/
def State.convWork (s : State) (core : Nat) : LayerWork :=
  let L := s.lyr core
  let x := Tref.of (L 8)
  let wt := Tref.of (L 9)
  let o := Tref.of (L 10)
  let h := bits (L 11) 15 0
  let w := bits (L 11) 31 16
  let ci := bits (L 11) 47 32
  let co := bits (L 11) 63 48
  let kh := bits (L 12) 7 0
  let kw := bits (L 12) 15 8
  let sh := bits (L 12) 19 16
  let sw := bits (L 12) 23 20
  let ph := bits (L 12) 27 24
  let pw := bits (L 12) 31 28
  let dh := bits (L 12) 35 32
  let dw := bits (L 12) 39 36
  let nb := bits (L 12) 55 40
  let ho := convOut h ph dh kh sh
  let wo := convOut w pw dw kw sw
  let k := kh * kw * ci
  let c := s.layerCfg core (bits (L 14) 22 0) (bits (L 14) 45 23)
  let asc := Tref.of (L 16)
  let bsc := Tref.of (L 17)
  let aw := x.f.storeBits
  let bw := wt.f.storeBits
  let aScale (i j : Nat) : Option Nat := s.scaleAt core c.aMx asc (i * ceilDiv k 32 + j / 32)
  let bScale (i j : Nat) : Option Nat := s.scaleAt core c.bMx bsc (i / 32 * co + j)
  let patch (i j : Nat) : List Num × AFlags :=
    let y : Int := (i / wo % ho : Nat) * sh - ph + (j / ci / kw : Nat) * dh
    let z : Int := (i % wo : Nat) * sw - pw + (j / ci % kw : Nat) * dw
    if 0 ≤ y ∧ y < h ∧ 0 ≤ z ∧ z < w then
      s.planesAt core x c.aFmt c.aSigned (aw * (((i / wo / ho * h + y.toNat) * w + z.toNat) * ci + j % ci)) (aScale i j)
    else zeroPlanes c
  let p : Product :=
    { m := nb * ho * wo, n := co, k, a := patch
      b := fun i j => s.planesAt core wt c.bFmt c.bSigned (bw * (i * co + j)) (bScale i j) }
  let put (s : State) (row j : Nat) (codes : List Nat) : State := s.putCodes core o (o.f.storeBits * (row * co + j)) codes
  let scales : List DmaRange :=
    (if c.aMx then [asc.range (p.m * ceilDiv k 32) false] else []) ++ (if c.bMx then [bsc.range (ceilDiv k 32 * co) false] else [])
  let reads : List DmaRange := [x.range (x.f.bytesFor (nb * h * w * ci)) false, wt.range (wt.f.bytesFor (k * co)) false] ++ scales ++ c.drainReads co
  if sh = 0 ∨ sw = 0 ∨ dh = 0 ∨ dw = 0 then { LayerWork.idle with ok := false }
  else if h = 0 ∨ w = 0 ∨ nb = 0 ∨ p.m = 0 ∨ co = 0 ∨ k = 0 then .idle
  else
    { ok := c.layerOk && workOk (L 15) && x.isOperand c.aFmt c.aSigned && wt.isOperand c.bFmt c.bSigned && o.fmt == c.outFmt &&
        (!c.aMx || asc.fmt != 0xF) && (!c.bMx || bsc.fmt != 0xF)
      ranges := reads ++ [o.range (o.f.bytesFor (p.m * co)) true]
      reads
      staged := true
      run := p.run core c put (L 15) }

/-! ### Attention (R176, R177) -/

/-- A product's element drained to FP32 under a scale, with its flags and whether it is reported non-finite. -/
def Product.drained (p : Product) (c : MatCfg) (scale : FVal) (m n : Nat) : FVal × AFlags × Bool :=
  let (a, f) := p.acc c m n
  let (code, g, nf) := drainConvert { c with cvtctl := if c.clipSat then 64 else 0 } 0 (a.exact c) scale none
  (val32 code, f.or g, nf)

/-- A product drained to FP32 into the core's own memory, tile by tile: its elements by row, and what its tiles leave. -/
def Product.toFp32 (p : Product) (core : Nat) (c : MatCfg) (scale : FVal) (s : State) : List (List FVal) × State :=
  let cells := (List.range p.m).map (fun m => (List.range p.n).map (p.drained c scale m))
  let tile (s : State) (b : Block) : State :=
    let own := ((cells.drop b.i0).take b.mr).flatMap (fun r => (r.drop b.j0).take b.nc)
    s.tileDrained core p c b (AFlags.all (own.map (·.2.1))) (own.any (·.2.2))
  (cells.map (fun r => r.map (·.1)), (p.blocks c).foldl tile s)

/-- The running softmax of one query row (R177). -/
structure Soft where
  m : FVal
  l : FVal
  o : List FVal
  deriving DecidableEq, Repr

/-- The start of a query row. -/
def Soft.start (dh : Nat) : Soft := { m := .inf true, l := .fin false 0 1, o := List.replicate dh (.fin false 0 1) }

/-- The maximum of two FP32 values (Table 4-5). -/
def fpMax (a b : FVal) : FVal × AFlags := if a.isNan || b.isNan then (.nan, .i) else (fmax a b, .none)

/-- p converted to the array's operand format (R177): into BF16 planes where operands are split, and into an integer format as CVT
does, over its signed range (R106). -/
def toOperand (c : MatCfg) (v : FVal) : List Num × AFlags :=
  if c.aFmt = 0xF then
    let (hi, lo, f) := splitElem v
    ([.f (Fmt.bf16.decode hi), .f (Fmt.bf16.decode lo)], f)
  else
    let fmt := operandFmt c.aFmt
    let (code, f) := fmt.convert .rne c.clipSat true v
    ([if fmt.isInt then .i (fmt.decodeInt true code) else .f (fmt.decode code)], f)

/-- What one key block makes of a query row before its values are weighed (R177): m and l, the factor c, and p. -/
structure SoftStep where
  m : FVal
  l : FVal
  c : FVal
  p : List FVal
  flags : AFlags

/-- The softmax of a row over one key block (R177): `sc` are the scores, masked keys at −∞. -/
def Soft.scores (w : Soft) (sc : List FVal) : SoftStep :=
  let top := (sc.drop 1).foldl (fun (x : FVal × AFlags) y => let (v, f) := fpMax x.1 y; (v, x.2.or f)) (sc.headD (.inf true), AFlags.none)
  let (m1, f1) := fpMax w.m top.1
  let exp (v : FVal) : FVal × AFlags := let (d, f) := fpOp (v.add m1.neg); let (e, g) := ownFunction 0x09 d; (e, f.or g)
  let (c, f2) : FVal × AFlags := if w.m = .inf true then (.fin false 0 1, .none) else exp w.m
  let ps := sc.map exp
  let (lc, f3) := fpOp (w.l.mul c)
  let (sm, f4) : FVal × AFlags := if ps.any (fun x => x.1.isNan) then (.nan, .i) else nstatFinite 0 (ps.map Prod.fst) (.fin false 0 1)
  let (l, f5) := fpOp (lc.add sm)
  { m := m1, l, c, p := ps.map Prod.fst
    flags := top.2.or (f1.or (f2.or ((AFlags.all (ps.map Prod.snd)).or (f3.or (f4.or f5))))) }

/-- o of a row after one key block: o × c plus the drained values (R177). -/
def Soft.weigh (w : Soft) (x : SoftStep) (d : List FVal) : Soft × AFlags :=
  let l := List.zipWith (fun o v => let (a, f) := fpOp (o.mul x.c); let (b, g) := fpOp (a.add v); (b, f.or g)) w.o d
  ({ m := x.m, l := x.l, o := l.map Prod.fst }, AFlags.all (l.map Prod.snd))

/-- A row's output converted by CVTCTL (R177), a stochastic rounding drawing from lane d mod 256 (R51). -/
def softOut (core : Nat) (c : MatCfg) (r : FVal) : List FVal → Nat → State → List Nat × AFlags × State
  | [], _, s => ([], .none, s)
  | x :: rest, d, s =>
    let (u, s) := if c.rnd = 2 then s.draw core (d % 256) else (0, s)
    let (y, f) := fpOp (x.mul r)
    let (code, g) := (Fmt.ofCode c.outFmt).convert (rndOf c.rnd u) c.clipSat c.outSigned y
    let (codes, h, s) := softOut core c r rest (d + 1) s
    (code :: codes, f.or (g.or h), s)

/-- The operands of an attention layer (Table 6-4), as its work reads them. -/
structure Attention where
  q : Tref
  k : Tref
  v : Tref
  o : Tref
  sq : Nat
  skv : Nat
  heads : Nat
  dh : Nat
  kvb : Nat
  causal : Bool
  scale : FVal
  coff : Int

/-- The fields of Table 6-4. -/
def State.attention (s : State) (core : Nat) : Attention :=
  let L := s.lyr core
  { q := Tref.of (L 8), k := Tref.of (L 9), v := Tref.of (L 10), o := Tref.of (L 11)
    sq := bits (L 12) 15 0, skv := bits (L 12) 31 16, heads := bits (L 12) 39 32, dh := bits (L 12) 48 40, kvb := bits (L 12) 50 49
    causal := bit (L 12) 51, scale := val32 (bits (L 13) 31 0), coff := toSigned 32 (bits (L 13) 63 32) }

/-- Whether key j is masked for query i (Table 6-4). -/
def Attention.masked (x : Attention) (i j : Nat) : Bool := x.causal && decide ((i : Int) + x.coff < j)

/-- An element of an operand of a head, in its planes. -/
def Attention.el (x : Attention) (s : State) (core : Nat) (t : Tref) (code : Nat) (signed : Bool) (rows h i d : Nat) : List Num × AFlags :=
  s.planesAt core t code signed (t.f.storeBits * ((h * rows + i) * x.dh + d)) none

/-- One key block of a block of query rows (R177): scores drained, the softmax, the values weighed. The flags are those of the vector
work and of the planes. -/
def Attention.block (x : Attention) (s0 : State) (core : Nat) (c : MatCfg) (h : Nat) (is : List Nat) (w : List Soft × AFlags × State)
    (j0 nk : Nat) : List Soft × AFlags × State :=
  let p : Product :=
    { m := is.length, n := nk, k := x.dh
      a := fun i d => x.el s0 core x.q c.aFmt c.aSigned x.sq h (is.getD i 0) d
      b := fun d j => x.el s0 core x.k c.bFmt c.bSigned x.skv h (j0 + j) d }
  let (sc, s) := p.toFp32 core c x.scale w.2.2
  let sc := List.zipWith (fun i r => r.zipIdx.map (fun e => if x.masked i (j0 + e.2) then .inf true else e.1)) is sc
  let steps := List.zipWith Soft.scores w.1 sc
  let ops := steps.map (fun t => t.p.map (toOperand c))
  let pv : Product :=
    { m := is.length, n := x.dh, k := nk
      a := fun i j => (ops.getD i []).getD j ([], .none)
      b := fun j d => x.el s0 core x.v c.bFmt c.bSigned x.skv h (j0 + j) d }
  let (dv, s) := pv.toFp32 core c (.fin false 1 1) s
  let rows := List.zipWith (fun r d => Soft.weigh r.1 r.2 d) (w.1.zip steps) dv
  (rows.map Prod.fst,
    w.2.1.or (p.splitFlags.or (pv.splitFlags.or ((AFlags.all (steps.map (·.flags))).or (AFlags.all (rows.map Prod.snd))))), s)

/-- A block of query rows of a head, each with a key that is not masked (R177): every key block in ascending order, then the output. -/
def Attention.rows (x : Attention) (s0 : State) (core : Nat) (c : MatCfg) (h : Nat) (is : List Nat) (w : AFlags × State) : AFlags × State :=
  let blk := 32 * 2 ^ x.kvb
  let (rows, f, s) := (List.range (ceilDiv x.skv blk)).foldl
    (fun w b => x.block s0 core c h is w (b * blk) (min blk (x.skv - b * blk))) (is.map (fun _ => Soft.start x.dh), w)
  (is.zip rows).foldl (fun (w : AFlags × State) r =>
    let (rcp, f) := ownFunction 0x0B r.2.l
    let (codes, g, s) := softOut core c rcp r.2.o 0 w.2
    (w.1.or (f.or g), s.putCodes core x.o (x.o.f.storeBits * ((h * x.sq + r.1) * x.dh)) codes)) (f, s)

/-- Whether every key is masked for query i. -/
def Attention.blind (x : Attention) (i : Nat) : Bool := (List.range x.skv).all (x.masked i)

/-- One head (R176): rows with every key masked take +0, with no flag and no report; the others run in blocks of the largest M_T. -/
def Attention.head (x : Attention) (s0 : State) (core : Nat) (c : MatCfg) (w : AFlags × State) (h : Nat) : AFlags × State :=
  let plus0 := ((Fmt.ofCode c.outFmt).convert .rne c.clipSat c.outSigned (.fin false 0 1)).1
  let s := ((List.range x.sq).filter x.blind).foldl (fun s i =>
    s.putCodes core x.o (x.o.f.storeBits * ((h * x.sq + i) * x.dh)) (List.replicate x.dh plus0)) w.2
  (chunks c.maxMT (x.sq + 1) ((List.range x.sq).filter (fun i => !x.blind i))).foldl (fun w is => x.rows s0 core c h is w) (w.1, s)

/-- Kind 2 (R176, R177). The spec does not lay out its tiles and chains: the model takes query rows in blocks of the largest M_T and
one tile per array's columns, each an event of its own, and counts the chains and their events by free numbers (log 39). Table 6-4 has
no scales, so that an MX OPFMT is inconsistent here (DESIGN CHOICE, log 42). -/
def State.attentionWork (s : State) (core : Nat) : LayerWork :=
  let x := s.attention core
  let c := s.layerCfg core 0 0
  let work := s.lyr core 14
  let reads : List DmaRange :=
    [x.q.range (x.q.f.bytesFor (x.heads * x.sq * x.dh)) false, x.k.range (x.k.f.bytesFor (x.heads * x.skv * x.dh)) false,
      x.v.range (x.v.f.bytesFor (x.heads * x.skv * x.dh)) false]
  { ok := c.layerOk && !c.aMx && !c.bMx && workOk work && decide (1 ≤ x.heads) && decide (16 ≤ x.dh) &&
      decide (x.dh ≤ 256) && x.dh % 16 == 0 && x.kvb != 3 && x.q.isOperand c.aFmt c.aSigned && x.k.isOperand c.bFmt c.bSigned &&
      x.v.isOperand c.bFmt c.bSigned && x.o.fmt == c.outFmt
    ranges := reads ++ [x.o.range (x.o.f.bytesFor (x.heads * x.sq * x.dh)) true]
    reads
    staged := true
    run := fun t =>
      let (f, t) := (List.range x.heads).foldl (x.head s core c) (AFlags.none, t)
      let t := if (List.range x.sq).all x.blind then t else ((t.layerFlags core f).chainsFree core).banksUsed core
      t.scribble core work }

/-! ### Normalisation and chains (R178, R179) -/

/-- A stream of a chain that a layer runs. -/
def lyStream (loc off fmt kind src : Nat) (signed : Bool) : Stream := { off, loc, fmt, signed, kind, src }

/-- A stage of such a chain. -/
def lyStage (op a b c var : Nat) : Stage := { op, a, b, c, int := false, var, arg := 0 }

/-- An unused stream. -/
def noStream : Stream := lyStream 0 0 0 0 0 false

/-- A chain run to its end inside a layer: its flags are one event, and it counts as a chain done (R54, R102). -/
def State.layerChain (s : State) (core : Nat) (d : ChainDesc) : State :=
  let (s, f) := s.passChain core d
  (((s.flagEvent core f).count 64 (Obj.CHAINS_DONE core) 1).count 64 (Obj.ELEM_CYCLES core) d.cycles).countFree 64 (Obj.PORT_WAIT_CYCLES core) 0

/-- The two chains of a group of rows (R178; the worked example of chapter 4). -/
def normChains (x o : Tref) (rows cols inOff outOff : Nat) (eps cvt : Nat) (rms gelu nfd beta : Bool) : ChainDesc × ChainDesc :=
  let base : ChainDesc :=
    { n := rows * cols, gate := false, lsUpd := false, link := false, seg := cols, doneWp := 0, doneEn := false, rnd := 0, clip := true,
      lsOff := 0, ins := [], outs := [], stages := [], consts := [eps, 0, 0] }
  let inp := lyStream 1 inOff x.fmt 0 0 x.signed
  let stats : ChainDesc :=
    { base with
      ins := [inp, noStream, noStream, noStream, noStream]
      stages := if rms then [lyStage 0x12 0 5 0 3] else [lyStage 0x12 0 0 0 1, lyStage 0x12 0 5 0 2]
      outs := if rms then [lyStream 5 0 0 2 0 false, noStream, noStream]
        else [lyStream 4 0 0 2 0 false, lyStream 5 0 0 2 1 false, noStream] }
  let s0 := if rms then [] else [lyStage 0x02 0 1 0 0]
  let k := s0.length
  let x0 := if rms then 0 else 8
  let s1 := [lyStage 0x03 x0 2 0 0, if beta then lyStage 0x04 (8 + k) 3 4 0 else lyStage 0x03 (8 + k) 3 0 0]
  let s2 := if gelu then [lyStage 0x0E (8 + k + 1) 0 0 0] else []
  let n2 := k + 2 + s2.length
  let s3 := if nfd then [lyStage 0x14 (8 + n2 - 1) 0 0 0] else []
  let stages := s0 ++ s1 ++ s2 ++ s3
  let norm : ChainDesc :=
    { base with
      rnd := bits cvt 5 4, clip := bit cvt 6
      ins := [inp, if rms then noStream else lyStream 4 0 0 2 0 false, lyStream 5 0 0 2 0 false, lyStream 6 0 0 1 0 false,
        if beta then lyStream 7 0 0 1 0 false else noStream]
      stages, outs := [lyStream 1 outOff o.fmt 0 (stages.length - 1) o.signed, noStream, noStream] }
  (stats, norm)

/-- Kind 3 (R178): every tile buffer is overwritten, what the chains do not fill with bytes that the spec does not name. -/
def State.normWork (s : State) (core : Nat) : LayerWork :=
  let L := s.lyr core
  let x := Tref.of (L 8)
  let o := Tref.of (L 9)
  let ga := Tref.of (L 10)
  let be := Tref.of (L 11)
  let rows := bits (L 12) 23 0
  let cols := bits (L 12) 38 24
  let cvt := bits (L 7) 31 0
  let chains (r0 n : Nat) : ChainDesc × ChainDesc :=
    normChains x o n cols (x.addr + x.f.bytesFor (r0 * cols)) (o.addr + o.f.bytesFor (r0 * cols)) (bits (L 13) 31 0) cvt
      (bit (L 12) 39) (bit (L 12) 40) (bit (L 12) 41) (bit (L 12) 42)
  let groups := (List.range (ceilDiv rows 16384)).map (fun g => (g * 16384, min 16384 (rows - g * 16384)))
  { ok := decide (1 ≤ cols) && decide (cols ≤ 16384) && decide (rows * cols ≤ 2 ^ 24) && cvtWordOk cvt && x.space == 0 &&
      o.space == 0 && ga.space == 0 && be.space == 0 && ga.fmt == 0 && (be.fmt == 0 || !bit (L 12) 42) &&
      groups.all (fun g => (chains g.1 g.2).1.ok 0 && (chains g.1 g.2).2.ok 0)
    ranges := [x.range (x.f.bytesFor (rows * cols)) false, o.range (o.f.bytesFor (rows * cols)) true, ga.range (4 * cols) false] ++
      (if bit (L 12) 42 then [be.range (4 * cols) false] else [])
    reads := ga.range (4 * cols) false :: (if bit (L 12) 42 then [be.range (4 * cols) false] else [])
    staged := false
    run := fun s =>
      let s := (s.tilesFree core).setTileBytes core 2 0 (s.spBytes core ga.addr (4 * cols))
      let s := if bit (L 12) 42 then s.setTileBytes core 3 0 (s.spBytes core be.addr (4 * cols)) else s
      groups.foldl (fun s g => (s.layerChain core (chains g.1 g.2).1).layerChain core (chains g.1 g.2).2) s }

/-- The chain of kind 4: LYR_08–LYR_23 as a chain descriptor (R179). -/
def State.layerDesc (s : State) (core : Nat) : ChainDesc :=
  ChainDesc.of ((List.range 16).foldl (fun v i => v + s.lyr core (8 + i) * 2 ^ (64 * i)) 0)

/-- The work of a chain layer once nothing holds it; a skipped one updates the loss-scale record alone (R122). -/
def State.chainLayer (s : State) (core : Nat) (d : ChainDesc) : State :=
  if d.gate && bit (s.obj Obj.STEP_NF) 0 then
    let s := s.count 32 Obj.SKIPPED_UPDATES 1
    let s := if d.lsUpd then s.updateLossScale core d.lsOff else s
    s.count 64 (Obj.CHAINS_DONE core) 1
  else
    let s := if d.gate then s.noteUpdated core else s
    let s := s.layerChain core d
    if d.lsUpd then s.updateLossScale core d.lsOff else s

/-- Kind 4 (R179). -/
def State.chainWork (s : State) (core : Nat) : LayerWork :=
  let d := s.layerDesc core
  { ok := d.ok 0, ranges := [], reads := [], staged := false, run := fun s => s.chainLayer core d }

/-! ### Embedding (R181) -/

/-- Rows of an embedding table or of its data start on whole bytes. -/
def Tref.rowBytes (t : Tref) (dim : Nat) : Nat := t.f.bytesFor dim

/-- A row of values. -/
def State.rowValues (s : State) (core : Nat) (t : Tref) (dim r : Nat) : List FVal :=
  (List.range dim).map (fun d => s.valueAt core t (8 * (r * t.rowBytes dim) + t.f.storeBits * d))

/-- Elements converted into a tensor's format with CVTCTL's RND and CLIP_SAT; a stochastic rounding draws from lane d mod 256
(R51). -/
def convertRowTo (core cvt : Nat) (t : Tref) : List FVal → Nat → State → List Nat × AFlags × State
  | [], _, s => ([], .none, s)
  | v :: r, d, s =>
    let (u, s) := if bits cvt 5 4 = 2 then s.draw core (d % 256) else (0, s)
    let (c, f) := t.f.convert (rndOf (bits cvt 5 4) u) (bit cvt 6) t.signed v
    let (cs, g, s) := convertRowTo core cvt t r (d + 1) s
    (c :: cs, f.or g, s)

/-- Sums in FP32 of rows in ascending index order (R181). -/
def addRows : List (List FVal) → List FVal × AFlags
  | [] => ([], .none)
  | r :: rest => rest.foldl (fun (w : List FVal × AFlags) row =>
      let l := List.zipWith (fun x y => fpOp (x.add y)) w.1 row
      (l.map Prod.fst, w.2.or (AFlags.all (l.map Prod.snd)))) (r, .none)

/-- The scatter of one data row (R181), with the flags so far. -/
def State.scatterRow (core cvt dim rows : Nat) (table data touch : Tref) (touchEn : Bool) (w : AFlags × State) (iv : Nat × Nat) :
    AFlags × State :=
  let s := w.2
  if rows ≤ iv.2 then (w.1, s.count 32 (Obj.EMB_OOB core) 1)
  else
    let s := s.noteRead 1 (s.placeOf core table.space (table.addr + iv.2 * table.rowBytes dim)) (table.rowBytes dim)
    let sum := List.zipWith (fun x y => fpOp (x.add y)) (s.rowValues core table dim iv.2) (s.rowValues core data dim iv.1)
    let (codes, f, s) := convertRowTo core cvt table (sum.map Prod.fst) 0 s
    let s := s.putCodes core table (8 * (iv.2 * table.rowBytes dim)) codes
    (w.1.or (f.or (AFlags.all (sum.map Prod.snd))), if touchEn then s.touch core (.layer core) touch.space touch.addr iv.2 else s)

/-- Kind 5 (R181). -/
def State.embedWork (s : State) (core : Nat) : LayerWork :=
  let L := s.lyr core
  let table := Tref.of (L 8)
  let idx := Tref.of (L 9)
  let data := Tref.of (L 10)
  let touch := Tref.of (L 11)
  let rows := bits (L 12) 31 0
  let dim := bits (L 12) 47 32
  let scatter := bit (L 12) 48
  let pool := bits (L 12) 50 49
  let touchEn := bit (L 12) 51
  let count := bits (L 13) 23 0
  let bag := if scatter ∨ pool = 0 then 1 else bits (L 13) 39 24
  let cvt := bits (L 7) 31 0
  let iw := if idx.fmt = 0xC then 2 else 4
  let ind (s : State) (i : Nat) : Nat := leNat (s.layerData core idx.space (idx.addr + iw * i) iw)
  let zeros : List FVal := List.replicate dim (.fin false 0 1)
  let gather (w : AFlags × State) (j : Nat) : AFlags × State :=
    let s := w.2
    let is := (List.range (min bag (count - j * bag))).map (fun i => ind s (j * bag + i))
    let s := s.count 32 (Obj.EMB_OOB core) (is.filter (fun v => decide (rows ≤ v))).length
    let (sum, f) := addRows (is.map (fun v => if v < rows then s.rowValues core table dim v else zeros))
    let vals := if pool = 2 then sum.map (fun x => fpOp (x.over bag)) else sum.map (fun x => (x, AFlags.none))
    let (codes, g, s) := convertRowTo core cvt data (vals.map Prod.fst) 0 s
    (w.1.or (f.or (g.or (AFlags.all (vals.map Prod.snd)))), s.putCodes core data (8 * (j * data.rowBytes dim)) codes)
  let indices := (List.range count).map (fun i => (i, ind s i))
  let row (t : Tref) (r : Nat) : DmaRange :=
    { space := t.space, addr := t.addr + r * t.rowBytes dim, len := t.rowBytes dim, write := false }
  let n := if bag = 0 then 0 else ceilDiv count bag
  { ok := workOk (L 14) && decide (1 ≤ dim) && pool != 3 && (scatter || pool == 0 || decide (1 ≤ bag)) &&
      (idx.fmt == 0xB || idx.fmt == 0xC) && !idx.signed && cvtWordOk cvt && table.fmt != 0xF && data.fmt != 0xF &&
      (!(scatter && touchEn) || touch.fmt != 0xF)
    ranges :=
      if count = 0 then []
      else
        [table.range (rows * table.rowBytes dim) scatter, idx.range (iw * count) false,
          data.range ((if scatter then count else n) * data.rowBytes dim) (!scatter)] ++
          (if scatter && touchEn then [touch.range (ceilDiv rows 8) true] else [])
    reads :=
      if count = 0 then []
      else idx.range (iw * count) false ::
        (indices.filter (fun e => decide (e.2 < rows))).map (fun e => if scatter then row data e.1 else row table e.2)
    staged := decide (count ≠ 0)
    run := fun s =>
      if count = 0 then s
      else
        let (f, s) :=
          if scatter then indices.foldl (State.scatterRow core cvt dim rows table data touch touchEn) (.none, s)
          else (List.range n).foldl gather (.none, s)
        (s.layerFlags core f).scribble core (L 14) }

/-! ### Optimizer (R182) -/

/-- A running FP32 computation that gathers flags. -/
def fpMul (a b : FVal × AFlags) : FVal × AFlags := let (v, f) := fpOp (a.1.mul b.1); (v, a.2.or (b.2.or f))
def fpAdd (a b : FVal × AFlags) : FVal × AFlags := let (v, f) := fpOp (a.1.add b.1); (v, a.2.or (b.2.or f))
def fpSub (a b : FVal × AFlags) : FVal × AFlags := let (v, f) := fpOp (a.1.add b.1.neg); (v, a.2.or (b.2.or f))
def fpVal (v : FVal) : FVal × AFlags := (v, .none)

/-- The hyperparameters of kind 6. -/
structure Hyper where
  lr    : FVal
  wd    : FVal
  beta1 : FVal
  beta2 : FVal
  eps   : FVal
  bc1   : FVal
  bc2   : FVal
  deriving DecidableEq, Repr

/-- The update of one parameter (R182): the new p, m and v, with flags. -/
def optStep (alg : Bool) (h : Hyper) (scale p g m v : FVal) : (FVal × AFlags) × (FVal × AFlags) × (FVal × AFlags) :=
  let (r, rf) := ownFunction 0x0B scale
  let g := fpMul (fpVal g) (r, rf)
  let one : FVal × AFlags := fpVal (.fin false 1 1)
  if !alg then
    let m := fpAdd (fpMul (fpVal h.beta1) (fpVal m)) g
    (fpSub (fpVal p) (fpMul (fpVal h.lr) (fpAdd m (fpMul (fpVal h.wd) (fpVal p)))), m, fpVal v)
  else
    let m := fpAdd (fpMul (fpVal h.beta1) (fpVal m)) (fpMul (fpSub one (fpVal h.beta1)) g)
    let v := fpAdd (fpMul (fpVal h.beta2) (fpVal v)) (fpMul (fpMul (fpSub one (fpVal h.beta2)) g) g)
    let t := fpAdd (fpMul (fpVal h.bc2) v) (fpVal h.eps)
    let (q, qf) := ownFunction 0x0C t.1
    let u := fpMul (fpMul (fpVal h.bc1) m) (q, t.2.or qf)
    (fpSub (fpVal p) (fpMul (fpVal h.lr) (fpAdd u (fpMul (fpVal h.wd) (fpVal p)))), m, v)

/-- One result stored in its tensor's format, with the flags so far. -/
def State.storeAt (core cvt : Nat) (t : Tref) (i : Nat) (v : FVal × AFlags) (w : AFlags × State) : AFlags × State :=
  let (codes, f, s) := convertRowTo core cvt t [v.1] i w.2
  (w.1.or (f.or v.2), s.putCodes core t (t.f.storeBits * i) codes)

/-- Kind 6 (R182), under the sealed flag. -/
def State.optimizerWork (s : State) (core : Nat) : LayerWork :=
  let L := s.lyr core
  let p := Tref.of (L 8)
  let g := Tref.of (L 9)
  let m := Tref.of (L 10)
  let v := Tref.of (L 11)
  let count := bits (L 12) 39 0
  let alg := bit (L 12) 40
  let upd := bit (L 12) 41
  let f32 (w hi lo : Nat) : FVal := val32 (bits w hi lo)
  let h : Hyper :=
    { lr := f32 (L 13) 31 0, wd := f32 (L 13) 63 32, beta1 := f32 (L 14) 31 0, beta2 := f32 (L 14) 63 32, eps := f32 (L 15) 31 0,
      bc1 := f32 (L 15) 63 32, bc2 := f32 (L 16) 31 0 }
  let lsOff := bits (L 16) 54 32
  let cvt := bits (L 7) 31 0
  let one (scale : FVal) (w : AFlags × State) (i : Nat) : AFlags × State :=
    let at' (t : Tref) : FVal := w.2.valueAt core t (t.f.storeBits * i)
    let (pn, mn, vn) := optStep alg h scale (at' p) (at' g) (at' m) (if alg then at' v else .fin false 0 1)
    let w := State.storeAt core cvt m i mn w
    let w := if alg then State.storeAt core cvt v i vn w else w
    State.storeAt core cvt p i pn w
  let tensors := [p, g, m] ++ (if alg then [v] else [])
  { ok := workOk (L 17) && cvtWordOk cvt && lsOff % 16 == 0 && decide (lsOff + 16 ≤ spSize) &&
      tensors.all (fun t => t.fmt != 0xF && !t.f.isInt)
    ranges :=
      if bit (s.obj Obj.STEP_NF) 0 then []
      else [p.range (p.f.bytesFor count) true, g.range (g.f.bytesFor count) false, m.range (m.f.bytesFor count) true] ++
        (if alg then [v.range (v.f.bytesFor count) true] else [])
    reads :=
      (if bit (s.obj Obj.STEP_NF) 0 then [] else tensors.map (fun t => t.range (t.f.bytesFor count) false)) ++
        [{ space := 0, addr := lsOff, len := if upd then 16 else if bit (s.obj Obj.STEP_NF) 0 ∨ count = 0 then 0 else 4, write := false }]
    staged := decide (count ≠ 0) && !bit (s.obj Obj.STEP_NF) 0
    run := fun s =>
      if bit (s.obj Obj.STEP_NF) 0 then
        let s := if count = 0 then s else s.chainsSkipped core
        if upd then s.updateLossScale core lsOff else s
      else
        let s := s.noteUpdated core
        let scale := val32 (leNat (s.spBytes core lsOff 4))
        let (f, s) := (List.range count).foldl (one scale) (.none, s)
        let s := if upd then (s.layerFlags core f).updateLossScale core lsOff else s.layerFlags core f
        if count = 0 then s else (s.chainsFree core).scribble core (L 17) }

/-! ### Running a layer -/

/-- The work of a layer of kinds 0–6. -/
def State.layerWork (s : State) (core : Nat) : LayerWork :=
  match s.lyKind core with
  | 0 => s.matmulWork core
  | 1 => s.convWork core
  | 2 => s.attentionWork core
  | 3 => s.normWork core
  | 4 => s.chainWork core
  | 5 => s.embedWork core
  | _ => s.optimizerWork core

/-- Whether a layer's chains are gated (R179, R182). -/
def State.layerGated (s : State) (core : Nat) : Bool :=
  match s.lyKind core with
  | 4 => (s.layerDesc core).gate
  | 6 => true
  | _ => false

/-- What a layer is doing set. -/
def State.setLayer (s : State) (core : Nat) (l : LayerSt) : State := s.setCore core { s.core core with layer := l, wdog := 0 }

/-- The layer's work performed: ranges outside the slice park the core, an inconsistent layer has an undefined result (R161,
R183), and a read-only Wake entry refuses the layer's writes (R195, R348). -/
def State.performLayer (s : State) (core : Nat) : State :=
  let w := s.layerWork core
  let done (s : State) (code : Nat) : State := if s.canFault core then s.setLayer core (.worked code) else s
  if !w.ok then done (s.undefinedResult core) 0
  else match s.firstFailure core w.ranges with
  | some (0x0801, a) => s.outOfSlice core 0xFF a
  | some (0x0803, _) => done (s.count 32 Obj.WAKE_REFUSALS 1) 0x0803
  | some _ => done (s.undefinedResult core) 0
  | none =>
    let s := w.run (s.noteRanges core 1 w.reads)
    done (if w.staged then s.stagingCounts core else s) 0

/-- A layer of kinds 0–6 whose waits are over: a gated one waits for the seal (R122) or is refused while sealing is disabled
(R123, R179). -/
def State.runLayer (s : State) (core : Nat) : State :=
  let s := s.setCoreSt core .running
  if s.layerGated core then
    if s.obj Obj.SEAL_THRESH = 0 then
      let s := s.logEvent .stateRefused 0x0805 (srcCode 1 core) (s.sliceOfCore core) (refusalArgs (s.core core).pc core s.selfId core 3 0)
      s.setLayer core (.worked 0x0805)
    else if bit (s.obj Obj.STEP_NF) 1 then s.performLayer core
    else s.setLayer core .gated
  else s.performLayer core

/-- LAYER_COMPLETE (R170, R179, R180): once every write of the layer is performed, its adds are performed and it links or the
core goes IDLE; an error ends it with an error completion. -/
def doLayerComplete (core : Nat) (s : State) : Out :=
  withCore s core <|
    match (s.core core).layer with
    | .worked code =>
      if s.writeWaits (.layer core) then .next s
      else if code ≠ 0 then
        let s := (s.setLayer core .none).setCoreSt core .idle
        .next (s.postCoreWp core (s.lyDoneWp core) (.error code))
      else
        let d := s.lyr core 3
        let s := if bit d 30 then s.postCoreWp core (s.lyRelWp core) (.add 1) else s
        let s := if bit d 14 then s.postCoreWp core (s.lyDoneWp core) (.add (bits d 63 32)) else s
        .next (s.post (.layerNext core))
    | _ => .next s

/-- The end of a layer whose adds are performed: it wraps, counts, and links or leaves the core IDLE (R170). -/
def State.layerNext (s : State) (core : Nat) : State :=
  match (s.core core).layer with
  | .worked _ =>
    let h := s.lyr core 0
    let s := if bit h 9 then s.count 32 (Obj.LAP core) 1 else s
    let s := s.count 64 (Obj.LAYERS_DONE core) 1
    if bit h 8 then s.setLayer core (.loading (s.lyr core 5)) else (s.setLayer core .none).setCoreSt core .idle
  | _ => s

/-- GATED_UPDATE (R122): once the flag is sealed the gated chain that waits, or the gated layer, runs or is skipped; a chain that
conflicts with an unfinished earlier one waits on (R100). -/
def doGatedUpdate (core : Nat) (s : State) : Out :=
  withCore s core <|
    if !bit (s.obj Obj.STEP_NF) 1 then .next s
    else match (s.core core).vec.gate with
    | some ch =>
      let d := ChainDesc.of ch.desc
      if chainConflicts (d.under (bit (s.obj Obj.STEP_NF) 0)) (s.core core).vec.running then
        .next (s.countFree 64 (Obj.DEP_WAIT_CYCLES core) 1)
      else .next ((s.countFree 64 (Obj.GATE_WAIT_CYCLES core) 0).runChain core ch)
    | none =>
      match (s.core core).layer with
      | .gated => .next ((s.countFree 64 (Obj.GATE_WAIT_CYCLES core) 0).performLayer core)
      | _ => .next s

end Sys2Proof.Machine
end

