-- ==== Sys2Proof/Machine/CoreControl.lean ====
section
/-! DEFINITION. A core's control objects (R156–R168): ARM, RESET and core reset (R159), PROG_GEN, the launch objects, the layer
registers, and the watchdogs (R163, R184). -/

namespace Sys2Proof.Machine

/-- What a write of an object with behaviour comes to: the state and a code of Table 0-3, 0 for success. -/
abbrev Wr := State × Nat

/-- A write performed. -/
def State.ok (s : State) : Wr := (s, 0)

/-- A write refused with a code: nothing changes (R12). -/
def State.no (s : State) (code : Nat) : Wr := (s, code)

/-- The objects that core reset puts back to their defaults: flags, counters, the checksum record and the layer registers
(R54, R89, R125, R164, R185, R206, R335). FAULT_RECORD, DMA_LAST_ERROR and the RNG objects stand (R159). -/
def coreResetRanges (n : Nat) : List (Nat × Nat) :=
  [(Obj.ARITH_FLAGS n, 4), (Obj.CHK_STATUS n, 11), (Obj.CHAINS_DONE n, 6), (Obj.BUNDLES_ISSUED n, 8), (Obj.LYR n 0, 64),
   (Obj.LAYERS_DONE n, 5), (Obj.SP_ECC_CORRECTED n, 2), (Obj.RD_PORT_WAIT_CYCLES n, 7),
   (Obj.IDLE_FENCED n, 9)]

/-- Dictionary ranges put back to their defaults. -/
def State.clearObjs (s : State) (l : List (Nat × Nat)) : State :=
  { s with dict := l.foldl (fun d r => Sparse.eraseRange d r.1 r.2) s.dict }

/-- Core reset (R159): every queued and running operation is abandoned, the named objects are cleared, the instruction cache
is empty, the tile buffers are undefined (R93), and the lanes are loaded in the mode in force (R110). -/
def State.coreReset (s : State) (core : Nat) : State :=
  let c := s.core core
  let fresh : Core :=
    { Core.reset with
      resets := c.resets + 1, seen := c.seen
      vec := { Core.reset.vec with stepped := c.vec.stepped, seed := c.vec.seed, rank := c.vec.rank, loadNo := c.vec.loadNo } }
  let s := (s.dropWaits core).clearObjs (coreResetRanges core)
  ((s.setCore core fresh).tilesFree core).loadLanes core

/-- Whether the slice that holds a core may run program mode (R157). -/
def State.kernelRight (s : State) (core : Nat) : Bool :=
  match s.slotOfCore core with
  | some k => s.obj (Obj.KERNEL_RIGHT k) == 1
  | none => false

/-- A bundle address (R144): in HBM, behind the header of its page, on 32 B. -/
def bundleAddr (a : Nat) : Bool := decide (a < 0xC000000000) && decide (64 ≤ a % 65536) && a % 32 == 0

/-- ARM (R157, R168): the conditions in order, then the core parks on its launching Waypoint. -/
def State.arm (s : State) (core : Nat) : Wr :=
  let mode := s.obj (Obj.CORE_MODE core)
  let wp := s.obj (Obj.LAUNCH_WP core)
  let slice := s.sliceOfCore core
  if s.coreSt core ≠ .idle then s.no 0x0805
  else if mode = 0 ∧ !s.kernelRight core then s.no 0x0808
  else if mode = 0 ∧ !bundleAddr (s.obj (Obj.ENTRY_PC core)) then s.no 0x0809
  else if mode ≠ 0 ∧ s.obj (Obj.ENTRY_PC core) % 512 ≠ 0 then s.no 0x0809
  else if slice = 0xFFFF ∨ s.wpOwner wp ≠ slice then s.no 0x0801
  else
    let s := (s.setCoreSt core .armed).setCore core { s.core core with mode }
    match s.waitAns slice wp (s.obj (Obj.LAUNCH_THRESH core)) with
    | .satisfied => ((s.tookWait wp).launchCore core).ok
    | .held => ((s.tookWait wp).addWaiter core wp (s.obj (Obj.LAUNCH_THRESH core)) .launch).ok
    | ans => (s.failWait core wp .launch ans).ok

/-- RESET (R156, R159): legal in every state but OFF and FENCED. -/
def State.resetCore (s : State) (core : Nat) : Wr :=
  match s.coreSt core with
  | .off | .fenced => s.no 0x0805
  | _ => ((s.coreReset core).setCoreSt core .idle).ok

/-- Whether a core has parked in the present cycle: FAULT_RECORD's TIME is the Chronometer's (R165). -/
def State.justParked (s : State) (core : Nat) : Bool :=
  s.coreSt core == .parkedFault && bits (s.obj (Obj.FAULT_RECORD core)) 63 0 == s.chr

/-- A core that a RESET has reached in the cycle of its fault (R165): it ends PARKED_FAULT, the record stands, and the cause's counter
has risen: by this fault alone, for the RESET has cleared it (DESIGN CHOICE, log 57). -/
def State.faultStands (s : State) (core : Nat) : State :=
  let key := causeCounter core (bits (s.obj (Obj.FAULT_RECORD core)) 135 128)
  (s.setObj key (max 1 (s.obj key))).setCoreSt core .parkedFault

/-- A write of CORE_CTRL (Table 5-13). -/
def State.writeCoreCtrl (s : State) (core v : Nat) : Wr :=
  if v = 1 then s.arm core else if v = 2 then s.resetCore core else s.no 0x0809

/-- A write of PROG_GEN (R147, R149): legal only in IDLE; it empties the instruction cache. -/
def State.writeProgGen (s : State) (core v : Nat) : Wr :=
  if s.coreSt core ≠ .idle then s.no 0x0805
  else
    let s := s.setObj (Obj.PROG_GEN core) v
    (s.setCore core { s.core core with icache := [], demand := none, ahead := [] }).ok

/-- A write of another launch object (Table 5-11, R156, R163). -/
def State.writeLaunch (s : State) (core key v : Nat) : Wr :=
  if (key = Obj.CORE_MODE core ∧ 1 < v) ∨ (key = Obj.LAUNCH_WP core ∧ 16384 ≤ v) ∨ (key = Obj.WDOG_LIMIT core ∧ v < 65536) then
    s.no 0x0809
  else if s.coreSt core ≠ .idle then s.no 0x0805
  else (s.setObj key v).ok

/-- A write of a layer register (R166): legal only in IDLE with CORE_MODE 1. -/
def State.writeLyr (s : State) (core i v : Nat) : Wr :=
  if s.coreSt core = .idle ∧ s.obj (Obj.CORE_MODE core) = 1 then (s.setLyr core i v).ok else s.no 0x0805

/-- A write of LYR_START (R167). -/
def State.writeLyrStart (s : State) (core v : Nat) : Wr :=
  if v ≠ 1 then s.no 0x0809
  else if s.coreSt core = .idle ∧ s.obj (Obj.CORE_MODE core) = 1 then (s.startLayer core).ok
  else s.no 0x0805

/-! ### The progress watchdog (R163, R184) -/

/-- Whether the progress watchdog counts (R163, R184): a program that neither issues nor waits in a WWAIT, or a layer at work; the
waits of R170 do not count, and the wait for a context is one of them (R306). -/
def State.watched (s : State) (core : Nat) : Bool :=
  let c := s.core core
  let st := s.coreSt core
  if c.mode = 0 ∧ c.layer = .none then
    (st == .running || st == .waiting) && (match c.hold with | .wwait _ _ => false | _ => true)
  else st == .running && c.layer != .waiting

/-- A nanosecond's cycles counted by a core's progress watchdog, at the present step of its die. -/
def State.watchdogTick (s : State) (core : Nat) : State :=
  if s.watched core then
    s.setCore core { s.core core with wdog := (s.core core).wdog + stepFreq (s.obj (Obj.CLK_STEP (dieOfCore core))) }
  else s

/-- PROGRESS_WATCHDOG (R163, R184): WDOG_LIMIT cycles have been counted without progress. -/
def doProgressWatchdog (core : Nat) (s : State) : Out :=
  withCore s core <|
    if s.watched core ∧ s.obj (Obj.WDOG_LIMIT core) ≤ (s.core core).wdog / 100 then .next (s.faultNoAddr core 5 0x0805 0xFF) else .next s

/-- RUN_WATCHDOG (R163, R184): RUN_LIMIT ns have passed since the launch or the layer's START. -/
def doRunWatchdog (core : Nat) (s : State) : Out :=
  withCore s core <|
    let limit := s.obj (Obj.RUN_LIMIT core)
    let st := s.coreSt core
    if limit ≠ 0 ∧ (st = .running ∨ st = .waiting) ∧ limit ≤ s.now - (s.core core).launch then
      .next (s.faultNoAddr core 6 0x0805 0xFF)
    else .next s

end Sys2Proof.Machine
end

