-- ==== Sys2Proof/Machine/Frames.lean ====
section
/-! DEFINITION. Fabric frames (R269–R272): the header's bits, its check and the payload's, opcodes, flows (R277) and the
addresses that a frame names (R271, R289). -/

namespace Sys2Proof.Machine

/-! ### Checks (R270) -/

/-- One bit of CRC-16 with polynomial 0x1021. -/
def crc16Bit (c : Nat) : Nat := if bit c 15 then ((c * 2) % 65536) ^^^ 0x1021 else c * 2

/-- CRC-16 carried over bytes. -/
def crc16 : Nat → List Byte → Nat
  | c, [] => c
  | c, b :: r =>
    let c0 := c ^^^ (b.toNat * 256)
    crc16 (crc16Bit (crc16Bit (crc16Bit (crc16Bit (crc16Bit (crc16Bit (crc16Bit (crc16Bit c0)))))))) r

/-- One bit of the CRC-32 of IEEE 802.3, least significant bit first. -/
def crc32Bit (c : Nat) : Nat := if bit c 0 then (c / 2) ^^^ 0xEDB88320 else c / 2

/-- CRC-32 carried over bytes, before the final complement. -/
def crc32Go : Nat → List Byte → Nat
  | c, [] => c
  | c, b :: r =>
    crc32Go (crc32Bit (crc32Bit (crc32Bit (crc32Bit (crc32Bit (crc32Bit (crc32Bit (crc32Bit (c ^^^ b.toNat))))))))) r

/-- The CRC-32 of the IEEE 802.3 frame check sequence. -/
def crc32 (l : List Byte) : Nat := crc32Go 0xFFFFFFFF l ^^^ 0xFFFFFFFF

/-- Bits [239:0] of a header (Table 10-1). -/
def frameHeader (f : Frame) : Nat :=
  f.opcode % 256 + f.cls % 8 * 2 ^ 8 + f.epoch % 2 * 2 ^ 11 + b2n f.mcast * 2 ^ 12 + f.dstDev % 2 ^ 14 * 2 ^ 16 +
    f.dstCore % 128 * 2 ^ 30 + f.slice % 2 ^ 12 * 2 ^ 38 + f.fanId % 2 ^ 12 * 2 ^ 50 + f.srcDev % 2 ^ 14 * 2 ^ 64 +
    f.srcCore % 128 * 2 ^ 78 + f.len % 2 ^ 13 * 2 ^ 88 + f.hops % 16 * 2 ^ 104 + f.code % 2 ^ 16 * 2 ^ 112 +
    f.seq % 2 ^ 32 * 2 ^ 128 + f.aux % 2 ^ 32 * 2 ^ 160 + f.addr % 2 ^ 40 * 2 ^ 192

/-- HCRC of a header. -/
def headerCheck (f : Frame) : Nat := crc16 0xFFFF (leBytes 30 (frameHeader f))

/-- The payload check; a frame without payload carries none (R267). -/
def payloadCheck (f : Frame) : Nat := if f.len = 0 then 0 else crc32 f.payload

/-- Whether the header as received passes HCRC. -/
def headerGood (f : Frame) : Bool := f.hcrc == headerCheck f

/-- Whether the payload as received passes its check and has the length that LEN names. -/
def payloadGood (f : Frame) : Bool := f.len == f.payload.length && f.pcrc == payloadCheck f

/-- A frame with both checks computed, as its sender sends it. -/
def sealFrame (f : Frame) : Frame :=
  let f := { f with len := f.payload.length }
  let f := { f with pcrc := payloadCheck f }
  { f with hcrc := headerCheck f }

/-- A frame as a router passes it on (R270). -/
def hopFrame (f : Frame) : Frame :=
  let f := { f with hops := f.hops + 1 }
  { f with hcrc := headerCheck f }

/-- A frame of an XD unit to the local address space of a device, its fields of R271 still open. -/
def unitFrame (opcode cls dstDev slice aux addr : Nat) (payload : List Byte) : Frame :=
  { opcode, cls, epoch := 0, mcast := false, dstDev, dstCore := 0x7F, slice, fanId := 0, srcDev := 0, srcCore := 0x7F
    len := payload.length, hops := 0, code := 0, seq := 0, aux, addr, payload, hcrc := 0, pcrc := 0 }

/-- The same on a Fan. -/
def fanFrame (opcode cls fan slice aux addr : Nat) (payload : List Byte) : Frame :=
  { unitFrame opcode cls 0 slice aux addr payload with mcast := true, fanId := fan }

/-! ### Opcodes and flows -/

/-- Whether an opcode is sequenced (Table 10-2). -/
def sequenced (op : Nat) : Bool := (decide (1 ≤ op) && decide (op ≤ 4)) || (decide (0x10 ≤ op) && decide (op ≤ 0x3F))

/-- The opcodes in use (Tables 10-2, 11-4, 13-3, 14-7). -/
def knownOpcode (op : Nat) : Bool :=
  (decide (1 ≤ op) && decide (op ≤ 9)) || (decide (0x10 ≤ op) && decide (op ≤ 0x12)) ||
    (decide (0x20 ≤ op) && decide (op ≤ 0x26)) || (decide (0x30 ≤ op) && decide (op ≤ 0x35))

/-- Opcode, CLASS and DST_CORE as R272 allows them. -/
def wellFormedHeader (f : Frame) : Bool :=
  knownOpcode f.opcode && decide (f.cls < 7) && (decide (f.dstCore < 104) || f.dstCore == 0x7F)

/-- ACK, ERR_RESP and PARTIAL: frames that nothing answers (R290). -/
def unanswered (op : Nat) : Bool := op == 5 || op == 6 || op == 7

/-- SEQ after another (R277): 0 is never used. -/
def nextSeq (n : Nat) : Nat := if n = 0xFFFFFFFF then 1 else n + 1

/-- SEQ before another. -/
def prevSeq (n : Nat) : Nat := if n ≤ 1 then 0xFFFFFFFF else n - 1

/-- Whether `a` is not after `b` in serial order modulo 2^32 (R278). -/
def seqUpTo (a b : Nat) : Bool := decide ((b + 2 ^ 32 - a) % 2 ^ 32 < 2 ^ 31)

/-- The flow of a frame that this module sends. -/
def sendKey (f : Frame) : FlowKey :=
  if f.mcast then { dev := f.srcDev, fan := some f.fanId, cls := f.cls, epoch := f.epoch }
  else { dev := f.dstDev, fan := none, cls := f.cls, epoch := f.epoch }

/-- The flow of a frame that this module receives. -/
def recvKey (f : Frame) : FlowKey :=
  if f.mcast then { dev := f.srcDev, fan := some f.fanId, cls := f.cls, epoch := f.epoch }
  else { dev := f.srcDev, fan := none, cls := f.cls, epoch := f.epoch }

/-! ### Addresses -/

/-- DST_CORE and ADDR of a local address on another device (R271). -/
def fabricTarget (a : Nat) : Nat × Nat :=
  if 0xC000000000 ≤ a ∧ a < 0xC000000000 + 104 * 0x800000 then ((a - 0xC000000000) / 0x800000, (a - 0xC000000000) % 0x800000)
  else (0x7F, a)

/-- The local address that DST_CORE and ADDR name. -/
def frameAddr (f : Frame) : Nat := if f.dstCore < 104 then spBase f.dstCore + f.addr else f.addr

/-- Whether a core is a Reserve at reset (R17). -/
def isReserve (core : Nat) : Bool :=
  (decide (48 ≤ core) && decide (core ≤ 51)) || (decide (100 ≤ core) && decide (core ≤ 103))

/-- The number of a Reserve, 0–7. -/
def reserveNo (core : Nat) : Nat := if core < 52 then core - 48 else core - 100 + 4

/-- The core of a Reserve's number. -/
def reserveCore (j : Nat) : Nat := if j < 4 then 48 + j else 96 + j

/-- Whether a core is a sleeping Reserve (Table 15-2). -/
def State.sleeping (s : State) (core : Nat) : Bool :=
  isReserve core && s.obj (Obj.RSV_STATE (reserveNo core)) == 0 && s.coreSt core == .off

/-- The check of a frame's target range by R289: 0x0802 outside the map, 0x0805 in a sleeping Reserve, 0x0801 not the
slice's. -/
def State.frameTarget (s : State) (f : Frame) (a len : Nat) : Nat :=
  if f.dstCore < 104 ∧ spSize < f.addr + len then 0x0802
  else match s.region a with
  | .sp c _ => if s.sleeping c then 0x0805 else s.checkRange f.slice a len
  | .hbm => s.checkRange f.slice a len
  | _ => 0x0802

end Sys2Proof.Machine
end

