-- ==== Sys2Proof/Machine/Router.lean ====
section
/-! DEFINITION. Ports and the central router: queues, credits and link-level retry (R273–R275), routing by Chart (R264, R283,
R285), Fans (R292–R294), end-to-end flows (R277–R281), injection (R288) and error responses (R290, R295). -/

namespace Sys2Proof.Machine

/-! ### Ports (R266–R275) -/

/-- PORT_STATE UP (Table 10-8). -/
def State.portUp (s : State) (p : Nat) : Bool := s.obj (Obj.PORT_STATE p) == 2

/-- Whether a port leads to a fenced node (Table 10-9). -/
def State.portFenced (s : State) (p : Nat) : Bool := bit (s.obj Obj.FENCE_VEC) p

/-- The bytes of a frame on a lane: link prefix, header, payload and its check (R267). -/
def wireBytes (f : Frame) : Nat := f.len + (if f.len = 0 then 40 else 44)

/-- The credit units that a frame takes: 256 B each, counted on header, payload and payload check (R275). -/
def creditUnits (f : Frame) : Nat := ceilDiv (wireBytes f - 8) 256

/-- The credit units of an input port per class: 64 KiB (R275). -/
def creditGrant : Nat := 256

/-- The weight of a class (R273). -/
def State.classWeight (s : State) (c : Nat) : Nat := bits (s.obj Obj.CLASS_WEIGHTS) (8 * c + 7) (8 * c)

/-- The first frame of a class in a port's queue. -/
def Port.head (p : Port) (c : Nat) : Option Held := p.queue.find? (fun h => h.frame.cls == c)

/-- Bytes that a retry buffer holds. -/
def Port.retryBytes (p : Port) : Nat := (p.retry.map (fun r => wireBytes r.frame)).sum

/-- The first frame of a class if the next hop has credit for it and the retry buffer room (R274, R275). -/
def Port.ready (p : Port) (c : Nat) : Option Held :=
  match p.head c with
  | some h =>
    if Sparse.get (fun _ => 0) p.used c + creditUnits h.frame ≤ creditGrant ∧ p.retryBytes + wireBytes h.frame ≤ 524288 then some h
    else none
  | none => none

/-- Whether the first frame of a class waits for credit (R275). -/
def Port.starved (p : Port) (c : Nat) : Bool :=
  match p.head c with
  | some h => decide (creditGrant < Sparse.get (fun _ => 0) p.used c + creditUnits h.frame)
  | none => false

/-- Bytes of class 0 beyond its share at a time (R273): 10 % of 100 GB/s (R268) makes up 10 B in a nanosecond. -/
def Port.ctrlLevel (p : Port) (now : Nat) : Nat := p.ctrl - 10 * (now - p.ctrlAt)

/-- The class after another among 1–6. -/
def nextClass (c : Nat) : Nat := if c = 6 then 1 else c + 1

/-- Deficit round robin (R273): the class that sends next, with the port's turn and deficits; `fuel` two rounds. -/
def Port.robin (weight : Nat → Nat) : Nat → Port → Option (Held × Port)
  | 0, _ => none
  | n + 1, p =>
    let d := Sparse.get (fun _ => 0) p.deficit p.turn
    match p.ready p.turn with
    | some h =>
      if wireBytes h.frame ≤ d then
        some (h, { p with deficit := Sparse.set (fun _ => 0) p.deficit p.turn (d - wireBytes h.frame) })
      else
        let t := nextClass p.turn
        Port.robin weight n { p with turn := t, deficit := Sparse.set (fun _ => 0) p.deficit t (Sparse.get (fun _ => 0) p.deficit t + weight t * 4140) }
    | none =>
      let t := nextClass p.turn
      let q := { p with deficit := Sparse.set (fun _ => 0) p.deficit p.turn 0 }
      Port.robin weight n { q with turn := t, deficit := Sparse.set (fun _ => 0) q.deficit t (Sparse.get (fun _ => 0) q.deficit t + weight t * 4140) }

/-- The frame that a port sends next (R273): class 0 first within its share, else the round robin; class 0 has no weight, and beyond
its share it goes when no other class can (log 47). -/
def Port.pick (weight : Nat → Nat) (now : Nat) (p : Port) : Option (Held × Port) :=
  match p.ready 0 with
  | none => p.robin weight 14
  | some h =>
    let first : Held × Port := (h, { p with ctrl := p.ctrlLevel now + wireBytes h.frame, ctrlAt := now })
    match p.robin weight 14 with
    | none => some first
    | some other => if p.ctrlLevel now + wireBytes h.frame ≤ Config.ctrlBurst then some first else some other

/-- QUEUE_DEPTH of a port: bytes queued by class, 32 bits each. -/
def Port.depth (p : Port) : Nat :=
  ((List.range 8).map (fun c => ((p.queue.filter (fun h => h.frame.cls == c)).map (fun h => wireBytes h.frame)).sum % 2 ^ 32 * 2 ^ (32 * c))).sum

/-- The larger of two words of eight 32-bit fields, field by field. -/
def fieldMax (a b : Nat) : Nat :=
  ((List.range 8).map (fun c => max (bits a (32 * c + 31) (32 * c)) (bits b (32 * c + 31) (32 * c)) * 2 ^ (32 * c))).sum

/-- The room that a frame filled in the input buffer of the port it came by, owed back to its sender once the frame has left the
router (R275). -/
def State.owe (s : State) (arrival : Option Nat) (f : Frame) : State :=
  match arrival with
  | some p =>
    let q := s.port p
    s.setPort p { q with owed := Sparse.set (fun _ => 0) q.owed f.cls (Sparse.get (fun _ => 0) q.owed f.cls + creditUnits f) }
  | none => s

/-- Sends every frame of a port's queue that may leave (R273–R275). -/
def State.pump : Nat → State → Nat → State
  | 0, s, _ => s
  | n + 1, s, p =>
    if !s.portUp p then s
    else match (s.port p).pick s.classWeight s.now with
    | none => s
    | some (h, q) =>
      let f := h.frame
      let used := Sparse.get (fun _ => 0) q.used f.cls + creditUnits f
      let q := { q with
        queue := q.queue.erase h, retry := q.retry ++ [{ seqNo := q.nextLink, frame := f, replays := 0, since := h.since }]
        nextLink := (q.nextLink + 1) % 4096, used := Sparse.set (fun _ => 0) q.used f.cls used
        progress := if q.retry.isEmpty then s.now else q.progress }
      let s := ((s.setPort p q).send (.frame p ((s.port p).nextLink) f)).owe h.arrival f
      State.pump n ((s.count 64 (Obj.TX_FRAMES p) 1).count 64 (Obj.TX_BYTES p) f.len) p

/-- A frame put to a port: queued and sent as credits allow. -/
def State.toPort (s : State) (p since : Nat) (arrival : Option Nat) (f : Frame) : State :=
  let q := s.port p
  let q := { q with queue := q.queue ++ [{ frame := hopFrame f, since, arrival }] }
  let s := (s.setPort p q).setObj (Obj.QUEUE_MAX p) (fieldMax (s.obj (Obj.QUEUE_MAX p)) q.depth)
  s.pump q.queue.length p

/-! ### Charts (R282–R285) -/

/-- The state of a Chart (Table 10-5). -/
def State.chartState (s : State) (e : Nat) : Nat := s.obj (if e = 0 then Obj.CHART0_STATE else Obj.CHART1_STATE)

/-- The state with a Chart's state set. -/
def State.setChartState (s : State) (e v : Nat) : State := s.setObj (if e = 0 then Obj.CHART0_STATE else Obj.CHART1_STATE) v

/-- Whether a Chart routes frames of its epoch. -/
def State.chartRoutes (s : State) (e : Nat) : Bool := s.chartState e == 2 || s.chartState e == 3 || s.chartState e == 4

/-- A Chart entry at reset (Table 10-4): no port, not valid. -/
def entryReset : Nat → Nat := fun _ => 0xFFFFF

/-- A Chart's entry for a device. -/
def Chart.entry (c : Chart) (dev : Nat) : Nat := Sparse.get entryReset c.entries dev

/-- The ports that an entry names, first choice first. -/
def entryPorts (e : Nat) : List Nat := [bits e 4 0, bits e 9 5, bits e 14 10, bits e 19 15]

/-- Fields of an entry. -/
def entryValid (e : Nat) : Bool := bit e 20
def entryFenced (e : Nat) : Bool := bit e 21
def entryAllows (e slice : Nat) : Bool := bit e 22 || bits e 43 32 == slice

/-- Whether the module is fenced. -/
def State.fenced (s : State) : Bool := s.obj Obj.FENCE_STATE != 0

/-- What may leave a fenced module (R295). -/
def leavesFenced (f : Frame) : Bool := f.opcode == 8 || f.opcode == 9 || (f.opcode == 6 && f.code == 0x0806)

/-- A frame leaves by a port unless the module is fenced. -/
def State.egress (s : State) (p since : Nat) (arrival : Option Nat) (f : Frame) : State :=
  if s.fenced && !leavesFenced f then s.owe arrival f else s.toPort p since arrival f

/-- A port of a module that becomes fenced: what waits in it, or would be replayed, is discarded (R295). -/
def State.fencePort (s : State) (p : Nat) : State :=
  let q := s.port p
  (q.queue.filter (fun h => !leavesFenced h.frame)).foldl (fun t h => t.owe h.arrival h.frame)
    (s.setPort p { q with queue := q.queue.filter (fun h => leavesFenced h.frame), retry := q.retry.filter (fun r => leavesFenced r.frame) })

/-- The first output of an entry that can carry a frame: a port that is UP, or this module (16). -/
def State.output (s : State) (e : Nat) : Option Nat := (entryPorts e).find? (fun p => p == 16 || (decide (p < 16) && s.portUp p))

/-! ### Drops and error responses (R276, R290) -/

/-- A frame dropped by the router (R276, R290). -/
def State.hopDrop (s : State) (f : Frame) (port : Nat) : State :=
  (s.count 32 Obj.HOP_DROPS 1).logEvent .hopDrop 0 (srcCode 3 port) f.slice (fabricArgs f.srcDev f.srcCore f.dstDev f.addr)

/-- A refusal with 0x0801 that this module detected (R290). -/
def State.sliceViolation (s : State) (f : Frame) : State :=
  (s.count 32 Obj.SLICE_VIOLATIONS 1).logViolation 0x0801 (srcCode 3 0) f.slice (fabricArgs f.srcDev f.srcCore f.dstDev f.addr)

/-- A unicast frame of the router itself leaves by the Chart of its epoch (R285), after the checks of R288 in that Chart; one that
fails them is dropped and counted, since nothing answers it (R290). An ERR_RESP of an epoch that does not route goes by the active
Chart, or no 0x0807 could return (log 49). -/
def State.sendControl (s : State) (f : Frame) : State :=
  if !s.chartRoutes f.epoch && f.opcode != 6 then (s.count 32 Obj.STALE_DROPS 1).hopDrop f 0
  else
    let c := if s.chartRoutes f.epoch then s.chart f.epoch else s.chart (s.obj Obj.CHART_ACTIVE)
    let f := sealFrame { f with srcDev := c.self, hops := 0, seq := 0 }
    let e := c.entry f.dstDev
    if f.dstDev = c.self then s.post (.onModule .none f)
    else if !entryValid e || entryFenced e then s.hopDrop f 0
    else if !entryAllows e f.slice then (s.sliceViolation f).hopDrop f 0
    else match s.output e with
    | some 16 => s.post (.onModule .none f)
    | some p => if s.portFenced p then s.hopDrop f p else s.egress p s.now none f
    | none => { s with routerQ := s.routerQ ++ [{ frame := f, arrival := none, since := s.now }] }

/-- An ERR_RESP for a refused frame (R290): nothing answers an ACK, an ERR_RESP or a PARTIAL. -/
def State.errResp (s : State) (f : Frame) (code : Nat) : State :=
  if unanswered f.opcode then s.hopDrop f 0
  else
    let s := if code = 0x0801 then s.sliceViolation f else s
    s.sendControl { unitFrame 6 0 f.srcDev f.slice f.seq f.addr [] with code, epoch := f.epoch, dstCore := 0x7F }

/-- A frame of an epoch that does not route dies with 0x0807 (R285). -/
def State.stale (s : State) (f : Frame) : State := (s.count 32 Obj.STALE_DROPS 1).errResp f 0x0807

/-! ### The ports of flows (R277, R283) -/

/-- A flow that has sent nothing. -/
def TxFlow.fresh (k : FlowKey) : TxFlow :=
  { key := k, next := 1, unacked := [], queued := [], progress := 0, resentAt := 0, lost := false, port := none, refused := [] }

/-- The sending state of a flow. -/
def State.txFlow (s : State) (k : FlowKey) : TxFlow := (s.txFlows.find? (fun x => x.key == k)).getD (.fresh k)

/-- The state with the sending state of a flow set. -/
def State.setTxFlow (s : State) (x : TxFlow) : State :=
  { s with txFlows := if s.txFlows.any (fun y => y.key == x.key) then s.txFlows.map (fun y => if y.key == x.key then x else y) else s.txFlows ++ [x] }

/-- The port that a flow of this module uses (R283): it keeps its port while that is UP and frames are unacknowledged. -/
def State.flowPort (s : State) (x : TxFlow) (e : Nat) : Option Nat :=
  match x.port with
  | some p => if s.portUp p && !x.unacked.isEmpty then some p else s.output e
  | none => s.output e

/-- Whether a frame is one of this module's own unicast flows. -/
def State.ownFlow (s : State) (f : Frame) : Bool :=
  sequenced f.opcode && !f.mcast && f.srcDev == (s.chart f.epoch).self && s.txFlows.any (fun x => x.key == sendKey f)

/-- The output of a unicast frame by an entry (R283): its flow's, which the flow then keeps, or for a frame in transit the first that is
UP. -/
def State.portFor (s : State) (e : Nat) (f : Frame) : Option Nat × State :=
  if s.ownFlow f then
    let x := s.txFlow (sendKey f)
    match s.flowPort x e with
    | some p => (some p, s.setTxFlow { x with port := some p })
    | none => (none, s)
  else (s.output e, s)

/-! ### Routing (R264, R283, R292, R293, R297) -/

/-- A unicast frame sent out by an entry, or waiting for a port (R283, R293, R297). -/
def State.sendOut (s : State) (e since : Nat) (arrival : Option Nat) (f : Frame) : State :=
  match s.portFor e f with
  | (none, s) => { s with routerQ := s.routerQ ++ [{ frame := f, arrival, since }] }
  | (some 16, s) => (s.owe arrival f).post (.frame arrival f)
  | (some p, s) => if s.portFenced p then (s.owe arrival f).errResp f 0x0806 else s.egress p since arrival f

/-- A unicast frame sent on by the Chart of its epoch. -/
def State.routeUnicast (s : State) (since : Nat) (arrival : Option Nat) (f : Frame) : State :=
  let e := (s.chart f.epoch).entry f.dstDev
  if !entryValid e then (s.owe arrival f).errResp f 0x0802
  else if entryFenced e then (s.owe arrival f).errResp f 0x0806
  else s.sendOut e since arrival f

/-- A Fan's fields (Table 10-7). -/
def State.fan (s : State) (n : Nat) : Nat := Sparse.get (fun _ => 0) s.fans n
def fanLocal (e : Nat) : Bool := bit e 16
def fanValid (e : Nat) : Bool := bit e 17
def fanSlice (e : Nat) : Nat := bits e 29 18
def fanRoot (e : Nat) : Nat := bits e 45 32
def fanLeaves (e : Nat) : Nat := bits e 62 48

/-- The payload of a PARTIAL frame (Table 10-2). -/
def partialPayload (devs : List Nat) : List Byte := leBytes 2 devs.length ++ (devs.map (leBytes 2)).flatten

/-- The devices that a PARTIAL frame lists. -/
def partialDevs (l : List Byte) : List Nat := (List.range (leNat (slice l 0 2))).map (fun i => leNat (slice l (2 + 2 * i) 2))

/-- A multicast frame copied out of its Fan's ports (R292, R293). The frame leaves its input buffer with the copy in the last port that
is UP (log 50). -/
def State.replicate (s : State) (since : Nat) (arrival : Option Nat) (f : Frame) : State :=
  let e := s.fan f.fanId
  let outs := (setBits 16 e).filter (fun p => some p != arrival)
  let skips := outs.filter s.portFenced
  let last := (outs.filter (fun p => !s.portFenced p && s.portUp p)).getLast?
  let s := if last = none then s.owe arrival f else s
  let s := (outs.filter (fun p => !s.portFenced p)).foldl (fun t p => t.egress p since (if last = some p then arrival else none) f) s
  let s := skips.foldl (fun t p => t.count 32 (Obj.FENCE_SKIPS p) 1) s
  if skips.isEmpty then s
  else
    let devs := skips.map (fun p => s.obj (Obj.NEIGHBOR_DEV p))
    s.sendControl { unitFrame 7 0 (fanRoot e) f.slice 0 0 (partialPayload devs) with epoch := f.epoch, fanId := f.fanId }

/-- The checks of a Fan (R292): a code on failure. -/
def State.fanCode (s : State) (f : Frame) : Nat :=
  let e := s.fan f.fanId
  if !fanValid e then 0x0802 else if fanSlice e ≠ f.slice ∨ fanRoot e ≠ f.srcDev then 0x0801 else 0

/-- A frame at the central router that has come from a fabric port, or that waits there for a port. -/
def State.route (s : State) (since : Nat) (arrival : Option Nat) (f : Frame) : State :=
  if !s.chartRoutes f.epoch then
    if arrival.isNone && f.opcode == 6 then s.sendControl f else (s.owe arrival f).stale f
  -- An ACK on a Fan's flow goes to ROOT_DEV (R294).
  else if f.mcast ∧ f.opcode ≠ 5 then
    if s.fanCode f ≠ 0 then (s.owe arrival f).errResp f (s.fanCode f)
    else
      let s := s.replicate since arrival f
      if fanLocal (s.fan f.fanId) then s.post (.frame arrival f) else s
  else if f.dstDev = (s.chart f.epoch).self then (s.owe arrival f).post (.frame arrival f)
  else s.routeUnicast since arrival f

/-- The frames that wait at the router routed again, as when a port comes UP (R297). -/
def State.retryRouter (s : State) : State :=
  s.routerQ.foldl (fun t x => t.route x.since x.arrival x.frame) { s with routerQ := [] }

/-! ### Sending flows (R277, R280, R281, R283) -/

/-- Frames that the module holds unacknowledged in all. -/
def State.unackedTotal (s : State) : Nat := (s.txFlows.map (fun x => x.unacked.length)).sum

/-- A sequenced frame of a flow sent, or sent again: out of the flow's port or its Fan's ports. -/
def State.emitFlow (s : State) (k : FlowKey) (f : Frame) : State :=
  if k.fan.isSome then s.replicate s.now none f else s.sendOut ((s.chart f.epoch).entry f.dstDev) s.now none f

/-- A frame of a flow takes its SEQ, is held until it is acknowledged, and leaves (R277, R280); a flow with none unacknowledged chooses
its port anew (R283). -/
def State.transmit (s : State) (k : FlowKey) (op : OpRef) (source : Option Nat) (f : Frame) : State :=
  let x := s.txFlow k
  let f := sealFrame { f with seq := x.next }
  let acked := if f.mcast ∧ fanLocal (s.fan f.fanId) then [f.srcDev] else []
  let s := s.setTxFlow { x with
    next := nextSeq x.next, unacked := x.unacked ++ [{ frame := f, op, acked, skipped := [], source }]
    progress := if x.unacked.isEmpty then s.now else x.progress, resentAt := if x.unacked.isEmpty then s.now else x.resentAt
    port := if x.unacked.isEmpty then none else x.port }
  s.emitFlow k f

/-- The most frames that a flow, and the module, may hold unacknowledged (R280). -/
def flowMax : Nat := 1024
def heldMax : Nat := 65536

/-- Frames that wait for room in their flow leave as far as there is room (R280). -/
def State.refill : Nat → State → FlowKey → State
  | 0, s, _ => s
  | n + 1, s, k =>
    let x := s.txFlow k
    match x.queued with
    | [] => s
    | (f, op, src) :: r =>
      if x.unacked.length < flowMax ∧ s.unackedTotal < heldMax then State.refill n ((s.setTxFlow { x with queued := r }).transmit k op src f) k
      else s

/-- A sequenced frame handed to its flow: lost with a lost path (R281), waiting while the flow is full (R280). -/
def State.toFlow (s : State) (op : OpRef) (source : Option Nat) (f : Frame) : State :=
  let k := sendKey f
  let x := s.txFlow k
  if x.lost then s.post (.lost op f)
  else if x.queued.isEmpty && decide (x.unacked.length < flowMax) && decide (s.unackedTotal < heldMax) then s.transmit k op source f
  else s.setTxFlow { x with queued := x.queued ++ [(f, op, source)] }

/-! ### Acknowledgements (R279, R280, R294) -/

/-- A multicast frame that needs nothing more: each of its leaves has acknowledged or been skipped (R294). -/
def TxFrame.complete (x : TxFrame) (leaves : Nat) : Bool :=
  decide (leaves ≤ x.acked.length + (x.skipped.filter (fun d => !x.acked.contains d)).length)

/-- Room has come about: frames that wait leave, those of each flow as far as its own and the module's room reach (R280). -/
def State.refillAll (s : State) : State := s.txFlows.foldl (fun t x => t.refill x.queued.length x.key) s

/-- A flow with frames removed that are complete; the flow has progressed, and waiting frames leave. SEQs that only an ERR_RESP has
answered stand as long as an earlier frame of the flow is unacknowledged (R279). -/
def State.flowDone (s : State) (k : FlowKey) (gone : List TxFrame) : State :=
  let x := s.txFlow k
  let rest := x.unacked.filter (fun y => !gone.any (fun g => g.frame.seq == y.frame.seq))
  let s := s.setTxFlow { x with unacked := rest, refused := if rest.isEmpty then [] else x.refused, progress := s.now, resentAt := s.now }
  let s := gone.foldl (fun t g => t.post (.landed g.op g.frame)) s
  s.refillAll

/-- The flows toward a device in an epoch that an ACK may name (R279): a SEQ that is unacknowledged, or that only an ERR_RESP has
answered. -/
def State.flowsHolding (s : State) (dev epoch aux : Nat) : List TxFlow :=
  s.txFlows.filter (fun x => x.key.fan.isNone && x.key.dev == dev && x.key.epoch == epoch && (x.unacked.any (fun y => y.frame.seq == aux) || x.refused.contains aux))

/-- An ACK of a unicast flow (R279): an ACK names no class, so it covers each flow toward its sender that holds its SEQ. -/
def State.ackUnicast (s : State) (f : Frame) : State :=
  (s.flowsHolding f.srcDev f.epoch f.aux).foldl
    (fun t x => (t.setTxFlow { x with refused := x.refused.filter (fun r => !seqUpTo r f.aux) }).flowDone x.key
      (x.unacked.filter (fun y => seqUpTo y.frame.seq f.aux))) s

/-- What acknowledgements and PARTIAL frames have completed in a multicast flow (R294). -/
def State.multicastDone (s : State) (k : FlowKey) (changed : Bool) : State :=
  let leaves := fanLeaves (s.fan (k.fan.getD 0))
  let gone := (s.txFlow k).unacked.filter (fun y => y.complete leaves)
  if gone.isEmpty && !changed then s else s.flowDone k gone

/-- A unit's frame injected (R264, R271, R285, R288, R295): the module sets EPOCH, SRC_DEV, SEQ and HOPS; a frame that fails the
checks never leaves, and its unit learns the code. A multicast frame that the sender alone is to take, or nobody, is complete at once
(R294). -/
def State.inject (s : State) (op : OpRef) (source : Option Nat) (f : Frame) : State :=
  let epoch := s.obj Obj.CHART_ACTIVE
  let c := s.chart epoch
  let f := sealFrame { f with epoch, srcDev := c.self, hops := 0, seq := 0 }
  if s.chartState epoch ≠ 3 then (s.count 32 Obj.STALE_DROPS 1).post (.failed op f 0x0807)
  else if f.mcast then
    if s.fanCode f ≠ 0 then (if s.fanCode f = 0x0801 then s.sliceViolation f else s).post (.failed op f (s.fanCode f))
    else
      let s := if sequenced f.opcode then (s.toFlow op source f).multicastDone (sendKey f) false else s.replicate s.now none f
      if fanLocal (s.fan f.fanId) then s.post (.onModule .none f) else s
  else
    let e := c.entry f.dstDev
    if !entryValid e then s.post (.failed op f 0x0802)
    else if entryFenced e then s.post (.failed op f 0x0806)
    else if !entryAllows e f.slice then (s.sliceViolation f).post (.failed op f 0x0801)
    else if f.dstDev = c.self ∨ s.output e = some 16 then s.post (.onModule op f)
    else if sequenced f.opcode then s.toFlow op source f
    else match s.output e with
    | some p => if s.portFenced p then s.post (.failed op f 0x0806) else s.egress p s.now none f
    | none => { s with routerQ := s.routerQ ++ [{ frame := f, arrival := none, since := s.now }] }

/-- Whether a waiting frame is of an epoch other than the active one. -/
def oldEpoch (active : Nat) (y : Frame × OpRef × Option Nat) : Bool := y.1.epoch != active

/-- Frames that wait for room in a flow when the active Chart changes (R280, R285): they have not been injected yet, so they take the new
EPOCH and pass the checks of its Chart. -/
def State.reinject (s : State) : State :=
  let old := oldEpoch (s.obj Obj.CHART_ACTIVE)
  let l := (s.txFlows.map (fun x => x.queued.filter old)).flatten
  l.foldl (fun t y => t.inject y.2.1 y.2.2 y.1)
    { s with txFlows := s.txFlows.map (fun x => { x with queued := x.queued.filter (fun y => !old y) }) }

/-! ### Acknowledgements and lost paths (R279–R281, R290, R294) -/

/-- An ACK of a multicast flow from one leaf (R294): progress where it acknowledges a frame anew. Its SEQ may be one that the leaf's
ERR_RESP has completed already. -/
def State.ackMulticast (s : State) (f : Frame) : State :=
  let ks := s.txFlows.filter (fun x => x.key.fan == some f.fanId && x.key.epoch == f.epoch &&
    (x.unacked.any (fun y => y.frame.seq == f.aux) || x.refused.contains f.aux))
  ks.foldl (fun t x =>
    let y := { x with unacked := x.unacked.map (fun u =>
      if seqUpTo u.frame.seq f.aux && !u.acked.contains f.srcDev then { u with acked := u.acked ++ [f.srcDev] } else u) }
    (t.setTxFlow y).multicastDone x.key (y != x)) s

/-- A PARTIAL frame at the root (R293, R294): the listed devices are not waited for on the Fan's unacknowledged frames. -/
def State.notePartial (s : State) (f : Frame) : State :=
  let devs := partialDevs f.payload
  let s := s.count 32 Obj.PARTIAL_NOTICES 1
  (s.txFlows.filter (fun x => x.key.fan == some f.fanId && x.key.epoch == f.epoch)).foldl (fun t x =>
    let y := { x with unacked := x.unacked.map (fun u => { u with skipped := u.skipped ++ devs.filter (fun d => !u.skipped.contains d && !u.acked.contains d) }) }
    (t.setTxFlow y).multicastDone x.key false) s

/-- An ERR_RESP for a frame of this module (R279, R290): it stands in for the frame's acknowledgement, and the unit learns the
code. The frame is known by SEQ, ADDR and epoch, in a flow toward the sender if one holds it. -/
def State.noteErrResp (s : State) (f : Frame) : State :=
  let holds (x : TxFlow) : Bool := x.key.epoch == f.epoch && x.unacked.any (fun y => y.frame.seq == f.aux && y.frame.addr == f.addr)
  let pick := match s.txFlows.find? (fun x => holds x && x.key.fan.isNone && x.key.dev == f.srcDev) with
    | some x => some x
    | none => s.txFlows.find? holds
  match pick with
  | none => s
  | some x =>
    match x.unacked.find? (fun y => y.frame.seq == f.aux && y.frame.addr == f.addr) with
    | none => s
    | some y =>
      if x.key.fan.isSome then
        -- A leaf of a multicast has refused: its answer stands in for its acknowledgement.
        let z := { x with
          refused := x.refused ++ [f.aux]
          unacked := x.unacked.map (fun u => if u.frame.seq == f.aux && !u.acked.contains f.srcDev then { u with acked := u.acked ++ [f.srcDev] } else u) }
        ((s.setTxFlow z).post (.failed y.op { y.frame with dstDev := f.srcDev } f.code)).multicastDone x.key (z != x)
      else
        let s := s.setTxFlow { x with unacked := x.unacked.filter (fun u => u.frame.seq != f.aux), refused := x.refused ++ [f.aux], progress := s.now, resentAt := s.now }
        (s.post (.failed y.op y.frame f.code)).refillAll

/-- A lost path (R281): the flow's frames are abandoned, their operations get no completion, and the step cannot be checked:
condition 4 fails, and condition 5 where the path led to the Consort (Table 13-2). -/
def State.losePath (s : State) (x : TxFlow) : State :=
  let s := s.setTxFlow { x with unacked := [], queued := [], lost := true }
  let s := s.count 32 Obj.PATH_LOST_EVENTS 1
  let k := x.key
  let word := s.chr % 2 ^ 64 + k.dev % 2 ^ 14 * 2 ^ 64 + k.cls % 8 * 2 ^ 80 + k.epoch % 2 * 2 ^ 83 +
    (match k.fan with | some n => 2 ^ 84 + n * 2 ^ 96 | none => 0)
  let s := (s.setObj Obj.LAST_PATH_LOST word).logEvent .pathLost 0 (srcCode 3 0) 0xFFFF (k.dev + k.cls * 2 ^ 16 + k.epoch * 2 ^ 20)
  let s := x.unacked.foldl (fun t y => t.post (.lost y.op y.frame)) s
  let s := (x.queued.foldl (fun t y => t.post (.lost y.2.1 y.1)) s).post (.stepFail 4 0)
  (if k.fan.isNone ∧ k.dev = s.obj Obj.CONSORT_PARTNER then s.post (.stepFail 5 0) else s).refillAll

/-! ### Receiving flows (R278, R279) -/

/-- A flow that has received nothing. -/
def RxFlow.fresh (k : FlowKey) : RxFlow := { key := k, expected := 1, uncovered := 0, since := 0, slice := 0 }

/-- The receiving state of a flow. -/
def State.rxFlow (s : State) (k : FlowKey) : RxFlow := (s.rxFlows.find? (fun x => x.key == k)).getD (.fresh k)

/-- The state with the receiving state of a flow set. -/
def State.setRxFlow (s : State) (x : RxFlow) : State :=
  { s with rxFlows := if s.rxFlows.any (fun y => y.key == x.key) then s.rxFlows.map (fun y => if y.key == x.key then x else y) else s.rxFlows ++ [x] }

/-- An ACK of everything a flow has accepted (R279, R294); it waits while a write of the flow's device waits for a page copy, for
the device takes it as the write's completion (R249). -/
def State.sendAck (s : State) (k : FlowKey) : State :=
  if s.frameWaits k.dev then s else
  let x := s.rxFlow k
  let s := s.setRxFlow { x with uncovered := 0 }
  let f := { unitFrame 5 0 k.dev x.slice (prevSeq x.expected) 0 [] with epoch := k.epoch, mcast := k.fan.isSome, fanId := k.fan.getD 0 }
  s.sendControl f

/-- An accepted frame, one refused with an ERR_RESP among them: it waits to be covered by an ACK, which 16 such frames bring about
(R279). -/
def State.noteAccepted (s : State) (k : FlowKey) : State :=
  let x := s.rxFlow k
  let s := s.setRxFlow { x with uncovered := x.uncovered + 1, since := if x.uncovered = 0 then s.now else x.since }
  if 16 ≤ x.uncovered + 1 then s.sendAck k else s

/-- How an arriving sequenced frame stands to its flow (R278). -/
inductive SeqCheck where
  | accept | duplicate | gap
  deriving DecidableEq, Repr

/-- The comparison of R278. -/
def RxFlow.check (x : RxFlow) (seq : Nat) : SeqCheck :=
  if seq = x.expected then .accept else if seqUpTo seq x.expected then .duplicate else .gap

end Sys2Proof.Machine
end

