-- ==== Sys2Proof/Machine/Ports.lean ====
section
/-! DEFINITION. Commands of the fabric's links and ports: frames at the router (R264–R276), acknowledgement timers and resends
(R279–R281), link control blocks and replays (R274, R275), port states (R296–R301) and a core's remote adds (R151, R249). -/

namespace Sys2Proof.Machine

/-- A command on a fabric port that the module has. -/
def withPort (s : State) (p : Nat) (k : Out) : Out := if p < 16 then k else .next s

/-! ### FRAME_ROUTE -/

/-- A frame that a unit of the module sends, as R271 lays it down: the slice is the issuing core's, and a scratchpad address
becomes a core and an offset. -/
def State.outgoing (s : State) (f : Frame) : Frame :=
  let f := if f.srcCore < 104 then { f with slice := s.sliceOfCore f.srcCore % 2 ^ 12 } else f
  if f.dstCore = 0x7F ∧ f.opcode ≤ 3 then { f with dstCore := (fabricTarget f.addr).1, addr := (fabricTarget f.addr).2 } else f

/-- How many 1 s windows in a row a lane, as port × 4 + lane, has stood over LANE_SWAP_THRESH (R387). -/
def State.laneRun (s : State) (x : Nat) : Nat := Sparse.get (fun _ => 0) s.health.laneRuns x

/-- The 1 s windows that have ended are counted (R387): a lane over LANE_SWAP_THRESH goes on with its row, any other begins anew. A window in
which no symbol came breaks every row. The windows begin at whole seconds of the module's time (log 149). -/
def State.closeWindow (s : State) : State :=
  let h := s.health
  let w := s.now / 1000000000
  if w ≤ h.laneWindow then s
  else
    let above := h.laneCounts.filter (fun c => decide (s.obj Obj.LANE_SWAP_THRESH < c.2))
    let runs := if w = h.laneWindow + 1 then above.map (fun c => (c.1, s.laneRun c.1 + 1)) else []
    { s with health := { h with laneCounts := [], laneRuns := runs, laneWindow := w } }

/-- Corrected symbols of a port's lanes counted in the present window (R387). -/
def State.laneSymbols (s : State) (p : Nat) (l : List Nat) : State :=
  (l.take 4).zipIdx.foldl (fun t c =>
    let x := p * 4 + c.2
    let n := Sparse.get (fun _ => 0) t.health.laneCounts x + c.1
    { t with health := { t.health with laneCounts := Sparse.set (fun _ => 0) t.health.laneCounts x n } }) s.closeWindow

/-- The link level of an arriving frame (R274): whether the port accepts it. One that fails a check is discarded with a NAK that names
the frame the port waits for; a frame that does not bear that frame's number is a replay's duplicate, or one that the replay will
bring again in its order, and is discarded without a NAK (log 48). -/
def State.linkReceive (s : State) (a : Arrival) (f : Frame) : Bool × State :=
  let p := a.port
  let s := (s.count 64 (Obj.FEC_CORRECTED p) a.corrected).count 64 (Obj.FEC_UNCORRECTED p) a.uncorrected
  let s := s.laneSymbols p a.symbols
  let q := s.port p
  if decide (a.uncorrected ≠ 0) || !headerGood f || !payloadGood f then
    (false, s.send (.control p ((q.expLink + 4095) % 4096) [] (some q.expLink)))
  else if a.linkSeq ≠ q.expLink then (false, s)
  else
    (true, ((s.setPort p { q with expLink := (q.expLink + 1) % 4096 }).count 64 (Obj.RX_FRAMES p) 1).count 64 (Obj.RX_BYTES p) f.len)

/-- A frame that a port has accepted (R264, R276, R295): routed, or delivered here. -/
def State.accepted (s : State) (p : Nat) (f : Frame) : State :=
  if f.opcode = 8 ∨ f.opcode = 9 then (s.owe (some p) f).post (.frame (some p) f)
  else if f.hops = 15 then (s.owe (some p) f).hopDrop f p
  else if s.fenced && sequenced f.opcode then (s.owe (some p) f).errResp f 0x0806
  else s.route s.now (some p) f

/-- A frame of a unit handed to the router. One that a core issues is among its earlier accesses until it is acknowledged: the core's
later Waypoint operations wait for it (R24). -/
def State.sendFrame (s : State) (f : Frame) : State :=
  if f.srcCore < 104 ∧ sequenced f.opcode then
    let c := s.core f.srcCore
    (s.setCore f.srcCore { c with remote := c.remote + 1 }).inject (.remoteFrame f.srcCore c.resets) none f
  else s.inject .none none f

/-- FRAME_ROUTE (R264, R270, R274, R276, R288, R295): a frame of a unit is injected, its payload in the unit's hands (log 51); one that
arrives by a port is checked and routed, or delivered here. -/
def doFrameRoute (arrival : Option Arrival) (f : Frame) (s : State) : Out :=
  match arrival with
  | none => .next (s.sendFrame (s.outgoing f))
  | some a =>
    withPort s a.port <|
      if !s.portUp a.port then .next s
      else
        let r := s.linkReceive a f
        if r.1 then .next (r.2.accepted a.port f) else .next r.2

/-! ### Timers of flows -/

/-- ACK_TIMER (R279): 1 µs after the first frame that no ACK covers. -/
def doAckTimer (k : FlowKey) (s : State) : Out :=
  let x := s.rxFlow k
  if 0 < x.uncovered ∧ x.since + 1000 ≤ s.now then .next (s.sendAck k) else .next s

/-- A frame as it is sent again (R280): its payload read again from where it lies. A payload that the unit itself has made is the
unit's, and stays; the two agree as long as the program leaves the source bytes alone (log 51). -/
def State.reread (s : State) (x : TxFrame) : Frame :=
  match x.source with
  | some a => sealFrame { x.frame with payload := s.bytes (s.home a) x.frame.payload.length }
  | none => x.frame

/-- E2E_RESEND (R280): every unacknowledged frame of the flow leaves again in SEQ order. -/
def doE2eResend (k : FlowKey) (s : State) : Out :=
  let x := s.txFlow k
  if x.unacked ≠ [] ∧ x.resentAt + s.obj Obj.E2E_RTO * 1000 ≤ s.now then
    let s := (s.setTxFlow { x with resentAt := s.now }).count 64 Obj.E2E_RETRANSMITS x.unacked.length
    .next (x.unacked.foldl (fun t y => t.emitFlow k (t.reread y)) s)
  else .next s

/-- PATH_LOST (R281): no acknowledgement progress for 2 ms. -/
def doPathLost (k : FlowKey) (s : State) : Out :=
  let x := s.txFlow k
  if x.unacked ≠ [] ∧ !x.lost ∧ x.progress + 2000000 ≤ s.now then .next (s.losePath x) else .next s

/-! ### Links (R267, R274, R275) -/

/-- LINK_CONTROL_BLOCK: a port that is UP sends its acknowledgement and the credits it owes. -/
def doLinkControlBlock (port : Nat) (s : State) : Out :=
  withPort s port <|
    if s.portUp port then
      let q := s.port port
      .next ((s.setPort port { q with owed := [] }).send (.control port ((q.expLink + 4095) % 4096) q.owed none))
    else .next s

/-- Whether link sequence number `a` is not after `b` (12 bits). -/
def linkUpTo (a b : Nat) : Bool := decide ((b + 4096 - a % 4096) % 4096 < 2048)

/-- LINK_CONTROL_BLOCK_RECEIVED (R274, R275): retry-buffer entries up to the acknowledgement free, credits return, and frames
that waited leave. -/
def doLinkControlBlockReceived (port acked : Nat) (credits : List (Nat × Nat)) (s : State) : Out :=
  withPort s port <|
    if s.portUp port then
      let q := s.port port
      let left := q.retry.filter (fun r => !linkUpTo r.seqNo acked)
      let used := credits.foldl (fun m c => Sparse.set (fun _ => 0) m c.1 (Sparse.get (fun _ => 0) m c.1 - c.2)) q.used
      let q := { q with retry := left, used, progress := if left.length < q.retry.length then s.now else q.progress }
      .next ((s.setPort port q).pump q.queue.length port)
    else .next s

/-- A port's frames from a place in its retry buffer sent again (R274); each replay is counted. -/
def State.replayFrom (s : State) (port : Nat) (from_ : Nat) : State :=
  let q := s.port port
  let again := q.retry.dropWhile (fun r => r.seqNo != from_ % 4096)
  let q := { q with
    retry := q.retry.take (q.retry.length - again.length) ++ again.map (fun r => { r with replays := r.replays + 1 })
    replayAt := s.now }
  let s := (s.setPort port q).count 64 (Obj.LINK_RETRIES port) 1
  again.foldl (fun t r => t.send (.frame port r.seqNo r.frame)) s

/-- NAK (R274): the sender replays from the frame named. -/
def doNak (port seqNo : Nat) (s : State) : Out :=
  withPort s port <|
    if s.portUp port && (s.port port).retry.any (fun r => r.seqNo == seqNo % 4096) then .next (s.replayFrom port seqNo) else .next s

/-- LINK_REPLAY_TIMEOUT (R274): no acknowledgement progress for 2 µs. -/
def doLinkReplayTimeout (port : Nat) (s : State) : Out :=
  withPort s port <|
    match (s.port port).retry with
    | [] => .next s
    | r :: _ => if s.portUp port ∧ max (s.port port).progress (s.port port).replayAt + 2000 ≤ s.now then .next (s.replayFrom port r.seqNo) else .next s

/-- Frames that wait in the router for 200 µs or more are dropped (R276). -/
def State.ageRouter (s : State) : State :=
  let old (w : Waiting) : Bool := decide (w.since + 200000 ≤ s.now)
  (s.routerQ.filter old).foldl (fun t w => (t.owe w.arrival w.frame).hopDrop w.frame (w.arrival.getD 0)) { s with routerQ := s.routerQ.filter (fun w => !old w) }

/-- Whether a frame is a copy that follows a Fan; an ACK on a Fan's flow goes to its root alone (R294). -/
def fanCopy (f : Frame) : Bool := f.mcast && f.opcode != 5

/-- Frames that have been in the router for 200 µs or more and wait in a port's queue are dropped (R276), but not the multicast copies
that wait for a port which has left UP (R298). -/
def State.agePort (s : State) (p : Nat) : State :=
  let q := s.port p
  let old (h : Held) : Bool := decide (h.since + 200000 ≤ s.now) && (s.portUp p || !fanCopy h.frame)
  (q.queue.filter old).foldl (fun u h => (u.owe h.arrival h.frame).hopDrop h.frame p) (s.setPort p { q with queue := q.queue.filter (fun h => !old h) })

/-- FRAME_AGE_DROP (R276): frames bound for a fabric port, or from one, that have waited 200 µs inside the router. -/
def doFrameAgeDrop (s : State) : Out := .next ((List.range 16).foldl State.agePort s.ageRouter)

/-! ### Port states (R296–R301) -/

/-- HEALTH bits of a port set. -/
def State.portHealth (s : State) (p mask : Nat) : State := s.raise (Obj.PORT_HEALTH p) mask

/-- A port leaves UP: unicast frames of its retry buffer, then of its queue, go by their Charts to the frames' next UP ports, or wait
at the router; multicast copies wait in the port, and time frames, which cross that link only, are lost (R285, R297, R298). Link
state and credits begin anew, and the port's flows choose again (R283). -/
def State.leavePort (s : State) (p : Nat) : State :=
  let q := s.port p
  let all : List Held := q.retry.map (fun r => { frame := r.frame, since := r.since, arrival := none }) ++ q.queue
  let keep := all.filter (fun h => fanCopy h.frame)
  let wait := keep.map (fun h => { h with arrival := none })
  let max_ := fieldMax (s.obj (Obj.QUEUE_MAX p)) ({ q with queue := wait }).depth
  let s := (s.setPort p { Port.reset with queue := wait, trainAt := s.now }).setObj (Obj.QUEUE_MAX p) max_
  let s := keep.foldl (fun t h => t.owe h.arrival h.frame) s
  let s := { s with txFlows := s.txFlows.map (fun x => if x.port = some p then { x with port := none } else x) }
  (all.filter (fun h => !fanCopy h.frame && h.frame.opcode != 8 && h.frame.opcode != 9)).foldl
    (fun t h => t.route h.since h.arrival { h.frame with hops := h.frame.hops - 1 }) s

/-- A port put in a state of Table 10-8. -/
def State.setPortState (s : State) (p v : Nat) : State := s.setObj (Obj.PORT_STATE p) v

/-- A port leaves UP for a state. -/
def State.portOut (s : State) (p v : Nat) : State :=
  let s := s.setPortState p v
  (s.leavePort p)

/-- Whether a port's link has failed (R296): no acknowledgement progress for 10 µs while frames are outstanding, or a frame replayed
8 times. -/
def Port.failing (q : Port) (now : Nat) : Bool :=
  (!q.retry.isEmpty && decide (q.progress + 10000 ≤ now)) || q.retry.any (fun r => decide (8 ≤ r.replays))

/-- PORT_RETRAIN (R296): the port's link has failed, or the PCS has lost block lock or alignment for 1 µs, which the command
reports. -/
def doPortRetrain (port : Nat) (lost : Bool) (s : State) : Out :=
  withPort s port <|
    if s.portUp port && (lost || (s.port port).failing s.now) then
      let s := (s.count 32 (Obj.LINK_DOWN_EVENTS port) 1).portHealth port 1
      .next (s.portOut port 3)
    else .next s

/-- The quad of a port and its spare lane (R268, R300). -/
def quadOf (p : Nat) : Nat := p / 4

/-- Whether a quad's spare lane is free. -/
def State.spareFree (s : State) (p : Nat) : Bool := Sparse.get (fun _ => none) s.spares (quadOf p) == (none : Option Nat)

/-- A quad's spare lane given to a lane of a port (R300). -/
def State.takeSpare (s : State) (p lane : Nat) : State :=
  let s := { s with spares := Sparse.set (fun _ => none) s.spares (quadOf p) (some (p * 4 + lane)) }
  (s.setObj (Obj.LANE_MAP p) lane).portHealth p 2

/-- The port is UP again: retrained, and what waited for it leaves; the copies that waited are in the router anew (R298). -/
def State.portIn (s : State) (p : Nat) : State :=
  let s := s.setPortState p 2
  let q := s.port p
  let s := (s.setPort p { q with queue := q.queue.map (fun h => { h with since := s.now }), progress := s.now }).pump q.queue.length p
  s.retryRouter

/-- A training fails: the port is DOWN. -/
def State.trainFail (s : State) (port : Nat) : State :=
  (s.setPortState port 4).setPort port { s.port port with trainAt := s.now }

/-- A training of a port ends (R296, R300, R301, R386). A lane that the spare serves already does not count as failing. -/
def State.trained (s : State) (port : Nat) (o : TrainOutcome) : State :=
  let st := s.obj (Obj.PORT_STATE port)
  let s := s.setObj (Obj.NEIGHBOR_DEV port) (o.neighbor % 2 ^ 16)
  match o.deadLanes.filter (fun l => l != s.obj (Obj.LANE_MAP port)) with
  | [] =>
    if o.trained then
      (if st = 1 then s else (s.count 32 (Obj.RETRAINS port) 1).driftEvent 13 0 1).portIn port
    else s.trainFail port
  | [l] => if s.spareFree port then (s.takeSpare port l).setPortState port 5 else (s.trainFail port).portHealth port 4
  | _ => (s.trainFail port).portHealth port 4

/-- RETRAIN_DONE (R296): a training or a retraining ends. -/
def doRetrainDone (port : Nat) (o : TrainOutcome) (s : State) : Out :=
  withPort s port <|
    let st := s.obj (Obj.PORT_STATE port)
    if st = 1 ∨ st = 3 ∨ st = 5 then .next (s.trained port o) else .next s

/-- What passes for a port in a nanosecond: STALL_CYCLES at XD's 1.3 GHz (R264, R275), and the 5 ms of a training (R296). -/
def State.portTick (s : State) (p : Nat) : State :=
  match s.obj (Obj.PORT_STATE p) with
  | 2 =>
    let q := s.port p
    if (List.range 7).any q.starved then (s.setPort p { q with stall := (q.stall + 13) % 10 }).count 64 (Obj.STALL_CYCLES p) ((q.stall + 13) / 10)
    else s
  | 1 | 3 | 5 => if (s.port p).trainAt + 5000000 ≤ s.now then s.trainFail p else s
  | _ => s

/-- PORT_RETRY (R296): a DOWN port tries again every 100 ms. -/
def doPortRetry (port : Nat) (s : State) : Out :=
  withPort s port <|
    if s.obj (Obj.PORT_STATE port) = 4 ∧ (s.port port).trainAt + 100000000 ≤ s.now then
      .next ((s.setPortState port 3).setPort port { s.port port with trainAt := s.now })
    else .next s

/-- A write of PORT_CTRL (R299, R300, Table 10-10). -/
def State.writePortCtrl (s : State) (p v : Nat) : Wr :=
  let st := s.obj (Obj.PORT_STATE p)
  let set (t : State) : State := t.setObj (Obj.PORT_CTRL p) v
  match v with
  | 0 => if st = 0 then (set s).ok else (set (s.portOut p 0)).ok
  | 1 => if st = 0 then (set ((s.setPortState p 1).setPort p { s.port p with trainAt := s.now })).ok else (set s).ok
  | 2 =>
    if st = 0 then s.no 0x0805
    else (set (if st = 2 then s.portOut p 3 else (s.setPortState p 3).setPort p { s.port p with trainAt := s.now })).ok
  | 3 =>
    if st = 2 ∧ s.spareFree p then (set ((s.takeSpare p (s.obj (Obj.PORT_CTRL_LANE p))).portOut p 5)).ok else s.no 0x0805
  | _ => s.no 0x0809

/-- A write of FENCE_VEC (R293): unicast frames held toward a port that becomes fenced get 0x0806. -/
def State.writeFenceVec (s : State) (v : Nat) : Wr :=
  let s := s.setObj Obj.FENCE_VEC v
  ((setBits 16 v).foldl (fun t p =>
    let q := t.port p
    let out := q.queue.filter (fun h => !fanCopy h.frame)
    if out.isEmpty then t
    else out.foldl (fun u h => (u.owe h.arrival h.frame).errResp h.frame 0x0806) (t.setPort p { q with queue := q.queue.filter (fun h => fanCopy h.frame) })) s).ok

/-! ### Remote adds of a core (R150–R152, R249) -/

/-- The frame of a remote WADD. -/
def remoteAddFrame (core dev wp value slice : Nat) : Frame :=
  { unitFrame 4 0 dev slice wp 0 (leBytes 8 value) with srcCore := core }

/-- A remote WADD that has been acknowledged (R249); one sent before a core reset or a fault is no operation of the core any more
(R159). -/
def State.remoteLanded (s : State) (core resets : Nat) : State :=
  if (s.core core).resets = resets then s.setCore core { s.core core with remote := (s.core core).remote - 1 } else s

/-- A remote WADD that failed (R152): logged and counted, and the core goes on. The entry is that of the failed add, an event of
its own (R438); a refusal by this module with 0x0801 has entered the violation log before. -/
def State.remoteFailed (s : State) (core resets : Nat) (f : Frame) (code : Nat) : State :=
  ((s.remoteLanded core resets).count 32 (Obj.REMOTE_ADD_ERRORS core) 1).logEvent .remoteAdd code (srcCode 1 core) f.slice f.aux

/-- Whether every operation that a core issued before a bundle has completed (R151). -/
def Core.allBefore (c : Core) (tag : Nat) : Bool :=
  (List.range 4).all (fun u => (c.outstanding u).all (fun t => decide (tag < t))) && c.lda.all (fun l => decide (tag < l.2.2)) && c.remote == 0

/-- RELEASE_BUFFER_PERFORM (R151, R153, R247, R249): the oldest entry, once every earlier operation has completed. -/
def doReleaseBufferPerform (core : Nat) (s : State) : Out :=
  withCore s core <|
    let c := s.core core
    match c.rel with
    | [] => .next s
    | e :: r =>
      if !c.allBefore e.tag || s.frameWaits s.selfId then .next s
      else
        let slice := s.sliceOfCore core
        let out := s.setCore core { c with rel := r }
        let ask (t : State) (wp : Nat) (k : WpKind) : State := t.post (.wp { asker := .core core 5, slice, wp, kind := k })
        match e.kind with
        | .add wp v => .next (ask out wp (.add v))
        | .set wp v => .next (ask out wp (.set v))
        | .addRemote dev wp v =>
          let out := out.setCore core { out.core core with remote := (out.core core).remote + 1 }
          .next (out.inject (.remoteAdd core c.resets) none (remoteAddFrame core dev wp v (slice % 2 ^ 12)))
        | .addTimed wp v t =>
          if s.wpCode slice wp ≠ 0 then .next (out.refuseWp { asker := .core core 5, slice, wp, kind := .add v } (s.wpCode slice wp))
          else if timedSlots ≤ s.timed.length then
            if e.fullWait then .next s
            else .next ((s.setCore core { c with rel := { e with fullWait := true } :: r }).count 32 Obj.TIMED_FULL_WAITS 1)
          else .next (out.registerTimed { wp, value := v, time := t, slice })
        | .done wp v =>
          let idle := (out.setCore core { out.core core with hold := .none, loops := [] }).setCoreSt core .idle
          if v = 0 then .next idle
          else if s.wpCode slice wp ≠ 0 then .next (ask out wp (.add v))
          else .next (ask idle wp (.add v))

end Sys2Proof.Machine
end

