-- ==== Sys2Proof/Machine/Charts.lean ====
section
/-! DEFINITION. Charts (R282–R287): their commands, loading, digests, the switch and the close; Fan entries (R291). -/

namespace Sys2Proof.Machine

/-- The bits of a Chart entry that are not reserved (Table 10-4). -/
def entryMask : Nat := 0x7FFFFF + 0xFFF * 2 ^ 32

/-- The bits of a Fan entry that are not reserved (Table 10-7). -/
def fanMask : Nat := 0x3FFFFFFF + 0x3FFF * 2 ^ 32 + 0x7FFF * 2 ^ 48

/-- The digest of a Chart (R286): SHAKE256 over SELF in 2 B and the 16,384 entries in 8 B each. -/
def Chart.digest (c : Chart) : Nat :=
  shake256 (leBytes 2 c.self ++ ((List.range 16384).map (fun d => leBytes 8 (c.entry d))).flatten)

/-- A Chart closes (R287): what it holds unacknowledged is a path loss, and frames of its epoch inside the router die. -/
def State.closeChart (s : State) (e : Nat) : State :=
  let s := s.setChartState e 0
  let s := (s.txFlows.filter (fun x => x.key.epoch == e && (!x.unacked.isEmpty || !x.queued.isEmpty))).foldl (fun t x => t.losePath x) s
  let s := (s.routerQ.filter (fun w => w.frame.epoch == e)).foldl (fun t w => (t.owe w.arrival w.frame).stale w.frame) { s with routerQ := s.routerQ.filter (fun w => w.frame.epoch != e) }
  (List.range 16).foldl (fun t p =>
    let q := t.port p
    let out := q.queue.filter (fun h => h.frame.epoch == e && !unanswered h.frame.opcode)
    if out.isEmpty then t
    else out.foldl (fun u h => (u.owe h.arrival h.frame).stale h.frame) (t.setPort p { q with queue := q.queue.filter (fun h => !(h.frame.epoch == e && !unanswered h.frame.opcode)) })) s

/-- A pending switch takes effect (R286). -/
def State.performSwitch (s : State) (w : PendSwitch) : State :=
  let other := 1 - w.chart
  let st := s.chartState other
  let s := (({ s with switchAt := none }).setChartState w.chart 3).setObj Obj.CHART_ACTIVE w.chart
  -- R347, R376: votes and Fix reports are sent again.
  let s := { s with stepU := { s.stepU with resend := true }, fixU := { s.fixU with resend := true } }
  let s := s.reinject
  let s :=
    if w.close ∧ (st = 3 ∨ st = 4) then s.closeChart other
    else if st = 3 then (s.setChartState other 4).setChart other { s.chart other with drainAt := s.chr }
    else s
  s.retryRouter.post .stepTest

/-- The Chart that CHART_SEL names. -/
def State.chartSel (s : State) : Nat := s.obj Obj.CHART_SEL

/-- BEGIN (R277, R286). -/
def State.chartBegin (s : State) : Wr :=
  let e := s.chartSel
  if s.chartState e ≠ 0 then s.no 0x0805
  else
    let s := { s with txFlows := s.txFlows.filter (fun x => x.key.epoch != e), rxFlows := s.rxFlows.filter (fun x => x.key.epoch != e) }
    ((s.setChart e { s.chart e with entries := [] }).setChartState e 1).ok

/-- SEAL (R286). -/
def State.chartSeal (s : State) : Wr :=
  let e := s.chartSel
  if s.chartState e ≠ 1 then s.no 0x0805
  else
    let d := s.obj Obj.CHART_DIGEST
    let g := (s.chart e).digest
    let d := if e = 0 then d / 2 ^ 256 * 2 ^ 256 + g else d % 2 ^ 256 + g * 2 ^ 256
    ((s.setObj Obj.CHART_DIGEST d).setChartState e 2).ok

/-- SWITCH and SWITCH_CLOSE (R286). -/
def State.chartSwitch (s : State) (close : Bool) : Wr :=
  let e := s.chartSel
  if s.chartState e ≠ 2 ∨ s.switchAt.isSome then s.no 0x0805
  else
    let w : PendSwitch := { chart := e, close, time := s.obj Obj.CHART_SWITCH_AT }
    if w.time ≤ s.chr then (s.performSwitch w).ok else ({ s with switchAt := some w }).ok

/-- ABORT (R286). -/
def State.chartAbort (s : State) : Wr :=
  let e := s.chartSel
  if s.chartState e = 1 ∨ s.chartState e = 2 then
    let s := match s.switchAt with
      | some w => if w.chart = e then { s with switchAt := none } else s
      | none => s
    (s.setChartState e 0).ok
  else s.no 0x0805

/-- A write of CHART_CTRL (Table 10-6). -/
def State.writeChartCtrl (s : State) (v : Nat) : Wr :=
  match v with
  | 1 => s.chartBegin
  | 2 => s.chartSeal
  | 3 => s.chartSwitch false
  | 4 => s.chartSwitch true
  | 5 => s.chartAbort
  | _ => s.no 0x0809

/-- A write of CHART_LOAD (R302): entries from a first device on. -/
def State.writeChartLoad (s : State) (first : Nat) (words : List Nat) : Wr :=
  let e := s.chartSel
  if 16384 < first + words.length then s.no 0x0809
  else if s.chartState e ≠ 1 then s.no 0x0805
  else
    let c := s.chart e
    (s.setChart e { c with entries := Sparse.setRun entryReset c.entries first (words.map (fun w => w &&& entryMask)) }).ok

/-- The value of a CHART_LOAD write as its bytes give it: 2 B of first device, then 8 B entries. -/
def State.writeChartLoadBytes (s : State) (l : List Byte) : Wr :=
  if l.length < 2 ∨ (l.length - 2) % 8 ≠ 0 then s.no 0x0809
  else s.writeChartLoad (leNat (l.take 2)) ((chunks 8 (l.length / 8 + 1) (l.drop 2)).map leNat)

/-- A write of CHART_SELF (R302). -/
def State.writeChartSelf (s : State) (v : Nat) : Wr :=
  let e := s.chartSel
  if 16384 ≤ v then s.no 0x0809
  else if s.chartState e ≠ 1 then s.no 0x0805
  else (s.setChart e { s.chart e with self := v }).ok

/-- A write of FAN_ENTRY: the Fan that FAN_SEL names (R291, R292); LEAVES is at most 16,384 (Table 10-7). -/
def State.writeFanEntry (s : State) (v : Nat) : Wr :=
  if 16384 < fanLeaves v then s.no 0x0809
  else ({ s with fans := Sparse.set (fun _ => 0) s.fans (s.obj Obj.FAN_SEL) (v &&& fanMask) }).ok

/-- CHART_SWITCH_TIME (R286): the Chronometer has reached the switch's time. -/
def doChartSwitchTime (s : State) : Out :=
  match s.switchAt with
  | some w => if w.time ≤ s.chr then .next (s.performSwitch w) else .next s
  | none => .next s

/-- CHART_DRAIN_CLOSE (R284, R287): 4 ms after its switch a DRAINING Chart closes. -/
def doChartDrainClose (chart : Nat) (s : State) : Out :=
  if 2 ≤ chart then .next s
  else if s.chartState chart = 4 ∧ (s.chart chart).drainAt + 4000000 ≤ s.chr then .next (s.closeChart chart)
  else .next s

end Sys2Proof.Machine
end

