-- ==== Sys2Proof/Machine/Chrono.lean ====
section
/-! DEFINITION. The Chronometer (R252–R256): exchanges with the parent port, the states of Table 9-6, and what sets the count. -/

namespace Sys2Proof.Machine

/-- CHR_STATE (Table 9-6). -/
def State.chrState (s : State) : Nat := s.obj Obj.CHR_STATE

/-- The bound while LOCKED: 4 ns per hop (R255). -/
def lockedBound : Nat := 4 * Config.chrHops

/-- The state moves to another of Table 9-6. -/
def State.chrMove (s : State) (v : Nat) : State :=
  let u := s.chrU
  let s :=
    match v with
    | 2 => { s with chrU := { u with bound := lockedBound, bad := 0, everSync := true } }
    | 3 => { s with chrU := { u with heldAt := s.now, good := 0, bad := 0 } }
    | 4 => { s with chrU := { u with bound := 0, sent := none, good := 0, bad := 0, slew := 0, everSync := true } }
    | _ => { s with chrU := { u with bound := 0xFFFFFFFF, bad := 0 } }
  s.setObj Obj.CHR_STATE v

/-- CHR_ERR_BOUND_NS (R255): in HOLDOVER it grows by 10 ns per ms from the last LOCKED value. -/
def State.chrBound (s : State) : Nat :=
  match s.chrState with
  | 2 => s.chrU.bound
  | 3 => min 0xFFFFFFFF (s.chrU.bound + (s.now - s.chrU.heldAt) * 10 / 1000000)
  | 4 => 0
  | _ => 0xFFFFFFFF

/-- The Chronometer comes up: ROOT where the module is the root, UNSYNC otherwise (Table 9-6). -/
def State.startChrono (s : State) : State := if s.obj Obj.CHR_PARENT_PORT = 0xFF then s.chrMove 4 else s

/-- With PD77 off the Chronometer counts from the reference crystal (R408): in HOLDOVER where it has been in step, else in UNSYNC. -/
def State.chrAlone (s : State) : State :=
  if s.chrState = 0 ∨ s.chrState = 3 then s
  else
    let t := if s.chrState = 2 then s.count 32 Obj.CHR_LOCK_LOSSES 1 else s
    { t with chrU := { t.chrU with sent := none } }.chrMove (if s.chrU.everSync then 3 else 0)

/-- The port that exchanges run on (R254): the parent's, or the alternate while the parent port's link is down. -/
def State.chrPort (s : State) : Option Nat :=
  let p := s.obj Obj.CHR_PARENT_PORT
  let a := s.obj Obj.CHR_ALT_PORT
  if 16 ≤ p then none
  else if s.portUp p then some p
  else if a < 16 ∧ s.portUp a then some a
  else none

/-- An exchange has failed: the fourth in a row ends LOCKED (Table 9-6). -/
def State.chrFailed (s : State) : State :=
  let n := s.chrU.bad + 1
  let s := { s with chrU := { s.chrU with bad := n, good := 0, sent := none } }
  if s.chrState = 2 ∧ 4 ≤ n then (s.count 32 Obj.CHR_LOCK_LOSSES 1).chrMove 3 else s

/-- A time frame on one link (Table 10-2), with the EPOCH and the SRC_DEV of every frame (R271); with no active Chart those of the one
that CHART_ACTIVE names (log 142). -/
def State.timeFrame (s : State) (opcode : Nat) (payload : List Byte) : Frame :=
  sealFrame { unitFrame opcode 0 0 0 0 0 payload with epoch := s.obj Obj.CHART_ACTIVE, srcDev := (s.chart (s.obj Obj.CHART_ACTIVE)).self }

/-- CHRONOMETER_EXCHANGE (R254): an exchange still unanswered has failed; the next request leaves on the port in use. -/
def doChronometerExchange (s : State) : Out :=
  if s.chrState = 4 ∨ 16 ≤ s.obj Obj.CHR_PARENT_PORT ∨ s.now < s.chrU.phase + s.obj Obj.CHR_SYNC_PERIOD * 1000 then .next s
  else
    let s := if s.chrU.sent.isSome then s.chrFailed else s
    let s := { s with chrU := { s.chrU with phase := s.now } }
    match s.chrPort with
    | none => .next s.chrFailed
    | some p => .next (({ s with chrU := { s.chrU with sent := some (s.chr, p) } }).toPort p s.now none (s.timeFrame 8 (leBytes 8 s.chr)))

/-- TIME_REQ in the parent's role (R254): the reply carries t1, t2 and t3. -/
def State.timeReq (s : State) (port : Nat) (f : Frame) : State :=
  if f.payload.length = 8 then s.toPort port s.now none (s.timeFrame 9 (f.payload ++ leBytes 8 s.chr ++ leBytes 8 s.chr)) else s

/-- θ in ps (R254). -/
def theta (t1 t2 t3 t4 : Nat) (cal : Int) : Int := (((t2 : Int) - t1) - ((t4 : Int) - t3)) * 500 - cal

/-- A valid exchange with its θ in ps (R254–R256, Table 9-6). -/
def State.chrExchange (s : State) (th : Int) : State :=
  let s := { s with chrU := { s.chrU with sent := none, bad := 0, slew := th.tdiv 1000 } }
  let s := s.setObj Obj.CHR_OFFSET_NS (ofSigned 32 (th.tdiv 1000))
  let s := if s.chrState = 0 ∨ s.chrState = 3 then ({ s with chrU := { s.chrU with good := 0 } }).chrMove 1 else s
  let small := decide (th.natAbs ≤ 2000)
  if s.chrState = 1 then
    let n := if small then s.chrU.good + 1 else 0
    let s := { s with chrU := { s.chrU with good := n } }
    if 8 ≤ n then
      let s :=
        if s.chrU.locked then s
        else
          -- The first lock sets the count to the parent's time (R256).
          ({ s with chr := ((s.chr : Int) + th.tdiv 1000).toNat % 2 ^ 64, chrU := { s.chrU with locked := true, slew := 0 } }).count 32 Obj.CHR_STEPS 1
      s.chrMove 2
    else s
  else if s.chrState = 2 ∧ 50000 < th.natAbs then (s.count 32 Obj.CHR_LOCK_LOSSES 1).chrMove 3
  else s

/-- TIME_RSP (R254): the reply to the exchange that is outstanding on the port it arrives by. -/
def State.timeRsp (s : State) (port : Nat) (f : Frame) (t4 : Nat) : State :=
  match s.chrU.sent with
  | none => s
  | some (t1, p) =>
    if p = port ∧ f.payload.length = 24 ∧ leNat (slice f.payload 0 8) = t1 then
      s.chrExchange (theta t1 (leNat (slice f.payload 8 8)) (leNat (slice f.payload 16 8)) t4 (toSigned 32 (s.obj (Obj.CHR_PORT_CAL port))))
    else s

/-- A time frame that a port has accepted (R254, R272); `t4` is the stamp of its arrival. -/
def State.timeTaken (s : State) (port : Nat) (f : Frame) (t4 : Nat) : State :=
  if !wellFormedHeader f then s.errResp f 0x0809 else if f.opcode = 8 then s.timeReq port f else s.timeRsp port f t4

/-- A time frame with an opcode arrives by a port. -/
def State.timeArrives (s : State) (opcode : Nat) (a : Arrival) (f : Frame) (t4 : Nat) : Out :=
  withPort s a.port <|
    if f.opcode = opcode ∧ s.portUp a.port then
      let r := s.linkReceive a f
      if r.1 then .next ((r.2.owe (some a.port) f).timeTaken a.port f t4) else .next r.2
    else .next s

/-- TIME_REQ: a child's request arrives by a port. -/
def doTimeReq (a : Arrival) (f : Frame) (s : State) : Out := s.timeArrives 8 a f s.chr

/-- TIME_RSP: a parent's reply arrives by a port, its arrival stamped t4. -/
def doTimeRsp (a : Arrival) (f : Frame) (t4 : Nat) (s : State) : Out := s.timeArrives 9 a f t4

/-- A write of CHR_SET (R256). -/
def State.writeChrSet (s : State) (v : Nat) : Wr :=
  if s.chrState = 4 ∧ s.noSliceHoldsCores then (({ s with chr := v % 2 ^ 64 }).count 32 Obj.CHR_STEPS 1).ok else s.no 0x0805

/-- Whether a port object takes a value (R261). -/
def chrPortValue (v : Nat) : Bool := decide (v < 16) || v == 0xFE || v == 0xFF

/-- A write of CHR_PARENT_PORT (R261, Table 9-6). -/
def State.writeChrParent (s : State) (v : Nat) : Wr :=
  if !chrPortValue v then s.no 0x0809
  else
    let old := s.obj Obj.CHR_PARENT_PORT
    let s := s.setObj Obj.CHR_PARENT_PORT v
    if v = 0xFF then (s.chrMove 4).ok
    else if v = 0xFE then ({ s with chrU := { s.chrU with sent := none, good := 0 } }.chrMove 0).ok
    else if old = 0xFF ∨ old = 0xFE then ({ s with chrU := { s.chrU with sent := none, good := 0 } }.chrMove 0).ok
    else ({ s with chrU := { s.chrU with sent := none } }).ok

/-- A write of CHR_ALT_PORT (R261). -/
def State.writeChrAlt (s : State) (v : Nat) : Wr := if chrPortValue v then (s.setObj Obj.CHR_ALT_PORT v).ok else s.no 0x0809

/-- A write of GROUP_SLICE (R237): refused while a core waits on the group. -/
def State.writeGroupSlice (s : State) (g v : Nat) : Wr :=
  if 0xFFF < v ∧ v ≠ 0xFFFF then s.no 0x0809
  else if s.groupWaited g then s.no 0x0805
  else ((s.setObj (Obj.GROUP_SLICE g) v).clearGroup g).ok

/-- The count one true nanosecond later: 1 ns, and 1 ns more or less in every 10,000 while an offset is slewed out (R252,
R254). -/
def State.chrTick (s : State) : State :=
  let u := s.chrU
  if u.slew = 0 ∨ s.now % 10000 ≠ 0 then { s with chr := (s.chr + 1) % 2 ^ 64 }
  else if 0 < u.slew then { s with chr := (s.chr + 2) % 2 ^ 64, chrU := { u with slew := u.slew - 1 } }
  else { s with chrU := { u with slew := u.slew + 1 } }

end Sys2Proof.Machine
end

