-- ==== Sys2Proof/Machine/Alerts.lean ====
section
/-! DEFINITION. Sticky words with event counters (R55), ALERT_SUMMARY and ALERT_N (R436), and what an immediate Beacon reports
(R442). -/

namespace Sys2Proof.Machine

/-- PWR_STATUS bits set (Table 16-6). -/
def State.pwrStatus (s : State) (mask : Nat) : State := s.raiseCounted Obj.PWR_STATUS mask Obj.PWR_EVENTS

/-- The management unit awake and at work (R408, R416). -/
def State.hmuWork (s : State) : State := { s with hmu := { s.hmu with asleep := false, lastWork := s.now } }

/-! ### Pins and LEDs -/

/-- Whether the output pins act: not before START_STATE 2 (R495), nor below 20 V (R494). -/
def State.pinsAct (s : State) : Bool := decide (2 ≤ s.obj Obj.START_STATE) && !(s.power.open_ || s.power.dark)

/-- Whether the module asserts ALERT_N (R436, R495). -/
def State.alertN (s : State) : Bool := s.pinsAct && s.obj Obj.ALERT_SUMMARY != 0

/-- Whether it asserts REPLACE_N (R398, R495). -/
def State.replaceN (s : State) : Bool := s.pinsAct && (let d := s.obj Obj.DRIFT_STATE; d == 2 || d == 3 || d == 4)

/-- How an LED is driven: off, on, or blinking with a period in milliseconds (Table 21-7). -/
inductive Led where
  | off | on
  | blink (periodMs : Nat)
  deriving DecidableEq, Repr

/-- Whether an LED is lit at a time in ns (R498): a blink lights it for half of its period, and both LEDs by one phase. -/
def Led.lit (l : Led) (now : Nat) : Bool :=
  match l with
  | .off => false
  | .on => true
  | .blink ms => let p := ms * 1000000; decide ((now + Config.blinkPhase p) % p < p / 2)

/-- Whether the module has no power at all: the input switch is open, or the input has sunk below 20 V (R402). -/
def State.dead (s : State) : Bool := s.power.open_ || s.power.dark

/-- LED_STATUS and LED_FAULT (R498): the first row of Table 21-7 that holds. -/
def State.leds (s : State) : Led × Led :=
  let start := s.obj Obj.START_STATE
  let fence := s.obj Obj.FENCE_STATE
  let drift := s.obj Obj.DRIFT_STATE
  if s.dead then (.off, .off)
  else if s.obj Obj.EPO_STATE ≠ 0 then (.off, .on)
  else if start = 5 ∨ fence = 3 then (.off, .on)
  else if start = 1 then (.blink 250, .blink 250)
  else if start = 0 ∨ start = 2 ∨ start = 3 then (.blink 1000, .off)
  else if fence = 1 ∨ fence = 2 then (.on, .blink 1000)
  else if drift = 2 ∨ drift = 3 ∨ drift = 4 then (.on, .blink 2000)
  else (.on, .off)

/-- PD_STATE of a domain (Table 16-6). -/
def State.pd (s : State) (d : Nat) : Nat := s.obj (Obj.PD_STATE d)

/-- The state with PD_STATE of a domain set. -/
def State.setPd (s : State) (d v : Nat) : State := s.setObj (Obj.PD_STATE d) v

/-- The sources of Table 17-5 that hold now: a cleared bit comes back while its source holds (R436). An input condition of Table 16-1
holds once its time has passed. -/
def State.alertSources (s : State) : Nat :=
  let p := s.power
  let long (o : Option Nat) : Bool := o.any (fun t => decide (t + 100000 ≤ s.now))
  (if long p.below30 || long p.above40 || s.obj Obj.EPO_STATE == 2 then 1 else 0)
    ||| (if (List.range 80).any (fun d => s.pd d == 4) then 2 else 0)
    ||| (if s.obj Obj.FENCE_STATE == 3 then 4 else 0)
    ||| (if s.obj Obj.EPO_STATE == 1 then 8 else 0)
    ||| (if s.obj Obj.HMU_STATUS != 3 then 16 else 0)

/-- A write of ALERT_SUMMARY: W1C, with the sources that hold set again. -/
def State.clearAlert (s : State) (mask : Nat) : State :=
  s.setObj Obj.ALERT_SUMMARY (clearMask (s.obj Obj.ALERT_SUMMARY) mask ||| s.alertSources)

end Sys2Proof.Machine
end

