-- ==== Sys2Proof/Machine/Power.lean ====
section
/-! DEFINITION. Power, clocks and temperature (16): throttle requests and PLLs (R409–R411), the input monitor and the power limit
(R402, R403), power domains (R405–R407), temperature sites (R389, R410), emergency power off (R412, R413). -/

namespace Sys2Proof.Machine

/-! ### Throttle requests and PLLs (R409, R410) -/

/-- The step that a source of Table 16-4 requests of a die. -/
def State.request (s : State) (die src : Nat) : Nat := Sparse.get (fun _ => 0) s.power.requests (die * 16 + src)

/-- The slowest step that a source requests of a die. -/
def State.slowest (s : State) (die : Nat) : Nat := (List.range 9).foldl (fun m b => max m (s.request die b)) 0

/-- The PLLs of a die. -/
def State.pll (s : State) (die : Nat) : Pll := Sparse.get (fun _ => Pll.reset) s.power.plls die

/-- The state with a die's PLLs set. -/
def State.setPll (s : State) (die : Nat) (p : Pll) : State :=
  { s with power := { s.power with plls := Sparse.set (fun _ => Pll.reset) s.power.plls die p } }

/-- CLK_STEP of a die. -/
def State.clkStep (s : State) (die : Nat) : Nat := s.obj (Obj.CLK_STEP die)

/-- THR_CAUSE: the sources whose request equals the present step, none at 1.3 GHz (R410). -/
def State.noteCause (s : State) (die : Nat) : State :=
  s.setObj (Obj.THR_CAUSE die)
    (if s.clkStep die = 0 then 0 else maskOf ((List.range 9).filter (fun b => s.request die b == s.clkStep die)))

/-- The die switches to its idle PLL at a step; the PLL that was left relocks at THR_PIN_STEP (R409). -/
def State.switchStep (s : State) (die step : Nat) : State :=
  let s := ((s.setObj (Obj.CLK_STEP die) step).count 32 (Obj.STEP_CHANGES die) 1).setPll die
    { relock := none, idle := false, upSince := if s.slowest die < step then some s.now else none }
  s.noteCause die

/-- A change of step begins: at once where the idle PLL is locked at the target, else with a relock (R409). -/
def State.toStep (s : State) (die step : Nat) : State :=
  let p := s.pll die
  if p.idle && p.relock.isNone && step == s.obj Obj.THR_PIN_STEP then s.switchStep die step
  else s.setPll die { p with relock := some step, idle := false }

/-- The die's requests have changed: a slower one begins a step down, restarting a relock; a step up waits (R409, R410). -/
def State.retarget (s : State) (die : Nat) : State :=
  let present := s.clkStep die
  let r := s.slowest die
  let p := s.pll die
  let s :=
    if present < r then
      let s := s.setPll die { p with upSince := none }
      if p.relock = some r then s else s.toStep die r
    else if r = present then s.setPll die { p with relock := none, upSince := none }
    else
      let keep := match p.relock with
        | some t => decide (r ≤ t) && decide (t < present)
        | none => false
      s.setPll die { p with relock := if keep then p.relock else none, upSince := if p.upSince.isSome then p.upSince else some s.now }
  s.noteCause die

/-- A source's request of a die set. -/
def State.setRequest (s : State) (die src step : Nat) : State :=
  if s.request die src = step then s
  else
    let s := { s with power := { s.power with requests := Sparse.set (fun _ => 0) s.power.requests (die * 16 + src) step } }
    s.retarget die

/-- The same request of both dies. -/
def State.setRequests (s : State) (src step : Nat) : State := (s.setRequest 0 src step).setRequest 1 src step

/-- A command on a compute die that the module has. -/
def withDie (s : State) (die : Nat) (k : Out) : Out := if die < 2 then k else .next s

/-- PLL_LOCK (R409): the idle PLL locks; the die switches to it if a step change waits for it. -/
def doPllLock (die : Nat) (s : State) : Out :=
  withDie s die <|
    let p := s.pll die
    match p.relock with
    | some t => .next (s.switchStep die t)
    | none => if p.idle then .next s else .next (s.setPll die { p with idle := true })

/-- THROTTLE_STEP_UP (R410): after 10 ms with the slowest request above the present step, one step up. -/
def doThrottleStepUp (die : Nat) (s : State) : Out :=
  withDie s die <|
    let p := s.pll die
    match p.upSince with
    | some t =>
      if s.slowest die < s.clkStep die ∧ t + 10000000 ≤ s.now ∧ p.relock.isNone then
        .next ((s.setPll die { p with upSince := some s.now }).toStep die (s.clkStep die - 1))
      else .next s
    | none => .next s

/-- A write of CLK_CAP (Table 16-4, R414). -/
def State.writeClkCap (s : State) (die v : Nat) : Wr :=
  if 4 < v then s.no 0x0809 else ((s.setObj (Obj.CLK_CAP die) v).setRequest die 0 v).ok

/-- A write of THR_PIN_STEP (R411, R414): idle PLLs relock at the new step. -/
def State.writeThrPinStep (s : State) (v : Nat) : Wr :=
  if 4 < v then s.no 0x0809
  else
    let old := s.obj Obj.THR_PIN_STEP
    let s := s.setObj Obj.THR_PIN_STEP v
    let s := if v = old then s else (s.setPll 0 { s.pll 0 with idle := false }).setPll 1 { s.pll 1 with idle := false }
    (if s.power.thrPin then s.setRequests 1 v else s).ok

/-- THROTTLE_N (R411). -/
def doThrottleN (s : State) : Out :=
  let s := { s with power := { s.power with thrPin := true } }
  .next (if s.dead then s else ((s.pwrStatus 0x40).setRequests 1 (s.obj Obj.THR_PIN_STEP)).hmuWork)

/-- THROTTLE_N_RELEASE (R411): only the pin's request goes. -/
def doThrottleNRelease (s : State) : Out :=
  let s := { s with power := { s.power with thrPin := false } }
  .next (if s.dead then s else (s.setRequests 1 0).hmuWork)

/-! ### The input monitor (R402, R403) -/

/-- A sensor or monitor threshold starts the unit's PLL (R408): one whose crossing has changed a request, a sticky word or what is due
(log 146). -/
def State.wakeOn (s t : State) : State :=
  if s.power.requests = t.power.requests ∧ s.obj Obj.PWR_EVENTS = t.obj Obj.PWR_EVENTS ∧ s.obj Obj.HEALTH_EVENTS = t.obj Obj.HEALTH_EVENTS ∧
      s.posts.length = t.posts.length then t
  else t.hmuWork

/-- The mean of at most `n` samples, those taken so far if there are fewer. -/
def meanOf (n : Nat) (l : List Nat) : Nat := let m := l.take n; if m.isEmpty then 0 else m.sum / m.length

/-- Since when a condition has held. -/
def heldSince (old : Option Nat) (now : Nat) (holds : Bool) : Option Nat :=
  if holds then (match old with | some t => some t | none => some now) else none

/-- Whether a condition has held for a time. -/
def heldFor (o : Option Nat) (now t : Nat) : Bool := match o with | some x => decide (x + t ≤ now) | none => false

/-- The power source requests one step below the present step of each die (R403). -/
def State.powerDown (s : State) : State :=
  let one (s : State) (d : Nat) : State := s.setRequest d 2 (max (s.request d 2) (min 4 (s.clkStep d + 1)))
  one (one s 0) 1

/-- The readings of a sample stored (Table 16-6). -/
def State.recordSample (s : State) (mv ma : Nat) : State :=
  let p := mv * ma / 1000
  let samples := (p :: s.power.samples).take 100000
  let e := s.power.residue + p * 10
  let s := { s with power := { s.power with samples, residue := e % 1000000 } }
  let s := s.setObjs [(Obj.V_IN, mv), (Obj.I_IN, ma), (Obj.P_IN, p), (Obj.P_IN_10MS, meanOf 1000 samples),
    (Obj.P_IN_1S, meanOf 100000 samples), (Obj.P_IN_MAX, max p (s.obj Obj.P_IN_MAX))]
  s.count 64 Obj.ENERGY (e / 1000000)

/-- The voltage conditions of Table 16-1. -/
def State.voltage (s : State) (mv : Nat) : State :=
  let q := s.power
  let t := s.now
  let q := { q with
    below30 := heldSince q.below30 t (decide (mv < 30000)), below27 := heldSince q.below27 t (decide (mv < 27000))
    above40 := heldSince q.above40 t (decide (40500 < mv)), above44 := heldSince q.above44 t (decide (44000 < mv))
    good31 := heldSince q.good31 t (decide (31000 ≤ mv))
    inRange := heldSince q.inRange t (decide (30000 ≤ mv) && decide (mv ≤ 40000)) }
  let s := { s with power := q }
  let warn (s : State) (mask : Nat) : State := (s.pwrStatus mask).alert 1
  let s :=
    if heldFor q.below30 t 100000 then (warn s 1).setRequests 3 2
    else if heldFor q.good31 t 10000000 then s.setRequests 3 0 else s
  let s := if heldFor q.above40 t 100000 then warn s 2 else s
  let s := if heldFor q.below27 t 20000 then s.post (.epo 2) else s
  let s := if heldFor q.above44 t 5000 then s.post .inputOff else s
  if mv < 20000 then s.post .inputDark else s

/-- The power rules of R403. -/
def State.powerLimit (s : State) (p : Nat) : State :=
  let limit := s.obj Obj.PWR_LIMIT * 1000
  let mean := s.obj Obj.P_IN_10MS
  let s := if 2050000 < p then (s.pwrStatus 4).powerDown else s
  let s :=
    if limit < mean then
      let due := match s.power.meanAt with | some t => decide (t + 1000000 ≤ s.now) | none => true
      if due then
        ({ s with power := { s.power with meanAt := some s.now } }.pwrStatus 8).powerDown
      else s
    else { s with power := { s.power with meanAt := none } }
  let low := heldSince s.power.low s.now (decide (mean * 10 < limit * 9))
  if heldFor low s.now 50000000 then
    let s := { s with power := { s.power with low := some s.now } }
    (s.setRequest 0 2 (s.request 0 2 - 1)).setRequest 1 2 (s.request 1 2 - 1)
  else { s with power := { s.power with low := low } }

/-- INPUT_SAMPLE (R402, R403). With the input switch open only the voltage is watched: it closes after 1 s within 30 V to 40 V. Below
20 V the always-on domain is off too, until the voltage is back. -/
def doInputSample (mv ma : Nat) (s : State) : Out :=
  if s.power.open_ then
    let inRange := heldSince s.power.inRange s.now (decide (30000 ≤ mv) && decide (mv ≤ 40000))
    if heldFor inRange s.now 1000000000 then .next { s with power := { PowerUnit.reset with epoPin := s.power.epoPin, fencePin := s.power.fencePin, thrPin := s.power.thrPin } }
    else .next { s with power := { s.power with inRange := inRange } }
  else if s.power.dark then .next { s with power := { s.power with dark := decide (mv < 20000) } }
  else .next (s.wakeOn (((s.recordSample mv ma).voltage mv).powerLimit (mv * ma / 1000)))

/-- A write of PWR_LIMIT (R404). -/
def State.writePwrLimit (s : State) (v : Nat) : Wr :=
  if v < 600 ∨ 1800 < v then s.no 0x0809 else (s.setObj Obj.PWR_LIMIT v).ok

/-! ### Domains (R405–R407, Table 16-2) -/

/-- The die of a core pair's domain, a stack's, a bridge's or a mesh row's. -/
def dieOfDomain (d : Nat) : Nat :=
  if d < 52 then d / 26 else if d < 64 then (d - 52) / 6 else if d < 73 then d - 71 else (d - 73) / 2

/-- The domains that a domain depends on, in the order of their wakes (R406): a pair's mesh row holds 13 pairs. -/
def dependsOn (d : Nat) : List Nat :=
  if d < 52 then [77, 71 + dieOfDomain d, 73 + d / 13]
  else if d < 64 then [77, 71 + dieOfDomain d]
  else if d < 73 then [77]
  else if d < 77 then [77, 71 + dieOfDomain d]
  else []

/-- The worst wake of a domain, ns (Table 16-2). -/
def worstWake (d : Nat) (fromSelfRefresh : Bool) : Nat :=
  if d < 52 then 1000000
  else if d < 64 then (if fromSelfRefresh then 10000 else 120000000)
  else if d < 68 then 5300000
  else if d = 68 then 500000000
  else if d < 71 then 50000
  else if d < 73 then 2000000
  else if d < 77 then 100000
  else if d = 77 then 1000000 else 20000

/-- Pairs of a die that ramp now. -/
def State.ramping (s : State) (die : Nat) : Nat := (s.power.waking.filter (fun w => decide (w.1 < 52) && dieOfDomain w.1 == die)).length

/-- A domain's ramp begins. -/
def State.ramp (s : State) (d : Nat) (selfRefresh : Bool) : State :=
  { s.setPd d 1 with power := { s.power with waking := s.power.waking ++ [(d, s.now + worstWake d selfRefresh)] } }

/-- Whether the module stays off (R413, R478): EPO has switched it off or EPO_N asks for it, or it stands in its loader. -/
def State.staysOff (s : State) : Bool := s.power.epoPin || s.obj Obj.EPO_STATE != 0 || s.obj Obj.START_STATE == 1

/-- Whether a domain's ramp may begin (R406): those that it depends on are on, and fewer than four pairs of its die ramp. -/
def State.mayRamp (s : State) (d : Nat) : Bool :=
  (dependsOn d).all (fun x => s.pd x == 2) && (decide (52 ≤ d) || decide (s.ramping (dieOfDomain d) < 4))

/-- A domain that waits begins its ramp if it may; a stack in self-refresh is on the sooner. -/
def State.rampIf (s : State) (d : Nat) : State :=
  if s.mayRamp d then
    ({ s with power := { s.power with waitRamp := s.power.waitRamp.erase d } }).ramp d
      (decide (52 ≤ d) && decide (d < 64) && s.obj (Obj.STACK_STATE (d - 52)) == 1)
  else s

/-- The domains that wait begin their ramps, in ascending order, as far as R406 lets them. -/
def State.nextRamps (s : State) : State := s.power.waitRamp.foldl State.rampIf s

/-- A domain is to wake (R406): it reads waking, and waits for its turn. -/
def State.wakeDomain (s : State) (d : Nat) : State :=
  if s.pd d = 0 ∨ s.pd d = 3 then
    { s.setPd d 1 with power := { s.power with waitRamp := Sparse.set (fun _ => 0) (s.power.waitRamp.map (fun x => (x, 1))) d 1 |>.map (·.1) } }
  else s

/-- A domain and those it depends on wake (R406), each after those that it depends on. -/
def State.wakeAll (s : State) (d : Nat) : State :=
  if s.staysOff then s else (((dependsOn d).foldl State.wakeDomain s).wakeDomain d).nextRamps

/-- A core's own state without power: the mode, seed and rank in force, and what open contents depend on. -/
def Core.unpowered (c : Core) (n : Nat) : Core :=
  { Core.reset with
    resets := c.resets + 1, tiles := n
    vec := { Core.reset.vec with stepped := c.vec.stepped, seed := c.vec.seed, rank := c.vec.rank, loadNo := c.vec.loadNo } }

/-- A core loses what its pair domain holds (Table 16-2). -/
def State.coreOff (s : State) (core : Nat) : State :=
  let c := s.core core
  let s := ((s.dropWaits core).setCore core (c.unpowered s.free)).tilesFree core
  let s := { s with
    mem := Sparse.eraseRange s.mem (spBase core) 0x800000
    errs := Sparse.eraseRange s.errs (spBase core / 32) (0x800000 / 32) }
  s.setCoreSt core .off

/-- A stack loses its contents. -/
def State.stackOff (s : State) (n : Nat) : State :=
  let keep (a : Nat) : Bool := decide (0xC000000000 ≤ a) || (decodeHbm a).stack != n
  { s.setObj (Obj.STACK_STATE n) 0 with mem := s.mem.filter (fun e => keep e.1), errs := s.errs.filter (fun e => keep (e.1 * 32)) }

/-- What a domain loses when it goes off (Table 16-2). -/
def State.loseDomain (s : State) (d : Nat) : State :=
  if d < 52 then (s.coreOff (2 * d)).coreOff (2 * d + 1)
  else if d < 64 then s.stackOff (d - 52)
  else if d < 68 then
    ((List.range 4).map (fun i => 4 * (d - 64) + i)).foldl
      (fun t p => { t.setPortState p 0 with
        ports := Sparse.set (fun _ => Port.reset) t.ports p Port.reset
        txFlows := t.txFlows.map (fun x => if x.port == some p then { x with port := none } else x) }) s
  else if d = 68 then
    ((List.range 4).foldl (fun t p => t.setObj (Obj.HOST_PORT_STATE p) 0) s)
  else if d = 77 then
    let s := { s with
      wps := [], waiters := [], timed := [], charts := [], fans := [], switchAt := none, txFlows := [], rxFlows := [], routerQ := [] }
    let s := { s with dict := Sparse.eraseRange s.dict (Obj.GROUP_SLICE 0) 0x10000 }
    (s.setObjs [(Obj.CHART0_STATE, 0), (Obj.CHART1_STATE, 0), (Obj.CHART_ACTIVE, 0)]).chrAlone
  else s

/-- A domain goes off, and leaves its place among those that ramp; one that has failed reads so until a start-up (R407). -/
def State.domainOff (s : State) (d : Nat) : State :=
  let t := s.loseDomain d
  { t.setPd d (if s.pd d = 4 then 4 else 0) with
    power := { t.power with waking := t.power.waking.filter (fun w => w.1 != d), waitRamp := t.power.waitRamp.erase d } }.nextRamps

/-- Whether a pending swap names a core. -/
def State.swapNames (s : State) (core : Nat) : Bool := s.health.swaps.any (fun w => w.core == core || w.reserve == some core)

/-- Whether the conditions of Table 16-2 let a domain go off. -/
def State.mayGoOff (s : State) (d : Nat) : Bool :=
  let off (c : Nat) : Bool := s.coreSt c == .off
  if d < 52 then
    [2 * d, 2 * d + 1].all (fun c => (off c || s.coreSt c == .idle) && (s.slotOfCore c).isNone && !s.swapNames c)
  else if d < 64 then s.noSliceHoldsCores
  else if d < 68 then (List.range 4).all (fun i => s.obj (Obj.PORT_CTRL (4 * (d - 64) + i)) == 0)
  else if d = 68 then (List.range 240).all (fun n => s.obj (Obj.QP_STATE n) == 0)
  else if d < 71 then (List.range 64).all (fun i => s.obj (Obj.CTX_STATE (64 * (d - 69) + i)) == 0)
  else if d < 73 then
    (List.range 52).all (fun i => off (52 * (d - 71) + i)) && (List.range 6).all (fun i => let p := s.pd (52 + 6 * (d - 71) + i); p == 0 || p == 3)
  else if d < 77 then (List.range 13).all (fun i => s.pd (13 * (d - 73) + i) == 0)
  else (List.range 13).all (fun i => s.pd (64 + i) == 0)

/-- Whether no slice holds cores on a die. -/
def State.dieFree (s : State) (die : Nat) : Bool := (List.range 52).all (fun i => (s.slotOfCore (52 * die + i)).isNone)

/-- Whether a pair holds a sleeping Reserve (R405). -/
def State.pairSleeps (s : State) (d : Nat) : Bool :=
  [2 * d, 2 * d + 1].any (fun c => isReserve c && s.obj (Obj.RSV_STATE (reserveNo c)) == 0)

/-- A stack put to self-refresh (R405), also one that is off or waking. -/
def State.selfRefresh (s : State) (d : Nat) : State :=
  ({ s.setPd d 3 with
    power := { s.power with waking := s.power.waking.filter (fun w => w.1 != d), waitRamp := s.power.waitRamp.erase d } }).setObj
      (Obj.STACK_STATE (d - 52)) 1

/-- A write of PD_CTRL (R405–R407). A domain that has failed stays so until a start-up, and none comes on while the module stays off
(R413). -/
def State.writePdCtrl (s : State) (v : Nat) : Wr :=
  let d := bits v 6 0
  let act := bits v 9 8
  let stack := decide (52 ≤ d) && decide (d < 64)
  if 78 ≤ d ∨ act = 3 ∨ (act = 2 ∧ !stack) then s.no 0x0809
  else if d < 52 ∧ s.pairSleeps d then s.no 0x0805
  else if s.pd d = 4 ∨ (act ≠ 0 ∧ s.staysOff) then s.no 0x0805
  else match act with
  | 1 => (s.wakeAll d).ok
  | 0 => if s.mayGoOff d then (s.domainOff d).ok else s.no 0x0805
  | _ => if s.dieFree (dieOfDomain d) then (s.selfRefresh d).ok else s.no 0x0805

/-- A core that comes on with its pair: one in service (ACTIVE_MAP) is reset and IDLE; a Reserve that no swap has brought in, a
retired core and one whose self-test failed stay OFF. -/
def State.coreOn (s : State) (core : Nat) : State :=
  if bit (s.obj Obj.ACTIVE_MAP) core then (s.coreReset core).setCoreSt core .idle else s

/-- What a domain does when it is on. -/
def State.domainOn (s : State) (d : Nat) : State :=
  let s := s.setPd d 2
  if d < 52 then (s.coreOn (2 * d)).coreOn (2 * d + 1)
  else if d < 64 then s.setObj (Obj.STACK_STATE (d - 52)) 2
  else if d < 68 then
    ((List.range 4).map (fun i => 4 * (d - 64) + i)).foldl
      (fun t p => if t.obj (Obj.PORT_CTRL p) = 0 then t else (t.setPortState p 1).setPort p { Port.reset with trainAt := t.now }) s
  else if d = 68 then
    (List.range 4).foldl (fun t p => if t.obj (Obj.HOST_PORT_CTRL p) = 0 then t else t.setObj (Obj.HOST_PORT_STATE p) 1) s
  else if d = 77 then s.startChrono
  else s

/-- A command on a domain that the module has. -/
def withDomain (s : State) (d : Nat) (k : Out) : Out := if d < 80 then k else .next s

/-- DOMAIN_POWER_GOOD (R406): a waking domain comes on, and those that waited for it or for its place ramp. -/
def doDomainPowerGood (d : Nat) (s : State) : Out :=
  withDomain s d <|
    if s.power.waking.any (fun w => w.1 == d) then
      let s := { s with power := { s.power with waking := s.power.waking.filter (fun w => w.1 != d) } }
      .next (s.domainOn d).nextRamps
    else .next s

/-- The domains that waited for one that has failed do not wake: they are off again (log 147). -/
def State.dropWaiting (s : State) (d : Nat) : State :=
  let lost := s.power.waitRamp.filter (fun x => (dependsOn x).contains d)
  lost.foldl (fun t x =>
    { t.setPd x (if t.obj (Obj.STACK_STATE (x - 52)) = 1 ∧ 52 ≤ x ∧ x < 64 then 3 else 0) with
      power := { t.power with waitRamp := t.power.waitRamp.erase x } }) s

/-- DOMAIN_WAKE_FAIL (R407): a domain has missed power-good within its worst wake time. -/
def doDomainWakeFail (d : Nat) (s : State) : Out :=
  withDomain s d <|
    if s.power.waking.any (fun w => w.1 == d && decide (w.2 ≤ s.now)) then
      let s := { s.setPd d 4 with power := { s.power with waking := s.power.waking.filter (fun w => w.1 != d) } }
      let s := (s.pwrStatus 0x80).alert 2
      .next ((s.logEvent .domainFail 0 (srcCode 0 0) 0xFFFF d).dropWaiting d).nextRamps
    else .next s

/-! ### Temperatures (R225, R226, R389, R410) -/

/-- The lower bounds, in whole degrees, and the steps of the rows of Table 8-3. -/
def stackRows : List (Int × Nat) := [(88, 1), (91, 2), (94, 3), (97, 4)]

/-- The same of Table 16-5, for a compute die and for XD. -/
def dieRows : List (Int × Nat) := [(101, 1), (104, 2), (107, 3), (110, 4)]
def xdRows : List (Int × Nat) := [(106, 3), (111, 4)]

/-- The step that a table asks for at a temperature in 0.1 °C (R226, R410). -/
def rowStep (rows : List (Int × Nat)) (t : Int) : Nat := rows.foldl (fun m r => if r.1 * 10 ≤ t then r.2 else m) 0

/-- The lower bound of the row of a step, and the step of the row before it. -/
def rowLower (rows : List (Int × Nat)) (step : Nat) : Int := match rows.find? (fun r => r.2 == step) with | some r => r.1 | none => 0
def rowBefore (rows : List (Int × Nat)) (step : Nat) : Nat := ((rows.filter (fun r => decide (r.2 < step))).getLastD (0, 0)).2

/-- A temperature source's request of a die from a new reading (Table 16-4): it falls at once, and rises one row after 10 ms
below the row's lower bound minus 3 °C. -/
def State.tempRequest (s : State) (die src : Nat) (rows : List (Int × Nat)) (t : Int) : State :=
  let old := s.request die src
  let want := rowStep rows t
  let k := die * 16 + src
  let setCalm (s : State) (c : Option Nat) : State :=
    { s with power := { s.power with calm := Sparse.set (fun _ => none) s.power.calm k c } }
  if old ≤ want then (setCalm s none).setRequest die src want
  else
    let c := heldSince (Sparse.get (fun _ => none) s.power.calm k) s.now (decide (t < (rowLower rows old - 3) * 10))
    if heldFor c s.now 10000000 then
      let up := rowBefore rows old
      (setCalm s (if decide (up ≠ 0) && decide (t < (rowLower rows up - 3) * 10) then some s.now else none)).setRequest die src up
    else setCalm s c

/-- The greatest of some readings. -/
def hottest : List Int → Option Int
  | [] => none
  | t :: r => match hottest r with | some u => some (max t u) | none => some t

/-- How far the two readings of a site lie apart before they disagree (R389): 5 °C at a temperature site; at a voltage monitor the manual
gives no figure. -/
def apartOf (site : Nat) : Nat := if site < 24 then 50 else Config.voltageApart

/-- The reading that stands for a site (R389): the higher of two temperatures, the lower of two voltages. -/
def siteReading (site : Nat) (l : List Int) : Option Int :=
  if site < 24 then hottest l else (hottest (l.map (fun v => -v))).map (fun v => -v)

/-- A site's two sensors read (R389): the valid sensors return to service, the one that protects the part counts, and a lasting difference
is flagged. Sites 0–23 are the temperature sites, and 24–27 the monitors of the rails (log 148). -/
def State.readSite (s : State) (site : Nat) (r : Option Int × Option Int) : State :=
  let h := s.health
  let lost := h.sensorsLost.filter (fun x => !((x == 2 * site && r.1.isSome) || (x == 2 * site + 1 && r.2.isSome)))
  let seen := if r.1.isSome then Sparse.set (fun _ => 0) h.sensorSeen (2 * site) s.now else h.sensorSeen
  let seen := if r.2.isSome then Sparse.set (fun _ => 0) seen (2 * site + 1) s.now else seen
  let apart := match r.1, r.2 with | some a, some b => decide (apartOf site < (a - b).natAbs) | _, _ => false
  let d := heldSince (Sparse.get (fun _ => none) h.disagree site) s.now apart
  let s := { s with health := { h with sensorsLost := lost, sensorSeen := seen, disagree := Sparse.set (fun _ => none) h.disagree site d } }
  let s := if heldFor d s.now 1000000000 then s.moduleHealth 0x100 else s
  match siteReading site (r.1.toList ++ r.2.toList) with
  | some t =>
    if site < 24 then s.setObj (Obj.SITE_TEMP site) (ofSigned 32 t)
    else { s with health := { s.health with volts := Sparse.set (fun _ => 0) s.health.volts (site - 24) t } }
  | none => s

/-- Whether a site has lost both sensors. -/
def State.siteLost (s : State) (site : Nat) : Bool := s.health.sensorsLost.contains (2 * site) && s.health.sensorsLost.contains (2 * site + 1)

/-- Whether a rail's regulator stands at its nominal voltage for want of a monitor (R389): both are lost. -/
def State.railAtNominal (s : State) (rail : Nat) : Bool := s.siteLost (24 + rail)

/-- The hottest of the sites from `lo` to `lo + n - 1` that read. -/
def State.hottestSite (s : State) (lo n : Nat) : Option Int :=
  hottest (((List.range n).filter (fun i => !s.siteLost (lo + i))).map (fun i => toSigned 32 (s.obj (Obj.SITE_TEMP (lo + i)))))

/-- Sensor loss as a throttle source (R389): a die with a site without sensors runs at 0.8 GHz, and both do for a site of XD. -/
def State.sensorRequest (s : State) : State :=
  let lost (lo n : Nat) : Bool := (List.range n).any (fun i => s.siteLost (lo + i))
  let xd := lost 20 4
  (s.setRequest 0 8 (if lost 0 10 || xd then 4 else 0)).setRequest 1 8 (if lost 10 10 || xd then 4 else 0)

/-- A core's thermal excursions (Table 15-3): its site crosses 105 °C, with 2 °C of hysteresis. -/
def State.excursion (s : State) (core : Nat) : State :=
  let t := toSigned 32 (s.obj (Obj.SITE_TEMP (Config.coreSite core % 24)))
  if s.health.hot.contains core then
    if t ≤ 1030 then { s with health := { s.health with hot := s.health.hot.erase core } } else s
  else if 1050 < t then ({ s with health := { s.health with hot := core :: s.health.hot } }).driftEvent 4 core 1
  else s

/-- A compute die's hottest site: shown, its step asked for, and from 115 °C the module fences itself. -/
def State.actDie (s : State) (d : Nat) : State :=
  match s.hottestSite (10 * d) 10 with
  | some t =>
    let s := (s.setObj (Obj.DIE_TEMP_MAX d) (ofSigned 32 t)).tempRequest d 4 dieRows t
    if 1150 ≤ t then s.post (.selfFence 0x3C01) else s
  | none => s

/-- The exchange die's hottest site: the steps asked for, and from 115 °C the module fences itself. -/
def State.actXd (s : State) : State :=
  match s.hottestSite 20 4 with
  | some t =>
    let s := (s.tempRequest 0 5 xdRows t).tempRequest 1 5 xdRows t
    if 1150 ≤ t then s.post (.selfFence 0x3C02) else s
  | none => s

/-- SITE_TEMP_SAMPLE (R389, R410, R440, Table 16-5): the temperature sites, then the monitors of the rails. -/
def doSiteTempSample (readings : List (Option Int × Option Int)) (s : State) : Out :=
  if s.dead then .next s
  else
    let t := (((readings.take 28).zipIdx).foldl (fun t r => t.readSite r.2 r.1) s).sensorRequest
    .next (s.wakeOn ((List.range 104).foldl State.excursion ((t.actDie 0).actDie 1).actXd))

/-! ### Emergency power off (R412, R413) -/

/-- Every switched domain except PD78 goes off (R412). -/
def State.allOff (s : State) : State :=
  let s := { s with power := { s.power with waking := [], waitRamp := [] } }
  let s := ((List.range 78).foldl State.domainOff s).setPd 79 0
  let s := { s with ctxs := [], held := [], hosts := [], sextant := none, fixU := .reset, stepU := .reset, ports := [], spares := [] }
  let s := (List.range 128).foldl (fun t n => t.setObj (Obj.CTX_STATE n) 0) s
  (List.range 240).foldl (fun t n => t.setObj (Obj.QP_STATE n) 0) s

/-- The module goes off on EPO_N or a power fail (R402, R412): cause 1 or 2. EPO_N takes precedence over every other state, a power fail
included. -/
def State.emergencyOff (s : State) (cause : Nat) : State :=
  if s.obj Obj.EPO_STATE = 1 ∨ (s.obj Obj.EPO_STATE ≠ 0 ∧ cause ≠ 1) then s
  else
    let s := (s.allOff).setObj Obj.EPO_STATE cause
    let s := if cause = 1 then (s.pwrStatus 0x10).alert 8 else (s.pwrStatus 0x20).alert 1
    { s.logEvent (if cause = 1 then .epo else .powerFail) 0 (srcCode 0 0) 0xFFFF 0 with beaconDue := true }

/-- EPO_N (R412). -/
def doEpoN (s : State) : Out :=
  let s := { s with power := { s.power with epoPin := true } }
  .next (if s.dead then s else (s.emergencyOff 1).hmuWork)

/-- EPO_N_RELEASE (R413): the module stays off until a restart. -/
def doEpoNRelease (s : State) : Out :=
  let s := { s with power := { s.power with epoPin := false } }
  .next (if s.dead then s else s.hmuWork)

/-- A write of POWER_CTRL (R413). -/
def State.writePowerCtrl (s : State) (v : Nat) : Wr :=
  if v ≠ 1 then s.no 0x0809
  else if s.power.epoPin ∨ s.obj Obj.EPO_STATE = 0 then s.no 0x0805
  else (s.post .restart).ok

end Sys2Proof.Machine
end

