-- ==== Sys2Proof/Machine/Hbm.lean ====
section
/-! DEFINITION. Upkeep of the HBM (08): scrub (R214), refresh and refresh management (R220–R222), row remap (R216–R218), stack
temperatures (R220, R225, R226), Sextant (R231–R233). -/

namespace Sys2Proof.Machine

/-! ### Scrub (R212–R214) -/

/-- The bursts of the twelve stacks. -/
def hbmBursts : Nat := 0xC000000000 / 32

/-- SCRUB_READ: errors come about in stored bursts; the scrubber reads one burst at class P3, and writes a corrected one back. A stack
under Sextant serves no scrubber (R231). -/
def doScrubRead (burst : Nat) (errors : List StoredError) (s : State) : Out :=
  if hbmBursts ≤ burst then .next s
  else if s.obj (Obj.STACK_STATE (decodeHbm (burst * 32)).stack) = 3 then .next (s.strikes errors)
  else
    let s := s.strikes errors
    let s' := s.noteError 3 burst
    match s.errAt burst with
    | .correctable _ => .next (s'.setErr burst .none)
    | _ => .next s'

/-- A write of SCRUB_PERIOD (R214). -/
def State.writeScrubPeriod (s : State) (v : Nat) : Wr := if v < 3600 then s.no 0x0809 else (s.setObj Obj.SCRUB_PERIOD v).ok

/-- A write of ROW_CE_THRESH (R217): a row group whose count has reached a lowered threshold meets the trigger (log 32). -/
def State.writeRowThresh (s : State) (v : Nat) : Wr :=
  ((reachedBy s.rowCe (max 1 (s.obj Obj.ROW_CE_THRESH)) (max 1 v)).foldl State.markGroup (s.setObj Obj.ROW_CE_THRESH v)).ok

/-- A write of LANE_CE_THRESH (R215): a lane whose count has reached a lowered threshold goes pending (log 32). -/
def State.writeLaneThresh (s : State) (v : Nat) : Wr :=
  ((reachedBy s.laneCe (s.obj Obj.LANE_CE_THRESH) v).foldl State.lanePend (s.setObj Obj.LANE_CE_THRESH v)).ok

/-- A write of HBM_RATE (R209): in force from the next start-up. -/
def State.writeHbmRate (s : State) (v : Nat) : Wr := if 1 < v then s.no 0x0809 else (s.setObj Obj.HBM_RATE v).ok

/-- A write of CBW_MAP_BASE0 or CBW_MAP_BASE1 (R227): 64 KiB aligned, and none while marks are checked. -/
def State.writeMapBase (s : State) (key v : Nat) : Wr :=
  if v % 65536 ≠ 0 ∨ 0xC000000000 ≤ v then s.no 0x0809
  else if s.obj Obj.CBW_ACTIVE = 1 then s.no 0x0805
  else (s.setObj key v).ok

/-! ### Refresh (R220–R222) -/

/-- The banks of the module and the stack of each. -/
def hbmBanks : Nat := 12 * 32 * 32
def stackOfBank (b : Nat) : Nat := b / 1024

/-- The bound of Table 8-2 on a class's blocking, in ns, at the rate in force. -/
def blockBound (cls rate : Nat) : Nat :=
  match cls with
  | 0 => if rate = 0 then 420 else 430
  | 1 => if rate = 0 then 500 else 530
  | 2 => if rate = 0 then 4500 else 4600
  | _ => if rate = 0 then 440 else 460

/-- A blocking that a stack records (R224): the largest of its class, and an entry in the log for one beyond the bound, less the 4 µs
that a remap may add (R218). -/
def State.blocked (stack : Nat) (s : State) (b : Blocking) : State :=
  if 4 ≤ b.cls then s
  else
    let s := s.setObj (Obj.MAX_BLOCK stack b.cls) (max (s.obj (Obj.MAX_BLOCK stack b.cls)) (min (2 ^ 32 - 1) b.ns))
    if blockBound b.cls (s.obj Obj.HBM_RATE_ACTIVE) < b.ns - (if b.remap then 4000 else 0) then
      s.logEvent .hbmBlocked 0 (srcCode 2 stack) 0xFFFF (b.ns + b.cls * 2 ^ 32)
    else s

/-- A stack's upkeep. -/
def State.stack (s : State) (n : Nat) : StackUnit := Sparse.get (fun _ => StackUnit.reset) s.stackUnits n

/-- The state with a stack's upkeep set. -/
def State.setStack (s : State) (n : Nat) (u : StackUnit) : State :=
  { s with stackUnits := Sparse.set (fun _ => StackUnit.reset) s.stackUnits n u }

/-- A bank's rolling activation count (R222). -/
def State.actsOf (s : State) (bank : Nat) : Nat := Sparse.get (fun _ => 0) (s.stack (stackOfBank bank)).acts bank

/-- The state with a bank's rolling activation count set. -/
def State.setActs (s : State) (bank n : Nat) : State :=
  let u := s.stack (stackOfBank bank)
  s.setStack (stackOfBank bank) { u with acts := Sparse.set (fun _ => 0) u.acts bank n }

/-- A bank's count with the activates of an upkeep command added: at the maximum management threshold the controller holds further
ones until the bank has been managed (R222). -/
def State.activated (s : State) (bank n : Nat) : Nat := min (max Config.rfmMax (s.actsOf bank)) (s.actsOf bank + n)

/-- REFRESH (R220, R221): a bank's refresh falls due. While P0 or P1 requests wait for the bank it is postponed, four times at
most; a refresh on an idle bank makes up for those postponed, and lowers the bank's activation count (R222, log 45). With it come the
blockings that the bank's stack has measured since the last (R224, log 46). -/
def doRefresh (u : Upkeep) (busy : Bool) (s : State) : Out :=
  if hbmBanks ≤ u.bank then .next s
  else
    let s := u.blocked.foldl (State.blocked (stackOfBank u.bank)) s
    let n := Sparse.get (fun _ => 0) s.postponed u.bank
    let n' := if busy then min 4 (n + 1) else 0
    let a := s.activated u.bank u.acts
    .next ({ s with postponed := Sparse.set (fun _ => 0) s.postponed u.bank n' }.setActs u.bank (if busy ∧ n < 4 then a else a - Config.rfmRefresh))

/-- REFRESH_MANAGEMENT (R222): a bank whose activation count has reached the initial management threshold gets a refresh-management
command, which is counted and lowers the count by that threshold (log 45). -/
def doRefreshManagement (u : Upkeep) (s : State) : Out :=
  if hbmBanks ≤ u.bank then .next s
  else
    let s := u.blocked.foldl (State.blocked (stackOfBank u.bank)) s
    let a := s.activated u.bank u.acts
    if a < Config.rfmInitial then .next (s.setActs u.bank a)
    else .next ((s.setActs u.bank (a - Config.rfmInitial)).count 64 (Obj.RFM_COUNT (stackOfBank u.bank)) 1)

/-! ### Row remap (R216–R219) -/

/-- The bursts of a row group that hold an error. -/
def State.groupErrors (s : State) (g : Nat) : List Nat :=
  (s.errs.filter (fun e => decide (e.1 * 32 < 0xC000000000) && (decodeHbm (e.1 * 32)).group == g)).map (·.1)

/-- A row group is copied into a held-back group of its bank, and the table entry switched (R218): the copy reads it at class P3, what
the code can correct is corrected, and an uncorrectable burst keeps its error (R508). -/
def State.remapGroup (s : State) (g : Nat) : State :=
  if s.remapsOf (bankOfGroup g) < 64 then
    let bad := s.groupErrors g
    let s := bad.foldl (fun t u => t.noteError 3 u) s
    let s := { s with
      marked := s.marked.filter (fun x => x != g), remaps := s.remaps ++ [g]
      errs := s.errs.filter (fun e => !(bad.contains e.1 && (match e.2 with | .correctable _ => true | _ => false))) }
    ((s.count 32 (Obj.REMAPS_USED (stackOfGroup g)) 1).stackHealth (stackOfGroup g) 4).flashWrite
  else s

/-- The remaps of a step commit (R217). -/
def State.remapMarked (s : State) : State := s.marked.foldl State.remapGroup s

/-- ROW_REMAP (R217, R218): a group that waits is remapped at once while no job runs; the entry of a commit remaps all that wait. -/
def doRowRemap (group : Nat) (s : State) : Out :=
  if hbmBanks * 4096 ≤ group then .next s
  else if s.obj Obj.STEP_STATE = 0 ∧ group ∈ s.marked then .next (s.remapGroup group) else .next s

/-! ### Stack temperatures (R220, R225, R226) -/

/-- The refresh rate that a temperature asks for (R220). -/
def State.refreshRate (s : State) (n : Nat) (t : Int) : State :=
  let u := s.stack n
  if 850 < t then (s.setStack n { u with coolAt := none }).setObj (Obj.REFRESH_X2 n) 1
  else if s.obj (Obj.REFRESH_X2 n) = 1 then
    let c := heldSince u.coolAt s.now (decide (t ≤ 820))
    if heldFor c s.now 10000000 then (s.setStack n { u with coolAt := none }).setObj (Obj.REFRESH_X2 n) 0
    else s.setStack n { u with coolAt := c }
  else s

/-- A stack's two sensor paths read (R225): the higher valid reading, or 97 °C once none has been valid for 1 ms. -/
def State.readStack (s : State) (n : Nat) (r : Option Int × Option Int) : State :=
  match hottest (r.1.toList ++ r.2.toList) with
  | some t => ((s.setStack n { s.stack n with seenAt := s.now }).setObj (Obj.STACK_TEMP n) (ofSigned 32 t)).refreshRate n t
  | none =>
    if (s.stack n).seenAt + 1000000 ≤ s.now then
      ((s.setObj (Obj.STACK_TEMP n) 970).stackHealth n 0x40).refreshRate n 970
    else s

/-- The hottest stack of a die. -/
def State.hottestStack (s : State) (die : Nat) : Int :=
  (List.range 6).foldl (fun m i => max m (toSigned 32 (s.obj (Obj.STACK_TEMP (6 * die + i))))) (toSigned 32 (s.obj (Obj.STACK_TEMP (6 * die))))

/-- STACK_TEMP_READ (R220, R225, R226, R440). -/
def doStackTempRead (readings : List (Option Int × Option Int)) (s : State) : Out :=
  let s := ((readings.take 12).zipIdx).foldl (fun t r => t.readStack r.2 r.1) s
  let die (s : State) (d : Nat) : State := s.tempRequest d 6 stackRows (s.hottestStack d)
  let s := die (die s 0) 1
  .next (if 1000 ≤ max (s.hottestStack 0) (s.hottestStack 1) then s.post (.selfFence 0x6C01) else s)

/-! ### Sextant (R231–R233) -/

/-- The channels of a target, as stack × 16 + channel, ascending. -/
def sextantChannels (target : Nat) : List Nat := if bit target 8 then List.range 192 else [bits target 3 0 * 16 + bits target 7 4]

/-- The stacks of a target. -/
def sextantStacks (target : Nat) : List Nat := if bit target 8 then List.range 12 else [bits target 3 0]

/-- The state of every target stack set. -/
def State.setStacks (s : State) (target v : Nat) : State := (sextantStacks target).foldl (fun t n => t.setObj (Obj.STACK_STATE n) v) s

/-- SXT_CTRL = 1 (R231). -/
def State.sextantRun (s : State) : Wr :=
  if !s.noSliceHoldsCores ∨ s.sextant.isSome then s.no 0x0805
  else
    let target := s.obj Obj.SXT_TARGET
    let x : Sextant := { target, axis := s.obj Obj.SXT_AXIS, full := s.obj Obj.SXT_MODE == 1, since := s.now }
    (({ s with sextant := some x }.setStacks target 3).setObj Obj.SXT_STATE 1).ok

/-- SXT_CTRL = 2 (R233): the run is aborted, and writes that waited go on (R231). -/
def State.sextantAbort (s : State) : Wr :=
  match s.sextant with
  | some x => (({ s with sextant := none }.setStacks x.target 2).setObj Obj.SXT_STATE 3).releaseHeld.ok
  | none => s.no 0x0805

/-- A write of SXT_CTRL. -/
def State.writeSxtCtrl (s : State) (v : Nat) : Wr :=
  if v = 1 then s.sextantRun else if v = 2 then s.sextantAbort else s.no 0x0809

/-- A write of the Sextant's settings (Table 8-5): twelve stacks, four axes, two modes. -/
def State.writeSxtSetting (s : State) (key v : Nat) : Wr :=
  if (key = Obj.SXT_AXIS ∧ 3 < v) ∨ (key = Obj.SXT_MODE ∧ 1 < v) ∨ (key = Obj.SXT_TARGET ∧ !bit v 8 ∧ 12 ≤ bits v 3 0) then s.no 0x0809
  else (s.setObj key v).ok

/-- Whether SXT_AXIS asks for the timing sweep, the reference sweep, or the supply steps (Table 8-5). -/
def sweepsTiming (axis : Nat) : Bool := axis == 0 || axis == 3
def sweepsReference (axis : Nat) : Bool := axis == 1 || axis == 3
def stepsSupply (axis : Nat) : Bool := axis == 2 || axis == 3

/-- Whether a lane passes R233 on the axes measured: each timing side, each reference side of at least 4 % in 0.5 % steps, and in the
full form each side of the sweeps at the two supply steps. -/
def marginPasses (m : LaneMargin) (full : Bool) (axis minUi : Nat) : Bool :=
  (!sweepsTiming axis || (decide (minUi ≤ m.left) && decide (minUi ≤ m.right))) &&
    (!sweepsReference axis || (decide (8 ≤ m.vlow) && decide (8 ≤ m.vhigh))) &&
    (!(full && stepsSupply axis) ||
      [m.lowLeft, m.lowRight, m.highLeft, m.highRight].all (fun x => decide (minUi ≤ x)))

/-- A lane that did not appear in the run's measurements has no margin. -/
def marginOf (l : List LaneMargin) (ch lane : Nat) : LaneMargin :=
  (l.find? (fun m => m.stack * 16 + m.channel == ch && m.lane == lane)).getD
    { stack := ch / 16, channel := ch % 16, lane, left := 0, right := 0, vlow := 0, vhigh := 0, lowLeft := 0, lowRight := 0
      highLeft := 0, highRight := 0 }

/-- The record of a channel (Table 8-4), 280 B. The fields of a sweep that the run did not make hold what nothing constrains: `open_`
are the bits that they take (log 43). -/
def channelRecord (l : List LaneMargin) (open_ ch rate : Nat) (full : Bool) (axis minUi : Nat) : List Byte :=
  let ms := (List.range 68).map (marginOf l ch)
  let failed := (ms.filter (fun m => !marginPasses m full axis minUi)).length
  let word (m : LaneMargin) : Nat :=
    let u := open_ / 2 ^ (32 * (68 * ch + m.lane))
    (if sweepsTiming axis then m.left % 256 + m.right % 256 * 2 ^ 8 else bits u 15 0) +
      (if sweepsReference axis then m.vlow % 256 + m.vhigh % 256 * 2 ^ 8 else bits u 31 16) * 2 ^ 16
  leBytes 8 (ch / 16 + ch % 16 * 2 ^ 4 + rate * 2 ^ 8 + failed * 2 ^ 16) ++ (ms.map (fun m => leBytes 4 (word m))).flatten

/-- Lanes that fail R233 go pending (R215). -/
def State.pendFailing (s : State) (full : Bool) (axis : Nat) (l : List LaneMargin) : State :=
  (l.filter (fun m => !marginPasses m full axis (s.obj Obj.SXT_MIN_UI) && decide (m.stack < 12) && decide (m.channel < 16) && decide (m.lane < 68))).foldl
    (fun t m => t.lanePend ((m.stack * 16 + m.channel) * 68 + m.lane)) s

/-- SXT_DONE (R232, R233): the run ends, SXT_RESULT is written, failing lanes go pending, and writes that waited go on (R231). -/
def doSxtDone (margins : List LaneMargin) (s : State) : Out :=
  match s.sextant with
  | none => .next s
  | some x =>
    let chs := sextantChannels x.target
    let l := (chs.map (fun ch => (List.range 68).map (marginOf margins ch))).flatten
    let rate := s.obj Obj.HBM_RATE_ACTIVE
    let open_ := if x.axis = 3 then 0 else Config.freeNat s.free
    let rec_ := (chs.map (fun ch => channelRecord margins open_ ch rate x.full x.axis (s.obj Obj.SXT_MIN_UI))).flatten
    let s := ({ s with sextant := none, free := s.free + 1 }.setStacks x.target 2).setObjs [(Obj.SXT_STATE, 2), (Obj.SXT_RESULT, leNat rec_)]
    .next (s.pendFailing x.full x.axis l).releaseHeld

/-- DOMAIN_POWER_GOOD with the short Sextant run that a stack's wake from off includes (R233, Table 16-2): lanes that fail go pending. -/
def doPowerGood (g : PowerGood) (s : State) : Out :=
  let stack := g.domain - 52
  let runs := decide (52 ≤ g.domain) && decide (g.domain < 64) && s.obj (Obj.STACK_STATE stack) == 0 &&
    s.power.waking.any (fun w => w.1 == g.domain)
  match doDomainPowerGood g.domain s with
  | .next t => .next (if runs then t.pendFailing false 3 (g.margins.filter (fun m => m.stack == stack)) else t)
  | o => o

end Sys2Proof.Machine
end

