-- ==== Sys2Proof/Machine/Collectives.lean ====
section
/-! DEFINITION. Collectives (11): contexts and their descriptors (R303–R309), data paths (R310–R313), frames (R314, R315), reduction
(R316–R319), deadlines and late contributions (R320–R322), absent members (R323, R324). -/

namespace Sys2Proof.Machine

/-! ### Descriptors (Table 11-2) -/

def Ctx.op (c : Ctx) : Nat := bits c.desc 3 0
def Ctx.cver (c : Ctx) : Nat := bits c.desc 7 4
def Ctx.cfmt (c : Ctx) : Nat := bits c.desc 11 8
def Ctx.rfmt (c : Ctx) : Nat := bits c.desc 15 12
def Ctx.comp (c : Ctx) : Nat := bits c.desc 17 16
def Ctx.drops (c : Ctx) : Bool := bit c.desc 18
def Ctx.dlEn (c : Ctx) : Bool := bit c.desc 20
def Ctx.dlAbs (c : Ctx) : Bool := bit c.desc 21
def Ctx.doneEn (c : Ctx) : Bool := bit c.desc 22
def Ctx.goEn (c : Ctx) : Bool := bit c.desc 23
def Ctx.rearm (c : Ctx) : Bool := bit c.desc 24
def Ctx.resEn (c : Ctx) : Bool := bit c.desc 25
def Ctx.doneWp (c : Ctx) : Nat := bits c.desc 45 32
def Ctx.goWp (c : Ctx) : Nat := bits c.desc 61 48
def Ctx.goThresh (c : Ctx) : Nat := bits c.desc 127 64
def Ctx.goStep (c : Ctx) : Nat := bits c.desc 143 128
def Ctx.k (c : Ctx) : Nat := bits c.desc 152 144 + 1
def Ctx.members_ (c : Ctx) : Nat := bits c.desc 171 160 + 1
def Ctx.rank (c : Ctx) : Nat := bits c.desc 187 176
def Ctx.count (c : Ctx) : Nat := bits c.desc 231 192
def Ctx.root (c : Ctx) : Nat := bits c.desc 243 232
def Ctx.src (c : Ctx) : Nat := bits c.desc 295 256
def Ctx.dst (c : Ctx) : Nat := bits c.desc 359 320
def Ctx.memb (c : Ctx) : Nat := bits c.desc 423 384
def Ctx.res (c : Ctx) : Nat := bits c.desc 487 448
def Ctx.stage (c : Ctx) : Nat := bits c.desc 551 512
def Ctx.stageLen (c : Ctx) : Nat := bits c.desc 607 576
def Ctx.deadline (c : Ctx) : Nat := bits c.desc 703 640
def Ctx.fanBase (c : Ctx) : Nat := bits c.desc 715 704
def Ctx.ctx (c : Ctx) : Nat := bits c.desc 726 720
def Ctx.src2 (c : Ctx) : Nat := bits c.desc 807 768

/-- The reserved bits of Table 11-2. -/
def Ctx.reserved (c : Ctx) : Nat :=
  bits c.desc 19 19 + bits c.desc 31 26 + bits c.desc 47 46 + bits c.desc 63 62 + bits c.desc 159 153 + bits c.desc 175 172 +
    bits c.desc 191 188 + bits c.desc 255 244 + bits c.desc 319 296 + bits c.desc 383 360 + bits c.desc 447 424 +
    bits c.desc 511 488 + bits c.desc 575 552 + bits c.desc 639 608 + bits c.desc 719 716 + bits c.desc 767 727 + bits c.desc 1023 808

/-- Whether the op has a reducing role (Table 11-3). -/
def Ctx.reduces (c : Ctx) : Bool := c.op == 0 || c.op == 2

/-- The formats of contributions and of DST. -/
def Ctx.cF (c : Ctx) : Fmt := .ofCode c.cfmt
def Ctx.dF (c : Ctx) : Fmt := .ofCode (if c.reduces then c.rfmt else c.cfmt)

/-- Elements of SRC's tensor. -/
def Ctx.srcElems (c : Ctx) : Nat := if c.reduces || c.op == 4 then c.members_ * c.count else c.count

/-- Bytes of SRC and of SRC2 (R318). -/
def Ctx.srcLen (c : Ctx) : Nat :=
  match c.comp with
  | 1 => c.srcElems / 4096 * c.cF.bytesFor c.k
  | 2 => c.srcElems / 4096 * 512
  | _ => c.cF.bytesFor c.srcElems
def Ctx.src2Len (c : Ctx) : Nat :=
  match c.comp with
  | 1 => c.srcElems / 4096 * (2 * c.k)
  | 2 => c.cF.bytesFor (c.srcElems / 4096)
  | _ => 0

/-- Bytes of DST. -/
def Ctx.dstLen (c : Ctx) : Nat :=
  match c.op with
  | 0 | 3 => c.dF.bytesFor c.count
  | _ => c.dF.bytesFor (c.members_ * c.count)

/-! ### Contexts -/

/-- A context. -/
def State.ctx (s : State) (n : Nat) : Ctx := Sparse.get (fun _ => Ctx.idle) s.ctxs n

/-- The state with a context set. -/
def State.setCtx (s : State) (n : Nat) (c : Ctx) : State := { s with ctxs := Sparse.set (fun _ => Ctx.idle) s.ctxs n c }

/-- CTX_STATE (Table 11-1). -/
def State.ctxState (s : State) (n : Nat) : Nat := s.obj (Obj.CTX_STATE n)
def State.setCtxState (s : State) (n v : Nat) : State := s.setObj (Obj.CTX_STATE n) v

/-- The owning slice and the instance of a context. -/
def State.ctxSlice (s : State) (n : Nat) : Nat := s.obj (Obj.CTX_SLICE n)
def State.ctxInst (s : State) (n : Nat) : Nat := s.obj (Obj.CTX_INSTANCE n)

/-- What a context knows of a rank. -/
def Ctx.member (c : Ctx) (r : Nat) : CtxMember := c.members.getD r .fresh

/-- What a context knows of a rank, changed. -/
def State.setMember (s : State) (n r : Nat) (f : CtxMember → CtxMember) : State :=
  let c := s.ctx n
  s.setCtx n { c with members := c.members.set r (f (c.member r)) }

/-- A Waypoint operation of a context. -/
def State.ctxWp (s : State) (n wp : Nat) (k : WpKind) : State := s.post (.wp { asker := .unit, slice := s.ctxSlice n, wp, kind := k })

/-- AUX of a context's frames (R314). -/
def State.ctxAux (s : State) (n : Nat) : Nat := (s.ctx n).rank + n * 2 ^ 12 + s.ctxInst n % 2 ^ 13 * 2 ^ 19

/-- The cores whose kind-7 layers wait for a context (R306). -/
def State.ctxWaiters (s : State) (n : Nat) : List Nat :=
  (List.range 104).filter (fun k => match (s.core k).layer with | .ctxWait m _ => m == n | _ => false)

/-- The frames of a context that wait in their flows, removed where `p` holds; with what was removed. -/
def State.dropQueued (s : State) (n : Nat) (p : Frame → Bool) : List Frame × State :=
  let hit (x : Frame × OpRef × Option Nat) : Bool := x.2.1 == .ctx n && p x.1
  (((s.txFlows.map (fun x => (x.queued.filter hit).map (·.1))).flatten),
    { s with txFlows := s.txFlows.map (fun x => { x with queued := x.queued.filter (fun y => !hit y) }) })

/-- Whether frames of a context are unacknowledged or still to be sent (R312). -/
def State.ctxSending (s : State) (n : Nat) : Bool :=
  s.txFlows.any (fun x => x.unacked.any (fun y => y.op == .ctx n) || x.queued.any (fun y => y.2.1 == .ctx n))

/-- What a context has sent reports to it no longer. -/
def State.disown (s : State) (n : Nat) : State :=
  { s with txFlows := s.txFlows.map (fun x => { x with unacked := x.unacked.map (fun y => if y.op = .ctx n then { y with op := .none } else y) }) }

/-- A context goes IDLE; layers that wait for it are tried again (R306). -/
def State.ctxIdle (s : State) (n : Nat) : State :=
  let s := (s.dropQueued n (fun _ => true)).2.disown n
  let s := ((s.setCtx n .idle).setCtxState n 0).setObj (Obj.CTX_SLICE n) 0xFFFF
  (s.ctxWaiters n).foldl (fun t k => t.post (.layer k)) s

/-- A context abandoned with no completion (R307, R343). -/
def State.ctxAbandon (s : State) (n : Nat) : State := if s.ctxState n = 0 then s else s.ctxIdle n

/-- The layer that issued a context hears its end (R180, R307). -/
def State.ctxLayerEnd (s : State) (n code : Nat) : State :=
  match (s.ctx n).layer with
  | some k => if (s.core k).layer = .collective n then s.setLayer k (.worked code) else s
  | none => s

/-- PRESENT, LATE and ABSENT of a context's members (R311). -/
def Ctx.count3 (c : Ctx) : Nat × Nat × Nat :=
  ((c.members.filter (fun m => !m.late && !m.absent)).length, (c.members.filter (·.late)).length, (c.members.filter (·.absent)).length)

/-- CTX_LAST, with the counts of the close; a context without a reducing role counts at its completion. -/
def State.ctxRecord (s : State) (n missing code : Nat) : State :=
  let c := s.ctx n
  let t := c.tally.getD c.count3
  s.setObj (Obj.CTX_LAST n) (s.chr + t.1 % 2 ^ 16 * 2 ^ 64 + t.2.1 * 2 ^ 80 + t.2.2 * 2 ^ 96 + missing * 2 ^ 112 +
    s.ctxInst n * 2 ^ 128 + code * 2 ^ 160)

/-- A context enters ERROR (R309): DONE_WP gets an error completion, and the step of its slice cannot be checked (R340). -/
def State.ctxError (s : State) (n code : Nat) : State :=
  let s := (s.dropQueued n (fun _ => true)).2.disown n
  let s := ((s.setCtxState n 5).ctxRecord n 0 code).ctxLayerEnd n code
  let s := s.ctxWp n (s.ctx n).doneWp (.error code)
  if s.ctxSlice n = s.obj Obj.STEP_SLICE then s.post (.stepFail 3 code) else s

/-! ### Arming (R306, R309) -/

/-- The checks of R309 but for ranges. -/
def State.ctxFields (s : State) (n : Nat) (c : Ctx) : Bool :=
  let fmt (x : Nat) : Bool := x == 0 || x == 2
  c.cver == 1 && decide (c.op ≤ 4) && decide (c.comp ≤ 2) && c.reserved == 0 && c.ctx == n &&
    decide (2 ≤ c.members_) && (!c.reduces || (fmt c.cfmt && fmt c.rfmt)) &&
    (c.reduces || (c.cfmt != 0xF && c.comp == 0 && (c.count * c.cF.storeBits) % 64 == 0)) &&
    (c.comp == 0 || (c.reduces && c.count % 4096 == 0)) &&
    (!c.dlEn || (c.reduces && (c.drops || c.resEn))) && decide (c.rank < c.members_) &&
    (c.op == 0 || c.op == 4 || decide (c.fanBase + c.members_ - 1 ≤ 4095)) && (!c.reduces || decide (8 * c.count ≤ c.stageLen)) &&
    s.selfId != 0xFFFF

/-- The ranges that programs leave alone while a context runs (R313): SRC, SRC2, RES and STAGE. -/
def Ctx.guarded (c : Ctx) : List (Nat × Nat) :=
  [(c.src, c.srcLen), (c.src2, c.src2Len), (c.res, if c.resEn then 4 * c.srcElems else 0), (c.stage, if c.reduces then c.stageLen else 0)]

/-- The ranges that a context reads and writes (R309). -/
def Ctx.ranges (c : Ctx) : List (Nat × Nat) := (c.dst, c.dstLen) :: (c.memb, 2 * c.members_) :: c.guarded

/-- Whether a descriptor's fields pass and every range of it may be read. -/
def State.ctxReadable (s : State) (n slice : Nat) (c : Ctx) : Bool :=
  s.ctxFields n c && c.ranges.all (fun r => s.checkRange slice r.1 r.2 == 0)

/-- The code of R309 for a descriptor, 0 if it passes. -/
def State.ctxCode (s : State) (n slice : Nat) (c : Ctx) : Nat :=
  if !s.ctxFields n c then 0x0809
  else
    let codes := c.ranges.map (fun r => s.checkRange slice r.1 r.2)
    if codes.contains 0x0801 then 0x0801
    else if codes.contains 0x0802 then 0x0802
    else if leNat (s.bytes (s.home (c.memb + 2 * c.rank)) 2) ≠ s.selfId then 0x0809
    else 0

/-- A write by a context's engine. The Wake's entries are read-only to the module's own units (R348): a write into one is refused and
has no effect, and the context goes on (log 53). -/
def State.ctxWrite (s : State) (n a : Nat) (l : List Byte) : State :=
  if s.wakeReadOnly a l.length then s.count 32 Obj.WAKE_REFUSALS 1 else s.write (.ctx n) a l

/-- Bytes as a context's writer finds them: what it has written itself counts, even where a write waits for a page copy. -/
def State.ctxBytes (s : State) (n a len : Nat) : List Byte :=
  s.overlay (.ctx n) (s.home a) (s.bytes (s.home a) len)

/-- Both halves of STAGE at +0 (R316). -/
def State.clearStage (s : State) (n : Nat) : State :=
  let c := s.ctx n
  if c.reduces then s.ctxWrite n c.stage (List.replicate (8 * c.count) 0#8) else s

/-- Whether the engine may read a context's GO_WP (R236). -/
def State.goReadable (s : State) (n : Nat) : Bool := s.wpCode (s.ctxSlice n) (s.ctx n).goWp == 0

/-- Arming (R306): the descriptor is copied and checked. A GO_WP that R236 refuses is no condition of R309: the refusal is logged, as
R507 lays down for a unit's own operations, and the context stays ARMED. -/
def State.ctxArm (s : State) (n addr slice : Nat) (layer : Option Nat) : State :=
  let s := s.noteRead 0 (s.home addr) 128
  let c : Ctx := { Ctx.idle with desc := leNat (s.bytes (s.home addr) 128), layer }
  let s := (s.setObj (Obj.CTX_SLICE n) slice).setObj (Obj.CTX_INSTANCE n) 0
  let code := s.ctxCode n slice c
  let s := if s.ctxReadable n slice c then s.noteRead 0 (s.home c.memb) (2 * c.members_) else s
  if code ≠ 0 then (s.setCtx n c).ctxError n code
  else
    let devs := (List.range c.members_).map (fun r => leNat (s.bytes (s.home (c.memb + 2 * r)) 2) % 2 ^ 14)
    let s := ((s.setCtx n { c with devs, members := List.replicate c.members_ .fresh }).setCtxState n 1).clearStage n
    let s :=
      if c.goEn && c.layer.isNone && !s.goReadable n then s.logWpRefusal .unit slice c.goWp (s.wpCode slice c.goWp) else s
    s.post (.context n)

/-- A write of CTX_ARM (R306): the slice that owns the descriptor's address arms. -/
def State.writeCtxArm (s : State) (n v : Nat) : Wr :=
  if s.ctxState n ≠ 0 then s.no 0x0805
  else if v % 128 ≠ 0 then s.no 0x0809
  else if 0xC000000000 ≤ v then s.no 0x0802
  else if s.ownerOf v = 0xFFFF then s.no 0x0801
  else (s.ctxArm n v (s.ownerOf v) none).ok

/-- A write of CTX_CTRL (R307, R325). -/
def State.writeCtxCtrl (s : State) (n v : Nat) : Wr :=
  if v ≠ 1 then s.no 0x0809
  else if s.ctxState n = 1 ∨ s.ctxState n = 5 then (s.ctxIdle n).ok
  else s.no 0x0805

/-- A kind-7 layer whose waits are over (R180, R306): it arms the context that its descriptor names, or waits for it as R170 waits. -/
def State.collectiveLayer (s : State) (core : Nat) : State :=
  let s := s.setCoreSt core .running
  let a := bits (s.lyr core 8) 39 0
  let slice := s.sliceOfCore core
  if 0xC000000000 ≤ a ∨ !s.rangeMapped a 128 then s.setLayer core (.worked 0x0802)
  else if slice = 0xFFFF ∨ !s.rangeOwned slice a 128 then s.outOfSlice core 0xFF a
  else if a % 128 ≠ 0 then s.setLayer core (.worked 0x0809)
  else
    let n := (Ctx.ctx { Ctx.idle with desc := leNat (s.bytes a 128) })
    if s.ctxState n ≠ 0 then (s.setLayer core (.ctxWait n a)).setCoreSt core .waiting
    else (s.setLayer core (.collective n)).ctxArm n a slice (some core)

/-! ### Contributions as values (R316, R318, R319) -/

/-- The bytes of one record of a compressed tensor (Table 11-5), by block of the tensor. -/
def State.ctxRecordBytes (s : State) (n block : Nat) : List Byte :=
  let c := s.ctx n
  match c.comp with
  | 1 => s.bytes (s.home c.src + block * c.cF.bytesFor c.k) (c.cF.bytesFor c.k) ++ s.bytes (s.home c.src2 + block * (2 * c.k)) (2 * c.k)
  | _ => s.bytes (s.home c.src + block * 512) 512 ++ s.bytes (s.home c.src2 + block * c.cF.bytesFor 1) (c.cF.bytesFor 1)

/-- The bytes of a record. -/
def Ctx.recordLen (c : Ctx) : Nat := if c.comp = 1 then c.cF.bytesFor c.k + 2 * c.k else 512 + c.cF.bytesFor 1

/-- A record expanded (R319): elements within the block with the values to add, and how many bad indices it has. -/
def Ctx.expand (c : Ctx) (l : List Byte) : List (Nat × FVal) × Nat :=
  if c.comp = 1 then
    let vals := (c.cF.unpack c.k l).map c.cF.decode
    let idx := (List.range c.k).map (fun i => leNat (slice l (c.cF.bytesFor c.k + 2 * i) 2))
    let pairs := idx.zip vals
    (pairs.filter (fun p => decide (p.1 < 4096)), (idx.filter (fun i => decide (4096 ≤ i) && i != 0xFFFF)).length)
  else
    let scale := (c.cF.unpack 1 (l.drop 512)).head?.getD 0
    let v := c.cF.decode scale
    ((List.range 4096).map (fun e => (e, if bit (leNat (slice l (e / 8) 1)) (e % 8) then v.neg else v)), 0)

/-- The values of a payload, by element of the chunk, with its bad indices. -/
def Ctx.payloadValues (c : Ctx) (off : Nat) (l : List Byte) : List (Nat × FVal) × Nat :=
  if c.comp = 0 then
    let m := l.length * 8 / c.cF.storeBits
    (((c.cF.unpack m l).map c.cF.decode).zipIdx.map (fun (v, i) => (off + i, v)), 0)
  else
    let recs := (chunks c.recordLen (l.length / c.recordLen + 1) l).map c.expand
    (((recs.zipIdx).map (fun (r, b) => r.1.map (fun e => (off + 4096 * b + e.1, e.2)))).flatten, (recs.map (·.2)).sum)

/-- Elements that a payload covers. -/
def Ctx.payloadElems (c : Ctx) (l : List Byte) : Nat :=
  if c.comp = 0 then l.length * 8 / c.cF.storeBits else l.length / c.recordLen * 4096

/-- The elements that a frame carries (R310): as many as 4,096 B hold in whole bytes, so that a frame of 6-bit elements ends where the
next begins (log 54). -/
def Fmt.perFrame (f : Fmt) : Nat :=
  let unit := 8 / Nat.gcd 8 f.storeBits
  32768 / (f.storeBits * unit) * unit

/-- The payloads of a chunk of SRC with their element offsets and source addresses (R310, R318). -/
def State.chunkFrames (s : State) (n j : Nat) : List (Nat × List Byte × Option Nat) :=
  let c := s.ctx n
  if c.comp = 0 then
    let per := c.cF.perFrame
    let src := c.src + j * c.count * c.cF.storeBits / 8
    (List.range (ceilDiv c.count per)).map (fun i =>
      let m := min per (c.count - i * per)
      let a := src + i * per * c.cF.storeBits / 8
      (i * per, s.bytes (s.home a) (c.cF.bytesFor m), some a))
  else
    let per := 4096 / c.recordLen
    let blocks := c.count / 4096
    (List.range (ceilDiv blocks per)).map (fun i =>
      let m := min per (blocks - i * per)
      (i * per * 4096, ((List.range m).map (fun b => s.ctxRecordBytes n (j * blocks + i * per + b))).flatten, none))

/-- The values of elements [lo, hi) of a chunk of SRC, with the bad indices of their records. -/
def State.chunkValues (s : State) (n j lo hi : Nat) : List (Nat × FVal) × Nat :=
  let c := s.ctx n
  if c.comp = 0 then
    let a := c.src + j * c.count * c.cF.storeBits / 8 + lo * c.cF.storeBits / 8
    c.payloadValues lo (s.bytes (s.home a) (c.cF.bytesFor (hi - lo)))
  else
    let blocks := c.count / 4096
    let recs := (List.range (ceilDiv hi 4096 - lo / 4096)).map (fun i =>
      (lo / 4096 + i, c.expand (s.ctxRecordBytes n (j * blocks + (lo / 4096 + i)))))
    ((recs.map (fun r => r.2.1.map (fun e => (r.1 * 4096 + e.1, e.2)))).flatten.filter (fun e => decide (lo ≤ e.1) && decide (e.1 < hi)),
      (recs.map (fun r => r.2.2)).sum)

/-- A value added to an FP32 word in memory by the engine (R316). -/
def State.addWord (n base : Nat) (s : State) (e : Nat × FVal) : State :=
  let a := base + 4 * e.1
  let old := val32 (leNat (s.ctxBytes n a 4))
  s.ctxWrite n a (leBytes 4 (code32 (round32 (old.add e.2)).1))

/-- The STAGE half of an instance (R315). -/
def Ctx.half (c : Ctx) (inst : Nat) : Nat := c.stage + inst % 2 * (4 * c.count)

/-- Values added into FP32 words from an address on: the additions and the bad indices are counted (R316, R319). -/
def State.addValues (s : State) (n base : Nat) (v : List (Nat × FVal) × Nat) : State :=
  ((v.1.foldl (State.addWord n base) s).count 64 Obj.RED_ELEMENTS v.1.length).count 32 Obj.BAD_INDEX v.2

/-- A payload accepted into an instance's half. -/
def State.accumulate (s : State) (n inst : Nat) (v : List (Nat × FVal) × Nat) : State := s.addValues n ((s.ctx n).half inst) v

/-! ### GO (R307, R310) -/

/-- A frame of a context. -/
def State.ctxSend (s : State) (n : Nat) (src : Option Nat) (f : Frame) : State := s.inject (.ctx n) src { f with slice := s.ctxSlice n % 2 ^ 12 }

/-- A chunk sent as CONTRIB or as unicast RESULT (opcode), its elements numbered from `base`. -/
def State.sendChunk (s : State) (n op j base dev : Nat) : State :=
  (s.chunkFrames n j).foldl (fun t (off, l, src) => t.ctxSend n src (unitFrame op 1 dev 0 (t.ctxAux n) (base + off) l)) s

/-- Elements in memory sent as RESULT on this member's Fan, numbered from `base`. -/
def State.multicastResult (s : State) (n fan addr base : Nat) (f : Fmt) : State :=
  let c := s.ctx n
  let per := f.perFrame
  (List.range (ceilDiv c.count per)).foldl (fun t i =>
    let m := min per (c.count - i * per)
    let a := addr + i * per * f.storeBits / 8
    t.ctxSend n (some a) (fanFrame 0x11 1 fan 0 (t.ctxAux n) (base + i * per) (t.ctxBytes n a (f.bytesFor m)))) s

/-- The own chunk copied from SRC into DST (OP 1 and 4). -/
def State.copyOwn (s : State) (n srcOff : Nat) : State :=
  let c := s.ctx n
  let len := c.cF.bytesFor c.count
  (s.ctxWrite n (c.dst + c.rank * c.count * c.cF.storeBits / 8) (s.bytes (s.home (c.src + srcOff)) len)).setMember n c.rank
    (fun m => { m with res := c.count })

/-- Elements of [lo, hi) that no range of a list covers, as ranges. -/
def uncovered (lo hi : Nat) : List (Nat × Nat) → List (Nat × Nat)
  | [] => if lo < hi then [(lo, hi)] else []
  | (a, b) :: r => (uncovered lo (min hi a) r) ++ (uncovered (max lo b) hi r)

/-- The reads of elements [lo, hi) of a chunk of SRC meet the stored errors there (R191, R212): the elements, or the records that hold
them. -/
def State.noteChunk (s : State) (n j lo hi : Nat) : State :=
  let c := s.ctx n
  let b := j * (c.count / 4096) + lo / 4096
  let m := ceilDiv hi 4096 - lo / 4096
  match c.comp with
  | 0 => s.noteRead 1 (s.home (c.src + j * c.count * c.cF.storeBits / 8 + lo * c.cF.storeBits / 8)) (c.cF.bytesFor (hi - lo))
  | 1 => s.noteSpans 1 [(s.home (c.src + b * c.cF.bytesFor c.k), m * c.cF.bytesFor c.k), (s.home (c.src2 + b * (2 * c.k)), m * (2 * c.k))]
  | _ => s.noteSpans 1 [(s.home (c.src + b * 512), m * 512), (s.home (c.src2 + b * c.cF.bytesFor 1), m * c.cF.bytesFor 1)]

/-- Elements of a reducer's chunk folded into RES or dropped, each once (R321). -/
def State.foldRange (s : State) (n r lo hi : Nat) : State :=
  let c := s.ctx n
  let todo := uncovered lo hi (c.member r).folded
  let count := (todo.map (fun p => p.2 - p.1)).sum
  let s := s.setMember n r (fun m => { m with folded := m.folded ++ todo })
  if c.drops || !c.resEn then s.count 64 Obj.DROPPED_ELEMENTS count
  else
    let base := c.res + 4 * (r * c.count)
    (todo.foldl (fun t p => (t.noteChunk n r p.1 p.2).addValues n base (t.chunkValues n r p.1 p.2)) s).count 64 Obj.FOLDED_ELEMENTS count

/-- A contribution sent to a reducer, or folded where the reducer has declared this module late before GO (R310, R321). -/
def State.contribute (s : State) (n j : Nat) : State :=
  let c := s.ctx n
  match (c.member j).lateAt with
  | some upto => s.foldRange n j upto c.count
  | none => s.sendChunk n 0x10 j 0 (c.devs.getD j 0)

/-- GO: the context stamps T_GO and plays its sending role (Table 11-3). -/
def State.ctxGo (s : State) (n : Nat) : State :=
  let guard := (s.ctx n).guarded.map (fun g => (s.home g.1, g.2))
  let s := (s.setCtx n { s.ctx n with tGo := s.chr, closed := false, guard }).setCtxState n 2
  let c := s.ctx n
  let s := s.noteSpans 1 [(s.home c.src, c.srcLen), (s.home c.src2, c.src2Len)]
  let others := (List.range c.members_).filter (fun j => j != c.rank)
  match c.op with
  | 0 | 2 =>
    let s := s.accumulate n (s.ctxInst n) (s.chunkValues n c.rank 0 c.count)
    let s := s.setMember n c.rank (fun m => { m with got := c.count })
    others.foldl (fun t j => t.contribute n j) s
  | 1 => (s.copyOwn n 0).multicastResult n (c.fanBase + c.rank) c.src (c.rank * c.count) c.cF
  | 3 =>
    if c.rank = c.root then (s.setMember n c.root (fun m => { m with res := c.count })).multicastResult n (c.fanBase + c.root) c.src 0 c.cF
    else s
  | _ =>
    let s := s.copyOwn n (c.rank * c.count * c.cF.storeBits / 8)
    others.foldl (fun t j => t.sendChunk n 0x11 j (c.rank * c.count) (c.devs.getD j 0)) s

/-! ### Close and completion (R311, R312, R324) -/

/-- The undefined result of a context whose ranges a program has written (R313): free bytes at free places of its slice (R161). -/
def State.ctxUndefined (s : State) (n : Nat) : State :=
  if (s.ctx n).blurred then
    let (k, s) := s.fresh
    (Config.undefWrites k).foldl (undefWrite (s.ctxSlice n)) s
  else s

/-- The close of the reducing role (R311): the accumulators become DST's chunk, the half is cleared, and the record's counts are
raised. -/
def State.ctxClose (s : State) (n : Nat) : State :=
  let c := s.ctx n
  let half := c.half (s.ctxInst n)
  let s := s.noteRead 1 (s.home half) (4 * c.count)
  let codes := (List.range c.count).map (fun e => (c.dF.convert .rne false true (val32 (leNat (s.ctxBytes n (half + 4 * e) 4)))).1)
  let at_ := c.dst + (if c.op = 2 then c.rank * c.count * c.dF.storeBits / 8 else 0)
  let s := s.ctxWrite n at_ (leBytes (c.dF.bytesFor c.count) (packElems c.dF.storeBits codes))
  let s := (s.ctxWrite n half (List.replicate (4 * c.count) 0#8)).ctxUndefined n
  let s := ((s.setCtx n { s.ctx n with closed := true, tally := some (s.ctx n).count3 }).setMember n c.rank (fun m => { m with res := c.count })).setCtxState n 3
  if c.op = 2 then (s.noteRead 1 (s.home at_) (c.dF.bytesFor c.count)).multicastResult n (c.fanBase + c.rank) at_ (c.rank * c.count) c.dF else s

/-- The ranks whose result chunks a context waits for (Table 11-3). -/
def Ctx.awaits (c : Ctx) : List Nat :=
  match c.op with
  | 0 => []
  | 3 => if c.rank = c.root then [] else [c.root]
  | _ => (List.range c.members_).filter (fun r => r != c.rank)

/-- Result chunks that are missing at completion (R324): in a reduce-scatter and an all-reduce each absent member's, in the other ops
each that an absent member was to send, though its elements had come before it turned absent. -/
def Ctx.missing (c : Ctx) : Nat :=
  if c.op = 0 then (c.members.filter (·.absent)).length else (c.awaits.filter (fun r => (c.member r).absent)).length

/-- A member at the start of the next instance. -/
def CtxMember.next (m : CtxMember) : CtxMember := { CtxMember.fresh with got := m.gotNext, res := m.resNext, lateAt := m.lateNext }

/-- Completion (R312): CTX_LAST, the count, DONE_WP, the layer; the next instance or IDLE. -/
def State.ctxComplete (s : State) (n : Nat) : State :=
  let s := s.ctxUndefined n
  let c := s.ctx n
  let missing := c.missing
  let s := ((s.ctxRecord n missing 0).count 64 Obj.COLL_RUNS 1).count 32 Obj.MISSING_CHUNKS missing
  let s := if 0 < missing ∧ s.ctxSlice n = s.obj Obj.STEP_SLICE then s.post (.stepFail 3 0) else s
  let s := if c.doneEn then s.ctxWp n c.doneWp (.add 1) else s
  let s := s.ctxLayerEnd n 0
  if c.rearm then
    let s := (s.setCtx n { c with members := c.members.map CtxMember.next, closed := false, layer := none, tally := none, guard := [],
                                        blurred := false }).setCtxState n 1
    ((s.setObj (Obj.CTX_INSTANCE n) ((s.ctxInst n + 1) % 2 ^ 32)).post (.context n)).post .stepTest
  else (s.ctxIdle n).post .stepTest

/-- A context tests whether it goes, closes or completes (R307, R311, R312). A multicast lost with its path never completes, so neither
does the context (R281, R312). -/
def State.ctxTest (s : State) (n : Nat) : State :=
  let c := s.ctx n
  match s.ctxState n with
  | 1 =>
    if c.layer.isSome || !c.goEn || (s.goReadable n && decide (c.goThresh + s.ctxInst n * c.goStep ≤ (s.wp c.goWp).value)) then (s.ctxGo n).post (.context n) else s
  | 2 =>
    if !c.reduces then (s.setCtxState n 3).post (.context n)
    else if c.members.all (fun m => decide (c.count ≤ m.got) || m.late || m.absent) then (s.ctxClose n).post (.context n)
    else s
  | 3 =>
    if c.lostCast || s.ctxSending n || s.writeWaits (.ctx n) || s.posts.any (fun p => match p with | .failed (.ctx m) _ _ => m == n | _ => false) then s
    else if c.awaits.all (fun r => decide (c.count ≤ (c.member r).res) || (c.member r).absent) then s.ctxComplete n
    else s
  | _ => s

/-! ### Late and absent members (R320–R323) -/

/-- The frames of the present instance that a context still has to send to a device, taken back. -/
def State.takeBack (s : State) (n dev : Nat) : List Frame × State := s.dropQueued n (fun f => !f.mcast && f.dstDev == dev)

/-- A reducer takes no more of this module's contribution (R321): none of it is sent any further, and what was not sent folds; a LATE
that waits for the same device goes on. -/
def State.stopSending (s : State) (n r : Nat) : State :=
  let c := s.ctx n
  let (l, s) := s.dropQueued n (fun f => f.opcode == 0x10 && f.dstDev == c.devs.getD r 0)
  l.foldl (fun t f => t.foldRange n r f.addr (f.addr + c.payloadElems f.payload)) s

/-- The ranks of a device. -/
def Ctx.ranksOf (c : Ctx) (dev : Nat) : List Nat := (List.range c.members_).filter (fun r => c.devs.getD r 0x4000 == dev && r != c.rank)

/-- A frame that was never sent to an absent reducer, as its SEQ says: what it carried counts (R323). -/
def State.discardDue (n : Nat) (s : State) (f : Frame) : State :=
  if f.opcode = 0x10 ∧ f.seq = 0 then s.count 64 Obj.ABSENT_DISCARDS ((s.ctx n).payloadElems f.payload) else s

/-- A member is absent from the instance (R323): it receives nothing more, and what was due to it counts. -/
def State.markAbsent (s : State) (n dev : Nat) : State :=
  if s.ctxState n ≠ 2 ∧ s.ctxState n ≠ 3 then s
  else
    let c := s.ctx n
    (c.ranksOf dev).foldl (fun t r =>
      if ((t.ctx n).member r).absent then t
      else
        let (l, t) := t.takeBack n dev
        let t := (t.setMember n r (fun m => { m with absent := true })).count 32 Obj.ABSENT_MEMBERS 1
        (l.foldl (State.discardDue n) t).post (.context n)) s

/-- A frame of a context is refused (R309, R321, R323). -/
def State.ctxFailed (s : State) (n : Nat) (f : Frame) (code : Nat) : State :=
  let c := s.ctx n
  if s.ctxState n ≠ 2 ∧ s.ctxState n ≠ 3 then s
  else if f.aux / 2 ^ 19 ≠ s.ctxInst n % 2 ^ 13 then s
  else
    let s :=
      if code = 0x0806 then (s.markAbsent n f.dstDev).discardDue n f
      else if code = 0x0805 ∧ f.opcode = 0x10 then
        ((c.ranksOf f.dstDev).filter (fun r => !(c.member r).absent)).foldl
          (fun t r => (t.foldRange n r f.addr (f.addr + c.payloadElems f.payload)).stopSending n r) s
      else if code = 0x0801 ∨ code = 0x0802 ∨ code = 0x0809 then s.ctxError n code
      else s
    s.post (.context n)

/-- A frame of a context is lost with its path (R312, R323): a lost multicast never completes; a member whose path is lost is absent,
and its frames are waited for no longer (log 52). -/
def State.ctxLost (s : State) (n : Nat) (f : Frame) : State :=
  if s.ctxState n ≠ 2 ∧ s.ctxState n ≠ 3 then s
  else
    let s := if f.mcast then s.setCtx n { s.ctx n with lostCast := true } else (s.markAbsent n f.dstDev).discardDue n f
    s.post (.context n)

/-- A PARTIAL notice on a context's Fan (R323). -/
def State.ctxPartial (s : State) (f : Frame) : State :=
  (List.range 128).foldl (fun t n =>
    let c := t.ctx n
    if (t.ctxState n = 2 ∨ t.ctxState n = 3) ∧ (c.op = 1 ∨ c.op = 2 ∨ c.op = 3) ∧ f.fanId = c.fanBase + c.rank then
      (partialDevs f.payload).foldl (fun u d => u.markAbsent n d) t
    else t) s

/-- The time of a context's deadline (R320). -/
def Ctx.due (c : Ctx) : Nat := if c.dlAbs then c.deadline else c.tGo + c.deadline % 2 ^ 32

/-- The members whose chunks are neither complete nor absent (R320). -/
def State.tardy (s : State) (n : Nat) : List Nat :=
  let c := s.ctx n
  (List.range c.members_).filter (fun r => r != c.rank && decide ((c.member r).got < c.count) && !(c.member r).absent)

/-- A member declared late: noted, counted, and told with the LATE that says how much of its chunk was taken. -/
def State.declareLate (n : Nat) (c : Ctx) (t : State) (r : Nat) : State :=
  let t := (t.setMember n r (fun m => { m with late := true })).count 32 Obj.LATE_DECLARED 1
  t.ctxSend n none (unitFrame 0x12 1 (c.devs.getD r 0) 0 (t.ctxAux n) 0 (leBytes 8 ((c.member r).got) ++ leBytes 8 t.chr))

/-- DEADLINE (R320): members whose chunks are neither complete nor absent are declared late. -/
def doDeadline (n : Nat) (s : State) : Out :=
  if 128 ≤ n then .next s
  else
    let c := s.ctx n
    if s.ctxState n = 2 ∧ c.dlEn ∧ c.reduces ∧ c.due ≤ s.chr then
      .next (((s.tardy n).foldl (State.declareLate n c) s).post (.context n))
    else .next s

/-! ### Frames of collectives (R304, R314, R315, R321) -/

/-- The context, rank and instance that a frame names. -/
def frameCtx (f : Frame) : Nat := bits f.aux 18 12
def frameRank (f : Frame) : Nat := bits f.aux 11 0
def frameInst (f : Frame) : Nat := bits f.aux 31 19

/-- Whether a context takes part in anything: it is neither IDLE nor in ERROR. -/
def State.ctxLive (s : State) (n : Nat) : Bool := s.ctxState n == 1 || s.ctxState n == 2 || s.ctxState n == 3

/-- Whether a frame's sender is the member it says. -/
def Ctx.sender (c : Ctx) (f : Frame) : Bool := decide (frameRank f < c.members_) && c.devs.getD (frameRank f) 0x4000 == f.srcDev

/-- A frame whose sender is not the member that the own table has at its rank: the tables of the job disagree, and its result is
undefined (R309): the context's, as R313 lays down, and whether the frame is taken or refused (log 141). -/
def State.disagree (s : State) (n : Nat) : Wr :=
  let (k, s) := s.fresh
  let s := s.setCtx n { s.ctx n with blurred := true }
  if Config.freeNat k % 2 = 0 then s.ok else s.no 0x0809

/-- How a frame's instance stands to the present one: present, next, or another. -/
def State.instanceOf (s : State) (n : Nat) (f : Frame) : Option Nat :=
  if frameInst f = s.ctxInst n % 2 ^ 13 then some 0 else if frameInst f = (s.ctxInst n + 1) % 2 ^ 13 then some 1 else none

/-- A CONTRIB frame refused with 0x0805 (R315). -/
def State.refuseContrib (s : State) : Wr := (s.count 32 Obj.REFUSED_FRAMES 1).no 0x0805

/-- CONTRIB (R304, R315, R316, R319). -/
def State.takeContrib (f : Frame) (s : State) : Wr :=
  let n := frameCtx f
  let c := s.ctx n
  let r := frameRank f
  if s.ctxState n = 0 then s.refuseContrib
  else if f.slice ≠ s.ctxSlice n then s.no 0x0801
  else if !s.ctxLive n then s.refuseContrib
  else if !c.reduces || f.mcast then s.no 0x0809
  else if !c.sender f then s.disagree n
  else
    let whole := if c.comp = 0 then f.len * 8 % c.cF.storeBits == 0 else f.len % c.recordLen == 0 && f.addr % 4096 == 0
    if f.len = 0 ∨ !whole ∨ 4096 < f.len ∨ c.count < f.addr + c.payloadElems f.payload then s.no 0x0809
    else match s.instanceOf n f with
    | none => s.refuseContrib
    | some d =>
      if d = 0 ∧ ((c.member r).late ∨ (c.closed ∧ s.ctxState n = 3)) then s.refuseContrib
      else
        let m := c.payloadElems f.payload
        let s := s.accumulate n (s.ctxInst n + d) (c.payloadValues f.addr f.payload)
        let s := s.setMember n r (fun x => if d = 0 then { x with got := x.got + m } else { x with gotNext := x.gotNext + m })
        (s.post (.context n)).ok

/-- RESULT (R304, R310, R314); a member's own multicast, which its Fan brings back, changes nothing, and nor does a frame of a member
that is absent from the instance: its part of DST stays as it was (R324). -/
def State.takeResult (f : Frame) (s : State) : Wr :=
  let n := frameCtx f
  let c := s.ctx n
  let r := frameRank f
  if s.ctxState n = 0 then s.no 0x0805
  else if f.slice ≠ s.ctxSlice n then s.no 0x0801
  else if !s.ctxLive n then s.no 0x0805
  else if c.op = 0 ∨ (c.op = 3 ∧ r ≠ c.root) then s.no 0x0809
  else if !c.sender f then s.disagree n
  else if r = c.rank then s.ok
  else
    let m := f.len * 8 / c.dF.storeBits
    let base := if c.op = 3 then 0 else r * c.count
    if f.len = 0 ∨ 4096 < f.len ∨ f.len * 8 % c.dF.storeBits ≠ 0 ∨ f.addr < base ∨ base + c.count < f.addr + m ∨ f.addr * c.dF.storeBits % 8 ≠ 0 then
      s.no 0x0809
    else match s.instanceOf n f with
    | none => s.no 0x0805
    | some d =>
      if d = 0 ∧ (c.member r).absent then s.ok else
      let s := s.ctxWrite n (c.dst + f.addr * c.dF.storeBits / 8) f.payload
      let s := s.setMember n r (fun x => if d = 0 then { x with res := x.res + m } else { x with resNext := x.resNext + m })
      (s.post (.context n)).ok

/-- A LATE that comes too late (R321). -/
def State.staleLate (s : State) : Wr := ((s.count 32 Obj.LATE_RECEIVED 1).count 32 Obj.STALE_LATE 1).ok

/-- LATE (R304, R314, R321). One that names an instance which has not gone yet is kept until it goes (R315); of an absent reducer
nothing folds any more (R323). -/
def State.takeLate (f : Frame) (s : State) : Wr :=
  let n := frameCtx f
  let c := s.ctx n
  if f.len ≠ 16 ∨ f.mcast ∨ f.addr ≠ 0 then s.no 0x0809
  else if s.ctxState n = 0 then s.staleLate
  else if f.slice ≠ s.ctxSlice n then s.no 0x0801
  else if !s.ctxLive n then s.staleLate
  else match s.instanceOf n f with
  | none => s.staleLate
  | some d =>
    if !c.reduces then s.no 0x0809
    else if !c.sender f then s.disagree n
    else
      let r := frameRank f
      let upto := leNat (slice f.payload 0 5)
      let s := s.count 32 Obj.LATE_RECEIVED 1
      if d = 1 then (s.setMember n r (fun m => { m with lateNext := some upto })).ok
      else if s.ctxState n = 1 then (s.setMember n r (fun m => { m with lateAt := some upto })).ok
      else if (c.member r).absent then s.ok
      else (((s.stopSending n r).foldRange n r upto c.count).post (.context n)).ok

end Sys2Proof.Machine
end

