-- ==== Sys2Proof/Machine/Stages.lean ====
section
/-! DEFINITION. Stages (12): the slots' commands (R328–R330), the idle counters (R335–R337). -/

namespace Sys2Proof.Machine

/-- The Waypoints of a range (R328): the first and the count. -/
def wpRange (v : Nat) : Nat × Nat := (bits v 13 0, bits v 28 14)

/-- Whether a Waypoint lies in a range. -/
def inWpRange (v wp : Nat) : Bool := let r := wpRange v; decide (r.1 ≤ wp) && decide (wp < r.1 + r.2)

/-- The ACTIVE slot that holds a core. -/
def State.stageOf (s : State) (core : Nat) : Option Nat :=
  (List.range 8).find? (fun k => s.stageActive k && bit (s.obj (Obj.STG_CORES k)) core)

/-- The three ranges of a slot. -/
def State.stageRanges (s : State) (k : Nat) : List (Nat × Nat) :=
  [wpRange (s.obj (Obj.IN_WP k)), wpRange (s.obj (Obj.GRAD_WP k)), wpRange (s.obj (Obj.COLL_WP k))]

/-- The checks of R329 but for the state, in the order of its table. -/
def State.stageCode (s : State) (k : Nat) : Nat :=
  let w := s.obj (Obj.STG_CORES k)
  let cores := setBits 104 w
  let slice := s.sliceOfCore (cores.headD 0)
  let rs := s.stageRanges k
  let charge := s.obj (Obj.CHARGE_WP k)
  let free := s.obj (Obj.FREE_WP k)
  let meet (a b : Nat × Nat) : Bool := rangesMeet a.1 a.2 b.1 b.2
  let owned (wp : Nat) : Bool := decide (wp < 16384) && s.wpOwner wp == slice
  if w = 0 ∨ 2 ^ 104 ≤ w ∨ slice = 0xFFFF ∨ cores.any (fun c => s.sliceOfCore c != slice) then 0x0809
  else if meet (rs.getD 0 (0, 0)) (rs.getD 1 (0, 0)) || meet (rs.getD 0 (0, 0)) (rs.getD 2 (0, 0)) || meet (rs.getD 1 (0, 0)) (rs.getD 2 (0, 0))
      || rs.any (fun r => meet r (charge, 1) || meet r (free, 1)) || charge == free then 0x0809
  else if !owned charge || !owned free ||
      rs.any (fun r => r.2 != 0 && (List.range ((r.1 + r.2 - 1) / 64 - r.1 / 64 + 1)).any (fun i => !owned (64 * (r.1 / 64 + i)))) then 0x0801
  else if cores.any (fun c => (s.stageOf c).isSome) then 0x0805
  else 0

/-- A write of STG_CTRL (R329, R330). -/
def State.writeStgCtrl (s : State) (k v : Nat) : Wr :=
  match v with
  | 1 =>
    if s.stageActive k then s.no 0x0805
    else if s.stageCode k ≠ 0 then s.no (s.stageCode k)
    else (s.setObjs [(Obj.STG_STATE k, 1), (Obj.ACT_HIGH k, 0), (Obj.ACT_STATUS k, 0)]).ok
  | 2 => if s.stageActive k then (s.setObj (Obj.STG_STATE k) 0).ok else s.no 0x0805
  | _ => s.no 0x0809

/-- A write of another RW object of a slot (R328, R330): not while the slot is ACTIVE. -/
def State.writeStage (s : State) (k key v : Nat) : Wr :=
  if (key = Obj.CHARGE_WP k ∨ key = Obj.FREE_WP k) ∧ 16384 ≤ v then s.no 0x0809
  else if s.stageActive k then s.no 0x0805 else (s.setObj key v).ok

/-! ### Idle counters (R335–R337) -/

/-- The counter of Table 12-2, 1 to 7, that takes a nanosecond of a core, or 9 for a running one; none where no counter does. -/
def State.idleCause (s : State) (core : Nat) : Option Nat :=
  let st := s.coreSt core
  let c := s.core core
  let waits := (s.waiters.filter (fun w => w.core == core && w.kind != .launch)).map (·.wp)
  let stage := s.stageOf core
  let kind (f : Nat → Nat) : Bool := match stage with | some k => waits.any (inWpRange (s.obj (f k))) | none => false
  if st = .fenced then some 1
  else if st ≠ .off ∧ s.stepU.replaying ∧ s.sliceOfCore core ≠ 0xFFFF ∧ s.sliceOfCore core = s.obj Obj.STEP_SLICE then some 2
  else if st = .waiting ∨ (st = .running ∧ waits ≠ []) then
    if stage.isNone then some 7
    else if kind Obj.IN_WP then some 3
    else if kind Obj.GRAD_WP then some 4
    else if kind Obj.COLL_WP then some 5
    else if (match stage with | some k => waits.contains (s.obj (Obj.FREE_WP k)) | none => false) then some 6
    else match c.hold with
    | .fence u => if u = 4 ∨ u = 8 ∨ u = 12 then some 6 else some 7
    | _ => match c.layer with | .ctxWait _ _ => some 5 | _ => some 7
  else if st = .running then
    match c.layer with
    | .collective _ => if stage.isNone then some 7 else some 5
    | _ => some 9
  else none

/-- Nanoseconds of the Chronometer that pass for a core, counted (R335–R337). -/
def State.idleTick (n : Nat) (s : State) (core : Nat) : State :=
  match s.idleCause core with
  | none => s
  | some 9 =>
    let f := stepFreq (s.obj (Obj.CLK_STEP (dieOfCore core)))
    let c := s.core core
    let thr := c.thrFrac + n * (130 - f)
    let busy := c.busyFrac + n * f
    let s := s.setCore core { c with thrFrac := thr % 130, busyFrac := busy % 130 }
    (s.count 64 (Obj.IDLE_THROTTLED core) (thr / 130)).count 64 (Obj.BUSY_NS core) (busy / 130)
  | some k => s.count 64 (Obj.IDLE_FENCED core + (k - 1)) n

end Sys2Proof.Machine
end

