-- ==== Sys2Proof/Machine/Moments.lean ====
section
/-! DEFINITION. Moments in 8-bit block form (R352, R364): 32 FP32 values as E4M3 codes with one scale. -/

namespace Sys2Proof.Machine

/-- Whether max |m| × 2^(127 − e) ≤ 448 over the finite elements (R352). -/
def scaleFits (vals : List FVal) (e : Nat) : Bool :=
  vals.all (fun v => match v with
    | .fin _ n d => if e ≤ 127 then decide (n * 2 ^ (127 - e) ≤ 448 * d) else decide (n ≤ 448 * d * 2 ^ (e - 127))
    | _ => true)

/-- The scale S of a block (R352): the smallest E from 0 to 254 that fits; 127 where the finite elements are all zero. -/
def momentScale (vals : List FVal) : Nat :=
  if vals.all (fun v => v.nonFinite || v.isZero) then 127 else ((List.range 255).find? (scaleFits vals)).getD 254

/-- The value times 2^(127 − S). -/
def scaleDown (v : FVal) (scale : Nat) : FVal :=
  match v with
  | .fin s n d => if scale ≤ 127 then .fin s (n * 2 ^ (127 - scale)) d else .fin s n (d * 2 ^ (scale - 127))
  | v => v

/-- An element's code: RNE with saturation; a NaN or an infinity is 0x7F (R352). -/
def momentCode (v : FVal) (scale : Nat) : Nat := if v.nonFinite then 0x7F else (Fmt.e4m3.convert .rne true true (scaleDown v scale)).1

/-- A block of 32 FP32 codes: the elements' codes and the scale. -/
def encodeMoments (codes : List Nat) : List Nat × Nat :=
  let vals := codes.map val32
  let scale := momentScale vals
  (vals.map (fun v => momentCode v scale), scale)

/-- An element decoded exactly into FP32: element × 2^(S − 127). -/
def decodeMoment (code scale : Nat) : Nat :=
  match Fmt.e4m3.decode code with
  | .fin s n d => code32 (if 127 ≤ scale then .fin s (n * 2 ^ (scale - 127)) d else .fin s n (d * 2 ^ (127 - scale)))
  | _ => 0x7FC00000

/-- The FP32 codes of bytes. -/
def fp32Codes (l : List Byte) : List Nat := (chunks 4 (l.length / 4 + 1) l).map leNat

/-- Blocks of 33 B of a page of moments (R364). -/
def momentBody (page : List Byte) : List Byte :=
  ((chunks 32 (page.length / 128 + 1) (fp32Codes page)).map (fun b =>
    let (cs, sc) := encodeMoments b
    cs.map (BitVec.ofNat 8) ++ [BitVec.ofNat 8 sc])).flatten

/-- The page of a body of moments. -/
def momentPage (body : List Byte) : List Byte :=
  ((chunks 33 (body.length / 33 + 1) body).map (fun b =>
    let sc := leNat (slice b 32 1)
    ((b.take 32).map (fun x => leBytes 4 (decodeMoment x.toNat sc))).flatten)).flatten

end Sys2Proof.Machine
end

