-- ==== Sys2Proof/Machine/Fix.lean ====
section
/-! DEFINITION. Copy-before-write (R227–R230) and Fixes (14): regions and marking (R363, R367), staging and encoding (R364–R369),
chunks, rows and the store (R370–R372), preparation and decision (R373–R377), arming (R378, R383, R384), applying and rebuilding
(R380, R381). -/

namespace Sys2Proof.Machine

/-- FIX_STATE (Table 14-8). -/
def State.fixState (s : State) : Nat := s.obj Obj.FIX_STATE
def State.setFixState (s : State) (v : Nat) : State := s.setObj Obj.FIX_STATE v

/-! ### Regions (Tables 14-1, 14-2) -/

/-- A Fix region: index, first page (local address / 65,536), pages, kind, AUX_ADDR, ROW_BYTES. -/
structure FixRegion where
  index : Nat
  page  : Nat
  pages : Nat
  kind  : Nat
  aux   : Nat
  row   : Nat
  deriving DecidableEq, Repr

/-- The valid regions, in order of index. -/
def State.fixRegions (s : State) : List FixRegion :=
  ((List.range 32).filter (fun i => bit (s.obj (Obj.FIX_REGION i)) 68)).map (fun i =>
    let v := s.obj (Obj.FIX_REGION i)
    { index := i, page := bits v 39 0 / 65536, pages := bits v 63 40, kind := bits v 67 64, aux := bits v 167 128, row := bits v 223 192 })

/-- The rows of a TABLE region and the bytes of its TOUCH bitmap. -/
def FixRegion.rows (r : FixRegion) : Nat := if r.row = 0 then 0 else r.pages * 65536 / r.row
def FixRegion.touchBytes (r : FixRegion) : Nat := ceilDiv r.rows 8

/-- The die of a region, by its first page. -/
def FixRegion.die (r : FixRegion) : Nat := (pageOf (r.page * 65536)).1

/-- The valid region that holds a page. -/
def State.regionOfPage (s : State) (page : Nat) : Option FixRegion :=
  s.fixRegions.find? (fun r => decide (r.page ≤ page) && decide (page < r.page + r.pages))

/-! ### Staging (R368) -/

/-- FIX_STAGE_BASE of a die. -/
def State.stageBase (s : State) (die : Nat) : Nat := if die = 0 then s.obj Obj.FIX_STAGE_BASE0 else s.obj Obj.FIX_STAGE_BASE1

/-- The TABLE regions of a die with the offsets of their TOUCH copies at the head of its staging area. -/
def touchOffsets (die : Nat) : List FixRegion → Nat → List (Nat × Nat)
  | [], _ => []
  | r :: rest, off =>
    if r.kind = 2 ∧ r.die = die then (r.index, off) :: touchOffsets die rest (off + r.touchBytes) else touchOffsets die rest off

/-- Bytes of the TOUCH copies of a die, and the first staging page behind them. -/
def State.touchHead (s : State) (die : Nat) : Nat := ((s.fixRegions.filter (fun r => r.kind == 2 && r.die == die)).map FixRegion.touchBytes).sum
def State.headPages (s : State) (die : Nat) : Nat := ceilDiv (s.touchHead die) 65536

/-- Pages that a die's staging area can hold. -/
def State.stageRoom (s : State) (die : Nat) : Nat := s.obj Obj.FIX_STAGE_LEN / 65536 - s.headPages die

/-- A die's staged pages. -/
def State.staged (s : State) (die : Nat) : List Staged := if die = 0 then s.fixU.staged0 else s.fixU.staged1
def State.setStaged (s : State) (die : Nat) (l : List Staged) : State :=
  { s with fixU := if die = 0 then { s.fixU with staged0 := l } else { s.fixU with staged1 := l } }

/-- The first place of a list's numbers that is free below `n`. -/
def firstFree (used : List Nat) : Nat → Nat → Option Nat
  | 0, _ => none
  | n + 1, i => if used.contains i then firstFree used n (i + 1) else some i

/-- The address of a place in a die's staging area. -/
def State.stageAddr (s : State) (die slot : Nat) : Nat := s.stageBase die + (s.headPages die + slot) * 65536

/-! ### Ending (R369, R377) -/

/-- Both mark bitmaps written with zeros; whole bursts are written, so they hold no error (R508). -/
def State.zeroMaps (s : State) : State :=
  { s with
    mem := Sparse.eraseRange (Sparse.eraseRange s.mem (s.mapBase 0) 786432) (s.mapBase 1) 786432
    errs := Sparse.eraseRange (Sparse.eraseRange s.errs (s.mapBase 0 / 32) (786432 / 32)) (s.mapBase 1 / 32) (786432 / 32) }

/-- Every mark cleared, no more checks, and the writes that waited performed (R369). -/
def State.clearMarks (s : State) : State := (s.zeroMaps.setObj Obj.CBW_ACTIVE 0).releaseHeld

/-- The store's slots (R372): a ring behind a directory of one entry per slot. -/
def State.storeSlots (s : State) : Nat := s.obj Obj.FIX_STORE_LEN / (2 ^ 20 + 32)
def State.dirBase (s : State) : Nat := s.obj Obj.FIX_STORE_BASE
def State.dirAddr (s : State) (slot : Nat) : Nat := s.dirBase + 32 * slot
def State.slotAddr (s : State) (slot : Nat) : Nat := s.obj Obj.FIX_STORE_BASE + 32 * s.storeSlots + slot * 2 ^ 20

/-- A directory entry (Table 14-4). -/
def dirEntry (id row : Nat) (parity complete commit : Bool) (chunk : Nat) : Nat :=
  id + row * 2 ^ 32 + b2n parity * 2 ^ 64 + b2n complete * 2 ^ 65 + b2n commit * 2 ^ 66 + chunk * 2 ^ 96

/-- A directory entry written. -/
def State.setDir (s : State) (slot e : Nat) : State := s.write .unit (s.dirAddr slot) (leBytes 32 e)
def State.dir (s : State) (slot : Nat) : Nat := leNat (s.bytes (s.home (s.dirAddr slot)) 32)

/-- A search of the directory reads it, and meets its stored errors (R212, R213). -/
def State.noteDir (s : State) : State := s.noteRead 3 (s.home s.dirBase) (32 * s.storeSlots)

/-- A slot of the ring allocated (R372), if one may be. -/
def State.allocate (s : State) : Option (Nat × State) :=
  if s.fixU.allocated - s.obj Obj.FIX_DRAINED_SLOTS < s.storeSlots then
    some (s.fixU.head, { s with fixU := { s.fixU with head := (s.fixU.head + 1) % s.storeSlots, allocated := s.fixU.allocated + 1 } })
  else none

/-- A frame of the Fix engine (Table 14-7). -/
def State.fixSend (s : State) (f : Frame) : State := s.inject .fix none { f with slice := s.obj Obj.STEP_SLICE % 2 ^ 12 }

/-- FIX_PREPARED with a cause, to the root. -/
def State.sendPrepared (s : State) (cause : Nat) : State :=
  s.fixSend (unitFrame 0x32 5 (s.obj Obj.COMMIT_ROOT) 0 0 0
    (leBytes 4 s.fixU.id ++ leBytes 8 (s.obj Obj.FIX_STEP) ++ leBytes 12 cause))

/-- A Fix is discarded (R377). -/
def State.fixDiscard (s : State) (cause : Nat) : State :=
  let s := if s.obj Obj.CBW_ACTIVE = 1 then s.clearMarks else s
  let used := s.fixU.slots.map (·.2) ++ s.fixU.rows.map (·.slot)
  let s := used.foldl (fun t k => t.setDir k 0) s
  let u := { s.fixU with staged0 := [], staged1 := [], carry := [], records := [], retries := [], slots := [], rows := [], commitDue := false }
  let drop (x : TxFlow) : TxFlow := { x with queued := x.queued.filter (fun y => !(y.2.1 == .fix)) }
  let s := { s with fixU := u, txFlows := s.txFlows.map drop }
  let s := (s.setFixState 0).count 32 Obj.FIXES_DISCARDED 1
  let s := s.setObj Obj.FIX_LAST_DISCARD (s.chr + s.fixU.id * 2 ^ 64 + cause * 2 ^ 96)
  s.logEvent .fixDiscarded 0 (srcCode 0 0) (s.obj Obj.STEP_SLICE) (s.fixU.id + cause * 2 ^ 32)

/-- A Fix that ends by a cause of Table 14-6: it is discarded (R377), and the root hears the cause (R373). -/
def State.fixStop (s : State) (cause : Nat) : State := (s.fixDiscard cause).sendPrepared cause

/-- A cause of Table 14-6 in WRITING. -/
def State.fixEnd (s : State) (cause : Nat) : State := if s.fixState = 2 then s.fixStop cause else s

/-! ### Page copies (R228–R230) -/

/-- Whether a range holds a burst with an uncorrectable error. -/
def State.hasUncorrectable (s : State) (lo len : Nat) : Bool := (s.errorsIn lo len).any (fun u => s.errAt u == .uncorrectable)

/-- A page copied into its die's staging area and unmarked, and the writes that waited for it performed; `none` with no free
place. A copy is made whole in its command, so that of R230's eight copies of a die at one time never more than one is under way
(log 35). -/
def State.copyPage (s : State) (cls page : Nat) : Option State :=
  let die := (pageOf (page * 65536)).1
  (firstFree ((s.staged die).map (·.slot)) (s.stageRoom die) 0).map (fun slot =>
    let bad := s.hasUncorrectable (page * 65536) 65536
    let s := s.noteRead cls (page * 65536) 65536
    let s := s.writeNow (s.stageAddr die slot) (s.bytes (page * 65536) 65536)
    let s := (s.setStaged die (s.staged die ++ [({ page, slot } : Staged)])).setMark page false
    let s := s.releaseHeld
    if bad then s.post (.fixEnd 8) else s)

/-- Whether any page of a die is marked: the first one. -/
def State.firstMarked (s : State) (die : Nat) : Option Nat :=
  match s.mem.find? (fun e => decide (s.mapBase die ≤ e.1) && decide (e.1 < s.mapBase die + 786432)) with
  | some e => ((List.range 8).find? (fun i => e.2.toNat.testBit i)).map (fun i => (e.1 - s.mapBase die) * 8 + i + die * 0x600000)
  | none => none

/-- The background copy has ended once no page is marked. -/
def State.marksDone (s : State) : State :=
  if (s.firstMarked 0).isNone && (s.firstMarked 1).isNone then (s.setObj Obj.CBW_ACTIVE 0).post .fixTest else s

/-- CBW_COPY (R228, R369): the page that a write waits for. -/
def doCbwCopy (page : Nat) (s : State) : Out :=
  if s.held.any (fun w => w.page == page) then
    if s.pageMarked page ∧ s.obj Obj.CBW_ACTIVE = 1 then .next ((s.copyPage 0 page).getD (s.post (.fixEnd 1)))
    else .next s.releaseHeld
  else .next s

/-- BACKGROUND_COPY (R229, R368): the walk of a die, while more than 64 staging pages stay free. -/
def doBackgroundCopy (die : Nat) (s : State) : Out :=
  if 2 ≤ die then .next s
  else if s.obj Obj.CBW_ACTIVE ≠ 1 then .next s
  else match s.firstMarked die with
  | none => .next s.marksDone
  | some page =>
    if s.stageRoom die - (s.staged die).length ≤ 64 then .next s
    else .next ((s.copyPage 3 page).elim s State.marksDone)

/-! ### Marking (R367) -/

/-- Whether a row of a TABLE region is touched in the Fix in hand, from the snapshot of its TOUCH bitmap. -/
def State.rowTouched (s : State) (r : FixRegion) (row : Nat) : Bool :=
  s.fixU.full ||
    (match (touchOffsets r.die s.fixRegions 0).find? (fun x => x.1 == r.index) with
     | some (_, off) => (s.byte (s.stageBase r.die + off + row / 8)).toNat.testBit (row % 8)
     | none => false)

/-- The TOUCH copies of the TABLE regions, as addresses and lengths. -/
def State.touchCopies (s : State) : List (Nat × Nat) :=
  ([0, 1].map (fun die => (touchOffsets die s.fixRegions 0).map (fun x =>
    (s.stageBase die + x.2, ((s.fixRegions.find? (fun r => r.index == x.1)).map FixRegion.touchBytes).getD 0)))).flatten

/-- The engine's read of the TOUCH copies meets their stored errors; a FULL Fix asks none (R366). -/
def State.noteTouch (s : State) : State := if s.fixU.full then s else s.noteSpans 3 s.touchCopies

/-- The pages that a Fix marks. -/
def State.pagesToMark (s : State) : List Nat :=
  (s.fixRegions.map (fun r =>
    if r.kind = 2 then
      (((List.range r.rows).filter (s.rowTouched r)).map (fun i =>
        let lo := r.page * 65536 + i * r.row
        (List.range ((lo + r.row - 1) / 65536 - lo / 65536 + 1)).map (fun j => lo / 65536 + j))).flatten
    else (List.range r.pages).map (fun i => r.page + i))).flatten

/-- The TOUCH bitmaps copied to the heads of the staging areas and cleared. -/
def State.snapTouch (s : State) : State :=
  [0, 1].foldl (fun t die =>
    (touchOffsets die t.fixRegions 0).foldl (fun u x =>
      match u.fixRegions.find? (fun r => r.index == x.1) with
      | some r =>
        let b := u.bytes (u.home r.aux) r.touchBytes
        ((u.noteRead 3 (u.home r.aux) r.touchBytes).writeNow (u.stageBase die + x.2) b).writeNow (u.home r.aux) (List.replicate r.touchBytes 0#8)
      | none => u) t) s

/-- The marking of an ARMED Fix in the entry of a COMMIT (R367). -/
def State.fixMark (s : State) (step : Nat) : State :=
  if s.fixState ≠ 1 then s
  else
    let s := s.snapTouch.zeroMaps.noteTouch
    let s := s.pagesToMark.foldl (fun t p => t.setMark p true) s
    let s := { s with fixU := { s.fixU with since := s.now, staged0 := [], staged1 := [], carry := [], records := [], stream := [], opened := 0, closed := 0, ended := false } }
    (s.setObjs [(Obj.FIX_STEP, step), (Obj.CBW_ACTIVE, 1), (Obj.FIX_STATE, 2)]).marksDone

/-! ### The stream (R364–R366) -/

/-- A record (Table 14-3). -/
def fixRecord (addr kind region : Nat) (body : List Byte) : List Byte :=
  leBytes 16 (addr + kind * 2 ^ 40 + region * 2 ^ 48 + body.length * 2 ^ 64) ++ body

/-- The place of a record or of a page in the stream (R366): by region index, then by address. -/
def recordKey (region addr : Nat) : Nat := region * 2 ^ 40 + addr

/-- A record with its place. -/
def placedRecord (addr kind region : Nat) (body : List Byte) : Nat × List Byte := (recordKey region addr, fixRecord addr kind region body)

/-- A record put among those that wait, in their order. -/
def putRecord (x : Nat × List Byte) : List (Nat × List Byte) → List (Nat × List Byte)
  | [] => [x]
  | y :: r => if y.1 < x.1 then y :: putRecord x r else x :: y :: r

/-- The records of a staged page of a TABLE region: rows wholly at hand now. Bytes of rows that reach into another page are kept. -/
def State.tableRecords (s : State) (r : FixRegion) (page : Nat) (data : List Byte) : List (Nat × List Byte) × State :=
  let lo := page * 65536
  let base := r.page * 65536
  let rows := (List.range ((lo + 65535 - base) / r.row - (lo - base) / r.row + 1)).map (fun i => (lo - base) / r.row + i)
  (rows.filter (fun i => decide (i < r.rows) && s.rowTouched r i)).foldl (fun (acc : List (Nat × List Byte) × State) i =>
    let a := base + i * r.row
    let here (x : Nat) : Bool := decide (lo ≤ x) && decide (x < lo + 65536)
    let u := acc.2
    if here a && here (a + r.row - 1) then (acc.1 ++ [placedRecord a 2 r.index (slice data (a - lo) r.row)], u)
    else
      -- the part of the row in this page joins the part kept from the other
      let first := max a lo
      let n := min (a + r.row) (lo + 65536) - first
      let known := u.fixU.carry.any (fun c => decide (a ≤ c.1) && decide (c.1 < a + r.row))
      let kept : List Host.Cell := u.fixU.carry ++ ((slice data (first - lo) n).zipIdx.map (fun (b, j) => (first + j, b)))
      if known then
        let body := (List.range r.row).map (fun j => ((kept.find? (fun c => c.1 == a + j)).map (·.2)).getD 0#8)
        (acc.1 ++ [placedRecord a 2 r.index body],
          { u with fixU := { u.fixU with carry := kept.filter (fun c => !(decide (a ≤ c.1) && decide (c.1 < a + r.row))) } })
      else (acc.1, { u with fixU := { u.fixU with carry := kept } })) ([], s)

/-- The records of a staged page, with the reference copy of a PAGE page advanced (R201, R366). -/
def State.pageRecords (s : State) (page : Nat) (data : List Byte) : List (Nat × List Byte) × State :=
  match s.regionOfPage page with
  | none => ([], s)
  | some r =>
    match r.kind with
    | 0 =>
      let ref := r.aux + (page - r.page) * 65536
      let cur := wordsOf data
      let old := if s.fixU.full then List.replicate 8192 0 else wordsOf (s.bytes (s.home ref) 65536)
      let ds := List.zipWith (· ^^^ ·) cur old
      let s := if s.fixU.full then s else s.noteRead 3 (s.home ref) 65536
      let s := s.write .unit ref data
      if ds.all (· == 0) then ([], s) else ([placedRecord (page * 65536) 0 r.index (encodeDelta ds 65548)], s)
    | 1 => ([placedRecord (page * 65536) 1 r.index (encodeDelta (wordsOf data) 65548)], s)
    | 2 => s.noteTouch.tableRecords r page data
    | _ => ([placedRecord (page * 65536) 3 r.index (momentBody data)], s)

/-! ### Chunks and rows (R370–R372) -/

/-- The Fix group: D, and the devices in position order. -/
def State.fixD (s : State) : Nat := bits (s.obj Obj.FIX_CFG) 3 0
def State.fixGroup (s : State) : List Nat := (List.range (s.fixD + 1)).map (fun i => bits (s.obj Obj.FIX_GROUP) (16 * i + 13) (16 * i))
def State.fixPos (s : State) : Nat := (s.fixGroup.zipIdx.find? (fun x => x.1 == s.selfId)).elim 16 (·.2)

/-- The row of a member's chunk, and the chunk that a member has in a row it holds no parity for (R370). -/
def rowOfChunk (d p k : Nat) : Nat := k / d * (d + 1) + k % d + (if p ≤ k % d then 1 else 0)
def chunkOfRow (d p r : Nat) : Nat := let m := r % (d + 1); r / (d + 1) * d + (if p < m then m - 1 else m)

/-- The holder of a row's parity. -/
def holderOf (d r : Nat) : Nat := r % (d + 1)

/-- Slots for chunks that open, none allocated if there is not room for all. -/
def State.openChunks : Nat → State → Option State
  | 0, s => some s
  | n + 1, s =>
    match s.allocate with
    | none => none
    | some (slot, t) =>
      let k := t.fixU.opened
      let t := t.setDir slot (dirEntry t.fixU.id (rowOfChunk t.fixD t.fixPos k) false false false k)
      State.openChunks n { t with fixU := { t.fixU with opened := k + 1, slots := t.fixU.slots ++ [(k, slot)] } }

/-- A chunk written completely into its slot, then sent to the holder of its row (R371). -/
def State.closeChunk (s : State) (k : Nat) : State :=
  let data := slice s.fixU.stream (k * 2 ^ 20) (2 ^ 20)
  let slot := (s.fixU.slots.find? (fun x => x.1 == k)).elim 0 (·.2)
  let row := rowOfChunk s.fixD s.fixPos k
  let s := (s.write .unit (s.slotAddr slot) data).setDir slot (dirEntry s.fixU.id row false true false k)
  let s := { s with fixU := { s.fixU with closed := k + 1 } }
  let dev := s.fixGroup.getD (holderOf s.fixD row) 0
  (List.range 256).foldl (fun t i =>
    t.fixSend (unitFrame 0x30 5 dev 0 row (i * 4096 + s.fixU.id % 2 ^ 16 * 2 ^ 24) (slice data (i * 4096) 4096))) s

/-- Chunks closed up to a count. -/
def State.closeTo (s : State) (n : Nat) : State := ((List.range n).filter (fun k => decide (s.fixU.closed ≤ k))).foldl State.closeChunk s

/-- Records appended to the stream: chunks open as they begin and close as they fill; `none` where a chunk finds no slot. -/
def State.appendStream (s : State) (l : List Byte) : Option State :=
  let stream := s.fixU.stream ++ l
  (s.openChunks (ceilDiv stream.length (2 ^ 20) - s.fixU.opened)).map
    (fun (t : State) => ({ t with fixU := { t.fixU with stream } }).closeTo (stream.length / 2 ^ 20))

/-- The other members of the group. -/
def State.fixPeers (s : State) : List Nat := s.fixGroup.filter (fun d => d != s.selfId)

/-- The stream closes (R366, R371): the end record, the last chunk padded, and the chunk count to every holder. -/
def State.closeStream (s : State) : Option State :=
  (s.appendStream (fixRecord 0 0xF 0 [])).map (fun t =>
    let t := (t.setObj Obj.FIX_STREAM_BYTES t.fixU.stream.length).closeTo t.fixU.opened
    let t := { t with fixU := { t.fixU with ended := true } }
    let body := leBytes 4 t.fixU.id ++ leBytes 4 t.fixU.opened ++ leBytes 8 t.fixPos
    (t.fixPeers.foldl (fun u d => u.fixSend (unitFrame 0x31 5 d 0 0 0 body)) t).post .fixTest)

/-- The marked pages of a die. -/
def State.markedPages (s : State) (die : Nat) : List Nat :=
  ((s.mem.filter (fun e => decide (s.mapBase die ≤ e.1) && decide (e.1 < s.mapBase die + 786432))).map (fun e =>
    ((List.range 8).filter e.2.toNat.testBit).map (fun i => (e.1 - s.mapBase die) * 8 + i + die * 0x600000))).flatten

/-- The pages that the Fix has still to encode. -/
def State.pagesLeft (s : State) : List Nat :=
  (s.fixU.staged0 ++ s.fixU.staged1).map (·.page) ++ (if s.obj Obj.CBW_ACTIVE = 1 then s.markedPages 0 ++ s.markedPages 1 else [])

/-- Whether every page that is still to be encoded has its place behind a record. -/
def State.comesNext (s : State) (key : Nat) : Bool :=
  s.pagesLeft.all (fun p => match s.regionOfPage p with | some r => decide (key < recordKey r.index (p * 65536)) | none => true)

/-- The records whose place in the stream has come are appended, in ascending region index and address (R366), though pages are encoded in
the order they were staged (R368); `none` where a chunk finds no slot. -/
def State.flushRecords (s : State) : Option State :=
  let ready := s.fixU.records.takeWhile (fun x => s.comesNext x.1)
  let left := s.fixU.records.drop ready.length
  ({ s with fixU := { s.fixU with records := left } }).appendStream (ready.map Prod.snd).flatten

/-- FIX_ENCODE (R365, R366, R368, R372): a die's first staged page encoded and freed, or the stream closed once nothing is left. While a
record whose place has come finds no slot, the engine waits. -/
def doFixEncode (die : Nat) (s : State) : Out :=
  if 2 ≤ die then .next s
  else if s.fixState ≠ 2 ∨ s.fixU.ended then .next s
  else match s.flushRecords with
  | none => .next s
  | some s => match s.staged die with
  | x :: rest =>
    let a := s.stageAddr die x.slot
    if s.hasUncorrectable a 65536 then .next ((s.noteRead 3 a 65536).post (.fixEnd 8))
    else
      let (l, t) := (s.noteRead 3 a 65536).pageRecords x.page (s.bytes a 65536)
      let t := { t with fixU := { t.fixU with records := l.foldl (fun r x => putRecord x r) t.fixU.records } }
      let t := t.setStaged die rest
      .next (t.flushRecords.getD t)
  | [] =>
    if s.obj Obj.CBW_ACTIVE = 0 ∧ s.fixU.staged0 = [] ∧ s.fixU.staged1 = [] then
      .next (s.closeStream.getD s)
    else .next s

/-! ### Parity (R371, R372) -/

/-- The rows that a count of chunks spans. -/
def rowsOf (d : Nat) (counts : List (Nat × Nat)) : Nat :=
  counts.foldl (fun m c => if c.2 = 0 then m else max m (rowOfChunk d c.1 (c.2 - 1) + 1)) 0

/-- What every member's chunk count is known to be, with the own one. -/
def State.fixCounts (s : State) : List (Nat × Nat) := (s.fixPos, s.fixU.opened) :: s.fixU.counts

/-- Whether a position has a chunk in a row. -/
def hasChunk (d : Nat) (counts : List (Nat × Nat)) (p r : Nat) : Bool :=
  holderOf d r != p && (match counts.find? (fun c => c.1 == p) with | some c => decide (chunkOfRow d p r < c.2) | none => true)

/-- Whether a parity row has had every contribution. -/
def State.rowDone (s : State) (x : ParityRow) : Bool :=
  (List.range (s.fixD + 1)).all (fun p => p == s.fixPos || !hasChunk s.fixD s.fixU.counts p x.row ||
    (match x.got.find? (fun g => g.1 == p) with | some g => decide (2 ^ 20 ≤ g.2) | none => false))

/-- Parity rows that are complete are marked so. -/
def State.closeRows (s : State) : State :=
  (s.fixU.rows.filter (fun x => !x.complete && s.rowDone x)).foldl (fun t x =>
    let t := t.setDir x.slot (dirEntry t.fixU.id x.row true true false 0)
    { t with fixU := { t.fixU with rows := t.fixU.rows.map (fun y => if y.row = x.row then { y with complete := true } else y) } }) s

/-- Whether a Fix is in hand. -/
def State.fixCurrent (s : State) : Bool := s.fixState == 1 || s.fixState == 2 || s.fixState == 3

/-- The row of a contribution with its slot, allocated at the first contribution (R372). -/
def State.parityRow (s : State) (row : Nat) : Option (ParityRow × State) :=
  match s.fixU.rows.find? (fun x => x.row == row) with
  | some x => some (x, s)
  | none =>
    match s.allocate with
    | none => none
    | some (slot, t) =>
      let t := (t.setDir slot (dirEntry t.fixU.id row true false false 0)).write .unit (t.slotAddr slot) (List.replicate (2 ^ 20) 0#8)
      let x : ParityRow := { row, slot, got := [], complete := false }
      some (x, { t with fixU := { t.fixU with rows := t.fixU.rows ++ [x] } })

/-- FIX_STRIPE at the holder (R371, R372, R382). What stands in the parity slot is read to be joined (R213; Table 14-6, cause 8). -/
def State.takeStripe (f : Frame) (s : State) : Wr :=
  let off := f.addr % 2 ^ 20
  if f.slice ≠ s.obj Obj.STEP_SLICE then s.no 0x0801
  else if !s.fixCurrent ∨ bits f.addr 39 24 ≠ s.fixU.id % 2 ^ 16 then s.no 0x0805
  else match s.fixGroup.zipIdx.find? (fun x => x.1 == f.srcDev) with
  | none => s.no 0x0809
  | some (_, p) =>
    if holderOf s.fixD f.aux ≠ s.fixPos ∨ p = s.fixPos ∨ f.len = 0 ∨ 4096 < f.len ∨ 2 ^ 20 < off + f.len then s.no 0x0809
    else match s.parityRow f.aux with
    | none => s.no 0x080B
    | some (x, t) =>
      let a := t.slotAddr x.slot + off
      let t := if t.hasUncorrectable (t.home a) f.len then t.post (.fixEnd 8) else t
      let t := (t.noteRead 3 (t.home a) f.len).write .unit a (List.zipWith (· ^^^ ·) (t.bytes (t.home a) f.len) f.payload)
      let got := Sparse.set (fun _ => 0) x.got p (Sparse.get (fun _ => 0) x.got p + f.len)
      let upd (y : ParityRow) : ParityRow := if y.row = x.row then { y with got := got } else y
      let t := { t with fixU := { t.fixU with rows := t.fixU.rows.map upd } }
      (t.closeRows.post .fixTest).ok

/-- FIX_COUNT (R371, R382). -/
def State.takeCount (f : Frame) (s : State) : Wr :=
  let p := leNat (slice f.payload 8 1) % 16
  if f.slice ≠ s.obj Obj.STEP_SLICE then s.no 0x0801
  else if f.len ≠ 16 then s.no 0x0809
  else if !s.fixCurrent ∨ leNat (slice f.payload 0 4) ≠ s.fixU.id then s.no 0x0805
  else if s.fixGroup.getD p 0x4000 ≠ f.srcDev then s.no 0x0809
  else
    let c := leNat (slice f.payload 4 4)
    let s := { s with fixU := { s.fixU with counts := (p, c) :: s.fixU.counts.filter (fun x => x.1 != p) } }
    (s.closeRows.post .fixTest).ok

/-- FIX_STRIPE_RETRY (R372): stripes refused for room go again after 10 µs. -/
def doFixStripeRetry (s : State) : Out :=
  let due := s.fixU.retries.filter (fun r => decide (r.due ≤ s.now))
  if due.isEmpty ∨ s.fixState ≠ 2 then .next s
  else
    let s := { s with fixU := { s.fixU with retries := s.fixU.retries.filter (fun r => !decide (r.due ≤ s.now)) } }
    .next (due.foldl (fun t r => t.fixSend r.frame) s)

/-! ### Preparation and decision (R373–R376) -/

/-- Whether stripes are unacknowledged or still to be sent. -/
def State.fixSending (s : State) : Bool :=
  s.txFlows.any (fun x => x.unacked.any (fun y => y.op == .fix && y.frame.opcode == 0x30) ||
    x.queued.any (fun y => y.2.1 == .fix && y.1.opcode == 0x30))

/-- Whether the conditions of R373 hold. -/
def State.fixReady (s : State) : Bool :=
  let u := s.fixU
  let rows := rowsOf s.fixD s.fixCounts
  u.ended && s.obj Obj.CBW_ACTIVE == 0 && !s.fixSending && u.retries.isEmpty && !u.refused &&
    (List.range (s.fixD + 1)).all (fun p => s.fixCounts.any (fun c => c.1 == p)) && u.rows.all (·.complete) &&
    ((List.range rows).filter (fun r => holderOf s.fixD r == s.fixPos)).all (fun r =>
      u.rows.any (fun x => x.row == r) || (List.range (s.fixD + 1)).all (fun p => p == s.fixPos || !hasChunk s.fixD s.fixCounts p r))

/-- The Fix engine tests whether it is prepared (R373). -/
def State.fixTest (s : State) : State := if s.fixState = 2 ∧ s.fixReady then (s.setFixState 3).sendPrepared 0 else s

/-- FIX_TIMEOUT (Table 14-6, cause 2). -/
def doFixTimeout (s : State) : Out :=
  if s.fixState = 2 ∧ s.fixU.since + s.obj Obj.FIX_TIMEOUT * 1000000 ≤ s.now then .next (s.post (.fixEnd 2)) else .next s

/-- FIX_PREPARED_RESEND (R376). -/
def doFixPreparedResend (s : State) : Out :=
  if s.fixU.resend then
    let s := { s with fixU := { s.fixU with resend := false } }
    .next (if s.fixState = 3 then s.sendPrepared 0 else s)
  else .next s

/-- The payload of FIX_DECIDE. -/
def decidePayload (d : FixDecision) : List Byte := leBytes 4 d.id ++ leBytes 8 d.step ++ leBytes 4 (b2n d.discard)

/-- The root decides a Fix (R374) and multicasts the decision. -/
def State.fixDecide (s : State) (d : FixDecision) : State :=
  let s := { s with fixU := { s.fixU with decisions := (d :: s.fixU.decisions).take 4, tally := none } }
  let s := s.setObj Obj.FIX_LAST_DECISION (d.id + d.step * 2 ^ 32 + b2n d.discard * 2 ^ 96)
  s.fixSend (fanFrame 0x33 5 (s.obj Obj.COMMIT_FAN) 0 0 0 (decidePayload d))

/-- FIX_PREPARED at the root (R374). -/
def State.takePrepared (f : Frame) (s : State) : Wr :=
  let id := leNat (slice f.payload 0 4)
  let step := leNat (slice f.payload 4 8)
  let cause := leNat (slice f.payload 12 1)
  if f.slice ≠ s.obj Obj.STEP_SLICE then s.no 0x0801
  else if f.len ≠ 24 then s.no 0x0809
  else if s.obj Obj.COMMIT_ROOT ≠ s.selfId then s.no 0x0805
  else match s.fixU.decisions.find? (fun d => d.id == id) with
  | some d => (s.fixSend (unitFrame 0x33 5 f.srcDev 0 0 0 (decidePayload d))).ok
  | none =>
    let t : FixTally := s.fixU.tally.getD { id, step, devs := [] }
    if cause ≠ 0 ∨ t.id ≠ id ∨ t.step ≠ step then
      let s := s.fixDecide { id := t.id, step := t.step, discard := true }
      (if t.id = id then s else s.fixDecide { id, step, discard := true }).ok
    else
      let devs := if t.devs.contains f.srcDev then t.devs else t.devs ++ [f.srcDev]
      let s := { s with fixU := { s.fixU with tally := some { t with devs } } }
      (if devs.length = s.obj Obj.MEMBERS then s.fixDecide { id, step, discard := false } else s).ok

/-- The commit record (Table 14-5). -/
def commitRecord (id base step bytes chunks rows d pos : Nat) (full : Bool) (dev digest : Nat) : List Byte :=
  leBytes 128 (id + base * 2 ^ 32 + step * 2 ^ 64 + bytes * 2 ^ 128 + chunks * 2 ^ 192 + rows * 2 ^ 224 + d * 2 ^ 256 + pos * 2 ^ 260 +
    b2n full * 2 ^ 264 + dev * 2 ^ 278 + digest * 2 ^ 320)

/-- The COMMIT of a member (R375), once a slot takes its record. -/
def State.fixCommit (s : State) : State :=
  match s.allocate with
  | none => { s with fixU := { s.fixU with commitDue := true } }
  | some (slot, t) =>
    let u := t.fixU
    let rec_ := commitRecord u.id u.baseId (t.obj Obj.FIX_STEP) u.stream.length u.opened (rowsOf t.fixD t.fixCounts) t.fixD t.fixPos u.full
      t.selfId (shake256 u.stream)
    let t := (t.write .unit (t.slotAddr slot) rec_).setDir slot (dirEntry u.id 0 false true true 0)
    let t := t.persist Obj.FIX_LAST_ID u.id
    let t := if u.full then t.persist Obj.FIX_BASE_ID u.id else t
    let last : FixLast := { id := u.id, base := u.baseId, step := t.obj Obj.FIX_STEP, full := u.full, counts := t.fixCounts }
    ({ t with fixU := { t.fixU with commitDue := false, last := some last } }.setFixState 0).count 32 Obj.FIXES_COMMITTED 1

/-- FIX_DECIDE (R375, R377); a decision that the member does not act on raises FIX_STALE, and one of a Fix that is not its current one is
refused (R382). -/
def State.takeDecide (f : Frame) (s : State) : Wr :=
  let id := leNat (slice f.payload 0 4)
  let discard := leNat (slice f.payload 12 4) % 2 == 1
  if f.slice ≠ s.obj Obj.STEP_SLICE then s.no 0x0801
  else if f.len ≠ 16 then s.no 0x0809
  else if (s.fixState = 2 ∨ s.fixState = 3) ∧ id = s.fixU.id then
    (if discard then s.fixDiscard 7 else if s.fixState = 2 then s.clearMarks.fixCommit else s.fixCommit).ok
  else if s.fixCurrent ∧ id = s.fixU.id then (s.count 32 Obj.FIX_STALE 1).ok
  else (s.count 32 Obj.FIX_STALE 1).no 0x0805

/-- A rebuild that cannot be made ends (R381): IDLE, and FIX_LAST_DISCARD with cause 0. -/
def State.rebuildFails (s : State) : State :=
  let id := s.obj Obj.FIX_LAST_ID
  (({ s with fixU := { s.fixU with rebuild := none } }).setFixState 0).setObj Obj.FIX_LAST_DISCARD (s.chr + id * 2 ^ 64)

/-- A frame of the Fix engine is refused: a stripe for room is repeated after 10 µs (R372); a pull ends the rebuild (R381). -/
def State.fixFailed (s : State) (f : Frame) (code : Nat) : State :=
  if f.opcode = 0x34 ∧ s.fixState = 5 then s.rebuildFails
  else if s.fixState ≠ 2 then s
  else if f.opcode = 0x30 ∧ code = 0x080B then
    { s with fixU := { s.fixU with retries := s.fixU.retries ++ [{ frame := f, due := s.now + 10000 }] } }
  else if f.opcode = 0x30 then { s with fixU := { s.fixU with refused := true } }
  else s

/-- A Fix flow is lost (Table 14-6, cause 3). -/
def State.fixLost (s : State) : State := s.post (.fixEnd 3)

/-! ### Arming (R378, R383, R384) -/

/-- The ranges of a Fix that overlap nothing (R383): staging, store, valid regions and reference copies, as addresses and lengths. -/
def State.fixAreas (s : State) : List (Nat × Nat) :=
  let len := s.obj Obj.FIX_STAGE_LEN
  [(s.stageBase 0, len), (s.stageBase 1, len), (s.obj Obj.FIX_STORE_BASE, s.obj Obj.FIX_STORE_LEN)] ++
    (s.fixRegions.map (fun r => (r.page * 65536, r.pages * 65536) :: (if r.kind = 0 then [(r.aux, r.pages * 65536)] else []))).flatten

/-- The TOUCH bitmaps of the TABLE regions. -/
def State.touchMaps (s : State) : List (Nat × Nat) := (s.fixRegions.filter (fun r => r.kind == 2)).map (fun r => (r.aux, r.touchBytes))

/-- Every range that a Fix uses. -/
def State.fixRanges (s : State) : List (Nat × Nat) := s.fixAreas ++ s.touchMaps

/-- Whether no two ranges of a list meet. -/
def fixDisjoint : List (Nat × Nat) → Bool
  | [] => true
  | r :: rest => rest.all (fun q => !rangesMeet r.1 r.2 q.1 q.2) && fixDisjoint rest

/-- Whether a region's fields are legal (Table 14-1). -/
def FixRegion.ok (r : FixRegion) (v : Nat) : Bool :=
  bits v 39 0 % 65536 == 0 && decide (1 ≤ r.pages) && decide (r.kind ≤ 3) &&
    (r.kind != 2 || (decide (0 < r.row) && r.row % 64 == 0 && decide (r.row ≤ 65536)))

/-- The code with which ARM is refused now, 0 where it is not (R378, R383, R384). A valid region whose fields Table 14-1 does not allow
is refused as one that R383 finds wrong (DEDUCED, log 55). -/
def State.fixArmCode (s : State) (full : Bool) : Nat :=
  let g := s.fixGroup
  let id := s.obj Obj.FIX_ARM_ID
  let last := s.obj Obj.FIX_LAST_ID
  let codes := s.fixRanges.map (fun r => s.checkRange (s.obj Obj.STEP_SLICE) r.1 r.2)
  let st := s.obj Obj.STEP_STATE
  if s.fixState ≠ 0 ∨ st < 2 ∨ 6 < st then 0x0805
  else if !fixDisjoint s.fixAreas ∨ s.fixAreas.any (fun a => s.touchMaps.any (fun m => rangesMeet a.1 a.2 m.1 m.2)) ∨ s.fixRegions.any (fun r => !r.ok (s.obj (Obj.FIX_REGION r.index))) ∨ s.fixD = 0 ∨
      !decide g.Nodup ∨ !g.contains s.selfId then 0x0809
  else if codes.contains 0x0801 then 0x0801
  else if codes.contains 0x0802 then 0x0802
  else if id ≤ last ∨ (!full ∧ id ≠ last + 1) then 0x0809
  else if s.obj Obj.FIX_DRAINED_SLOTS < s.fixU.allocated then 0x080B
  else 0

/-- Whether the next Fix is full (R383). -/
def State.fixFull (s : State) : Bool := bit (s.obj Obj.FIX_CFG) 8 || s.fixU.firstAfterBegin

/-- A Fix ARMED (R378). -/
def State.armFix (s : State) (full : Bool) : State :=
  let u := s.fixU
  let id := s.obj Obj.FIX_ARM_ID
  let s := { s with fixU := { FixUnit.reset with
    id, baseId := if full then id else s.obj Obj.FIX_BASE_ID, full, head := u.head % s.storeSlots, last := u.last, tally := u.tally, decisions := u.decisions } }
  (s.setObj Obj.FIX_DRAINED_SLOTS 0).setFixState 1

/-- ARM (R378, R383, R384). -/
def State.fixArm (s : State) : Wr :=
  let code := s.fixArmCode s.fixFull
  if code = 0 then (s.armFix s.fixFull).ok else s.no code

/-- ABANDON (Table 14-6, cause 5; Table 14-8). -/
def State.fixAbandon (s : State) : Wr :=
  match s.fixState with
  | 1 => (s.fixStop 5).ok
  | 2 => (s.fixStop 5).ok
  | _ => s.no 0x0805

/-- A write of FIX_CTRL. -/
def State.writeFixCtrl (s : State) (v : Nat) : Wr := match v with | 1 => s.fixArm | 2 => s.fixAbandon | _ => s.no 0x0809

/-- END_JOB on the Fix (Table 14-6, cause 6; Table 14-8). -/
def State.fixEndJob (s : State) : State := match s.fixState with | 1 => s.fixStop 6 | 2 => s.fixStop 6 | _ => s

/-- A write of FIX_DRAINED_SLOTS (Table 14-9): it only rises; a commit or a rebuild that waits for slots goes on. It is written while a Fix
runs, for R372 counts on it. -/
def State.writeDrained (s : State) (v : Nat) : Wr :=
  if v < s.obj Obj.FIX_DRAINED_SLOTS then s.no 0x0809
  else
    let s := s.setObj Obj.FIX_DRAINED_SLOTS v
    ((if s.fixU.commitDue then s.fixCommit else s).post .fixTest).ok

/-- A write of a region (Table 14-1): the fields of a valid one are in their ranges (R447). -/
def State.writeRegion (s : State) (key v : Nat) : Wr :=
  let r : FixRegion :=
    { index := 0, page := bits v 39 0 / 65536, pages := bits v 63 40, kind := bits v 67 64, aux := bits v 167 128, row := bits v 223 192 }
  if bit v 68 && !r.ok v then s.no 0x0809
  else if s.fixState ≠ 0 then s.no 0x0805
  else (s.setObj key v).ok

/-- A write of another RW object of Table 14-9. -/
def State.writeFix (s : State) (key v : Nat) : Wr :=
  let bases := [Obj.FIX_STORE_BASE, Obj.FIX_STAGE_BASE0, Obj.FIX_STAGE_BASE1]
  if (bases.contains key ∧ v % 65536 ≠ 0) ∨ (key = Obj.FIX_STAGE_LEN ∧ v < 2 ^ 24) then s.no 0x0809
  else if s.fixState ≠ 0 then s.no 0x0805
  else (s.setObj key (if key = Obj.FIX_CFG then v &&& 0x10F else v)).ok

/-! ### Applying (R380) -/

/-- The stream behind a commit record. -/
def State.applyStream (s : State) (a : Nat) : List Byte :=
  s.bytes (s.home (a + 128)) (bits (leNat (s.bytes (s.home a) 128)) 191 128)

/-- APPLY: the checks (R380), which read the record and its stream and meet their stored errors (R212, R213). -/
def State.fixApply (s : State) : Wr :=
  let a := s.obj Obj.FIX_APPLY_ADDR
  if s.obj Obj.STEP_STATE ≠ 0 ∨ s.fixState ≠ 0 then s.no 0x0805
  else if !s.rangeMapped a 128 then s.no 0x0802
  else
    let r := leNat (s.bytes (s.home a) 128)
    if !s.rangeMapped a (128 + bits r 191 128) then s.no 0x0802
    else
    let s := s.noteRead 3 (s.home a) (128 + bits r 191 128)
    if bits r 575 320 ≠ shake256 (s.applyStream a) ∨ bits r 291 278 ≠ s.selfId ∨
        !(bit r 264 || (bits r 31 0 == s.obj Obj.FIX_LAST_ID + 1 && bits r 63 32 == s.obj Obj.FIX_BASE_ID)) then s.no 0x0809
    else ({ s with fixU := { s.fixU with apply := some a } }.setFixState 4).ok

/-- XOR of a delta body into 64 KiB at an address, from what stands there (read at class P3, R365) or from zeros. -/
def State.xorBody (s : State) (a : Nat) (zero : Bool) (body : List Byte) : State :=
  match decodeDelta body 8192 with
  | some ds =>
    let old := if zero then List.replicate 8192 0 else wordsOf (s.bytes (s.home a) 65536)
    let s := if zero then s else s.noteRead 3 (s.home a) 65536
    s.write .unit a ((List.zipWith (· ^^^ ·) old ds).map (leBytes 8)).flatten
  | none => s

/-- One record applied (the table of R380). -/
def State.applyRecord (s : State) (h : Nat) (body : List Byte) : State :=
  let a := bits h 39 0
  match bits h 43 40 with
  | 0 =>
    let s := s.xorBody a false body
    (match s.regionOfPage (a / 65536) with
     | some r => s.xorBody (r.aux + (a / 65536 - r.page) * 65536) false body
     | none => s)
  | 1 => s.xorBody a true body
  | 2 => s.write .unit a body
  | 3 => s.write .unit a (momentPage body)
  | _ => s

/-- The records of a stream applied in order; `fuel` bounds their number. -/
def State.applyRecords : Nat → State → List Byte → State
  | 0, s, _ => s
  | n + 1, s, l =>
    if l.length < 16 then s
    else
      let h := leNat (l.take 16)
      if bits h 43 40 = 0xF then s
      else
        let len := bits h 95 64
        State.applyRecords n (s.applyRecord h (slice l 16 len)) (l.drop (16 + len))

/-- A commit record applied (R380): a whole Fix begins from zeros; the stream's records follow, and the Fix is the last and the base. -/
def State.applyFix (s : State) (a : Nat) : State :=
  let r := leNat (s.bytes (s.home a) 128)
  let l := s.applyStream a
  let s := s.noteRead 3 (s.home a) (128 + bits r 191 128)
  let s := if bit r 264 then
      s.fixRegions.foldl (fun t x => t.write .unit (x.page * 65536) (List.replicate (x.pages * 65536) 0#8)) s else s
  let s := State.applyRecords (l.length / 16 + 1) s l
  let s := { s with fixU := { s.fixU with apply := none } }
  ((s.setFixState 0).persist Obj.FIX_LAST_ID (bits r 31 0)).persist Obj.FIX_BASE_ID (bits r 63 32)

/-- FIX_APPLY_DONE (R380): the records have been applied, and the IDs are taken. -/
def doFixApplyDone (s : State) : Out :=
  match s.fixU.apply with
  | none => .next s
  | some a =>
    if s.fixState ≠ 4 then .next s else .next (s.applyFix a)

/-! ### Rebuilding (R381) -/

/-- The slot of the store that holds a row of a Fix in full, and what it holds. -/
def State.storeSlot (s : State) (id row : Nat) : Option Nat :=
  (List.range s.storeSlots).find? (fun k => let e := s.dir k; bits e 31 0 == id && bits e 63 32 == row && bit e 65 && !bit e 66)

/-- The members of a row beside the lost one: those with a chunk in it and the holder of its parity. One without a chunk contributes zero
(R371). -/
def rowMembers (d pos : Nat) (counts : List (Nat × Nat)) (r : Nat) : List Nat :=
  (List.range (d + 1)).filter (fun p => p != pos && (holderOf d r == p || hasChunk d counts p r))

/-- REBUILD of position `pos` of the last Fix committed (R381): pulls go out for every row that held the lost member's data; the module's own
slot of a row is at hand, or the rebuild ends. -/
def State.startRebuild (s : State) (last : FixLast) (pos n : Nat) : State :=
  let id := last.id
  let rows := (List.range n).map (rowOfChunk s.fixD pos)
  let need (r : Nat) : List Nat := (rowMembers s.fixD pos last.counts r).filter (fun p => p != s.fixPos)
  if rows.any (fun r => (rowMembers s.fixD pos last.counts r).contains s.fixPos && (s.storeSlot id r).isNone) then s.noteDir.rebuildFails else
  let s := s.noteDir
  let own (r : Nat) : List Byte := match s.storeSlot id r with | some k => s.bytes (s.home (s.slotAddr k)) (2 ^ 20) | none => List.replicate (2 ^ 20) 0#8
  let b : Rebuild := { id, pos, rows := rows.map (fun r => (r, (need r).length * 2 ^ 20)), chunks := rows.zipIdx.map (fun (r, k) => (k, own r)) }
  let s := ({ s with fixU := { s.fixU with rebuild := some b } }).setFixState 5
  let s := (rows.filterMap (s.storeSlot id)).foldl (fun t k => t.noteRead 3 (t.home (t.slotAddr k)) (2 ^ 20)) s
  (rows.foldl (fun t r => (need r).foldl (fun u p =>
    u.fixSend (unitFrame 0x34 6 (s.fixGroup.getD p 0) 0 0 0 (leBytes 4 id ++ leBytes 4 r))) t) s).post .fixTest

/-- REBUILD (R381): what the holders' FIX_COUNT and the root's decision said of the Fix is kept from its commit, and a rebuild without it
ends. -/
def State.fixRebuild (s : State) : Wr :=
  let pos := s.obj Obj.FIX_REBUILD_POS
  if s.obj Obj.STEP_STATE ≠ 0 ∨ s.fixState ≠ 0 then s.no 0x0805
  else if s.fixD < pos then s.no 0x0809
  else match s.fixU.last with
  | none => s.rebuildFails.ok
  | some last =>
    match last.counts.find? (fun c => c.1 == pos) with
    | none => s.rebuildFails.ok
    | some (_, n) => if last.id = s.obj Obj.FIX_LAST_ID then (s.startRebuild last pos n).ok else s.rebuildFails.ok

/-- FIX_PULL (R381). -/
def State.takePull (f : Frame) (s : State) : Wr :=
  let id := leNat (slice f.payload 0 4)
  let row := leNat (slice f.payload 4 4)
  if f.slice ≠ s.obj Obj.STEP_SLICE then s.no 0x0801
  else if f.len ≠ 8 then s.no 0x0809
  else match s.storeSlot id row with
  | none => s.noteDir.no 0x0802
  | some k =>
    let s := s.noteDir
    let a := s.home (s.slotAddr k)
    let data := s.bytes a (2 ^ 20)
    ((List.range 256).foldl (fun t i =>
      t.fixSend (unitFrame 0x35 6 f.srcDev 0 row (i * 4096 + id % 2 ^ 16 * 2 ^ 24) (slice data (i * 4096) 4096))) (s.noteRead 3 a (2 ^ 20))).ok

/-- The bytes of a stream up to and with its end record; `fuel` bounds the records. -/
def streamLength : Nat → List Byte → Nat
  | 0, _ => 0
  | n + 1, l =>
    if l.length < 16 then 0
    else
      let h := leNat (l.take 16)
      if bits h 43 40 = 0xF then 16 else 16 + bits h 95 64 + streamLength n (l.drop (16 + bits h 95 64))

/-- Whether the store has slots for a rebuild's chunks and its record (R372); while it has not, the engine waits. -/
def State.rebuildRoom (s : State) (b : Rebuild) : Bool :=
  decide (s.fixU.allocated + b.chunks.length + 1 ≤ s.storeSlots + s.obj Obj.FIX_DRAINED_SLOTS)

/-- A rebuild whose answers have all come (R381): the chunks and the lost member's commit record go into the own store. -/
def State.finishRebuild (s : State) (last : FixLast) (b : Rebuild) : State :=
  let s := b.chunks.foldl (fun t c =>
    match t.allocate with
    | some (slot, u) => (u.write .unit (u.slotAddr slot) c.2).setDir slot (dirEntry b.id (rowOfChunk u.fixD b.pos c.1) false true false c.1)
    | none => t) s
  let l := (b.chunks.map (·.2)).flatten
  let n := streamLength (l.length / 16 + 1) l
  let rec_ := commitRecord b.id last.base last.step n b.chunks.length (rowsOf s.fixD last.counts) s.fixD b.pos last.full
    (s.fixGroup.getD b.pos 0) (shake256 (l.take n))
  let s := match s.allocate with
    | some (slot, u) => (u.write .unit (u.slotAddr slot) rec_).setDir slot (dirEntry b.id 0 false true true 0)
    | none => s
  ({ s with fixU := { s.fixU with rebuild := none } }).setFixState 0

/-- A rebuild that waits for nothing ends. -/
def State.rebuildTest (s : State) : State :=
  match s.fixU.rebuild, s.fixU.last with
  | some b, some last => if s.fixState = 5 ∧ b.rows.all (fun r => r.2 == 0) ∧ s.rebuildRoom b then s.finishRebuild last b else s
  | _, _ => s

/-- A rebuild with the bytes of a FIX_CHUNK taken in: its row waits for that much less, and its chunk is the exclusive or of all. -/
def Rebuild.addChunk (b : Rebuild) (d : Nat) (f : Frame) : Rebuild :=
  let off := f.addr % 2 ^ 20
  let k := chunkOfRow d b.pos f.aux
  let xor (l : List Byte) : List Byte := l.take off ++ List.zipWith (· ^^^ ·) (slice l off f.len) f.payload ++ l.drop (off + f.len)
  { b with
    rows := b.rows.map (fun r => if r.1 = f.aux then (r.1, r.2 - f.len) else r)
    chunks := b.chunks.map (fun c => if c.1 = k then (k, xor c.2) else c) }

/-- FIX_CHUNK (R381, R382). -/
def State.takeChunk (f : Frame) (s : State) : Wr :=
  let off := f.addr % 2 ^ 20
  if f.slice ≠ s.obj Obj.STEP_SLICE then s.no 0x0801
  else match s.fixU.rebuild with
  | none => s.no 0x0805
  | some b =>
    if s.fixState ≠ 5 ∨ bits f.addr 39 24 ≠ b.id % 2 ^ 16 then s.no 0x0805
    else if f.len = 0 ∨ 4096 < f.len ∨ 2 ^ 20 < off + f.len ∨ !(b.rows.any (fun r => r.1 == f.aux)) then s.no 0x0809
    else
      ({ s with fixU := { s.fixU with rebuild := some (b.addChunk s.fixD f) } }.post .fixTest).ok

/-- A write of FIX_SVC (R376, R380, R381). -/
def State.writeFixSvc (s : State) (v : Nat) : Wr :=
  match v with
  | 1 => s.fixApply
  | 2 => s.fixRebuild
  | 3 => if s.fixState = 3 then s.fixCommit.ok else s.no 0x0805
  | 4 => if s.fixState = 3 then (s.fixDiscard 7).ok else s.no 0x0805
  | _ => s.no 0x0809

end Sys2Proof.Machine
end

