-- ==== Sys2Proof/Machine/Reserves.lean ====
section
/-! DEFINITION. Spare capacity and Reserves (R386–R395): swap requests, wakes, swaps, redundant banks, spare lanes, phases and
sensors. -/

namespace Sys2Proof.Machine

/-! ### Requests (R390) -/

/-- RSV_STATE of a Reserve core. -/
def State.rsv (s : State) (core : Nat) : Nat := s.obj (Obj.RSV_STATE (reserveNo core))
def State.setRsv (s : State) (core v : Nat) : State := s.setObj (Obj.RSV_STATE (reserveNo core)) v

/-- The Reserves of a die. -/
def reservesOf (die : Nat) : List Nat := (List.range 4).map (fun i => reserveCore (4 * die + i))

/-- Whether a Reserve is SLEEPING or READY. One that the last start-up found retired stays OFF (R395). -/
def State.rsvFree (s : State) (core : Nat) : Bool := (s.rsv core == 0 || s.rsv core == 2) && !bit s.health.retired core

/-- RESERVES_FREE (Table 15-6). -/
def State.reservesFree (s : State) : Nat :=
  ((reservesOf 0).filter s.rsvFree).length + 16 * ((reservesOf 1).filter s.rsvFree).length

/-- RSV_PENDING (Table 15-6). -/
def State.rsvPending (s : State) : Nat := maskOf (s.health.swaps.map (·.core))

/-- The state with the pending swaps replaced. -/
def State.setSwaps (s : State) (l : List Swap) : State := { s with health := { s.health with swaps := l } }

/-- The pending swap that has a Reserve. -/
def State.swapOf (s : State) (reserve : Nat) : Option Swap := s.health.swaps.find? (fun w => w.reserve == some reserve)

/-- Whether core `a` goes before core `b` where both need the last Reserve of a die (R390). -/
def State.needsFirst (s : State) (a b : Nat) : Bool :=
  let x := s.obj (Obj.DRIFT_CORE a)
  let y := s.obj (Obj.DRIFT_CORE b)
  decide (y < x) || (x == y && decide (a < b))

/-- The Reserve that a request of a core takes where the choice is the module's: the lowest-numbered SLEEPING or READY one that
no other request has; failing that, a READY one of a request that comes after this one. -/
def State.chooseReserve (s : State) (core : Nat) : Option Nat :=
  let free := (reservesOf (dieOfCore core)).filter s.rsvFree
  match free.find? (fun r => (s.swapOf r).isNone) with
  | some r => some r
  | none => free.find? (fun r => match s.swapOf r with | some w => s.needsFirst core w.core | none => false)

/-- The clock of R390 that sends a READY Reserve back to sleep: since when no request has named it. -/
def State.setIdleSince (s : State) (core : Nat) (t : Option Nat) : State :=
  { s with health := { s.health with idleSince := Sparse.set (fun _ => none) s.health.idleSince core t } }

/-- A Reserve wakes (R391): its pair domain powers. While the module stays off none does (R413, R478). -/
def State.wakeReserve (s : State) (core : Nat) : State := if s.staysOff then s else (s.setRsv core 1).wakeAll (core / 2)

/-- A request of a core given a Reserve: another request that had it waits without one; a SLEEPING Reserve wakes. -/
def State.giveReserve (s : State) (core reserve : Nat) : State :=
  let drop (w : Swap) : Swap := if w.reserve = some reserve then { w with reserve := none } else w
  let give (w : Swap) : Swap := if w.core = core then { w with reserve := some reserve } else w
  let s := (s.setSwaps ((s.health.swaps.map drop).map give)).setIdleSince reserve none
  if s.rsv reserve = 0 then s.wakeReserve reserve else s.post .bringIn

/-- A request of the module's choice that is pending: a Reserve where one is left, and RESERVES_EXHAUSTED where none is. -/
def State.findReserve (s : State) (core : Nat) : State :=
  match s.chooseReserve core with
  | some r => s.giveReserve core r
  | none => s.moduleHealth 64

/-- Requests that wait without a Reserve look again, the one that goes first before the others. -/
def State.findAgain (s : State) : State :=
  let waiting := (s.health.swaps.filter (fun w => w.reserve.isNone)).map (·.core)
  let order := sortBy s.needsFirst waiting
  order.foldl (fun t c => match t.chooseReserve c with | some r => t.giveReserve c r | none => t) s

/-- Whether a core may be retired by a request (R390): in service and not pending, or left OFF by its self-test. -/
def State.maySwap (s : State) (core : Nat) : Bool :=
  !s.health.swaps.any (fun w => w.core == core) && (s.coreSt core != .off || s.health.selfFailed.contains core) &&
    (!isReserve core || s.rsv core == 3)

/-- A pending request entered. -/
def State.enterSwap (s : State) (core : Nat) : State := s.setSwaps (s.health.swaps ++ [{ core, reserve := none }])

/-- A request made by the module with Reserve 0x7F (Table 15-5, R484). -/
def State.autoSwap (s : State) (core : Nat) : State := if s.maySwap core then (s.enterSwap core).findReserve core else s

/-- A request ended: a READY Reserve that it had waits for another (Table 15-2). -/
def State.cancelSwap (s : State) (core : Nat) : State :=
  let freed := (s.health.swaps.filter (fun w => w.core == core)).filterMap (·.reserve)
  let s := s.setSwaps (s.health.swaps.filter (fun w => w.core != core))
  (freed.foldl (fun t r => if t.rsv r = 2 then t.setIdleSince r (some t.now) else t) s).findAgain

/-- A write of RSV_SWAP (R390). A request whose Reserve a higher score holds stays pending; RESERVES_EXHAUSTED is set where it finds none
on its die. -/
def State.writeRsvSwap (s : State) (v : Nat) : Wr :=
  let core := bits v 6 0
  let r := bits v 14 8
  if 104 ≤ core then s.no 0x0809
  else if bit v 15 then
    (if s.health.swaps.any (fun w => w.core == core) then (s.cancelSwap core).ok else s.no 0x0805)
  else if r ≠ 0x7F ∧ !((reservesOf (dieOfCore core)).contains r && s.rsvFree r) then s.no 0x0809
  else if !s.maySwap core then s.no 0x0805
  else if r = 0x7F then
    (if (reservesOf (dieOfCore core)).any s.rsvFree then ((s.enterSwap core).findReserve core).ok else (s.moduleHealth 64).no 0x080B)
  else match s.swapOf r with
  | some w =>
    if s.needsFirst core w.core then ((s.enterSwap core).giveReserve core r).ok
    else if (s.chooseReserve core).isSome then (s.enterSwap core).ok
    else ((s.enterSwap core).moduleHealth 64).ok
  | none => ((s.enterSwap core).giveReserve core r).ok

/-! ### Wakes (R391) -/

/-- The other core of a pair. -/
def sibling (core : Nat) : Nat := if core % 2 = 0 then core + 1 else core - 1

/-- The layer record at a Reserve's ENTRY_PC, read into its layer registers (R391, step 4; Table 6-1), where R146 and R391 let it be read
for the retiring core's slice. -/
def State.preloadRecord (s : State) (reserve core : Nat) : State :=
  let a := s.obj (Obj.ENTRY_PC reserve)
  let slice := s.sliceOfCore core
  if a % 512 ≠ 0 ∨ !s.rangeMapped a 512 ∨ 0xC000000000 ≤ a ∨ slice = 0xFFFF ∨ !s.hbmOwnedBy slice a 512 then s
  else (s.noteRead 0 a 512).setRecord reserve (s.bytes a 512)

/-- What a Reserve fetches at its ENTRY_PC (R391, step 4): in program mode the first four lines, as R146 checks and reads them for the
retiring core's slice; in mode 1 the layer record. -/
def State.preload (s : State) (reserve core : Nat) : State :=
  if s.obj (Obj.CORE_MODE reserve) ≠ 0 then s.preloadRecord reserve core
  else
    let first := lineOf (s.obj (Obj.ENTRY_PC reserve))
    (List.range 4).foldl (fun t i =>
      let line := first + i
      if t.lineCode core line ≠ 0 ∨ leNat (t.bytes (line * 512 / 65536 * 65536) 4) ≠ t.obj (Obj.PROG_GEN reserve) then t
      else t.setCore reserve ((t.core reserve).insertLine line (leNat (t.bytes (line * 512) 512)) 0)) s

/-- RESERVE_READY (R391): a waking Reserve's self-test ends. -/
def doReserveReady (core : Nat) (pass : Bool) (s : State) : Out :=
  if isReserve core = false ∨ 104 ≤ core then .next s
  else if s.rsv core ≠ 1 ∨ s.pd (core / 2) ≠ 2 then .next s
  else if pass then
    let s := ((s.coreReset core).setCoreSt core .off).setRsv core 2
    match s.swapOf core with
    | some w =>
      let s := s.setObjs [(Obj.CORE_MODE core, s.obj (Obj.CORE_MODE w.core)), (Obj.ENTRY_PC core, s.obj (Obj.ENTRY_PC w.core)),
        (Obj.PROG_GEN core, s.obj (Obj.PROG_GEN w.core))]
      .next ((s.preload core w.core).post .bringIn)
    | none => .next ((s.setIdleSince core (some s.now)).findAgain)
  else
    let s := ((s.setRsv core 4).moduleHealth 32).driftEvent 20 0 1
    let s := s.logEvent .reserveFailed 0 (srcCode 1 core) 0xFFFF 0
    match s.swapOf core with
    | some w =>
      let drop (x : Swap) : Swap := if x.core = w.core then { x with reserve := none } else x
      .next ((s.setSwaps (s.health.swaps.map drop)).findReserve w.core)
    | none => .next s

/-- A core's pair goes off where its sibling is OFF too, and no wake needs the pair (R395, Table 15-2). -/
def State.pairOff (s : State) (core : Nat) : State :=
  let sib := sibling core
  if s.coreSt sib = .off ∧ (isReserve sib = false ∨ (s.rsv sib ≠ 1 ∧ s.rsv sib ≠ 2)) then s.domainOff (core / 2) else s

/-- RESERVE_IDLE_TIMEOUT (Table 15-2): a READY Reserve has had no request for 60 s; its pair goes off where nothing else uses it. -/
def doReserveIdleTimeout (core : Nat) (s : State) : Out :=
  if isReserve core = false ∨ 104 ≤ core then .next s
  else
    let since := Sparse.get (fun _ => none) s.health.idleSince core
    if s.rsv core = 2 ∧ (s.swapOf core).isNone ∧ heldFor since s.now 60000000000 then
      .next ((((s.setRsv core 0).setIdleSince core none).coreOff core).pairOff core)
    else .next s

/-! ### Swaps (R392–R395) -/

/-- The granules of a core's scratchpad that hold a stored error. -/
def State.badGranules (s : State) (core : Nat) : List Nat :=
  (s.errs.map (·.1)).filter (fun u => decide (spBase core / 32 ≤ u) && decide (u < spBase core / 32 + spSize / 32))

/-- A core's scratchpad and tile buffers copied into another's (R392): correctable errors are corrected on the way, uncorrectable
ones go with their granules (R508), and the copy's reads count what they meet (R191). -/
def State.copyCore (s : State) (src dst : Nat) : State :=
  let s := (s.badGranules src).foldl (fun t u => t.noteError 0 u) s
  let g := spSize / 32
  let bytes := (s.mem.filter (fun e => decide (spBase src ≤ e.1) && decide (e.1 < spBase src + spSize))).map
    (fun e => (e.1 - spBase src + spBase dst, e.2))
  let bad := (s.errs.filter (fun e => decide (spBase src / 32 ≤ e.1) && decide (e.1 < spBase src / 32 + g) && e.2 == .uncorrectable)).map
    (fun e => (e.1 - spBase src / 32 + spBase dst / 32, e.2))
  let tiles := (s.tb.filter (fun e => decide (src * 4 * 65536 ≤ e.1) && decide (e.1 < (src + 1) * 4 * 65536))).map
    (fun e => (e.1 - src * 4 * 65536 + dst * 4 * 65536, e.2))
  { s with
    mem := Sparse.setMany memDefault (Sparse.eraseRange s.mem (spBase dst) spSize) bytes
    errs := Sparse.setMany (fun _ => MemErr.none) (Sparse.eraseRange s.errs (spBase dst / 32) g) bad
    tb := Sparse.setMany (fun _ => none) (Sparse.eraseRange s.tb (dst * 4 * 65536) (4 * 65536)) tiles }

/-- The objects that a swap copies (R392). -/
def swapObjects (n : Nat) : List Nat :=
  [Obj.CORE_MODE n, Obj.ENTRY_PC n, Obj.LAUNCH_WP n, Obj.LAUNCH_THRESH n, Obj.LAUNCH_ARG n, Obj.PROG_GEN n, Obj.WDOG_LIMIT n,
    Obj.RUN_LIMIT n, Obj.RNG_MODE n, Obj.RNG_SEED n, Obj.RNG_RANK n, Obj.LAP n] ++ (List.range 64).map (Obj.LYR n)

/-- The objects copied; a PROG_GEN other than the one copied at the wake empties the Reserve's instruction cache. -/
def State.copyObjects (s : State) (src dst : Nat) : State :=
  let s := if s.obj (Obj.PROG_GEN src) = s.obj (Obj.PROG_GEN dst) then s else s.setCore dst { s.core dst with icache := [] }
  (s.setObjs (List.zip (swapObjects dst) ((swapObjects src).map s.obj))).stepLanes dst

/-- A core's bit of a map moved to another core. -/
def moveBit (w src dst : Nat) : Nat := if bit w src then setBit (clearBit w src) dst else w

/-- The retiring core's slice, and its place in ACTIVE stages, given to the Reserve (R392). -/
def State.moveSlice (s : State) (src dst : Nat) : State :=
  let s := (List.range 8).foldl (fun t k => t.setObj (Obj.SLICE_CORES k) (moveBit (t.obj (Obj.SLICE_CORES k)) src dst)) s
  match s.stageOf src with
  | some k => s.setObj (Obj.STG_CORES k) (moveBit (s.obj (Obj.STG_CORES k)) src dst)
  | none => s

/-- Every alias that ends at a core, and the core's own window, moved to another core (R394). -/
def moveAliases (w src dst : Nat) : Nat :=
  (List.range 104).foldl (fun acc n =>
    let b := bits w (8 * n + 7) (8 * n)
    acc + (if n = src ∨ b = src then dst else b) * 2 ^ (8 * n)) 0

/-- A swap that R392 allows now. -/
def State.swapReady (s : State) (w : Swap) : Bool :=
  match w.reserve with
  | some r =>
    s.rsv r == 2 && s.obj Obj.STEP_STATE != 8 &&
      (match s.coreSt w.core with
        | .idle => true | .armed => true | .parkedFault => true
        | .off => s.health.selfFailed.contains w.core
        | _ => false)
  | none => false

/-- A write of SP_BANK_CE_THRESH: a bank whose corrected errors have reached the new value meets its trigger (Table 15-1, log 32). -/
def State.writeBankThresh (s : State) (v : Nat) : Wr :=
  ((reachedBy s.health.bankCe (s.obj Obj.SP_BANK_CE_THRESH) v).foldl (fun t k => t.bankTrigger (k / 32) (k % 32))
    (s.setObj Obj.SP_BANK_CE_THRESH v)).ok

/-- The retiring core OFF, its map bits and its window the Reserve's (R392, step 5). -/
def State.retire (s : State) (core reserve : Nat) (mark : Bool) : State :=
  let s := s.coreOff core
  let s := if mark then s.persist Obj.RETIRED_MAP (setBit (s.obj Obj.RETIRED_MAP) core) else s
  let s := s.setObj Obj.ACTIVE_MAP (setBit (clearBit (s.obj Obj.ACTIVE_MAP) core) reserve)
  s.setObj Obj.CORE_ALIAS (moveAliases (s.obj Obj.CORE_ALIAS) core reserve)

/-- The Reserve put in the retiring core's state (R392, step 4). -/
def State.handState (s : State) (armed : Bool) (mode reserve : Nat) : State :=
  if armed then (s.setCoreSt reserve .armed).setCore reserve { s.core reserve with mode } else s.setCoreSt reserve .idle

/-- The objects copied at its wake, put back to their reset values: a Reserve that takes the place of a core left OFF by its self-test
keeps these (R392). -/
def State.freshReserve (s : State) (r : Nat) : State :=
  (s.setObjs [(Obj.CORE_MODE r, dictDefault (Obj.CORE_MODE r)), (Obj.ENTRY_PC r, dictDefault (Obj.ENTRY_PC r)),
    (Obj.PROG_GEN r, dictDefault (Obj.PROG_GEN r))]).setCore r { s.core r with icache := [] }

/-- A swap performed with a Reserve (R392). -/
def State.swapCores (s : State) (c r : Nat) : State :=
  let tested := s.coreSt c == .off
  let armed := s.coreSt c == .armed
  let waits := (s.waiters.filter (fun x => x.core == c)).map (fun (x : Waiter) => { x with core := r })
  let mode := (s.core c).mode
  let s := if tested then s.freshReserve r else (s.copyCore c r).copyObjects c r
  let s := (((s.moveSlice c r).setRsv r 3).handState armed mode r).retire c r (!tested)
  let s := { s with waiters := s.waiters ++ waits }
  let s := (s.setSwaps (s.health.swaps.filter (fun x => x.core != c))).pairOff c
  (s.moduleHealth 16).logEvent .reserveIn 0 (srcCode 1 r) (s.sliceOfCore r) c

/-- A pending swap performed if it may be. -/
def State.performSwap (s : State) (w : Swap) : State :=
  match w.reserve with
  | some r => if s.swapReady w then s.swapCores w.core r else s
  | none => s

/-- The pending swaps performed, those that may be. -/
def State.performSwaps (s : State) : State := s.health.swaps.foldl State.performSwap s

/-! ### Redundant banks and spare lanes (R192, R386, R387) -/

/-- A redundant bank takes over a bank: its contents are copied, what the code can correct is corrected, and what the copy's reads meet
is counted (R191). -/
def State.spareBank (s : State) (w : Nat × Nat) : State :=
  let bad := (s.badGranules w.1).filter (fun u => u % 32 == w.2)
  let s := bad.foldl (fun t u => t.noteError 0 u) (s.setObj (Obj.SP_SPARE_BANK w.1) w.2)
  let s := { s with errs := s.errs.filter (fun e => !(bad.contains e.1 && e.2 != MemErr.uncorrectable)) }
  s.moduleHealth 0x400

/-- The banks that wait are spared, the first of each core. -/
def State.spareBanks (s : State) : State :=
  let due := s.health.bankPending
  let s := { s with health := { s.health with bankPending := [] } }
  due.foldl (fun t w => if t.obj (Obj.SP_SPARE_BANK w.1) = 0xFF then t.spareBank w else t.bankTrigger w.1 w.2) s

/-- A lane swap that waits is requested of its port (R387, R300); it ends with the quad's spare in use, and waits while the port
is not UP. -/
def State.swapLane (s : State) (x : Nat) : State :=
  let p := x / 4
  let drop (t : State) : State := { t with health := { t.health with lanePending := t.health.lanePending.filter (fun y => y != x) } }
  if !s.spareFree p then drop s
  else if s.portUp p then
    (((drop s).setObj (Obj.PORT_CTRL_LANE p) (x % 4)).writePortCtrl p 3).1
  else s

/-- The lane swaps that wait. -/
def State.swapLanes (s : State) : State := s.health.lanePending.foldl State.swapLane s

/-- Whether a swap that waits is to be performed at once: no job runs, and R392 allows it. -/
def State.swapDue (s : State) : Bool := s.obj Obj.STEP_STATE == 0 && s.health.swaps.any s.swapReady

/-- What waits for no job is performed if there is none (Table 15-1, R392). -/
def State.bringIn (s : State) : State :=
  if s.obj Obj.STEP_STATE = 0 then ((s.performSwaps).spareBanks).swapLanes else s

/-- LANE_SWAP_REQUEST (R387): a lane has stood over LANE_SWAP_THRESH in ten windows, and its quad's spare is free. -/
def doLaneSwapRequest (port lane : Nat) (s : State) : Out :=
  withPort s port <|
    let x := port * 4 + lane % 4
    let s := s.closeWindow
    if s.laneRun x < 10 ∨ !s.spareFree port ∨ x ∈ s.health.lanePending then .next s
    else .next (({ s with health := { s.health with lanePending := s.health.lanePending ++ [x] } }).post .bringIn)

/-! ### Phases and sensors (R388, R389) -/

/-- The number of a rail. -/
def railNo : Rail → Nat
  | .die d => d % 2
  | .xd => 2
  | .hbm => 3

/-- PHASE_SHED (R386, R388). -/
def doPhaseShed (rail : Rail) (s : State) : Out :=
  match rail with
  | .die (_ + 2) => .next s
  | _ =>
    let n := Sparse.get (fun _ => 0) s.health.phases (railNo rail) + 1
    let s := { s with health := { s.health with phases := Sparse.set (fun _ => 0) s.health.phases (railNo rail) n } }
    let s := (s.count 8 Obj.PHASE_SHED 1).moduleHealth 128
    if n < 2 then .next s
    else match rail with
    | .die d => .next (s.setRequest d 7 3)
    | _ => .next (s.setRequests 7 3)

/-- SENSOR_LOST (R386, R389): a sensor has given no valid reading for 1 ms. -/
def doSensorLost (site sensor : Nat) (s : State) : Out :=
  if 28 ≤ site ∨ 2 ≤ sensor then .next s
  else
    let k := 2 * site + sensor
    if k ∈ s.health.sensorsLost ∨ s.now < Sparse.get (fun _ => 0) s.health.sensorSeen k + 1000000 then .next s
    else
      let s := { s with health := { s.health with sensorsLost := s.health.sensorsLost ++ [k] } }
      .next (s.moduleHealth 0x200).sensorRequest

end Sys2Proof.Machine
end

