-- ==== Sys2Proof/Machine/Drift.lean ====
section
/-! DEFINITION. The Drift score (R396–R399): the inputs' points, the states, what an evaluation does; the objects of the scores. -/

namespace Sys2Proof.Machine

/-! ### Inputs (Tables 15-3 and 15-4) -/

/-- Events of an input in the last 24 h. -/
def State.last24 (s : State) (input unit : Nat) : Nat :=
  let h := s.now / 3600000000000
  ((List.range 24).map (fun i => if i ≤ h then Sparse.get (fun _ => 0) s.drift (driftKey input unit ((h - i) % 2 ^ 24)) else 0)).sum

/-- Events of an input over every hour that is kept. -/
def State.everSeen (s : State) (input unit : Nat) : Nat :=
  ((s.drift.filter (fun e => e.1 / 2 ^ 24 == input * 256 + unit)).map (·.2)).sum

/-- Canary margin lost, ps. -/
def State.marginLost (s : State) (core : Nat) : Nat :=
  (toSigned 32 (s.obj (Obj.CANARY_BASE_PS core)) - toSigned 32 (s.obj (Obj.CANARY_PS core))).toNat

/-- The points of a core's inputs, in the order of Table 15-3. -/
def State.coreTerms (s : State) (n : Nat) : List Nat :=
  [min 200 (2 * s.last24 0 n), min 600 (300 * s.everSeen 1 n), min 600 (150 * s.last24 2 n), min 400 (20 * s.marginLost n),
    min 200 (20 * s.last24 4 n), min 300 (300 * s.everSeen 5 n)]

/-- The remap entries in use in the fullest bank. -/
def State.fullestBank (s : State) : Nat := s.remaps.foldl (fun m g => max m (s.remapsOf (bankOfGroup g))) 0

/-- HBM channels with LANE_EXHAUSTED. -/
def State.exhaustedChannels (s : State) : Nat :=
  ((List.range 192).filter (fun ch =>
    decide (Config.redundantLanes < lanesOfChannel s.lanesRepaired ch + lanesOfChannel s.lanesPending ch))).length

/-- Cores at or above their replace threshold with no Reserve left on their die. -/
def State.stranded (s : State) : Nat :=
  let limit := bits (s.obj Obj.CORE_DRIFT_THRESH) 31 16
  ((List.range 104).filter (fun n =>
    bit (s.obj Obj.ACTIVE_MAP) n && decide (limit ≤ s.obj (Obj.DRIFT_CORE n)) && !(reservesOf (dieOfCore n)).any s.rsvFree)).length

/-- The points of the module's inputs, in the order of Table 15-4. -/
def State.moduleTerms (s : State) : List Nat :=
  [min 150 (s.last24 8 0 / 10000), min 300 (150 * s.everSeen 9 0), min 250 (4 * s.fullestBank), min 300 (150 * s.everSeen 11 0),
    min 300 (25 * s.lanesPending.length + 200 * s.exhaustedChannels), min 150 (5 * s.last24 13 0),
    min 160 (40 * (s.spares.filter (fun e => e.2.isSome)).length),
    min 400 (200 * ((List.range 16).filter (fun p => bit (s.obj (Obj.PORT_HEALTH p)) 2)).length),
    min 360 (120 * s.obj Obj.PHASE_SHED), min 150 (30 * s.health.sensorsLost.length), min 128 (s.health.flashUsed / 2),
    min 400 (20 * s.health.xdLost), min 400 (100 * s.everSeen 20 0), min 1000 (250 * s.stranded)]

/-- A score: the sum of its inputs' points, 1,000 at most (R396). -/
def scoreOf (terms : List Nat) : Nat := min 1000 terms.sum

/-- The points as the U16s of a terms object. -/
def termsBlob (terms : List Nat) : Nat := leNat ((terms.map (leBytes 2)).flatten)

/-! ### States (R397) -/

/-- The threshold of a level in a DRIFT_THRESH word. -/
def levelThresh (word level : Nat) : Nat := bits word (16 * level - 1) (16 * (level - 1))

/-- The highest level whose threshold a score reaches. -/
def levelOf (word score : Nat) : Nat :=
  if levelThresh word 3 ≤ score then 3 else if levelThresh word 2 ≤ score then 2 else if levelThresh word 1 ≤ score then 1 else 0

/-- Since when a score has lain below a level's threshold minus 100; unit 104 is the module. -/
def State.calmAt (s : State) (unit level : Nat) : Option Nat := Sparse.get (fun _ => none) s.health.calm (unit * 4 + level)

/-- The clocks of R397 after a score. -/
def State.noteCalm (s : State) (unit word score : Nat) : State :=
  [1, 2, 3].foldl (fun t level =>
    let c := heldSince (t.calmAt unit level) t.now (decide (score + 100 < levelThresh word level))
    { t with health := { t.health with calm := Sparse.set (fun _ => none) t.health.calm (unit * 4 + level) c } }) s

/-- A day in ns. -/
def dayNs : Nat := 86400000000000

/-- The level after an evaluation: it rises at once, and falls by one. -/
def State.nextLevel (s : State) (unit word old score : Nat) : Nat :=
  let up := levelOf word score
  if old < up then up else if 0 < old ∧ heldFor (s.calmAt unit old) s.now dayNs then old - 1 else old

/-- A core's score and state evaluated; a core whose state comes to REPLACE or above requests a swap. A sleeping Reserve's objects
stand. -/
def State.evalCore (s : State) (n : Nat) : State :=
  if s.sleeping n then s
  else
    let terms := s.coreTerms n
    let score := scoreOf terms
    let word := s.obj Obj.CORE_DRIFT_THRESH
    let old := s.obj (Obj.CORE_DRIFT_STATE n)
    let s := s.noteCalm n word score
    -- A lost retirement record keeps every core at WATCH (R456).
    let new := max (s.nextLevel n word old score) (b2n s.health.retiredLost)
    s.setObjs [(Obj.DRIFT_CORE n, score), (Obj.CORE_DRIFT_STATE n, new), (Obj.CORE_TERMS n, termsBlob terms)]

/-- The requests of an evaluation (Table 15-5, R390): cores that came to REPLACE, the one with the higher score first. -/
def State.autoSwaps (s : State) (old : Nat → Nat) : State :=
  if s.obj Obj.RSV_AUTO ≠ 1 then s
  else
    let due := (List.range 104).filter (fun n => decide (old n < 2) && decide (2 ≤ s.obj (Obj.CORE_DRIFT_STATE n)))
    (sortBy s.needsFirst due).foldl State.autoSwap s

/-- Whether a valid report shows a pool below its floor (R399). -/
def State.poolLow (s : State) : Bool :=
  let w := s.obj Obj.SPARE_PRESSURE
  decide (s.chr ≤ s.obj Obj.SPARE_PRESSURE_AT + s.obj Obj.SPARE_PRESSURE_TTL * 1000000000) && decide (bits w 15 0 < bits w 31 16)

/-- The level that a DRIFT_STATE stands for: 4 is EXPEL deferred. -/
def driftLevel (d : Nat) : Nat := min 3 d

/-- The HEALTH bits that a change of the module's state sets (Tables 15-5 and 15-8). -/
def driftHealth (old new : Nat) : Nat :=
  (if old < 1 ∧ 1 ≤ new then 1 else 0) + (if old < 2 ∧ 2 ≤ new then 2 else 0) + (if old ≠ 3 ∧ new = 3 then 4 else 0) +
    (if old ≠ 4 ∧ new = 4 then 8 else 0)

/-- The module's score and state evaluated (R397–R399). -/
def State.evalModule (s : State) : State :=
  let terms := s.moduleTerms
  let score := scoreOf terms
  let word := s.obj Obj.DRIFT_THRESH
  let old := s.obj Obj.DRIFT_STATE
  let s := s.noteCalm 104 word score
  let level := s.nextLevel 104 word (driftLevel old) score
  let new := if level = 3 ∧ s.poolLow then 4 else level
  let s := s.setObjs [(Obj.DRIFT_MODULE, score), (Obj.DRIFT_STATE, new), (Obj.DRIFT_TERMS, termsBlob terms)]
  if old = new then s
  else { s.moduleHealth (driftHealth old new) with beaconDue := true }

/-- DRIFT_EVALUATION (R396): every second, and at once after the events that make one due; the canaries' readings come with it. -/
def doDriftEvaluation (canaries : List (Nat × Int)) (xdLost : Nat) (s : State) : Out :=
  if s.obj Obj.START_STATE < 2 then .next s
  else if s.health.evaluateDue ∨ s.health.evaluated + 1000000000 ≤ s.now then
    let s := s.hmuWork
    let s := { s with health := { s.health with xdLost, evaluated := s.now, evaluateDue := false } }
    let s := canaries.foldl (fun t c => if c.1 < 104 ∧ !t.sleeping c.1 then t.setObj (Obj.CANARY_PS c.1) (ofSigned 32 c.2) else t) s
    let old := fun n => s.obj (Obj.CORE_DRIFT_STATE n)
    .next ((((List.range 104).foldl State.evalCore s).autoSwaps old).findAgain.evalModule)
  else .next s

/-- DRIFT_PERSIST (R396): the inputs go into flash every hour. -/
def doDriftPersist (s : State) : Out :=
  if s.health.saved + 3600000000000 ≤ s.now then
    .next { s with health := { s.health with saved := s.now, savedInputs := s.drift } }.flashWrite
  else .next s

/-- A write of DRIFT_THRESH or CORE_DRIFT_THRESH (R400). -/
def State.writeDriftThresh (s : State) (key v : Nat) : Wr :=
  let w := v % 2 ^ 48
  if levelThresh w 1 < levelThresh w 2 ∧ levelThresh w 2 < levelThresh w 3 ∧ levelThresh w 3 ≤ 1000 then (s.setObj key w).ok
  else s.no 0x0809

/-- A write of SPARE_PRESSURE (R399). -/
def State.writeSparePressure (s : State) (v : Nat) : Wr :=
  (s.setObjs [(Obj.SPARE_PRESSURE, v % 2 ^ 32), (Obj.SPARE_PRESSURE_AT, s.chr)]).ok

/-- A write of RETIRED_MAP (R395): in NO_JOB alone; ACTIVE_MAP follows at the next start-up, and a lost
record is replaced (R456). -/
def State.writeRetiredMap (s : State) (v : Nat) : Wr :=
  if s.obj Obj.STEP_STATE ≠ 0 then s.no 0x0805
  else ({ s with health := { s.health with retiredLost := false } }.setObj Obj.RETIRED_MAP (v % 2 ^ 104)).ok

end Sys2Proof.Machine
end

