-- ==== Sys2Proof/Machine/StepUnit.lean ====
section
/-! DEFINITION. Step check, Wake, Consort and replay (13): the step states (R338), entry (R339), the check (R340–R343), votes and
decisions (R344–R347), the Wake (R348–R350), the Consort and restores (R351–R356), fences (R358–R361), the seal (R121). -/

namespace Sys2Proof.Machine

/-! ### The step's state -/

/-- STEP_STATE (Table 13-1). -/
def State.stepSt (s : State) : Nat := s.obj Obj.STEP_STATE
def State.setStepSt (s : State) (v : Nat) : State := s.setObj Obj.STEP_STATE v

/-- The slice that the step governs. -/
def State.stepSlice (s : State) : Nat := s.obj Obj.STEP_SLICE

/-- The present key. -/
def State.stepKey (s : State) : Nat × Nat := (s.obj Obj.STEP_NUM, s.obj Obj.STEP_ATTEMPT)

/-- A Waypoint operation of the step unit. -/
def State.stepWp (s : State) (wp : Nat) (k : WpKind) : State := s.post (.wp { asker := .unit, slice := s.stepSlice, wp, kind := k })

/-! ### The seal (R121) -/

/-- SEALED set; a step sealed with NF = 1 is counted (Table 4-10). -/
def State.seal (s : State) : State := (if bit (s.obj Obj.STEP_NF) 0 then s.count 32 Obj.NF_STEPS 1 else s).raise Obj.STEP_NF 2

/-- The seal tested: at arming, which a write of SEAL_THRESH is, and after every operation on SEAL_WP (R121); not while the abort actions hold
it (R343). -/
def State.sealTest (s : State) : State :=
  let limit := s.obj Obj.SEAL_THRESH
  if limit ≠ 0 ∧ !bit (s.obj Obj.STEP_NF) 1 ∧ !s.stepU.noSeal ∧ limit ≤ (s.wp (s.obj Obj.SEAL_WP)).value then s.seal else s

/-- A write of SEAL_THRESH or SEAL_WP: either evaluates the seal at once (R121 says so of the arming; of SEAL_WP DESIGN CHOICE, log 156). -/
def State.writeSeal (s : State) (key v : Nat) : Wr :=
  if key = Obj.SEAL_WP ∧ 16384 ≤ v then s.no 0x0809
  else if bit (s.obj Obj.STEP_NF) 1 then s.no 0x0805
  else if key = Obj.SEAL_THRESH then ((s.setObj key v).sealTest).ok
  else (s.setObj key v).ok

/-! ### Frames of the step unit (Table 13-3) -/

/-- A frame of the step unit or the Consort. -/
def State.stepSend (s : State) (f : Frame) : State := s.inject .step none { f with slice := s.stepSlice % 2 ^ 12 }

/-- A vote to the root (R344). -/
def State.sendVote (s : State) (v : Vote) : State :=
  s.stepSend (unitFrame 0x23 2 (s.obj Obj.COMMIT_ROOT) 0 0 0
    (leBytes 8 v.step ++ leBytes 4 v.attempt ++ leBytes 4 (v.kind + v.code % 2 ^ 16 * 2 ^ 16)))

/-- A vote of a kind on the present key: 0 COMMIT, 1 ABORT, 2 READY. -/
def State.vote (s : State) (kind code : Nat) : State :=
  let v : Vote := { step := s.obj Obj.STEP_NUM, attempt := s.obj Obj.STEP_ATTEMPT, kind, code }
  ({ s with stepU := { s.stepU with lastVote := some v } }).sendVote v

/-! ### Abort actions (R343) -/

/-- The Consort stream abandoned: what of it waits in its flow never leaves. -/
def State.abandonStream (s : State) : State :=
  let hit (x : Frame × OpRef × Option Nat) : Bool := x.2.1 == .step && (x.1.opcode == 0x20 || x.1.opcode == 0x21) && x.1.cls == 4
  let drop (x : TxFlow) : TxFlow := { x with queued := x.queued.filter (fun y => !hit y) }
  let s := { s with txFlows := s.txFlows.map drop, stepU := { s.stepU with guard := [] } }
  if s.obj Obj.CONSORT_STATE = 1 ∨ s.obj Obj.CONSORT_STATE = 2 then s.setObj Obj.CONSORT_STATE 0 else s

/-- A core of the step reset (R159), if it is neither OFF nor FENCED. -/
def State.abortCore (s : State) (core : Nat) : State :=
  if s.sliceOfCore core = s.stepSlice ∧ s.coreSt core ≠ .off ∧ s.coreSt core ≠ .fenced then (s.coreReset core).setCoreSt core .idle else s

/-- The abort actions (R343). -/
def State.abortActions (s : State) : State :=
  let s := if s.stepSlice = 0xFFFF then s else
    (List.range 128).foldl (fun t n => if t.ctxSlice n = t.stepSlice then t.ctxAbandon n else t) ((List.range 104).foldl State.abortCore s)
  let s := s.abandonStream
  { s with stepU := { s.stepU with noSeal := true, replaying := true } }

/-- NOT_CHECKED entered, with the failed bits as the vote's cause (R340, R343, R344). -/
def State.notChecked (s : State) (mask : Nat) : State :=
  let voted := s.stepSt == 4
  let s := { s.setStepSt 5 with stepU := { s.stepU with fromVoted := voted } }
  let s := if voted then s else s.abortActions
  s.vote 1 mask

/-- A failed condition (R340, R342): bit of STEP_STATUS; for an uncorrected error its address. -/
def State.stepFail (s : State) (bit arg : Nat) : State :=
  let st := s.stepSt
  if st < 2 ∨ 5 < st then s
  else
    let s := if bit = 0 then s.count 32 Obj.STEP_MISMATCHES 1 else s
    let s := s.stepStatus (2 ^ bit)
    let s := if bit = 1 then { s with stepU := { s.stepU with ueSeen := true, ueAddrs := s.stepU.ueAddrs ++ [arg] } } else s
    let s := if st = 4 ∨ (st = 5 ∧ s.stepU.fromVoted) then { s with stepU := { s.stepU with carried := s.stepU.carried ||| 2 ^ bit } } else s
    if st = 5 then s else s.notChecked (2 ^ bit)

/-! ### The Wake (R348–R350) -/

/-- The valid Wake entries: number, range and Waypoint. -/
def State.wakeEntries (s : State) : List (Nat × (Nat × Nat) × Nat) :=
  (List.range 64).filterMap (fun i =>
    let e := s.obj (Obj.WAKE_ENTRY i)
    if bit e 54 then some (i, (bits e 23 0 * 65536, bits e 39 24 * 65536), bits e 53 40) else none)

/-- The adds that a kept entry has still to discard; none for an open one. -/
def State.keptLeft (s : State) (i : Nat) : Option Nat := (s.stepU.kept.find? (fun k => k.1 == i)).map (·.2)

/-- A write of another device or a host at an address (R348, R350): whether it is discarded, and what is counted. -/
def State.wakeWrite (s : State) (a len : Nat) : Bool × State :=
  let st := s.stepSt
  if st < 2 ∨ 7 < st then (false, s)
  else
    let hit := s.wakeEntries.filter (fun e => rangesMeet e.2.1.1 e.2.1.2 a len)
    if hit.any (fun e => (s.keptLeft e.1).isSome) then (true, s.count 64 Obj.WAKE_DISCARDS len)
    else if hit.isEmpty then (false, s)
    else (false, s.count 64 Obj.WAKE_BYTES len)

/-- An add of another device or a host to a Waypoint (R349, R350): whether it is discarded; one that is accepted is logged for each open
entry of the Waypoint. Where entries share a Waypoint, a kept one's discard stands for all (log 143). -/
def State.wakeAdd (s : State) (wp : Nat) : Bool × State :=
  let st := s.stepSt
  if st < 2 ∨ 7 < st then (false, s)
  else
    let es := (s.wakeEntries.filter (fun e => e.2.2 == wp)).map (·.1)
    if s.stepU.kept.any (fun k => es.contains k.1 && decide (0 < k.2)) then
      let kept := s.stepU.kept.map (fun k => if es.contains k.1 then (k.1, k.2 - 1) else k)
      (true, ({ s with stepU := { s.stepU with kept } }).count 64 Obj.WAKE_DISCARDS 1)
    else (false, (es.filter (fun i => (s.keptLeft i).isNone)).foldl (fun t i => t.count 32 (Obj.WAKE_LOG i) 1) s)

/-- At ABORT (R350): entries whose inputs arrived and hold no uncorrected error are kept; the others are open, and their logs begin
anew. A spare keeps none. -/
def State.keepWake (s : State) : State :=
  let good (e : Nat × (Nat × Nat) × Nat) : Bool :=
    !s.stepU.spare && s.obj (Obj.WAKE_LOG e.1) != 0 &&
      !s.stepU.ueAddrs.any (fun a => decide (e.2.1.1 ≤ a) && decide (a < e.2.1.1 + e.2.1.2))
  let kept := (s.wakeEntries.filter good).map (fun e => (e.1, s.obj (Obj.WAKE_LOG e.1)))
  let s := { s with stepU := { s.stepU with kept } }
  let s := (List.range 64).foldl (fun t i => if (t.keptLeft i).isSome then t else t.setObj (Obj.WAKE_LOG i) 0) s
  s.setObj Obj.WAKE_STATE (if kept.isEmpty then 3 else 2)

/-- A write of a WAKE_ENTRY object (R348, Table 13-7). -/
def State.writeWakeEntry (s : State) (key v : Nat) : Wr :=
  let w := v % 2 ^ 55
  if bit w 54 && decide (bits w 39 24 = 0) then s.no 0x0809
  else if s.stepSt ≠ 0 ∧ s.stepSt ≠ 1 then s.no 0x0805
  else (s.setObj key w).ok

/-! ### Entry (R339) -/

/-- The start of an attempt, from item 2 on; `carried` are the bits that R342 carries in. -/
def State.stepEntry (s : State) (carried : Nat) : State :=
  let s := s.setObjs [(Obj.STEP_STATUS, 0), (Obj.STEP_MISMATCHES, 0), (Obj.WAKE_BYTES, 0)]
  let s := s.stepStatus carried
  let s := { s with stepU := { s.stepU with
    noSeal := false, replaying := false, checkAt := none, fromVoted := false, carried := 0, ueSeen := bit carried 1, ueAddrs := [], restoreFailed := false, rolled := false } }
  let s := (List.range 104).foldl State.stepLanes ((s.setObj Obj.STEP_NF 0).setStepSt 2)
  let s := s.sealTest
  let s := (s.stepWp (s.obj Obj.END_WP) (.set 0)).stepWp (s.obj Obj.READY_WP) (.set 0)
  let s := s.wakeEntries.foldl (fun t e => t.stepWp e.2.2 (.set (if (t.keptLeft e.1).isSome then t.obj (Obj.WAKE_LOG e.1) else 0))) s
  let s := s.post .entrySwaps
  let s := s.stepWp (s.obj Obj.DECIDE_WP) (.add 1)
  if carried = 0 then s.post .stepTest else s.notChecked carried

/-- A first attempt: the Wake holds, every log begins anew (R349). -/
def State.freshWake (s : State) : State :=
  let s := (List.range 64).foldl (fun t i => t.setObj (Obj.WAKE_LOG i) 0) s
  { s.setObj Obj.WAKE_STATE 1 with stepU := { s.stepU with kept := [], spare := false } }

/-! ### The Consort (R351–R355) -/

/-- Image block b of the shard (Table 13-4). -/
def State.imageBlock (s : State) (b : Nat) : List Byte :=
  let at_ (base : Nat) : List Byte := s.bytes (s.home (base + 128 * b)) 128
  let masters := at_ (s.obj Obj.SHARD_MASTER)
  let (m1, s1) := encodeMoments (fp32Codes (at_ (s.obj Obj.SHARD_M1)))
  let (m2, s2) := if s.obj Obj.SHARD_M2 = 0 then (List.replicate 32 0, 0) else encodeMoments (fp32Codes (at_ (s.obj Obj.SHARD_M2)))
  let w := s1 + s2 * 2 ^ 8
  masters ++ m1.map (BitVec.ofNat 8) ++ (m2.zipIdx).map (fun (c, i) => BitVec.ofNat 8 (c % 128 + b2n (bit w i) * 128))

/-- The reads of the shard that a stream makes at class P3 (R353). -/
def State.readShard (s : State) : State :=
  let n := 4 * s.obj Obj.SHARD_PARAMS
  let s := (s.noteRead 3 (s.home (s.obj Obj.SHARD_MASTER)) n).noteRead 3 (s.home (s.obj Obj.SHARD_M1)) n
  if s.obj Obj.SHARD_M2 = 0 then s else s.noteRead 3 (s.home (s.obj Obj.SHARD_M2)) n

/-- A stream of image bytes to a device: frames of 21 blocks, ascending, then CONSORT_DONE (R353, R355). -/
def State.sendImage (s : State) (opcode cls dev step attempt : Nat) (image : List Byte) : State :=
  let parts := (chunks 4032 (image.length / 4032 + 1) image).zipIdx
  let s := parts.foldl (fun t p => t.stepSend (unitFrame opcode cls dev 0 (step % 2 ^ 32) (4032 * p.2) p.1)) s
  s.stepSend (unitFrame 0x21 cls dev 0 0 0 (leBytes 8 step ++ leBytes 8 image.length ++ leBytes 4 attempt))

/-- Whether frames of the stream wait in their flow. -/
def State.streaming (s : State) : Bool :=
  s.txFlows.any (fun x => x.queued.any (fun y => y.2.1 == .step && (y.1.opcode == 0x20 || y.1.opcode == 0x21) && y.1.cls == 4))

/-- CONSORT_STATE while the stream's frames wait in their flow. -/
def State.noteStreaming (s : State) : State :=
  if s.obj Obj.CONSORT_STATE = 2 ∧ s.streaming then s.setObj Obj.CONSORT_STATE 1 else s

/-- Conditions 3 and 4 of Table 13-2; the failure of 1 or 2 leaves CHECK. -/
def State.conditionsHold (s : State) : Bool :=
  bit (s.obj Obj.STEP_NF) 1 && !(List.range 128).any (fun n => s.ctxSlice n == s.stepSlice && (s.ctxState n == 2 || s.ctxState n == 3))

/-- The shard's ranges, as home addresses and lengths (R351, R353). -/
def State.shardRanges (s : State) : List (Nat × Nat) :=
  let n := 4 * s.obj Obj.SHARD_PARAMS
  let m2 := s.obj Obj.SHARD_M2
  [(s.home (s.obj Obj.SHARD_MASTER), n), (s.home (s.obj Obj.SHARD_M1), n), (s.home m2, if m2 = 0 then 0 else n)]

/-- The stream of the shard's image begins (R341, R353): the master state is read, and its blocks go to the partner. -/
def State.openStream (s : State) : State :=
  let image := ((List.range (s.obj Obj.SHARD_PARAMS / 32)).map s.imageBlock).flatten
  let s := s.readShard
  let s := { s with stepU := { s.stepU with streamAt := s.now, guard := s.shardRanges } }
  let s := s.setObjs [(Obj.CONSORT_STATE, 2), (Obj.CONSORT_LAST, s.chr + s.obj Obj.STEP_NUM * 2 ^ 128)]
  let s := s.sendImage 0x20 4 (s.obj Obj.CONSORT_PARTNER) (s.obj Obj.STEP_NUM) (s.obj Obj.STEP_ATTEMPT) image
  s.noteStreaming

/-- CONSORT_STREAM (R341, R353): one stream in each CHECK. -/
def doConsortStream (s : State) : Out :=
  if s.stepSt ≠ 3 ∨ !s.conditionsHold ∨ s.obj Obj.CONSORT_STATE ≠ 0 then .next s else .next s.openStream

/-- Condition 5 fails. -/
def State.consortFail (s : State) : State :=
  if s.obj Obj.CONSORT_STATE = 1 ∨ s.obj Obj.CONSORT_STATE = 2 then
    ((s.abandonStream).setObj Obj.CONSORT_STATE 4).stepFail 5 0
  else s

/-- CHECK_TIMEOUT (R341): it runs from CHECK entry to the decision, in NOT_CHECKED too. -/
def doCheckTimeout (s : State) : Out :=
  let ms := s.obj Obj.CHECK_TIMEOUT
  match s.stepU.checkAt with
  | some t =>
    if ms ≠ 0 ∧ t + ms * 1000000 ≤ s.now then .next ({ s with stepU := { s.stepU with checkAt := none } }.stepFail 6 0) else .next s
  | none => .next s

/-- CONSORT_TIMEOUT (Table 13-2). -/
def doConsortTimeout (s : State) : Out :=
  let st := s.obj Obj.CONSORT_STATE
  if (st = 1 ∨ st = 2) ∧ s.stepU.streamAt + s.obj Obj.CONSORT_TIMEOUT * 1000000 ≤ s.now then .next s.consortFail else .next s

/-- Whether a frame of data is whole image blocks (Table 13-3). -/
def wholeBlocks (f : Frame) : Bool := f.len % 192 == 0 && decide (0 < f.len) && decide (f.len ≤ 4032) && f.addr % 192 == 0

/-- The slot that is not MIRROR_ACTIVE, and its address. -/
def State.pendingSlot (s : State) : Nat := if s.obj Obj.MIRROR_ACTIVE = 0 then 1 else 0
def State.slotBase (s : State) (slot : Nat) : Nat := if slot = 0 then s.obj Obj.MIRROR_SLOT0 else s.obj Obj.MIRROR_SLOT1

/-- A step or Consort frame whose SLICE differs (R344). -/
def State.otherStep (s : State) (f : Frame) : Bool := f.slice != s.stepSlice

/-- What has been received of the stream that a frame belongs to; a frame of another step, of offset 0 or after the stream's end opens
a new one. -/
def State.streamOf (s : State) (f : Frame) : Stream13 :=
  match s.stepU.received with
  | some r => if r.step % 2 ^ 32 = f.aux ∧ f.addr ≠ 0 ∧ r.done = none then r else { step := f.aux, bytes := 0, done := none, ok := false }
  | none => { step := f.aux, bytes := 0, done := none, ok := false }

/-- CONSORT_DATA (R354). -/
def State.takeConsortData (f : Frame) (s : State) : Wr :=
  if s.otherStep f ∨ f.srcDev ≠ s.obj Obj.CONSORT_OF then s.no 0x0801
  else if s.stepSt = 0 ∨ s.stepSt = 8 then s.no 0x0805
  else if !wholeBlocks f then s.no 0x0809
  else
    let rx := s.streamOf f
    let keep := f.payload.take (6 * s.obj Obj.MIRROR_PARAMS - f.addr)
    let a := s.slotBase s.pendingSlot + f.addr
    if s.checkRange s.stepSlice a keep.length ≠ 0 then s.no (s.checkRange s.stepSlice a keep.length)
    else
      let s := s.write (.frame f.srcDev f.cls) a keep
      ({ s with stepU := { s.stepU with received := some { rx with bytes := rx.bytes + f.len } } }).ok

/-- CONSORT_DONE of a stream (R354): the answer is CONSORT_ACK. -/
def State.streamDone (f : Frame) (s : State) : Wr :=
  if f.srcDev ≠ s.obj Obj.CONSORT_OF then s.no 0x0801
  else if s.stepSt = 0 ∨ s.stepSt = 8 then s.no 0x0805
  else
    let step := leNat (slice f.payload 0 8)
    let attempt := leNat (slice f.payload 16 4)
    let bytes := match s.stepU.received with
      | some r => if r.step % 2 ^ 32 = step % 2 ^ 32 ∧ r.done = none then r.bytes else 0
      | none => 0
    let good := bytes == 6 * s.obj Obj.MIRROR_PARAMS
    let s := { s with stepU := { s.stepU with received := some { step, bytes, done := some attempt, ok := good } } }
    (s.stepSend (unitFrame 0x22 4 f.srcDev 0 0 0
      (leBytes 8 step ++ leBytes 2 (if good then 0 else 0x0809) ++ leBytes 4 attempt ++ leBytes 2 0))).ok

/-- The mirror at a decision on a key (R354). -/
def State.mirrorDecide (s : State) (commit : Bool) (step attempt : Nat) : State :=
  match s.stepU.received with
  | some r =>
    if commit && r.ok && r.step == step && r.done == some attempt then
      let s := s.setObjs [(Obj.MIRROR_ACTIVE, s.pendingSlot), (Obj.MIRROR_STEP, step)]
      { s with stepU := { s.stepU with received := none } }
    else if commit then s
    else { s with stepU := { s.stepU with received := none } }
  | none => s

/-! ### Restores (R355, R356) -/

/-- The READY vote (R344): once in each REPLAY_WAIT. -/
def State.readyTest (s : State) : State :=
  let u := s.stepU
  let voted := match u.lastVote with | some v => v.kind == 2 && (v.step, v.attempt) == s.stepKey | none => false
  let limit := s.obj Obj.READY_THRESH
  if s.stepSt = 6 ∧ u.restore.isNone ∧ !u.restoreFailed ∧ !voted ∧ (limit = 0 ∨ limit ≤ (s.wp (s.obj Obj.READY_WP)).value) then s.vote 2 0
  else s

/-- The step before the present one, as an unsigned number of 64 bits: before step 0 none has been committed, and no mirror holds the
number asked for (log 144). -/
def State.stepBefore (s : State) : Nat := (s.obj Obj.STEP_NUM + (2 ^ 64 - 1)) % 2 ^ 64

/-- Whether the Chart under which a restore's pull leaves is active: for a spare one that gives it another ID than it stood by under
(R356, log 145). -/
def State.pullReady (s : State) : Bool := s.selfId != 0xFFFF && !(s.stepU.spare && s.selfId == s.stepU.standby)

/-- CONSORT_PULL leaves, once its Chart is active. -/
def State.sendPull (s : State) : State :=
  if !s.pullReady then s
  else
    let s := { s with stepU := { s.stepU with pullDue := false } }
    s.stepSend (unitFrame 0x25 6 (s.obj Obj.CONSORT_PARTNER) 0 0 0 (leBytes 8 s.stepBefore))

/-- A restore begins. -/
def State.startRestore (s : State) : State :=
  let rx : Stream13 := { step := s.stepBefore, bytes := 0, done := none, ok := false }
  let s := { s with stepU := { s.stepU with restore := some rx, pullDue := true, restoreFailed := false } }
  ((s.setStepSt 7).setObj Obj.RESTORE_STATE 1).sendPull

/-- A restore has failed (R355): a spare stands by again, another module sends no READY vote. -/
def State.restoreFail (s : State) : State :=
  if s.stepU.restore.isNone then s
  else
    let spare := s.stepU.spare
    let s := { s with stepU := { s.stepU with restore := none, pullDue := false, restoreFailed := true, spare := false } }
    (s.setObj Obj.RESTORE_STATE 3).setStepSt (if spare then 1 else 6)

/-- A restore has ended well. -/
def State.restoreEnd (s : State) : State :=
  let s := { s with stepU := { s.stepU with restore := none, rolled := true } }
  let s := (s.setObj Obj.RESTORE_STATE 2).count 32 Obj.RESTORES 1
  let s := s.count 32 Obj.ROLLBACKS 1
  (s.setStepSt 6).readyTest

/-- REPLAY_WAIT entered: an attempt that updated the shard or met an uncorrected error is rolled back (R356). -/
def State.replayWait (s : State) : State :=
  let s := s.setStepSt 6
  if (bit (s.obj Obj.STEP_STATUS) 8 || s.stepU.ueSeen) && !s.stepU.rolled then s.startRestore else s.readyTest

/-- A block of a restore written (R355): masters bit for bit, moments decoded, BF16 weights where there are some. -/
def State.restoreBlock (s : State) (b : Nat) (blk : List Byte) : State :=
  let m := slice blk 0 128
  let side := ((slice blk 160 32).zipIdx).foldl (fun w x => w + b2n (bit x.1.toNat 7) * 2 ^ x.2) 0
  let m1 := (slice blk 128 32).map (fun x => leBytes 4 (decodeMoment x.toNat (side % 256)))
  let m2 := (slice blk 160 32).map (fun x => leBytes 4 (decodeMoment (x.toNat % 128) (side / 256 % 256)))
  let s := (s.write .unit (s.obj Obj.SHARD_MASTER + 128 * b) m).write .unit (s.obj Obj.SHARD_M1 + 128 * b) m1.flatten
  let s := if s.obj Obj.SHARD_M2 = 0 then s else s.write .unit (s.obj Obj.SHARD_M2 + 128 * b) m2.flatten
  if s.obj Obj.SHARD_WEIGHTS = 0 then s
  else s.write .unit (s.obj Obj.SHARD_WEIGHTS + 64 * b)
    ((fp32Codes m).map (fun c => leBytes 2 (Fmt.bf16.convert .rne false true (val32 c)).1)).flatten

/-- CONSORT_LOAD (R355). -/
def State.takeConsortLoad (f : Frame) (s : State) : Wr :=
  if s.otherStep f then s.no 0x0801
  else match s.stepU.restore with
  | none => s.no 0x0805
  | some r =>
    if f.srcDev ≠ s.obj Obj.CONSORT_PARTNER then s.no 0x0805
    else if !wholeBlocks f then s.no 0x0809
    else
      let blocks := (chunks 192 (f.len / 192 + 1) f.payload).zipIdx
      let s := blocks.foldl (fun t x =>
        let b := f.addr / 192 + x.2
        if b < t.obj Obj.SHARD_PARAMS / 32 then t.restoreBlock b x.1 else t) s
      ({ s with stepU := { s.stepU with restore := some { r with bytes := r.bytes + f.len } } }).ok

/-- CONSORT_DONE (R354, R355): it ends the stream of the module whose mirror this one holds, or, in class 6, a restore. -/
def State.takeConsortDone (f : Frame) (s : State) : Wr :=
  if s.otherStep f then s.no 0x0801
  else if f.len ≠ 20 then s.no 0x0809
  else if f.cls = 6 then
    match s.stepU.restore with
    | none => s.no 0x0805
    | some r =>
      if f.srcDev ≠ s.obj Obj.CONSORT_PARTNER then s.no 0x0805
      else if leNat (slice f.payload 0 8) = r.step ∧ leNat (slice f.payload 8 8) = r.bytes ∧ r.bytes = 6 * s.obj Obj.SHARD_PARAMS then
        s.restoreEnd.ok
      else s.restoreFail.ok
  else s.streamDone f

/-- The COMMIT vote (Table 13-1): CHECK ends with conditions 1 to 5 holding, those of the contexts among them, which may have begun to run
since the stream opened (R23). -/
def State.checkedTest (s : State) : State :=
  if s.obj Obj.CONSORT_STATE = 3 ∧ s.conditionsHold then (s.setStepSt 4).vote 0 0 else s

/-- CONSORT_ACK (Table 13-2): condition 5 for this step and attempt. -/
def State.takeConsortAck (f : Frame) (s : State) : Wr :=
  if s.otherStep f then s.no 0x0801
  else if f.len ≠ 16 then s.no 0x0809
  else
    let step := leNat (slice f.payload 0 8)
    let code := leNat (slice f.payload 8 2)
    let st := s.obj Obj.CONSORT_STATE
    if f.srcDev ≠ s.obj Obj.CONSORT_PARTNER ∨ (step, leNat (slice f.payload 10 4)) ≠ s.stepKey ∨ (st ≠ 1 ∧ st ≠ 2) then s.ok
    else
      let last := s.obj Obj.CONSORT_LAST
      let s := s.setObj Obj.CONSORT_LAST (last % 2 ^ 64 + s.chr * 2 ^ 64 + step * 2 ^ 128 + code * 2 ^ 192)
      if code ≠ 0 then s.consortFail.ok
      else
        let s := { s with stepU := { s.stepU with guard := [] } }.setObj Obj.CONSORT_STATE 3
        (if s.stepSt = 3 then s.checkedTest else s).ok

/-- CONSORT_PULL (R355): answered from the active slot, which must hold the step asked for. -/
def State.takeConsortPull (f : Frame) (s : State) : Wr :=
  if s.otherStep f then s.no 0x0801
  else if f.len ≠ 8 then s.no 0x0809
  else
    let step := leNat f.payload
    let a := s.obj Obj.MIRROR_ACTIVE
    if 1 < a ∨ s.obj Obj.MIRROR_STEP ≠ step then s.no 0x0805
    else
      let n := 6 * s.obj Obj.MIRROR_PARAMS
      let image := s.bytes (s.home (s.slotBase a)) n
      ((s.noteRead 3 (s.home (s.slotBase a)) n).sendImage 0x26 6 f.srcDev step 0 image).ok

/-! ### Votes and decisions (R344–R346) -/

/-- The root multicasts a decision on a key (R344, R345): 0 COMMIT, 1 ABORT, 2 RESUME. -/
def State.tallyDecide (s : State) (t : Tally) (decision dev code : Nat) : State :=
  let tallies := s.stepU.tallies.map (fun x => if x.step = t.step ∧ x.attempt = t.attempt then { t with decision := some decision } else x)
  let s := { s with stepU := { s.stepU with tallies } }
  let s := s.setObj Obj.LAST_DECISION (s.chr + t.step * 2 ^ 64 + t.attempt * 2 ^ 128 + decision * 2 ^ 160 + dev % 2 ^ 14 * 2 ^ 162 + code * 2 ^ 176)
  s.stepSend (fanFrame 0x24 2 (s.obj Obj.COMMIT_FAN) 0 0 0 (leBytes 8 t.step ++ leBytes 4 t.attempt ++ leBytes 4 decision))

/-- A device counted once. -/
def addOnce (l : List Nat) (d : Nat) : List Nat := if d ∈ l then l else l ++ [d]

/-- The tally of a key; a fifth key replaces the oldest (R345). -/
def State.openTally (s : State) (step attempt : Nat) : State :=
  let l := s.stepU.tallies
  if l.any (fun t => t.step == step && t.attempt == attempt) then s
  else
    let l := if 4 ≤ l.length then l.drop 1 else l
    { s with stepU := { s.stepU with tallies := l ++ [{ step, attempt, commits := [], readies := [], decision := none }] } }

/-- The state with the tally of a step and attempt replaced. -/
def State.setTally (s : State) (step attempt : Nat) (t : Tally) : State :=
  { s with stepU := { s.stepU with tallies := s.stepU.tallies.map (fun x => if x.step = step ∧ x.attempt = attempt then t else x) } }

/-- STEP_VOTE at the root (R345). -/
def State.takeStepVote (f : Frame) (s : State) : Wr :=
  let step := leNat (slice f.payload 0 8)
  let attempt := leNat (slice f.payload 8 4)
  let w := leNat (slice f.payload 12 4)
  let kind := w % 4
  if s.otherStep f then s.no 0x0801
  else if f.len ≠ 16 ∨ kind = 3 then s.no 0x0809
  else if s.stepSt = 0 ∨ s.stepSt = 8 then s.no 0x0805
  else
    let s := s.openTally step attempt
    match s.stepU.tallies.find? (fun t => t.step == step && t.attempt == attempt) with
    | none => s.ok
    | some t =>
      if t.decision.isSome then (s.count 32 Obj.STALE_FRAMES 1).ok
      else
        let t := match kind with
          | 0 => { t with commits := addOnce t.commits f.srcDev }
          | 2 => { t with readies := addOnce t.readies f.srcDev }
          | _ => t
        let s := s.setTally step attempt t
        let members := s.obj Obj.MEMBERS
        if kind = 1 then (s.tallyDecide t 1 f.srcDev (bits w 31 16)).ok
        else if kind = 0 ∧ members ≤ t.commits.length then (s.tallyDecide t 0 0 0).ok
        else if kind = 2 ∧ members ≤ t.readies.length then (s.tallyDecide t 2 0 0).ok
        else s.ok

/-- A COMMIT decision acted on (R339, R342, R349, R354). -/
def State.commitStep (s : State) : State :=
  let (step, attempt) := s.stepKey
  let carried := if s.stepU.carried = 0 then 0 else s.stepU.carried ||| 0x200
  let s := ((s.mirrorDecide true step attempt).count 64 Obj.STEPS_COMMITTED 1).setObjs [(Obj.STEP_NUM, (step + 1) % 2 ^ 64), (Obj.STEP_ATTEMPT, 0)]
  let s := ((s.freshWake).remapMarked).swapLanes
  (s.fixMark step).stepEntry carried

/-- An ABORT decision acted on (R343, R350, R354, R356). -/
def State.abortStep (s : State) : State :=
  let st := s.stepSt
  let (step, attempt) := s.stepKey
  let s := if st = 5 ∧ !s.stepU.fromVoted then s else s.abortActions
  let s := if st = 5 then s else s.stepStatus 0x80
  let s := { s with stepU := { s.stepU with checkAt := none } }
  let s := (s.mirrorDecide false step attempt).setObj Obj.STEP_ATTEMPT ((attempt + 1) % 2 ^ 32)
  ((s.count 32 Obj.STEPS_ABORTED 1).keepWake).replayWait

/-- A decision for the present key that the present state allows (R346, Table 13-1). -/
def State.decisionFits (s : State) (decision : Nat) : Bool :=
  let st := s.stepSt
  match decision with
  | 0 => st == 4 || (st == 5 && s.stepU.fromVoted)
  | 1 => st == 2 || st == 3 || st == 4 || st == 5
  | _ => st == 6

/-- STEP_DECIDE (R346): a spare that stands by copies the key; another module acts on its own key. -/
def State.takeDecision (f : Frame) (s : State) : Wr :=
  let step := leNat (slice f.payload 0 8)
  let attempt := leNat (slice f.payload 8 4)
  let decision := leNat (slice f.payload 12 4) % 4
  if s.otherStep f then s.no 0x0801
  else if f.len ≠ 16 ∨ decision = 3 then s.no 0x0809
  else if s.stepSt = 1 then
    match decision with
    | 0 => (s.setObjs [(Obj.STEP_NUM, (step + 1) % 2 ^ 64), (Obj.STEP_ATTEMPT, attempt)]).ok
    | 1 => (s.setObjs [(Obj.STEP_NUM, step), (Obj.STEP_ATTEMPT, (attempt + 1) % 2 ^ 32)]).ok
    | _ => (s.setObjs [(Obj.STEP_NUM, step), (Obj.STEP_ATTEMPT, attempt)]).ok
  else if (step, attempt) ≠ s.stepKey ∨ !s.decisionFits decision then (s.count 32 Obj.STALE_FRAMES 1).ok
  else match decision with
  | 0 => s.commitStep.ok
  | 1 => s.abortStep.ok
  | _ => (s.stepEntry 0).ok

/-- The tests of the step unit (R341, R344, R356): END_WP in RUN; the vote in CHECK; READY_WP in REPLAY_WAIT; a restore that waits for a Chart. -/
def State.stepTest (s : State) : State :=
  match s.stepSt with
  | 2 =>
    if s.obj Obj.END_THRESH ≤ (s.wp (s.obj Obj.END_WP)).value then
      { (s.setStepSt 3).setObj Obj.CONSORT_STATE 0 with stepU := { s.stepU with checkAt := some s.now } }
    else s
  | 3 => s.checkedTest
  | 6 => s.readyTest
  | 7 => if s.stepU.pullDue then s.sendPull else s
  | _ => s

/-- VOTE_RESEND (R347). -/
def doVoteResend (s : State) : Out :=
  let st := s.stepSt
  match s.stepU.lastVote with
  | some v =>
    if s.stepU.resend ∧ (st = 4 ∨ st = 5 ∨ st = 6) then .next (({ s with stepU := { s.stepU with resend := false } }).sendVote v) else .next s
  | none => .next s

/-! ### What becomes of its frames -/

/-- A frame of the step unit acknowledged: a stream whose last frame has left awaits its ACK. -/
def State.stepLanded (s : State) : State :=
  if s.obj Obj.CONSORT_STATE = 1 ∧ !s.streaming then s.setObj Obj.CONSORT_STATE 2 else s

/-- A frame refused: a refused CONSORT_PULL fails the restore (R355). -/
def State.stepRefused (s : State) (f : Frame) : State := if f.opcode = 0x25 then s.restoreFail else s

/-- A frame lost with its path: CONSORT_PULL fails the restore, the stream condition 5. -/
def State.stepLost (s : State) (f : Frame) : State :=
  if f.opcode = 0x25 then s.restoreFail
  else if (f.opcode = 0x20 ∨ f.opcode = 0x21) ∧ f.cls = 4 then s.consortFail
  else s

/-! ### Commands of STEP_CTRL (R338) -/

/-- What BEGIN asks of the Wake and the mirrors (R338). -/
def State.beginGood (s : State) : Bool :=
  let w := s.wakeRanges
  let n := 6 * s.obj Obj.MIRROR_PARAMS
  fixDisjoint w && !rangesMeet (s.obj Obj.MIRROR_SLOT0) n (s.obj Obj.MIRROR_SLOT1) n &&
    s.obj Obj.SHARD_PARAMS % 32 == 0 && s.obj Obj.MIRROR_PARAMS % 32 == 0

/-- BEGIN. -/
def State.stepBegin (s : State) : Wr :=
  if s.stepSt ≠ 0 then s.no 0x0805
  else if !s.beginGood then s.no 0x0809
  else
    let s := s.setObjs [(Obj.STEP_NUM, s.obj Obj.STEP_FIRST), (Obj.STEP_ATTEMPT, 0)]
    let s := { s with fixU := { s.fixU with firstAfterBegin := true } }
    (s.freshWake.stepEntry 0).ok

/-- A job left: its step's abort actions done, its Fix ended, its Wake set aside and a restore given up. -/
def State.leaveJob (s : State) : State :=
  let restoring := s.stepU.restore.isSome
  let s := (s.abortActions).fixEndJob
  let s := { s with stepU := { s.stepU with
    kept := [], spare := false, restore := none, pullDue := false, lastVote := none, replaying := false, checkAt := none } }
  let s := if restoring then s.setObj Obj.RESTORE_STATE 3 else s
  ((s.setObj Obj.WAKE_STATE 0).setStepSt 0).post .bringIn

/-- END_JOB. -/
def State.endJob (s : State) : Wr := if s.stepSt = 8 then s.no 0x0805 else s.leaveJob.ok

/-- RESTORE of a spare (R356). -/
def State.spareRestore (s : State) : Wr :=
  if s.stepSt ≠ 1 then s.no 0x0805
  else
    let s := { s with stepU := { s.stepU with spare := true, kept := [], rolled := false } }
    ((s.setObj Obj.WAKE_STATE 3).startRestore).ok

/-- A write of STEP_CTRL. -/
def State.writeStepCtrl (s : State) (v : Nat) : Wr :=
  match v with
  | 1 => s.stepBegin
  | 2 => s.endJob
  | 3 => s.spareRestore
  | 4 => if s.stepSt = 0 then (({ s with stepU := { s.stepU with standby := s.selfId } }).setStepSt 1).ok else s.no 0x0805
  | _ => s.no 0x0809

/-- Objects of chapter 13 that hold a Waypoint, a device or 0xFFFF, or a slot's address. -/
def stepWpKeys : List Nat := [Obj.END_WP, Obj.DECIDE_WP, Obj.READY_WP]
def stepDevKeys : List Nat := [Obj.COMMIT_ROOT, Obj.CONSORT_PARTNER, Obj.CONSORT_OF]

/-- A write of an RW object of Tables 13-5 and 13-8 (R362). One that makes READY_WP's condition hold brings the READY vote (R344). -/
def State.writeStepObj (s : State) (key v : Nat) : Wr :=
  let bad := (stepWpKeys.contains key && decide (16384 ≤ v)) || (stepDevKeys.contains key && decide (16384 ≤ v) && v != 0xFFFF) ||
    (key == Obj.COMMIT_FAN && decide (4096 ≤ v)) || ((key == Obj.MIRROR_SLOT0 || key == Obj.MIRROR_SLOT1) && v % 65536 != 0) ||
    (key == Obj.SHARD_PARAMS && v % 32 != 0)
  if bad then s.no 0x0809
  else if s.stepSt = 0 ∨ s.stepSt = 1 ∨ s.stepSt = 6 then
    let s := s.setObj key v
    (if key = Obj.READY_WP ∨ key = Obj.READY_THRESH then s.readyTest else s).ok
  else s.no 0x0805

/-! ### Fences (R358–R361) -/

/-- A core parks in FENCED; one that is OFF stays so. -/
def State.fenceCore (s : State) (core : Nat) : State :=
  if s.coreSt core = .off then s else (((s.setCore core (s.core core).abandon).dropWaits core).setCoreSt core .fenced)

/-- The module is fenced (R358): by object 1, by FENCE_N 2, by itself 3. -/
def State.fenceModule (s : State) (how cause : Nat) : State :=
  let s := (List.range 104).foldl State.fenceCore s
  let s := (List.range 128).foldl State.ctxAbandon s
  let s := (List.range 8).foldl (fun t k => t.setObj (Obj.STG_STATE k) 0) s.abandonStream
  let s := (List.range 16).foldl State.fencePort ((s.fixEnd 4).dropTimed (fun _ => true))
  let s := { s with stepU := { s.stepU with
    kept := [], spare := false, restore := none, pullDue := false, lastVote := none, replaying := false, checkAt := none } }
  let s := s.setObjs [(Obj.WAKE_STATE, 0), (Obj.STEP_STATE, 8), (Obj.FENCE_STATE, how), (Obj.FENCE_CAUSE, cause),
    (Obj.FENCE_LAST, s.chr + how * 2 ^ 64 + cause * 2 ^ 80)]
  let s := s.count 32 Obj.FENCE_EVENTS 1
  { s.logEvent (if how = 3 then .selfFence else .moduleFence) 0 (srcCode 0 0) s.stepSlice (how + cause * 2 ^ 8) with beaconDue := true }

/-- The module's fence lifted (R359). -/
def State.liftFence (s : State) : State :=
  let s := (List.range 104).foldl (fun t c => if t.coreSt c = .fenced then t.setCoreSt c .idle else t) s
  let s := s.setObjs [(Obj.FENCE_STATE, 0), (Obj.STEP_STATE, 0)]
  ({ s with beaconDue := true }).post .bringIn

/-- RELEASE (R359). -/
def State.releaseFence (s : State) : Wr := if s.obj Obj.FENCE_STATE = 0 ∨ s.power.fencePin then s.no 0x0805 else s.liftFence.ok

/-- A write of FENCE_CTRL (R358, R359). -/
def State.writeFenceCtrl (s : State) (v : Nat) : Wr :=
  match v with
  | 1 => if s.obj Obj.FENCE_STATE ≠ 0 then s.no 0x0805 else (s.fenceModule 1 0).ok
  | 2 => s.releaseFence
  | _ => s.no 0x0809

/-- The module fences itself on a fatal event (R360, R226, Table 16-5): PD00–PD63 go off. -/
def State.selfFence (s : State) (event : Nat) : State :=
  if s.obj Obj.FENCE_STATE = 3 then s
  else
    let s := (s.fenceModule 3 event).alert 4
    (List.range 64).foldl State.domainOff s

/-- A write of FENCE_REQ_DEV (R361, R442). -/
def State.writeFenceReq (s : State) (v : Nat) : Wr :=
  if 16384 ≤ v ∧ v ≠ 0xFFFF then s.no 0x0809
  else
    let due := s.beaconDue || s.obj Obj.FENCE_REQ_DEV != v
    ({ (s.setObj Obj.FENCE_REQ_DEV v).logEvent .fenceRequest 0 (srcCode 0 0) s.stepSlice v with beaconDue := due }).ok

/-- FENCE_N (R358, R496): at READY the module is fenced at once; a fence by object stands as one by the pin. With the module off on EPO
the pin's event is recorded and no more (R496). -/
def doFenceN (s : State) : Out :=
  let s := { s with power := { s.power with fencePin := true } }
  if s.dead then .next s else
  let s := s.hmuWork
  if s.obj Obj.EPO_STATE ≠ 0 then .next (s.logEvent .moduleFence 0 (srcCode 0 0) s.stepSlice 2)
  else match s.obj Obj.FENCE_STATE with
  | 0 => if s.obj Obj.START_STATE = 4 then .next (s.fenceModule 2 0) else .next s
  | 1 => .next { s.setObj Obj.FENCE_STATE 2 with beaconDue := true }
  | _ => .next s

/-- FENCE_N_RELEASE (R496): only RELEASE ends the fence. -/
def doFenceNRelease (s : State) : Out :=
  let s := { s with power := { s.power with fencePin := false } }
  .next (if s.dead then s else s.hmuWork)

end Sys2Proof.Machine
end

