-- ==== Sys2Proof/Machine/Deliver.lean ====
section
/-! DEFINITION. Frames at this module: writes, reads and adds (R289), the checks of a frame that arrives (R270, R272, R277–R279,
R285, R290), and frames that the module sends to itself (R265). -/

namespace Sys2Proof.Machine

/-! ### WRITE, READ, READ_DATA, WP_ADD (Table 10-2) -/

/-- A write of another device performed at its target; the Wake may discard it (R350). -/
def State.takeData (f : Frame) (s : State) : Wr :=
  let a := frameAddr f
  if f.len = 0 ∨ 4096 < f.len then s.no 0x0809
  else if s.frameTarget f a f.len ≠ 0 then s.no (s.frameTarget f a f.len)
  else if f.srcDev = s.selfId then
    if s.wakeReadOnly a f.len then (s.count 32 Obj.WAKE_REFUSALS 1).no 0x0803 else (s.write (.frame f.srcDev f.cls) a f.payload).ok
  else
    let (discarded, s) := s.wakeWrite a f.len
    if discarded then s.ok else (s.write (.frame f.srcDev f.cls) a f.payload).ok

/-- READ (R289): one READ_DATA answers it, at the return address on the requester. -/
def State.takeRead (f : Frame) (s : State) : Wr :=
  let a := frameAddr f
  let n := f.aux % 4096 + 1
  if f.len ≠ 8 ∨ 4096 ≤ f.aux then s.no 0x0809
  else if s.frameTarget f a n ≠ 0 then s.no (s.frameTarget f a n)
  else
    let back := fabricTarget (leNat f.payload % 2 ^ 40)
    let data := s.bytes (s.home a) n
    let answer := { unitFrame 3 f.cls f.srcDev f.slice 0 back.2 data with dstCore := back.1 }
    ((s.noteRead 1 (s.home a) n).inject .read (some a) answer).ok

/-- WP_ADD (R236, R249): the add is performed, and a refusal by R236 is answered. -/
def State.takeWpAdd (f : Frame) (s : State) : Wr :=
  let wp := f.aux % 2 ^ 14
  if f.len ≠ 8 then s.no 0x0809
  else
    let code := s.wpCode f.slice wp
    if code = 0x0802 then (s.logWpRefusal (.frame f.srcDev f.srcCore) f.slice wp code).no code
    else if code ≠ 0 then s.no code
    else (s.post (.wp { asker := .frame f.srcDev f.srcCore, slice := f.slice, wp, kind := .add (leNat f.payload) })).ok

/-- What a sequenced frame does at its destination: the state after it, and the code of a refusal. -/
def State.takeFrame (f : Frame) (s : State) : Wr :=
  match f.opcode with
  | 0x01 => s.takeData f
  | 0x02 => s.takeRead f
  | 0x03 => s.takeData f
  | 0x04 => s.takeWpAdd f
  | 0x10 => s.takeContrib f
  | 0x11 => s.takeResult f
  | 0x12 => s.takeLate f
  | 0x20 => s.takeConsortData f
  | 0x21 => s.takeConsortDone f
  | 0x22 => s.takeConsortAck f
  | 0x23 => s.takeStepVote f
  | 0x24 => s.takeDecision f
  | 0x25 => s.takeConsortPull f
  | 0x26 => s.takeConsortLoad f
  | 0x30 => s.takeStripe f
  | 0x31 => s.takeCount f
  | 0x32 => s.takePrepared f
  | 0x33 => s.takeDecide f
  | 0x34 => s.takePull f
  | 0x35 => s.takeChunk f
  | _ => s.no 0x0809

/-! ### Refusals for state (R435, R503) -/

/-- STATE of Table 17-11: the state code of a frame's target in its own state table. -/
def State.frameState (s : State) (f : Frame) : Nat :=
  if f.opcode < 0x10 then (if f.dstCore < 104 then s.obj (Obj.CORE_STATE f.dstCore) else 0)
  else if f.opcode < 0x20 then s.ctxState (frameCtx f)
  else if f.opcode < 0x30 then s.stepSt
  else s.fixState

/-- A frame refused for state: its entry in the event log; path 1 for a frame of the fabric, 4 for one of the module's own units. -/
def State.logFrameRefusal (s : State) (f : Frame) (path : Nat) : State :=
  s.logEvent .stateRefused 0x0805 (srcCode 3 0) f.slice (refusalArgs f.addr f.dstCore f.srcDev f.srcCore path (s.frameState f))

/-! ### Frames that arrive (R270, R272, R278, R285, R290, R295) -/

/-- A sequenced frame that its flow accepts: taken, and answered where it is refused; a refusal stands in for its
acknowledgement and counts among the accepted (R279). -/
def State.acceptFrame (s : State) (f : Frame) : State :=
  let k := recvKey f
  let s := s.setRxFlow { s.rxFlow k with expected := nextSeq f.seq, slice := f.slice }
  if !wellFormedHeader f then (s.errResp f 0x0809).noteAccepted k
  else
    let (s, code) := s.takeFrame f
    if code = 0 then s.noteAccepted k
    else ((if code = 0x0805 then s.logFrameRefusal f 1 else s).errResp f code).noteAccepted k

/-- A sequenced frame at its destination: its payload check, then its place in its flow (R278). -/
def State.sequenceCheck (s : State) (f : Frame) : State :=
  if !payloadGood f then (s.count 32 Obj.E2E_CRC_ERRORS 1).count 64 Obj.E2E_GAP_DROPS 1
  else match (s.rxFlow (recvKey f)).check f.seq with
  | .accept => s.acceptFrame f
  | .duplicate => (s.count 64 Obj.E2E_DUPLICATES 1).sendAck (recvKey f)
  | .gap => s.count 64 Obj.E2E_GAP_DROPS 1

/-- A frame that no flow carries: an exchange of the Chronometer, an acknowledgement, an error response, a PARTIAL notice; any
other is refused (R272). -/
def State.unsequenced (s : State) (port : Option Nat) (f : Frame) : State :=
  if !payloadGood f then s
  else if !wellFormedHeader f then s.errResp f 0x0809
  else match f.opcode with
  | 5 => if f.mcast then s.ackMulticast f else s.ackUnicast f
  | 6 => s.noteErrResp f
  | 7 => (s.notePartial f).ctxPartial f
  | 8 | 9 => match port with | some p => s.timeTaken p f s.chr | none => s
  | _ => s.errResp f 0x0809

/-- Whether a frame crosses one link only (Table 10-2). -/
def linkFrame (op : Nat) : Bool := op == 8 || op == 9

/-- A frame delivered here. -/
def State.deliver (s : State) (port : Option Nat) (f : Frame) : State :=
  if !headerGood f then s
  else if linkFrame f.opcode then s.unsequenced port f
  else if s.fenced && sequenced f.opcode then s.errResp f 0x0806
  else if !s.chartRoutes f.epoch then s.stale f
  else if !f.mcast && f.dstDev != (s.chart f.epoch).self then s.errResp f 0x0802
  -- A reserved opcode says nothing of SEQ; Table 10-1 does: 0 is unsequenced.
  else if sequenced f.opcode || (!knownOpcode f.opcode && f.seq != 0) then s.sequenceCheck f
  else s.unsequenced port f

/-! ### Frames that the module sends to itself (R265) -/

/-- A frame of one of the module's units to the module itself: taken at once, without SEQ and without acknowledgement; its
unit learns what became of it. One that an entry of the Chart hands to this module though it is another's is refused (R285). -/
def State.selfFrame (s : State) (op : OpRef) (f : Frame) : State :=
  if !f.mcast ∧ f.dstDev ≠ (s.chart f.epoch).self then
    (if unanswered f.opcode then s.hopDrop f 0 else s.post (.failed op f 0x0802))
  else if !sequenced f.opcode then s.unsequenced none f
  else if !wellFormedHeader f then s.post (.failed op f 0x0809)
  else
    let (s, code) := s.takeFrame f
    if code = 0 then s.post (.landed op f)
    else
      let s := if code = 0x0805 then s.logFrameRefusal f 4 else s
      let s := if code = 0x0801 then s.sliceViolation f else s
      s.post (.failed op f code)

/-! ### What becomes of a unit's frame -/

/-- A sent frame is acknowledged (R280). -/
def State.opLanded (s : State) (op : OpRef) : State :=
  match op with
  | .remoteAdd core r => s.remoteLanded core r
  | .remoteFrame core r => s.remoteLanded core r
  | .ctx n => s.post (.context n)
  | .fix => s.post .fixTest
  | .step => s.stepLanded
  | .none => s
  | .read => s

/-- A sent frame is refused (R288, R290): its unit learns the code; a frame that a core issued itself parks it on 0x0801. -/
def State.opFailed (s : State) (op : OpRef) (f : Frame) (code : Nat) : State :=
  match op with
  | .remoteAdd core r => s.remoteFailed core r f code
  | .ctx n => s.ctxFailed n f code
  | .fix => s.fixFailed f code
  | .step => s.stepRefused f
  | .remoteFrame core r =>
    let s := s.remoteLanded core r
    if code = 0x0801 ∧ s.canFault core then s.outOfSlice core 0xFF f.addr else s
  | .none => s
  | .read => s

/-- A lost path toward a device makes it absent in every context that has it as a member (R323). -/
def State.membersLost (s : State) (dev : Nat) : State :=
  (List.range 128).foldl (fun t n => if ((t.ctx n).ranksOf dev).isEmpty then t else t.markAbsent n dev) s

/-- A sent frame is lost with its path: its operation gets no completion (R281). -/
def State.opLost (s : State) (op : OpRef) (f : Frame) : State :=
  let s := if f.mcast then s else s.membersLost f.dstDev
  match op with
  | .ctx n => s.ctxLost n f
  | .fix => s.fixLost
  | .step => s.stepLost f
  | .remoteAdd _ _ => s
  | .remoteFrame _ _ => s
  | .none => s
  | .read => s

/-! ### The frame commands -/

/-- A frame with an opcode arrives at the module by the fabric. -/
def State.arrive (s : State) (op : Nat) (f : Frame) : Out := .next (if f.opcode = op then s.post (.frame none f) else s)

/-- WRITE (R289). -/
def doWrite (f : Frame) (s : State) : Out := s.arrive 0x01 f
/-- READ. -/
def doRead (f : Frame) (s : State) : Out := s.arrive 0x02 f
/-- READ_DATA. -/
def doReadData (f : Frame) (s : State) : Out := s.arrive 0x03 f
/-- WP_ADD (R249). -/
def doWpAdd (f : Frame) (s : State) : Out := s.arrive 0x04 f
/-- ACK (R279, R280). -/
def doAck (f : Frame) (s : State) : Out := s.arrive 0x05 f
/-- ERR_RESP (R290). -/
def doErrResp (f : Frame) (s : State) : Out := s.arrive 0x06 f
/-- PARTIAL (R293). -/
def doPartialNotice (f : Frame) (s : State) : Out := s.arrive 0x07 f
/-- CONTRIB (R316). -/
def doContrib (f : Frame) (s : State) : Out := s.arrive 0x10 f
/-- RESULT (R314). -/
def doResult (f : Frame) (s : State) : Out := s.arrive 0x11 f
/-- LATE (R321). -/
def doLate (f : Frame) (s : State) : Out := s.arrive 0x12 f
/-- CONSORT_DATA (R354). -/
def doConsortData (f : Frame) (s : State) : Out := s.arrive 0x20 f
/-- CONSORT_DONE (R354, R355). -/
def doConsortDone (f : Frame) (s : State) : Out := s.arrive 0x21 f
/-- CONSORT_ACK (Table 13-2). -/
def doConsortAck (f : Frame) (s : State) : Out := s.arrive 0x22 f
/-- STEP_VOTE (R345). -/
def doStepVote (f : Frame) (s : State) : Out := s.arrive 0x23 f
/-- CONSORT_PULL (R355). -/
def doConsortPull (f : Frame) (s : State) : Out := s.arrive 0x25 f
/-- CONSORT_LOAD (R355). -/
def doConsortLoad (f : Frame) (s : State) : Out := s.arrive 0x26 f
/-- FIX_STRIPE (R371). -/
def doFixStripe (f : Frame) (s : State) : Out := s.arrive 0x30 f
/-- FIX_COUNT (R371). -/
def doFixCount (f : Frame) (s : State) : Out := s.arrive 0x31 f
/-- FIX_PREPARED (R374). -/
def doFixPrepared (f : Frame) (s : State) : Out := s.arrive 0x32 f
/-- FIX_PULL (R381). -/
def doFixPull (f : Frame) (s : State) : Out := s.arrive 0x34 f
/-- FIX_CHUNK (R381). -/
def doFixChunk (f : Frame) (s : State) : Out := s.arrive 0x35 f

/-- A STEP_DECIDE frame with a decision (Table 13-3). -/
def State.arriveStep (s : State) (decision : Nat) (f : Frame) : Out :=
  if leNat (slice f.payload 12 4) % 4 = decision then s.arrive 0x24 f else .next s
/-- STEP_COMMIT (R339, R346). -/
def doStepCommit (f : Frame) (s : State) : Out := s.arriveStep 0 f
/-- STEP_ABORT (R343, R346). -/
def doStepAbort (f : Frame) (s : State) : Out := s.arriveStep 1 f
/-- STEP_RESUME (R339, R346). -/
def doStepResume (f : Frame) (s : State) : Out := s.arriveStep 2 f

/-- A FIX_DECIDE frame with a decision (Table 14-7). -/
def State.arriveFix (s : State) (decision : Nat) (f : Frame) : Out :=
  if leNat (slice f.payload 12 4) % 2 = decision then s.arrive 0x33 f else .next s
/-- FIX_COMMIT (R375). -/
def doFixCommit (f : Frame) (s : State) : Out := s.arriveFix 0 f
/-- FIX_DISCARD (R375). -/
def doFixDiscard (f : Frame) (s : State) : Out := s.arriveFix 1 f

end Sys2Proof.Machine
end

