-- ==== Sys2Proof/Machine/Ed448.lean ====
section
/-! DEFINITION. Ed448 signatures (RFC 8032), which the manual names for images, records and reports (R474, R476, R480, R481): the
pure form with the empty context. A point is held in projective coordinates X, Y, Z of the curve x² + y² = 1 + d x² y². -/

namespace Sys2Proof.Machine.Ed448

/-- The prime of the field, 2^448 − 2^224 − 1. -/
def prime : Nat := 2 ^ 448 - 2 ^ 224 - 1

/-- The order of the base point. -/
def order : Nat := 2 ^ 446 - 13818066809895115352007386748515426880336692474882178609894547503885

/-- The curve's d = −39081. -/
def curveD : Nat := prime - 39081

/-- A point (X : Y : Z). -/
abbrev Point := Nat × Nat × Nat

/-- The neutral point. -/
def zero : Point := (0, 1, 1)

/-- The base point. -/
def base : Point :=
  (224580040295924300187604334099896036246789641632564134246125461686950415467406032909029192869357953282578032075146446173674602635247710,
   298819210078481492676017930443930673437544040154080242095928241372331506189835876003536878655418784733982303233503462500531545062832660, 1)

/-- Arithmetic modulo the prime. -/
def mul (a b : Nat) : Nat := a * b % prime
def add (a b : Nat) : Nat := (a + b) % prime
def sub (a b : Nat) : Nat := (a + prime - b) % prime

/-- The sum of two points. -/
def addPoint (p q : Point) : Point :=
  let a := mul p.2.2 q.2.2
  let b := mul a a
  let c := mul p.1 q.1
  let d := mul p.2.1 q.2.1
  let e := mul curveD (mul c d)
  let f := sub b e
  let g := add b e
  let h := mul (add p.1 p.2.1) (add q.1 q.2.1)
  (mul (mul a f) (sub (sub h c) d), mul (mul a g) (sub d c), mul f g)

/-- A multiple of a point: `n` counts the bits of `k` still to take, the highest first. -/
def mulPoint (p : Point) (k : Nat) : Nat → Point → Point
  | 0, acc => acc
  | n + 1, acc =>
    let d := addPoint acc acc
    mulPoint p k n (if bit k n then addPoint d p else d)

/-- The multiple k p of a point, for k below 2^456. -/
def times (k : Nat) (p : Point) : Point := mulPoint p k 456 zero

/-- A power modulo the prime, the exponent's bits taken from the highest. -/
def powGo (a k : Nat) : Nat → Nat → Nat
  | 0, acc => acc
  | n + 1, acc =>
    let d := mul acc acc
    powGo a k n (if bit k n then mul d a else d)

/-- `a` to the power `k` below 2^448. -/
def pow (a k : Nat) : Nat := powGo a k 448 1

/-- Whether two points are equal. -/
def samePoint (p q : Point) : Bool := mul p.1 q.2.2 == mul q.1 p.2.2 && mul p.2.1 q.2.2 == mul q.2.1 p.2.2

/-- The 57 bytes of a point: y, and the lowest bit of x in the highest bit. -/
def encode (p : Point) : List Byte :=
  let z := pow p.2.2 (prime - 2)
  leBytes 57 (mul p.2.1 z + mul p.1 z % 2 * 2 ^ 455)

/-- The point of 57 bytes, if they are one. -/
def decode (l : List Byte) : Option Point :=
  let w := leNat l
  let y := w % 2 ^ 455
  let sign := w / 2 ^ 455 % 2
  if prime ≤ y then none
  else
    let u := sub (mul y y) 1
    let v := sub (mul curveD (mul y y)) 1
    let u3v := mul (mul u (mul u u)) v
    let x := mul u3v (pow (mul (mul u3v (mul u u)) (mul v v)) ((prime - 3) / 4))
    if mul v (mul x x) ≠ u then none
    else if x = 0 ∧ sign = 1 then none
    else some (if x % 2 = sign then x else sub 0 x, y, 1)

/-- dom4 with flag 0 and the empty context. -/
def dom : List Byte := [0x53#8, 0x69#8, 0x67#8, 0x45#8, 0x64#8, 0x34#8, 0x34#8, 0x38#8, 0#8, 0#8]

/-- The challenge of a signature: R, the public key and the message. -/
def challenge (r a m : List Byte) : Nat := leNat (shakeBytes 114 (dom ++ r ++ a ++ m)) % order

/-- Whether a signature of 114 bytes verifies under a public key of 57 bytes (the cofactored equation). -/
def verify (key m sig : List Byte) : Bool :=
  let s := leNat (sig.drop 57)
  match decode key, decode (sig.take 57) with
  | some a, some r =>
    decide (sig.length = 114) && decide (s < order) &&
      samePoint (times 4 (times s base)) (times 4 (addPoint r (times (challenge (sig.take 57) key m) a)))
  | _, _ => false

/-- The secret scalar and the prefix of a 57-byte private key. -/
def expand (key : List Byte) : Nat × List Byte :=
  let h := shakeBytes 114 key
  let s := leNat (h.take 57) % 2 ^ 448
  ((s - s % 4) % 2 ^ 447 + 2 ^ 447, h.drop 57)

/-- The public key of a private key. -/
def publicKey (key : List Byte) : List Byte := encode (times (expand key).1 base)

/-- The signature of a message. -/
def sign (key m : List Byte) : List Byte :=
  let (s, pre) := expand key
  let a := encode (times s base)
  let r := leNat (shakeBytes 114 (dom ++ pre ++ m)) % order
  let rb := encode (times r base)
  rb ++ leBytes 57 ((r + challenge rb a m * s) % order)

end Sys2Proof.Machine.Ed448
end

