-- ==== Sys2Proof/Machine/Slices.lean ====
section
/-! DEFINITION. Slices on the module (R450, R451), what becomes of their connections (R471), and the dictionary service (R454). -/

namespace Sys2Proof.Machine

/-! ### Connections (R464) -/

/-- A connection beside its objects. -/
def State.conn (s : State) (k : Nat) : HostConn := Sparse.get (fun _ => HostConn.fresh) s.hosts k

/-- A host port is trained: it is UP, with the PHY that HOST_PHY has selected (R461). -/
def State.hostTrained (s : State) (p : Nat) : State :=
  { s.setObj (Obj.HOST_PORT_STATE p) 2 with
    hmu := { s.hmu with hostPhys := Sparse.set (fun _ => 0) s.hmu.hostPhys p (s.obj (Obj.HOST_PHY p)) } }

/-- The state with a connection replaced. -/
def State.setConn (s : State) (k : Nat) (c : HostConn) : State := { s with hosts := Sparse.set (fun _ => HostConn.fresh) s.hosts k c }

/-- A READY connection becomes UNBOUND once the messages it has accepted are complete (R471). -/
def State.unbind (s : State) (k : Nat) : State :=
  if s.obj (Obj.QP_STATE k) ≠ 1 then s
  else if (s.conn k).waits.isEmpty then s.setObj (Obj.QP_STATE k) 3
  else s.setConn k { s.conn k with unbind := true }

/-! ### Slots (R450, R451) -/

/-- A write of KERNEL_RIGHT, SLICE_ID, SLICE_CORES or SLICE_HBM of a slot (R450). -/
def State.writeSlice (s : State) (slot key v : Nat) : Wr :=
  if key = Obj.SLICE_ID slot ∧ 4095 < v ∧ v ≠ 0xFFFF then s.no 0x0809
  else if s.slotAssigned slot then s.no 0x0805
  else (s.setObj key (if key = Obj.SLICE_CORES slot then v % 2 ^ 104 else v)).ok

/-- Another ASSIGNED slot for which a condition holds. -/
def State.otherSlot (s : State) (slot : Nat) (p : Nat → Bool) : Bool :=
  (List.range 8).any (fun k => k != slot && s.slotAssigned k && p k)

/-- The values of a slot that ASSIGN refuses with 0x0809 (R450). -/
def State.sliceValues (s : State) (slot : Nat) : Bool :=
  decide (s.obj (Obj.SLICE_ID slot) ≤ 4095) &&
    !s.otherSlot slot (fun k => s.obj (Obj.SLICE_ID k) == s.obj (Obj.SLICE_ID slot)) &&
    s.obj (Obj.SLICE_CORES slot) != 0 &&
    !s.otherSlot slot (fun k => (s.obj (Obj.SLICE_HBM k) &&& s.obj (Obj.SLICE_HBM slot)) != 0)

/-- Whether every core that a slot names is in service, IDLE and in no other slot (R450). -/
def State.sliceCoresFree (s : State) (slot : Nat) : Bool :=
  (setBits 104 (s.obj (Obj.SLICE_CORES slot))).all (fun n =>
    bit (s.obj Obj.ACTIVE_MAP) n && s.coreSt n == .idle && !s.otherSlot slot (fun k => bit (s.obj (Obj.SLICE_CORES k)) n))

/-- ASSIGN (R450): legal in FREE, then the conditions in order. -/
def State.assign (s : State) (slot : Nat) : Wr :=
  if s.slotAssigned slot then s.no 0x0805
  else if !s.sliceValues slot then s.no 0x0809
  else if !s.sliceCoresFree slot then s.no 0x0805
  else if !s.chrU.everSync then s.no 0x0805
  else (s.setObj (Obj.SLICE_STATE slot) 1).ok

/-- The Waypoint groups that a slice owns. -/
def State.groupsOf (s : State) (slice : Nat) : List Nat := (List.range 256).filter (fun g => s.obj (Obj.GROUP_SLICE g) == slice)

/-- Whether RELEASE finds the slot at work (R451). -/
def State.sliceBusy (s : State) (slot : Nat) : Bool :=
  let slice := s.obj (Obj.SLICE_ID slot)
  (setBits 104 (s.obj (Obj.SLICE_CORES slot))).any (fun n => s.coreSt n == .armed || s.coreSt n == .running || s.coreSt n == .waiting) ||
    (List.range 128).any (fun c => s.obj (Obj.CTX_STATE c) != 0 && s.obj (Obj.CTX_SLICE c) == slice) ||
    (s.obj Obj.STEP_SLICE == slice && s.obj Obj.STEP_STATE != 0) ||
    (s.groupsOf slice).any s.groupWaited

/-- A group made unowned, with the effects of R237. -/
def State.freeGroup (s : State) (g : Nat) : State := (s.setObj (Obj.GROUP_SLICE g) 0xFFFF).clearGroup g

/-- A stage slot that holds a core of a mask goes OFF (R330, R451). -/
def State.stageOff (mask : Nat) (s : State) (k : Nat) : State :=
  if s.stageActive k && (s.obj (Obj.STG_CORES k) &&& mask) != 0 then s.setObj (Obj.STG_STATE k) 0 else s

/-- A slot's slice given back: its stages leave, its Waypoint groups are free and cleared, its connections come loose (R451, R471). -/
def State.freeSlice (s : State) (slot : Nat) : State :=
  let slice := s.obj (Obj.SLICE_ID slot)
  let conns := (List.range 240).filter (fun k => s.obj (Obj.QP_SLICE_SLOT k) == slot)
  let s := (List.range 8).foldl (State.stageOff (s.obj (Obj.SLICE_CORES slot))) s
  let s := (s.groupsOf slice).foldl State.freeGroup s
  let s := s.setObjs [(Obj.SLICE_STATE slot, 0), (Obj.SLICE_ID slot, 0xFFFF), (Obj.KERNEL_RIGHT slot, 0), (Obj.SLICE_CORES slot, 0),
    (Obj.SLICE_HBM slot, 0)]
  conns.foldl State.unbind s

/-- RELEASE (R451, R471). -/
def State.releaseSlice (s : State) (slot : Nat) : Wr :=
  if !s.slotAssigned slot ∨ s.sliceBusy slot then s.no 0x0805 else (s.freeSlice slot).ok

/-- A write of SLICE_CTRL (Table 18-5). -/
def State.writeSliceCtrl (s : State) (slot v : Nat) : Wr :=
  match v with
  | 1 => s.assign slot
  | 2 => s.releaseSlice slot
  | _ => s.no 0x0809

/-! ### Dictionary service (R454) -/

/-- A write of DICT_DEFAULTS. -/
def State.writeDictDefaults (s : State) (v : Nat) : Wr :=
  match v with
  | 1 => if s.obj Obj.STEP_STATE ≠ 0 then s.no 0x0805 else (s.setObj Obj.DICT_DEFAULTS_PENDING 1).ok
  | 2 => if s.obj Obj.DICT_DEFAULTS_PENDING = 0 then s.no 0x0805 else (s.setObj Obj.DICT_DEFAULTS_PENDING 0).ok
  | _ => s.no 0x0809

end Sys2Proof.Machine
end

