-- ==== Sys2Proof/Machine/Firmware.lean ====
section
/-! DEFINITION. Images (R474, R475), the configuration record (R476, R477), firmware and record updates (R482, R483), the identity
(R480), attestation (R481) and the bench self-test (R485). -/

namespace Sys2Proof.Machine

/-- A field of bytes, the first at the lowest address. -/
def field (l : List Byte) (off n : Nat) : Nat := leNat (slice l off n)

/-- The mask ROM's public key that a signer's number names (R474). -/
def State.romKey (s : State) (n : Nat) : List Byte := if n = 0 then s.fw.romKey0 else s.fw.romKey1

/-! ### The configuration record (R476, R477) -/

/-- SERIAL as bytes. -/
def State.serial (s : State) : List Byte := leBytes 16 (s.obj Obj.SERIAL)

/-- OPERATOR_KEY of a record. -/
def operatorKey (r : List Byte) : List Byte := slice r 56 57

/-- Whether a record verifies (R476). -/
def State.recordGood (s : State) (r : List Byte) : Bool :=
  decide (r.length = 512) && field r 0 2 == 1 && slice r 8 16 == s.serial && decide (field r 113 1 ≤ 1) &&
    Ed448.verify (s.romKey (field r 113 1)) (shakeBytes 64 (operatorKey r ++ s.serial)) (slice r 114 114) &&
    Ed448.verify (operatorKey r) (shakeBytes 64 (r.take 384)) (slice r 384 114)

/-- RECORD_SEQ of a record. -/
def recordSeq (r : List Byte) : Nat := field r 4 4

/-- The copy in force: the valid one with the higher RECORD_SEQ; `true` for copy 0. -/
def State.recordChoice (s : State) : Option Bool :=
  let a := s.recordGood s.fw.copy0
  let b := s.recordGood s.fw.copy1
  if a && (!b || decide (recordSeq s.fw.copy1 ≤ recordSeq s.fw.copy0)) then some true else if b then some false else none

/-- The record in force. -/
def State.record (s : State) : Option (List Byte) := s.recordChoice.map (fun c => if c then s.fw.copy0 else s.fw.copy1)

/-- The PUF seed as bytes. -/
def State.seed (s : State) : List Byte := leBytes 64 s.fw.puf

/-- KEY_SERVICE unwrapped from a record (R477, Table 20-3). -/
def State.unwrap (s : State) (r : List Byte) : List Byte :=
  let wrap := kmacBytes 32 s.seed [] wrapCustom
  List.zipWith (fun a b => a ^^^ b) (slice r 24 32) (shakeBytes 32 (wrap ++ slice r 4 4))

/-- The objects of a record that comes into force (R476, R483). -/
def State.showRecord (s : State) (r : List Byte) : State :=
  { s with fw := { s.fw with inForce := true } }.setObjs [(Obj.CONFIG_DIGEST, shake256 r), (Obj.CFG_SEQ, recordSeq r)]

/-- MIN_SEC_VERSION in force; 0 when no record is valid (R475). -/
def State.minSec (s : State) : Nat := match s.record with | some r => field r 2 2 | none => 0

/-! ### Images (R474, R475) -/

/-- The body length that a header names. -/
def imageLength (b : List Byte) : Nat := field b 12 4

/-- The 64 B digest of an image (R474). -/
def imageDigest (b : List Byte) : List Byte := shakeBytes 64 (b.take 128 ++ slice b 256 (imageLength b))

/-- Whether the bytes of an image verify (R475). -/
def State.imageGood (s : State) (b : List Byte) : Bool :=
  field b 0 4 == 0x4F4E5839 && field b 4 2 == 1 && decide (imageLength b ≤ 6291200) && decide (field b 16 1 ≤ 1) &&
    Ed448.verify (s.romKey (field b 16 1)) (imageDigest b) (slice b 128 114) && decide (s.minSec ≤ field b 6 2)

/-- SEC_VERSION, RELEASE and digest of an image. The one delivered with the module verifies (log 7). -/
def Image.sec : Image → Nat
  | .factory => Config.factorySec % 65536
  | .programmed b => field b 6 2
  | .torn => 0
def Image.release : Image → Nat
  | .factory => dictDefault Obj.FW_RELEASE
  | .programmed b => field b 8 4
  | .torn => 0
def Image.digest : Image → Nat
  | .factory => Config.factoryDigest % 2 ^ 512
  | .programmed b => leNat (imageDigest b)
  | .torn => 0

/-- Whether the image in flash verifies (R478). -/
def State.flashGood (s : State) : Bool :=
  match s.fw.flash with
  | .factory => decide (s.minSec ≤ Image.factory.sec)
  | .programmed b => s.imageGood b
  | .torn => false

/-! ### Firmware update (R482) -/

/-- FW_STATE. -/
def State.fwState (s : State) : Nat := s.obj Obj.FW_STATE

/-- The bytes of the staging area: 6 MiB in chunks of 2 KiB. -/
def stagingChunks : Nat := 3072
def State.staged2k (s : State) (i : Nat) : List Byte := Sparse.get (fun _ => List.replicate 2048 0#8) s.fw.staging i
def State.stagedBytes (s : State) : List Byte := ((List.range stagingChunks).map s.staged2k).flatten

/-- BEGIN (Table 20-6). -/
def State.fwBegin (s : State) : Wr :=
  if s.fwState = 0 ∨ s.fwState = 4 ∨ s.fwState = 5 ∨ s.fwState = 6 then
    ({ s with fw := { s.fw with staging := [] } }.setObjs [(Obj.FW_OFFSET, 0), (Obj.FW_STAGED_DIGEST, 0), (Obj.FW_STATE, 1)]).ok
  else s.no 0x0805

/-- VERIFY: R475 on the staged image. -/
def State.fwVerify (s : State) : Wr :=
  if s.fwState ≠ 1 then s.no 0x0805
  else
    let b := s.stagedBytes
    let s := s.setObj Obj.FW_STAGED_DIGEST (if imageLength b ≤ 6291200 then leNat (imageDigest b) else 0)
    if s.imageGood b then (s.setObj Obj.FW_STATE 2).ok
    else (s.setObjs [(Obj.FW_STATE, 5), (Obj.FW_LAST_ERROR, 0x080A)]).ok

/-- COMMIT: the image region is erased and programmed. -/
def State.fwCommit (s : State) : Wr :=
  if s.fwState ≠ 2 then s.no 0x0805 else ({ s with fw := { s.fw with flash := .torn } }.setObj Obj.FW_STATE 3).ok

/-- ACTIVATE: the module restarts on the committed image. -/
def State.fwActivate (s : State) : Wr :=
  if s.fwState = 4 ∧ s.noSliceHoldsCores ∧ s.obj Obj.STEP_STATE = 0 then (s.post .restart).ok else s.no 0x0805

/-- CANCEL. -/
def State.fwCancel (s : State) : Wr :=
  if s.fwState = 1 ∨ s.fwState = 2 then (s.setObj Obj.FW_STATE 0).ok else s.no 0x0805

/-- A write of FW_CTRL (Table 20-6). -/
def State.writeFwCtrl (s : State) (v : Nat) : Wr :=
  match v with
  | 1 => s.fwBegin
  | 2 => s.fwVerify
  | 3 => s.fwCommit
  | 4 => s.fwActivate
  | 5 => s.fwCancel
  | _ => s.no 0x0809

/-- A write of FW_OFFSET: a multiple of 2,048. -/
def State.writeFwOffset (s : State) (v : Nat) : Wr := if v % 2048 ≠ 0 then s.no 0x0809 else (s.setObj Obj.FW_OFFSET v).ok

/-- A write of FW_CHUNK (R482): 2 KiB at FW_OFFSET, in RECEIVING. -/
def State.writeFwChunk (s : State) (l : List Byte) : Wr :=
  let off := s.obj Obj.FW_OFFSET
  if 6291456 < off + 2048 then s.no 0x0809
  else if s.fwState ≠ 1 then s.no 0x0805
  else
    let staging := Sparse.set (fun _ => List.replicate 2048 0#8) s.fw.staging (off / 2048) l
    ({ s with fw := { s.fw with staging } }.setObj Obj.FW_OFFSET (off + 2048)).ok

/-- So many bytes programmed into flash, in blocks of 128 KiB (R473). -/
def State.flashProgram (s : State) (bytes : Nat) : State :=
  (List.range ((bytes + 131071) / 131072)).foldl (fun t _ => t.flashWrite) s

/-- FW_COMMIT_DONE (R482): the image stands in flash; in RECOVERY the loader starts again (R478). -/
def doFwCommitDone (s : State) : Out :=
  if s.fwState ≠ 3 then .next s
  else
    let image := Image.programmed s.stagedBytes
    let t := { s with fw := { s.fw with flash := image } }.setObjs [(Obj.FW_STATE, 4), (Obj.FW_FLASH_RELEASE, image.release)]
    let t := if s.obj Obj.START_STATE = 1 then t.post .restart else t
    .next (t.flashProgram s.stagedBytes.length)

/-! ### Record update (R483) -/

/-- APPLY: the buffer is verified and written over the older copy; KEY_SERVICE is replaced once the response has left (R430). -/
def State.cfgApply (s : State) : Wr :=
  let r := s.fw.buffer
  if !s.recordGood r then s.no 0x080A
  else if s.fw.inForce ∧ recordSeq r ≤ s.obj Obj.CFG_SEQ then s.no 0x0809
  else if s.obj Obj.PUF_STATUS = 2 then s.no 0x0805
  else
    let fw := if s.recordChoice = some true then { s.fw with copy1 := r } else { s.fw with copy0 := r }
    ({ s with fw, hmu := { s.hmu with keyDue := some (3, s.unwrap r) } }.showRecord r).flashWrite.ok

/-- A write of CFG_CTRL. -/
def State.writeCfgCtrl (s : State) (v : Nat) : Wr :=
  match v with
  | 1 => ({ s with fw := { s.fw with buffer := List.replicate 512 0#8 } }.setObj Obj.CFG_OFFSET 0).ok
  | 2 => s.cfgApply
  | _ => s.no 0x0809

/-- A write of CFG_OFFSET. -/
def State.writeCfgOffset (s : State) (v : Nat) : Wr := if v = 0 ∨ v = 256 then (s.setObj Obj.CFG_OFFSET v).ok else s.no 0x0809

/-- A write of CFG_CHUNK: 256 B of the record at CFG_OFFSET. -/
def State.writeCfgChunk (s : State) (l : List Byte) : Wr :=
  let off := s.obj Obj.CFG_OFFSET
  let b := s.fw.buffer
  ({ s with fw := { s.fw with buffer := b.take off ++ slice l 0 256 ++ b.drop (off + 256) } }).ok

/-! ### Identity and attestation (R480, R481) -/

/-- The identity private key (R480). -/
def State.identityPrivate (s : State) : List Byte := kmacBytes 57 s.seed [] idenCustom

/-- Bytes 0–319 of ATT_REPORT (Table 20-5). -/
def State.reportBytes (s : State) : List Byte :=
  leBytes 1 1 ++ leBytes 1 (s.obj Obj.STEPPING) ++ leBytes 2 s.fw.running.sec ++ leBytes 4 (s.obj Obj.FW_RELEASE) ++ leBytes 8 s.chr ++
    s.serial ++ leBytes 32 (s.obj Obj.ATT_NONCE) ++ leBytes 64 s.fw.running.digest ++ leBytes 32 (s.obj Obj.CONFIG_DIGEST) ++
    leBytes 64 (s.obj Obj.CHART_DIGEST) ++
    leBytes 2 (s.obj Obj.CHART0_STATE % 16 + s.obj Obj.CHART1_STATE % 16 * 2 ^ 4 + s.obj Obj.CHART_ACTIVE % 2 * 2 ^ 8) ++
    leBytes 2 s.selfId ++ leBytes 4 (s.obj Obj.FIX_LAST_ID) ++ leBytes 8 (s.obj Obj.FIX_STATE) ++ leBytes 8 (s.obj Obj.FIX_STEP) ++
    leBytes 16 (s.obj Obj.RETIRED_MAP) ++ List.replicate 56 0#8

/-- A write of ATT_CTRL (R480, R481). -/
def State.writeAttCtrl (s : State) (v : Nat) : Wr :=
  if v ≠ 1 then s.no 0x0809
  else if s.obj Obj.PUF_STATUS = 2 ∨ s.obj Obj.ATT_STATE = 1 then s.no 0x0805
  else ({ s with fw := { s.fw with report := s.reportBytes } }.setObj Obj.ATT_STATE 1).ok

/-- A write of ATT_NONCE (R481). -/
def State.writeAttNonce (s : State) (v : Nat) : Wr := if s.obj Obj.ATT_STATE = 1 then s.no 0x0805 else (s.setObj Obj.ATT_NONCE v).ok

/-- ATT_DONE (R481): the digest of the snapshot is signed. -/
def doAttDone (s : State) : Out :=
  if s.obj Obj.ATT_STATE ≠ 1 then .next s
  else
    let sig := Ed448.sign s.identityPrivate (shakeBytes 64 s.fw.report)
    .next (s.setObjs [(Obj.ATT_REPORT, leNat (s.fw.report ++ sig)), (Obj.ATT_STATE, 2)])

/-! ### Bench self-test (R485) -/

/-- The cores that BIST_TARGET names. -/
def State.bistTargets (s : State) : List Nat := setBits 104 (s.obj Obj.BIST_TARGET)

/-- A write of BIST_CTRL: legal with every target IDLE or OFF, in no slice, and no run in progress. -/
def State.writeBistCtrl (s : State) (v : Nat) : Wr :=
  let cores := s.bistTargets
  if v ≠ 1 then s.no 0x0809
  else if s.obj Obj.BIST_STATE = 1 ∨ !cores.all (fun n => (s.coreSt n == .idle || s.coreSt n == .off) && (s.slotOfCore n).isNone) then s.no 0x0805
  else
    let s := { s with fw := { s.fw with bist := cores.map (fun n => (n, (s.coreSt n).code)) } }
    ((cores.foldl (fun t n => t.setCoreSt n .off) s).setObj Obj.BIST_STATE 1).ok

/-- A core after its test: its memories have been written over, and it stands as it stood. -/
def State.bistEnd (s : State) (x : Nat × Nat) : State :=
  let s := s.coreOff x.1
  if x.2 = 0 then s else (s.coreReset x.1).setCoreSt x.1 (.ofCode x.2)

/-- BIST_DONE (R485). -/
def doBistDone (failed : List Nat) (s : State) : Out :=
  if s.obj Obj.BIST_STATE ≠ 1 then .next s
  else
    let cores := s.fw.bist
    let s := cores.foldl State.bistEnd { s with fw := { s.fw with bist := [] } }
    let mask := maskOf ((cores.map (·.1)).filter (fun n => failed.contains n))
    .next (s.setObjs [(Obj.BIST_RESULT, mask), (Obj.BIST_STATE, 2)])

end Sys2Proof.Machine
end

