-- ==== Sys2Proof/Machine/StartUp.lean ====
section
/-! DEFINITION. The reset kinds of Table 20-8 that begin a start-up, and the power-on sequence (R478–R480, R484, R455, R456). -/

namespace Sys2Proof.Machine

/-! ### What stands across a start-up (R455, Table 20-8) -/

/-- Objects kept in flash: the RWP ones (Table 18-7), HMU_RESETS and PERSIST_WRITES. -/
def keptInFlash (key : Nat) : Bool :=
  key == Obj.HMU_RESETS || key == Obj.PERSIST_WRITES || key == Obj.DICT_DEFAULTS_PENDING ||
    (match dictRow key with | some r => r.acc == .rwp | none => false)

/-- A Reserve that has been brought into service stays so: at start-up it counts as an ordinary active core (Table 15-2). -/
def keptReserve (e : Nat × Nat) : Bool := decide (Obj.RSV_STATE 0 ≤ e.1) && decide (e.1 ≤ Obj.RSV_STATE 7) && e.2 == 3

/-- The Drift inputs restored: those saved, without the ones that count from the start-up (R396). -/
def restoredInputs (l : List (Nat × Nat)) : List (Nat × Nat) := l.filter (fun e => e.1 / 2 ^ 24 / 256 != 1 && e.1 / 2 ^ 24 / 256 != 9)

/-- A role key after a start-up or an HMU reset: only counters above the persisted ceiling are accepted (R429). -/
def RoleKey.afresh (k : RoleKey) : RoleKey := { k with top := none, seen := [], floor := k.ceiling, cache := [], quiet := [] }

/-- The unit after a start-up or an HMU reset: subscriptions, transfers, queued messages and the response cache are gone. -/
def HmuUnit.afresh (h : HmuUnit) (now : Nat) : HmuUnit :=
  { HmuUnit.reset with
    asleep := false, lastWork := now, observer := h.observer.afresh, operator := h.operator.afresh, job := h.job.afresh,
    service := h.service.afresh, sendCounter := h.sendCeiling + 1, sendCeiling := h.sendCeiling }

/-- The module before its loader runs: after the input was lost, or after a restart, for which the Chronometer runs on
(Table 20-8). What flash holds stands, and so do the pins. -/
def State.coldStart (s : State) (powerLost : Bool) : State :=
  let r := State.reset
  let hmu := s.hmu.afresh s.now
  { r with
    pending := s.pending, now := s.now, free := s.free + 1, out := s.out
    chr := if powerLost then 0 else s.chr
    dict := s.dict.filter (fun e => keptInFlash e.1 || keptReserve e)
    cores := s.cores.map (fun e => (e.1, { e.2.unpowered s.free with vec := { Core.reset.vec with loadNo := e.2.vec.loadNo } }))
    remaps := s.remaps, lanesPending := s.lanesPending, lanesRepaired := s.lanesRepaired
    drift := restoredInputs s.health.savedInputs
    health :=
      { r.health with
        retiredLost := s.health.retiredLost, flashUsed := s.health.flashUsed, saved := s.now, evaluated := s.now
        savedInputs := s.health.savedInputs }
    power := { r.power with thrPin := s.power.thrPin, epoPin := s.power.epoPin, fencePin := s.power.fencePin }
    hmu := { hmu with job := if powerLost then .fresh none else hmu.job, service := { hmu.service with key := none } }
    fw := { s.fw with staging := [], inForce := false, buffer := r.fw.buffer, report := [], bist := [], loader := true }
    events := { s.events with unflushed := 0 }, violations := { s.violations with unflushed := 0 } }

/-- The input switch opens on an over-voltage (Table 16-1): the whole module is off. -/
def State.inputOff (s : State) : State :=
  let s := s.coldStart true
  { s with power := { s.power with open_ := true } }

/-- The input has sunk below 20 V: the always-on domain holds no longer (R402). -/
def State.inputDark (s : State) : State :=
  let s := s.coldStart true
  { s with power := { s.power with dark := true } }

/-! ### Segments and the unit (R416, R418, R422) -/

/-- The place of a segment in SEG_STATE and MGMT_STATUS. -/
def segNo : Seg → Nat
  | .a => 0 | .b => 1

/-- Whether a segment is UP. -/
def State.segUp (s : State) (g : Seg) : Bool := bits (s.obj Obj.SEG_STATE) (2 * segNo g + 1) (2 * segNo g) == 1

/-- Whether the unit serves HDP: its loader or firmware runs and a management core works. -/
def State.hmuServes (s : State) : Bool := s.obj Obj.START_STATE != 0 && s.obj Obj.HMU_STATUS != 0

/-! ### Neighbour discovery (R420, R462, R497) -/

/-- The link-local address formed from a MAC address as a modified EUI-64. -/
def eui64 (mac : Nat) : Nat :=
  0xFE80 * 2 ^ 112 + (bits mac 47 24 ^^^ 0x020000) * 2 ^ 40 + 0xFFFE * 2 ^ 24 + bits mac 23 0

/-- The slot address fe80::e9:0:0:nn. -/
def State.slotAddress (s : State) : Nat := 0xFE80 * 2 ^ 112 + 0xE9 * 2 ^ 48 + s.obj Obj.SLOT % 64

/-- HOST_ADDR of a port as a number: its first byte is the address's first. -/
def State.hostAddress (s : State) (p : Nat) : Nat := leNat (leBytes 16 (s.obj (Obj.HOST_ADDR p))).reverse

/-- The addresses that the module holds on a link: in RECOVERY the slot address only (R478), and none that is in use elsewhere on its segment
(R497). -/
def State.addresses (s : State) (l : NdLink) : List Nat :=
  match l with
  | .seg g =>
    if !s.segUp g ∨ !s.hmuServes then []
    else
      (if s.obj Obj.START_STATE = 1 ∨ s.hmu.taken.contains ⟨g, false⟩ then [] else [eui64 (s.obj Obj.MAC_BASE + segNo g)]) ++
        (if s.hmu.taken.contains ⟨g, true⟩ then [] else [s.slotAddress])
  | .host p =>
    if p < 4 ∧ s.obj (Obj.HOST_PORT_STATE p) = 2 ∧ s.obj (Obj.HOST_ADDR p) ≠ 0 then [s.hostAddress p] else []

/-- A neighbour discovery frame put behind those that wait on its segment. -/
def State.queueNd (s : State) (g : Seg) (o : NdOut) : State :=
  match g with
  | .a => { s with hmu := { s.hmu with ndA := s.hmu.ndA ++ [o] } }
  | .b => { s with hmu := { s.hmu with ndB := s.hmu.ndB ++ [o] } }

/-- Duplicate address detection on a segment that has come up (R420): the module asks for each address that it is to hold; one that is in
use it drops on that segment, with an event-log record (R497). -/
def State.detect (s : State) (g : Seg) (slot mac : Bool) : State :=
  let found := (if slot then [NdTaken.mk g true] else []) ++ (if mac then [NdTaken.mk g false] else [])
  let s := { s with hmu := { s.hmu with taken := s.hmu.taken.filter (fun x => x.seg != g) } }
  let s := (s.addresses (.seg g)).foldl (fun t a => t.queueNd g (.solicit a)) s
  let s := { s with hmu := { s.hmu with taken := s.hmu.taken ++ found } }
  found.foldl (fun t x => t.logEvent .addressInUse 0 (srcCode (4 + segNo g) 0) 0xFFFF (b2n x.slot)) s

/-! ### The loader (R478) -/

/-- SEG_STATE from the segments on which PLCA beacons are received. -/
def segWord (l : List Seg) : Nat := b2n (l.contains .a) + 4 * b2n (l.contains .b)

/-- The loader's part: SLOT is sampled (R497), the segments come up, and the module is left in START_STATE 1 or 2. -/
def State.loadImage (s : State) (r : StartReadings) : State :=
  let s := { s with fw := { s.fw with loader := false } }
  let s := s.setObjs [(Obj.SLOT, r.sa % 64), (Obj.SEG_STATE, segWord r.segsUp)]
  if s.flashGood then
    let image := s.fw.flash
    { s with fw := { s.fw with running := image } }.setObjs
      [(Obj.START_STATE, 2), (Obj.FW_RELEASE, image.release), (Obj.FW_FLASH_RELEASE, image.release)]
  else s.setObj Obj.START_STATE 1

/-- The loader's part, with duplicate address detection on the segments that are up (R420). -/
def State.load (s : State) (r : StartReadings) : State :=
  r.segsUp.foldl (fun t g => t.detect g (r.taken.contains ⟨g, true⟩) (r.taken.contains ⟨g, false⟩)) (s.loadImage r)

/-! ### The firmware (Table 20-4) -/

/-- The PUF seed reconstructed (R480): the identity's key and KEY_SERVICE follow from it. -/
def State.startIdentity (s : State) (errors : Nat) : State :=
  let s := match s.record with | some r => s.showRecord r | none => s.setObj Obj.CONFIG_DIGEST 0
  if 64 < errors then (s.setObjs [(Obj.PUF_STATUS, 2), (Obj.IDENTITY_KEY, 0)]).logEvent .pufFail 0 (srcCode 8 0) 0xFFFF errors
  else
    let s := s.setObjs [(Obj.PUF_STATUS, if errors = 0 then 0 else 1), (Obj.IDENTITY_KEY, leNat (Ed448.publicKey s.identityPrivate))]
    match s.record with
    | some r => { s with hmu := { s.hmu with service := { s.hmu.service with key := some (s.unwrap r) } } }
    | none => s

/-- A journal value whose check fails takes its default (R456); a lost RETIRED_MAP puts every core on WATCH. -/
def State.loseValue (s : State) (key : Nat) : State :=
  if !keptInFlash key ∨ key = Obj.HMU_RESETS ∨ key = Obj.PERSIST_WRITES ∨ key = Obj.DICT_DEFAULTS_PENDING then s
  else
    let s := (s.setObj key (dictDefault key)).count 32 Obj.PERSIST_FAULTS 1
    let s := s.logEvent .persistFault 0 (srcCode 8 0) 0xFFFF key
    if key = Obj.RETIRED_MAP then { s with health := { s.health with retiredLost := true } } else s

/-- Every core on WATCH while the retirement record is lost, until the fleet controller writes it again (R456). -/
def State.watchAll (s : State) : State :=
  if s.health.retiredLost then (List.range 104).foldl (fun t n => t.setObj (Obj.CORE_DRIFT_STATE n) 1) s else s

/-- The objects that a restore of defaults leaves as they are (Table 18-7). -/
def historyKey (key : Nat) : Bool :=
  key == Obj.RETIRED_MAP || key == Obj.FIX_LAST_ID || key == Obj.FIX_BASE_ID || (List.range 104).any (fun n => key == Obj.CANARY_BASE_PS n) ||
    key == Obj.HMU_RESETS || key == Obj.PERSIST_WRITES

/-- How many objects a restore writes (Table 18-7). -/
def defaultsWritten : Nat := 51

/-- A pending restore of defaults (R454, R455). -/
def State.restoreDefaults (s : State) : State :=
  if s.obj Obj.DICT_DEFAULTS_PENDING = 0 then s
  else
    let s := { s with dict := s.dict.filter (fun e => !keptInFlash e.1 || historyKey e.1) }
    (s.count 64 Obj.PERSIST_WRITES defaultsWritten).flashWrite

/-- The cores in service at start-up: those of R17 and the Reserves brought in before, without the retired ones (R395). -/
def State.startMap (s : State) : Nat :=
  maskOf ((List.range 104).filter (fun n =>
    !bit (s.obj Obj.RETIRED_MAP) n && (!isReserve n || s.obj (Obj.RSV_STATE (reserveNo n)) == 3)))

/-- RETIRED_MAP in force, and the map of the cores in service; the others are OFF (R395, R479). -/
def State.applyMap (s : State) : State :=
  let s := ({ s with health := { s.health with retired := s.obj Obj.RETIRED_MAP } }).setObj Obj.ACTIVE_MAP s.startMap
  (List.range 104).foldl (fun t n => if bit (t.obj Obj.ACTIVE_MAP) n then t else t.setCoreSt n .off) s

/-- The domains that start-up switches on: all but pairs without an active core. -/
def State.startDomains (s : State) : List Nat :=
  (List.range 78).filter (fun d => decide (52 ≤ d) || bit (s.obj Obj.ACTIVE_MAP) (2 * d) || bit (s.obj Obj.ACTIVE_MAP) (2 * d + 1))

/-- Cores of a pair that does not come on leave ACTIVE_MAP (R479). -/
def State.leaveMap (s : State) (d : Nat) : State :=
  if d < 52 then
    ((s.setObj Obj.ACTIVE_MAP (clearBit (clearBit (s.obj Obj.ACTIVE_MAP) (2 * d)) (2 * d + 1))).setCoreSt (2 * d) .off).setCoreSt (2 * d + 1) .off
  else s

/-- A domain that misses power-good (R407). -/
def State.startFailed (s : State) (d : Nat) : State :=
  ((((s.setPd d 4).pwrStatus 0x80).alert 2).logEvent .domainFail 0 (srcCode 0 0) 0xFFFF d).leaveMap d

/-- Whether a domain that this one depends on fails (R406). -/
def depFails (r : StartReadings) (d : Nat) : Bool := (dependsOn d).any r.failedDomains.contains

/-- A domain at start-up. -/
def State.startDomain (r : StartReadings) (s : State) (d : Nat) : State :=
  if r.failedDomains.contains d then s.startFailed d else if depFails r d then s.leaveMap d else s.domainOn d

/-- The pending lanes of a channel repaired as far as its redundant lanes reach (R215). -/
def State.repairLane (s : State) (lane : Nat) : State :=
  if lanesOfChannel s.lanesRepaired (lane / 68) < Config.redundantLanes then
    { s with lanesRepaired := s.lanesRepaired ++ [lane], lanesPending := s.lanesPending.filter (fun x => x != lane) }.flashWrite
  else s.stackHealth (lane / 68 / 16) 16

/-- The lanes of a record that lie in a stack. -/
def lanesOfStack (l : List Nat) (n : Nat) : Nat := (l.filter (fun x => x / 68 / 16 == n)).length

/-- The counts that a stack shows of its records (Table 8-6). -/
def State.showStack (s : State) (n : Nat) : State :=
  s.setObjs [(Obj.LANES_REPAIRED n, min 255 (lanesOfStack s.lanesRepaired n)), (Obj.LANES_PENDING n, min 255 (lanesOfStack s.lanesPending n)),
    (Obj.REMAPS_USED n, (s.remaps.filter (fun g => stackOfGroup g == n)).length)]

/-- HBM at start-up: lane repair (R215), remap tables (R219), the pin rate (R209), the short Sextant run (R233). That run is no run of
SXT_CTRL: SXT_STATE and SXT_RESULT show their defaults after a start-up (Table 8-5, log 44). -/
def State.startHbm (s : State) (r : StartReadings) : State :=
  let s := s.lanesPending.foldl State.repairLane s
  let s := (List.range 12).foldl State.showStack s
  let fast := (List.range 12).all r.fastStacks.contains
  let s := s.setObj Obj.HBM_RATE_ACTIVE (if fast then s.obj Obj.HBM_RATE else 1)
  let s := if s.obj Obj.HBM_RATE = 0 ∧ !fast then s.logEvent .hbmRateForced 0 (srcCode 0 0) 0xFFFF 0 else s
  s.pendFailing false 3 r.weakLanes

/-- An active core that fails the start-up self-test (R484): it stays OFF, leaves ACTIVE_MAP, and a swap is requested. -/
def State.startCoreFailed (s : State) (n : Nat) : State :=
  if n < 104 ∧ bit (s.obj Obj.ACTIVE_MAP) n then
    let s := (s.coreOff n).setObj Obj.ACTIVE_MAP (clearBit (s.obj Obj.ACTIVE_MAP) n)
    let s := { s with health := { s.health with selfFailed := s.health.selfFailed ++ [n] } }
    (s.logEvent .selfTestFail 0 (srcCode 1 n) 0xFFFF 0).autoSwap n
  else s

/-- A fabric port's first training ends (R296, R479). -/
def State.startPort (r : StartReadings) (s : State) (p : Nat) : State :=
  if s.obj (Obj.PORT_STATE p) ≠ 1 then s
  else match r.fabricUp.find? (fun x => x.1 == p) with
  | some x => s.trained p { trained := true, deadLanes := [], neighbor := x.2 }
  | none => s.trained p { trained := false, deadLanes := [], neighbor := 0xFFFF }

/-- A host port's first training ends (R461, R479). -/
def State.startHost (r : StartReadings) (s : State) (p : Nat) : State :=
  if s.obj (Obj.HOST_PORT_STATE p) ≠ 1 then s else if r.hostUp.contains p then s.hostTrained p else s.setObj (Obj.HOST_PORT_STATE p) 3

/-- Whether a stack's domain has failed, which stops start-up (R479). -/
def stackFailed (r : StartReadings) : Bool := (List.range 12).any (fun n => r.failedDomains.contains (52 + n) || depFails r (52 + n))

/-- What the firmware brings up from START_STATE 2 on. -/
def State.bringUp (s : State) (r : StartReadings) : State :=
  let s := s.startIdentity r.pufErrors
  let s := (r.badJournal.foldl State.loseValue s.restoreDefaults).watchAll
  let s := s.applyMap.setObj Obj.START_STATE 3
  let s := s.startDomains.foldl (State.startDomain r) s
  let s := s.startHbm r
  if stackFailed r then s.setObj Obj.START_STATE 5
  else
    let s := r.failedCores.foldl State.startCoreFailed s
    let s := (List.range 16).foldl (State.startPort r) s
    let s := (List.range 4).foldl (State.startHost r) s
    s.setObj Obj.START_STATE 4

/-- What the pins ask for once the firmware runs (R411, R412, R496). -/
def State.heedPins (s : State) : State :=
  let s := if s.power.thrPin then (s.pwrStatus 0x40).setRequests 1 (s.obj Obj.THR_PIN_STEP) else s
  if s.power.epoPin then s.post (.epo 1)
  else if s.power.fencePin ∧ s.obj Obj.START_STATE = 4 then s.fenceModule 2 0
  else s

/-- POWER_ON (R478, R479): with the loader due, it runs on a valid input; otherwise the input has been removed and restored. -/
def doPowerOn (r : StartReadings) (s : State) : Out :=
  if s.dead then .next s
  else
    let s := (if s.fw.loader then s else s.coldStart true).load r
    if s.obj Obj.START_STATE = 1 then .next s.heedPins
    else if s.power.epoPin then .next s.heedPins
    else .next ((s.bringUp r).heedPins)

end Sys2Proof.Machine
end

