-- ==== Sys2Proof/Machine/Views.lean ====
section
/-! DEFINITION. What the objects of the dictionary read as: those that show other state of the module, the log blocks (R437), the
objects of a sleeping Reserve (R444). -/

namespace Sys2Proof.Machine

/-! ### Log entries (Table 17-6) -/

/-- ARGS of an entry: those of a refusal for state and of a violation are the manual's (R438, R503); a lost journal value's name its index
and sub-index (R456), laid out as in Table 17-10 (log 9); the others are the implementation's (log 9). -/
def LogEntry.args (e : LogEntry) : Nat :=
  match e.event with
  | .stateRefused | .violation => e.data
  | .persistFault => e.data / 256 % 65536 + e.data % 256 * 2 ^ 16
  | ev => Config.eventArgs ev.ctorIdx e.data

/-- EVENT of an entry: 0x2410 for a refusal for state (R435); for a self-fence the fatal event (R440). -/
def LogEntry.number (e : LogEntry) : Nat :=
  match e.event with
  | .stateRefused => 0x2410
  | .selfFence => e.data / 2 ^ 8
  | ev => Config.eventNumber ev.ctorIdx

/-- The 256 bits of an entry. -/
def LogEntry.word (e : LogEntry) : Nat :=
  e.time % 2 ^ 64 + e.seq % 2 ^ 32 * 2 ^ 64 + e.number % 2 ^ 16 * 2 ^ 96 + e.code % 2 ^ 16 * 2 ^ 112 + e.source % 2 ^ 16 * 2 ^ 128 +
    e.slice % 2 ^ 16 * 2 ^ 144 + e.args % 2 ^ 80 * 2 ^ 160 + e.rep % 2 ^ 16 * 2 ^ 240

/-- The entry with a SEQ; one overwritten or not yet written reads as zero. -/
def Log.entryWord (l : Log) (seq : Nat) : Nat := (l.entries.find? (fun e => e.seq == seq)).elim 0 LogEntry.word

/-- LOG_BLOCK or VIOL_BLOCK: 64 entries from a SEQ. -/
def Log.block (l : Log) (first : Nat) : List Byte := ((List.range 64).map (fun i => leBytes 32 (l.entryWord (first + i)))).flatten

/-! ### Views -/

/-- CORE_SLOT (Table 18-4). -/
def State.coreSlot (s : State) : List Byte :=
  (List.range 104).map (fun n => match s.slotOfCore n with | some k => BitVec.ofNat 8 k | none => 0xFF#8)

/-- HBM_FREE_GIB (Table 18-4). -/
def State.hbmFree (s : State) : Nat :=
  ((List.range 768).filter (fun i => (s.slotOfHbm (i * 2 ^ 30)).isNone)).length

/-- CTX_FREE (Table 11-6). -/
def State.ctxFree (s : State) : Nat := ((List.range 128).filter (fun n => s.ctxState n == 0)).length

/-- HOST_CONNS_READY (Table 19-5). -/
def State.connsReady (s : State) : Nat := ((List.range 240).filter (fun k => s.obj (Obj.QP_STATE k) == 1)).length

/-- SUB_ACTIVE (Table 17-9). -/
def State.subActive (s : State) : Nat := ((List.range 64).filter (fun k => (Sparse.get (fun _ => none) s.hmu.subs k).isSome)).length

/-- IDENTITY_CERT as flash holds it since manufacture (R480, Table 20-7): SERIAL, the identity's public key, then the signer and its
signature, which are the manufacturer's (log 7); the last 4 B are 0. -/
def State.identityCert (s : State) : Nat :=
  s.obj Obj.SERIAL % 2 ^ 128 + leNat (Ed448.publicKey s.identityPrivate) % 2 ^ 456 * 2 ^ 128 + Config.identity 0x205 % 2 ^ 920 * 2 ^ 584

/-- The single objects that show other state. -/
def State.viewOne (s : State) (key : Nat) : Option Nat :=
  if key = Obj.CHR_NOW then some s.chr
  else if key = Obj.CHR_ERR_BOUND_NS then some s.chrBound
  else if key = Obj.WP_ENTRY then some (s.wp (s.obj Obj.WP_SELECT)).word
  else if key = Obj.TIMED_PENDING then some s.timed.length
  else if key = Obj.CHART_READ then
    some ((s.chart 0).entry (s.obj Obj.CHART_READ_DEV) + (s.chart 1).entry (s.obj Obj.CHART_READ_DEV) * 2 ^ 64)
  else if key = Obj.CHART_SELF then some (s.chart s.chartSel).self
  else if key = Obj.FAN_ENTRY then some (s.fan (s.obj Obj.FAN_SEL))
  else if key = Obj.CTX_FREE then some s.ctxFree
  else if key = Obj.RSV_PENDING then some s.rsvPending
  else if key = Obj.RESERVES_FREE then some s.reservesFree
  else if key = Obj.SELF then some s.selfId
  else if key = Obj.SLICES_ASSIGNED then some s.slicesAssigned
  else if key = Obj.CORE_SLOT then some (leNat s.coreSlot)
  else if key = Obj.HBM_FREE_GIB then some s.hbmFree
  else if key = Obj.HOST_CONNS_READY then some s.connsReady
  else if key = Obj.SUB_ACTIVE then some s.subActive
  else if key = Obj.PLCA_NODE_ID then some (s.obj Obj.SLOT + 1)
  else if key = Obj.LOG_HEAD then some s.events.seq
  else if key = Obj.VIOL_HEAD then some s.violations.seq
  else if key = Obj.LOG_BLOCK then some (leNat (s.events.block (s.obj Obj.LOG_SELECT)))
  else if key = Obj.VIOL_BLOCK then some (leNat (s.violations.block (s.obj Obj.VIOL_SELECT)))
  else if key = Obj.IDENTITY_CERT then some s.identityCert
  else if key = Obj.PD_STATE 78 then some (if s.hmu.asleep then 0 else 2)
  else none

/-- The objects with numbered indices that show other state: Waypoint groups and port queues. -/
def State.viewMany (s : State) (key : Nat) : Option Nat :=
  let i := key / 256
  let sub := key % 256
  if 0x9100 ≤ i ∧ i < 0x9200 ∧ sub = 2 then some (s.reached (i - 0x9100))
  else if 0x9100 ≤ i ∧ i < 0x9200 ∧ sub = 3 then some (s.attn (i - 0x9100))
  else if 0x5100 ≤ i ∧ i < 0x5110 ∧ sub = 0x0B then some (s.port (i - 0x5100)).depth
  else none

/-- The value that an object shows: sub-index 0 the highest sub-index of its index (R444), a write-only object 0 (R9). -/
def State.view (s : State) (key : Nat) : Nat :=
  if key % 256 = 0 then highestSub (key / 256)
  else match dictRow key with
    | some r => if r.acc = .wo then 0 else (s.viewOne key).getD ((s.viewMany key).getD (s.obj key))
    | none => 0

/-- The value as a signed or unsigned number of an object's size, little-endian (R446). -/
def State.viewBytes (s : State) (key size : Nat) : List Byte := leBytes size (s.view key)

/-! ### Existence and size (R444–R446) -/

/-- Whether the dictionary holds an object. -/
def objExists (key : Nat) : Bool := if key % 256 = 0 then highestSub (key / 256) != 0 else (dictRow key).isSome

/-- The type, access, role and size of an object. -/
def objRow (key : Nat) : ObjRow :=
  let meta0 : ObjRow := { base := key / 256, n := 1, sub := 0, subs := 1, ty := .u8, acc := .ro, role := .observer, dflt := 0, size := 1 }
  if key % 256 = 0 then meta0 else (dictRow key).getD meta0

/-- The rank of a role (R10). -/
def Role.rank : Role → Nat
  | .observer => 0 | .operator => 1 | .job => 2 | .service => 3

/-- Whether a type takes segmented transfers (R424). -/
def ObjTy.segmented : ObjTy → Bool
  | .str | .blob => true
  | _ => false

/-- The core whose own objects stand at an index (Table 18-1). -/
def coreOfIndex (i : Nat) : Option Nat :=
  if 0x8400 ≤ i ∧ i < 0x8B00 ∧ i % 256 < 104 then some (i % 256) else none

/-- The code with which an object refuses every access in the present state of its owner (R424 item 7, R444). -/
def State.ownerCode (s : State) (key : Nat) : Nat :=
  match coreOfIndex (key / 256) with
  | some n => if key % 256 ≠ 0 ∧ s.sleeping n then 0x0805 else 0
  | none => 0

/-! ### The state that a refusal consulted (Table 17-10) -/

/-- The object of the first of some numbers for which a condition holds. -/
def firstObj (l : List Nat) (p : Nat → Bool) (f : Nat → Nat) : Option Nat := (l.find? p).map f

/-- What a refused write of PD_CTRL has consulted (R405–R407, R413). -/
def State.pdObject (s : State) (v : Nat) : Option Nat :=
  let d := bits v 6 0
  let act := bits v 9 8
  let busyCore (l : List Nat) (p : Nat → Bool) : Option Nat := firstObj l p Obj.CORE_STATE
  let onDomain (l : List Nat) : Option Nat := firstObj l (fun x => s.pd x != 0) Obj.PD_STATE
  let why : Option Nat :=
    if d < 52 ∧ s.pairSleeps d then
      firstObj [2 * d, 2 * d + 1] (fun c => isReserve c && s.rsv c == 0) (fun c => Obj.RSV_STATE (reserveNo c))
    else if s.pd d = 4 then some (Obj.PD_STATE d)
    else if act ≠ 0 ∧ s.staysOff then some Obj.EPO_STATE
    else if act = 2 then some Obj.SLICES_ASSIGNED
    else if d < 52 then
      (busyCore [2 * d, 2 * d + 1] (fun c => s.coreSt c != .off && s.coreSt c != .idle)).or
        ((firstObj [2 * d, 2 * d + 1] (fun c => (s.slotOfCore c).isSome) (fun c => Obj.SLICE_STATE ((s.slotOfCore c).getD 0))).or
          (firstObj [2 * d, 2 * d + 1] s.swapNames (fun _ => Obj.RSV_PENDING)))
    else if d < 64 then (if s.noSliceHoldsCores then none else some Obj.SLICES_ASSIGNED)
    else if d < 68 then firstObj ((List.range 4).map (fun i => 4 * (d - 64) + i)) (fun p => s.obj (Obj.PORT_CTRL p) != 0) Obj.PORT_CTRL
    else if d = 68 then firstObj (List.range 240) (fun n => s.obj (Obj.QP_STATE n) != 0) Obj.QP_STATE
    else if d < 71 then firstObj ((List.range 64).map (fun i => 64 * (d - 69) + i)) (fun n => s.obj (Obj.CTX_STATE n) != 0) Obj.CTX_STATE
    else if d < 73 then
      (busyCore ((List.range 52).map (fun i => 52 * (d - 71) + i)) (fun c => s.coreSt c != .off)).or
        (firstObj ((List.range 6).map (fun i => 52 + 6 * (d - 71) + i)) (fun x => s.pd x != 0 && s.pd x != 3) Obj.PD_STATE)
    else if d < 77 then onDomain ((List.range 13).map (fun i => 13 * (d - 73) + i))
    else onDomain ((List.range 13).map (fun i => 64 + i))
  some (why.getD (Obj.PD_STATE d))

/-- What a refused write to a slice slot has consulted (R450, R451). -/
def State.slotObject (s : State) (slot key v : Nat) : Nat :=
  let cores := setBits 104 (s.obj (Obj.SLICE_CORES slot))
  let slice := s.obj (Obj.SLICE_ID slot)
  if key ≠ Obj.SLICE_CTRL slot ∨ (v = 1 ∧ s.slotAssigned slot) ∨ (v = 2 ∧ !s.slotAssigned slot) then Obj.SLICE_STATE slot
  else if v = 1 then
    match cores.find? (fun n => !(bit (s.obj Obj.ACTIVE_MAP) n && s.coreSt n == .idle &&
        !s.otherSlot slot (fun k => bit (s.obj (Obj.SLICE_CORES k)) n))) with
    | some n =>
      if !bit (s.obj Obj.ACTIVE_MAP) n then Obj.ACTIVE_MAP
      else if s.coreSt n != .idle then Obj.CORE_STATE n
      else Obj.SLICE_STATE ((s.slotOfCore n).getD slot)
    | none => Obj.CHR_STATE
  else
    match cores.find? (fun n => s.coreSt n == .armed || s.coreSt n == .running || s.coreSt n == .waiting) with
    | some n => Obj.CORE_STATE n
    | none =>
      match (List.range 128).find? (fun c => s.obj (Obj.CTX_STATE c) != 0 && s.obj (Obj.CTX_SLICE c) == slice) with
      | some c => Obj.CTX_STATE c
      | none =>
        if s.obj Obj.STEP_SLICE = slice ∧ s.obj Obj.STEP_STATE ≠ 0 then Obj.STEP_STATE
        else match s.waiters.find? (fun w => s.obj (Obj.GROUP_SLICE (w.wp / 64)) == slice) with
          | some w => Obj.CORE_STATE w.core
          | none => Obj.SLICE_STATE slot

/-- What a refused message to an object of a core has consulted (R57, R156–R167). -/
def State.coreObject (s : State) (n key : Nat) : Nat :=
  if s.sleeping n then Obj.RSV_STATE (reserveNo n)
  else if key / 65536 = 0x88 ∧ s.coreSt n = .idle then Obj.CORE_MODE n
  else Obj.CORE_STATE n

/-- What a refused request for a swap has consulted (R390). -/
def State.swapObject (s : State) (v : Nat) : Nat :=
  let core := bits v 6 0
  if bit v 15 || s.health.swaps.any (fun w => w.core == core) then Obj.RSV_PENDING
  else if s.coreSt core = .off then Obj.CORE_STATE core
  else Obj.RSV_STATE (reserveNo core)

/-- What a refused write of BIST_CTRL has consulted (R485). -/
def State.bistObject (s : State) : Nat :=
  if s.obj Obj.BIST_STATE = 1 then Obj.BIST_STATE
  else match s.bistTargets.find? (fun n => !((s.coreSt n == .idle || s.coreSt n == .off) && (s.slotOfCore n).isNone)) with
    | some n => (s.slotOfCore n).elim (Obj.CORE_STATE n) Obj.SLICE_STATE
    | none => Obj.BIST_STATE

/-- The state object that a refusal for state of a message to an object has consulted (R503): `v` is the value that the message writes.
None where the refusal consults no object. -/
def State.stateObject (s : State) (key v : Nat) : Option Nat :=
  let i := key / 256
  let step (k : Nat) : Nat := if s.obj Obj.STEP_STATE ≠ 0 then Obj.STEP_STATE else k
  if s.obj Obj.START_STATE = 1 then some Obj.START_STATE
  else match coreOfIndex i with
  | some n => some (s.coreObject n key)
  | none =>
    if 0x7020 ≤ i ∧ i < 0x7028 then some (s.slotObject (i - 0x7020) key v)
    else if 0xA010 ≤ i ∧ i < 0xA100 then
      let k := i - 0xA010
      some (if s.obj (Obj.QP_STATE k) = 0 ∧ s.obj (Obj.QP_SLICE_SLOT k) < 8 then Obj.SLICE_STATE (s.obj (Obj.QP_SLICE_SLOT k)) else Obj.QP_STATE k)
    else if 0xA008 ≤ i ∧ i < 0xA00C then
      (firstObj (List.range 240) (fun k => s.obj (Obj.QP_STATE k) == 1 && s.obj (Obj.QP_PORT k) == i - 0xA008) Obj.QP_STATE).or
        (some (Obj.HOST_PORT_STATE (i - 0xA008)))
    else if 0x9100 ≤ i ∧ i < 0x9200 then (s.waiters.find? (fun w => w.wp / 64 == i - 0x9100)).map (fun w => Obj.CORE_STATE w.core)
    else if 0x7300 ≤ i ∧ i < 0x7308 then
      let k := i - 0x7300
      if s.stageActive k then some (Obj.STG_STATE k)
      else (firstObj (setBits 104 (s.obj (Obj.STG_CORES k))) (fun c => (s.stageOf c).isSome) (fun c => Obj.STG_STATE ((s.stageOf c).getD k))).or
        (some (Obj.STG_STATE k))
    else if 0x5100 ≤ i ∧ i < 0x5110 then some (Obj.PORT_STATE (i - 0x5100))
    else if 0x5410 ≤ i ∧ i < 0x5490 then some (Obj.CTX_STATE (i - 0x5410))
    else if i = 0x7210 then some Obj.STEP_NF
    else if i = 0x7600 then some Obj.FENCE_STATE
    else if i = 0x6600 ∨ i = 0x6610 then some (if s.obj Obj.FIX_STATE = 0 then Obj.STEP_STATE else Obj.FIX_STATE)
    else if i = 0x6500 then some (if s.noSliceHoldsCores then Obj.SXT_STATE else if key = Obj.SXT_CTRL ∧ v = 1 then Obj.SLICES_ASSIGNED else Obj.SXT_STATE)
    else if i = 0x6000 then some Obj.CBW_ACTIVE
    else if i = 0x9200 then some (if key = Obj.CHR_SET ∧ s.obj Obj.CHR_STATE = 4 then Obj.SLICES_ASSIGNED else Obj.CHR_STATE)
    else if i = 0x5000 then some (if s.obj Obj.CHART_SEL = 0 then Obj.CHART0_STATE else Obj.CHART1_STATE)
    else if i = 0x1100 then some (if s.obj Obj.PUF_STATUS = 2 then Obj.PUF_STATUS else Obj.ATT_STATE)
    else if i = 0xF100 then
      some (if s.obj Obj.FW_STATE ≠ 4 ∨ key ≠ Obj.FW_CTRL ∨ v ≠ 4 then Obj.FW_STATE
        else if s.noSliceHoldsCores then Obj.STEP_STATE else Obj.SLICES_ASSIGNED)
    else if i = 0xF110 then some (if s.obj Obj.PUF_STATUS = 2 then Obj.PUF_STATUS else step (Obj.SLICES_ASSIGNED))
    else if i = 0xF120 then some s.bistObject
    else if key = Obj.POWER_CTRL then some Obj.EPO_STATE
    else if key = Obj.PD_CTRL then s.pdObject v
    else if key = Obj.RSV_SWAP then some (s.swapObject v)
    else if 0x7000 ≤ i ∧ i < 0x7600 ∨ i = 0x2010 ∨ key = Obj.RETIRED_MAP then some Obj.STEP_STATE
    else if i = 0xF000 then some (if v = 2 then Obj.DICT_DEFAULTS_PENDING else Obj.STEP_STATE)
    else none

/-- ARGS of a refusal for state whose target is an object (Table 17-10). -/
def State.dictArgs (s : State) (key v role path : Nat) : Nat :=
  let base := key / 256 % 65536 + key % 256 * 2 ^ 16 + role % 4 * 2 ^ 24 + path % 4 * 2 ^ 26
  match s.stateObject key v with
  | some o => base + o / 256 * 2 ^ 32 + o % 256 * 2 ^ 48 + s.view o % 256 * 2 ^ 56
  | none => base

end Sys2Proof.Machine
end

