-- ==== Sys2Proof/Machine/Host.lean ====
section
/-! DEFINITION. The host link (19): the checks of R466, the Waypoint and dictionary windows (Tables 9-4, 18-8), refusals (R469), waiting
requests (R467, R468), congestion (R465), connections and ports (R472). -/

namespace Sys2Proof.Machine

/-- What a host asks for (R463). -/
inductive HostOp where
  | read | write | add
  deriving DecidableEq, Repr

/-- The regions of Table 19-1. -/
inductive HostRegion where
  | hbm | prog | waypoint | window
  deriving DecidableEq, Repr

/-- A command on a connection slot that the module has. -/
def withConn (s : State) (k : Nat) (o : Out) : Out := if k < 240 then o else .next s

/-- A command on a host port that the module has. -/
def withHostPort (s : State) (p : Nat) (o : Out) : Out := if p < 4 then o else .next s

/-! ### The connection's objects -/

/-- The slice of a connection: the one in its slot while that is ASSIGNED. -/
def State.connSlice (s : State) (k : Nat) : Nat :=
  let slot := s.obj (Obj.QP_SLICE_SLOT k)
  if slot < 8 ∧ s.slotAssigned slot then s.obj (Obj.SLICE_ID slot) else 0xFFFF

/-- The PROG range of a connection, in bytes. -/
def State.progRange (s : State) (k : Nat) : Nat × Nat :=
  let v := s.obj (Obj.QP_PROG k)
  (bits v 23 0 * 65536, bits v 47 24 * 65536)

/-- RD_ATOMIC and the MTU code of a connection. -/
def State.rdAtomic (s : State) (k : Nat) : Nat := bits (s.obj (Obj.QP_REMOTE k)) 231 224
def State.mtuCode (s : State) (k : Nat) : Nat := bits (s.obj (Obj.QP_REMOTE k)) 223 216

/-- Whether an opcode is one that the module accepts for an operation (R463). PRESUMED: the numbers are those of the transport's
standard. -/
def opcodeFits (op : HostOp) (code : Nat) : Bool :=
  match op with
  | .write => code == 6 || code == 7 || code == 8 || code == 10
  | .read => code == 12
  | .add => code == 20

/-! ### The checks of R466 -/

/-- The enabled region that a range lies within (item 2). -/
def State.hostRegion (s : State) (k a len : Nat) : Option HostRegion :=
  let enabled (i : Nat) : Bool := bit (s.obj (Obj.QP_REGIONS k)) i
  let (lo, n) := s.progRange k
  if a + len ≤ 0xC000000000 then
    if lo ≤ a ∧ a + len ≤ lo + n ∧ 0 < n then (if enabled 1 then some .prog else none)
    else if !rangesMeet lo n a len ∧ enabled 0 then some .hbm
    else none
  else if 0xE000000000 ≤ a ∧ a + len ≤ 0xE000081000 then (if enabled 2 then some .waypoint else none)
  else if 0xE800000000 ≤ a ∧ a + len ≤ 0xF000000000 then (if enabled 3 then some .window else none)
  else none

/-- The Waypoint group at an offset of the Waypoint window (R235, R238). -/
def windowGroup (off : Nat) : Nat := if off < 0x80000 then off / 2048 else (off - 0x80000) / 16

/-- The ownership of a range of a region (item 3; R236 for Waypoints; the window belongs to no slice). -/
def State.hostOwner (s : State) (r : HostRegion) (slice a len : Nat) : Nat :=
  match r with
  | .hbm | .prog => if slice != 0xFFFF && s.hbmOwnedBy slice a (max 1 len) then 0 else 0x0801
  | .waypoint =>
    let lo := windowGroup (a - 0xE000000000)
    let hi := windowGroup (a + max 1 len - 1 - 0xE000000000)
    let codes := (List.range (hi + 1 - lo)).map (fun i => s.wpCode slice (64 * (lo + i)))
    if codes.contains 0x0802 then 0x0802 else if codes.contains 0x0801 then 0x0801 else 0
  | .window => 0

/-- The rule of the Waypoint window (Table 9-4). -/
def waypointRule (op : HostOp) (off len : Nat) : Nat :=
  let entry := decide (off < 0x80000)
  match op with
  | .read => if (len = 8 ∨ len = 16 ∨ len = 32) ∧ off % len = 0 then 0 else 0x0809
  | .write =>
    if !entry ∨ (16 ≤ off % 32 ∧ off % 32 + len ≤ 24) then 0x0803
    else if len = 8 ∧ off % 8 = 0 then 0
    else 0x0809
  | .add => if entry ∧ off % 32 = 0 ∧ len = 8 then 0 else 0x0809

/-- The object whose slot of the dictionary window holds an address (R458). -/
def windowKey (a : Nat) : Nat := (a - 0xE800000000) / 2048

/-- The answer of the dictionary window (Table 18-8). -/
def State.windowRule (s : State) (op : HostOp) (a len : Nat) : Nat :=
  match op with
  | .write => 0x0803
  | .add => 0x0809
  | .read =>
    let key := windowKey a
    if !objExists key then 0x0802
    else if a % 2048 ≠ 0 ∨ len < 8 ∨ 2048 < len then 0x0809
    else if (objRow key).role ≠ .observer then 0x0808
    else s.ownerCode key

/-- The region's own rule (item 4, Table 19-1). -/
def State.hostRule (s : State) (r : HostRegion) (op : HostOp) (k a len : Nat) : Nat :=
  match r with
  | .hbm => if op = .add then 0x0809 else 0
  | .prog =>
    if op = .add then 0x0809
    else if op = .write ∧ s.obj (Obj.KERNEL_RIGHT (s.obj (Obj.QP_SLICE_SLOT k))) ≠ 1 then 0x0808
    else 0
  | .waypoint => waypointRule op (a - 0xE000000000) len
  | .window => s.windowRule op a len

/-- The length of a message's range. -/
def hostLen (op : HostOp) (m : HostMsg) : Nat := if op = .add then 8 else m.len

/-- The four checks of R466 in order; 0 for a message that passes. -/
def State.hostCode (s : State) (op : HostOp) (m : HostMsg) : Nat :=
  let len := hostLen op m
  if m.rkey ≠ s.obj (Obj.QP_RKEY m.conn) ∨ 2 ^ 40 ≤ m.va then 0x0802
  else match s.hostRegion m.conn m.va len with
  | none => 0x0802
  | some r =>
    let owner := s.hostOwner r (s.connSlice m.conn) m.va len
    if owner ≠ 0 then owner else s.hostRule r op m.conn m.va len

/-- Whether a message is a read of the dictionary window. -/
def windowRead (op : HostOp) (a : Nat) : Bool := op == .read && decide (0xE800000000 ≤ a) && decide (a < 0xF000000000)

/-- Window reads that wait on the module (R469). -/
def State.windowReads (s : State) : Nat :=
  (s.hosts.map (fun c => (c.2.waits.filter (fun w => match w with | .read m _ _ => windowRead .read m.va | _ => false)).length)).sum

/-- Reads and atomics that a connection has outstanding (R464): those that it still answers. -/
def HostConn.outstanding (c : HostConn) : Nat :=
  (c.waits.filter (fun w => match w with | .read _ _ silent => !silent | .add _ _ silent => !silent | _ => false)).length

/-- The code that a connection answers a request with, 0 to accept it (R463, R464, R466, R469–R471). -/
def State.hostAnswer (s : State) (op : HostOp) (m : HostMsg) : Nat :=
  let c := s.conn m.conn
  if s.obj (Obj.QP_STATE m.conn) = 3 ∨ c.unbind then 0x0801
  else if !opcodeFits op m.opcode then 0x0809
  else if op ≠ .write ∧ s.rdAtomic m.conn ≤ c.outstanding then 0x0809
  else if s.fenced ∧ !windowRead op m.va then 0x0806
  else if s.hostCode op m ≠ 0 then s.hostCode op m
  else if windowRead op m.va ∧ 64 ≤ s.windowReads then 0x080B
  else 0

/-! ### Refusals (R469) -/

/-- A request that waits answers no more. -/
def HostWait.hush : HostWait → HostWait
  | .write n psn _ => .write n psn true
  | .op wp sl psn k _ => .op wp sl psn k true
  | .read m x _ => .read m x true
  | .add m x _ => .add m x true

/-- A connection answers what waits on it no more. -/
def State.hushConn (s : State) (k : Nat) : State := s.setConn k { s.conn k with waits := (s.conn k).waits.map HostWait.hush }

/-- The syndrome of Table 19-3. PRESUMED: the values are those of the transport's standard (log 10). -/
def nakSyndrome (code : Nat) : Nat :=
  if code = 0x080B then 0x21
  else if code = 0x0809 then 0x61
  else if code = 0x0805 ∨ code = 0x0806 ∨ code = 0x0807 then 0x63
  else 0x62

/-- ARGS of a violation by a host: the queue pair and the address (R438). -/
def State.hostArgs (s : State) (m : HostMsg) : Nat := s.obj (Obj.QP_LOCAL_QPN m.conn) % 2 ^ 24 + m.va % 2 ^ 40 * 2 ^ 24

/-- The log entry of a refusal (R435, R438, R469). -/
def State.logHost (s : State) (m : HostMsg) (code : Nat) : State :=
  let source := srcCode 6 (s.obj (Obj.QP_PORT m.conn))
  let slice := s.connSlice m.conn
  if code = 0x0801 ∨ code = 0x0808 then s.logViolation code source slice (s.hostArgs m)
  else if code = 0x0805 then s.logEvent .stateRefused code source slice (s.dictArgs (windowKey m.va) 0 0 2)
  else s.logEvent .hostError code source slice (s.hostArgs m)

/-- What becomes of the connection (Table 19-3): ERROR, unless the requester is to repeat or the connection is UNBOUND (R471). The fence
itself leaves every connection as it is (R470, log 111). -/
def State.connAfter (s : State) (k code : Nat) : State :=
  if code = 0x080B ∨ s.obj (Obj.QP_STATE k) = 3 ∨ (s.conn k).unbind then s
  else (s.hushConn k).setObj (Obj.QP_STATE k) 2

/-- A refused request (R469). -/
def State.hostRefuse (s : State) (m : HostMsg) (code : Nat) : State :=
  let last := s.chr % 2 ^ 64 + code * 2 ^ 64 + m.psn % 2 ^ 24 * 2 ^ 80 + m.opcode % 2 ^ 8 * 2 ^ 104
  let s := (s.send (.rdmaNak m.conn m.psn (nakSyndrome code))).setObj (Obj.QP_LAST_ERROR m.conn) last
  let s := (s.count 32 (Obj.QP_NAKS m.conn) 1).count 32 Obj.HOST_NAKS 1
  (s.logHost m code).connAfter m.conn code

/-! ### Accepted requests (R467, R468) -/

/-- A write to the Waypoint window (Table 9-4): its operation on the Waypoint. -/
def windowWrite (off v : Nat) (together : Bool) : WpKind :=
  match off % 32 / 8 with
  | 0 => .set v
  | 1 => .mark v
  | _ => .clear (bit v 0) (bit v 1) together

/-- A write on its way: bytes of HBM wait for page copies; an operation on a Waypoint waits for every request of the connection
before it (R259). -/
def State.hostWrite (s : State) (m : HostMsg) (together : Bool) : State :=
  let c := s.conn m.conn
  let data := slice m.data 0 m.len
  let off := m.va - 0xE000000000
  let w : HostWait :=
    if 0xE000000000 ≤ m.va then .op (off / 32) (s.connSlice m.conn) m.psn (windowWrite off (leNat data) together) false
    else .write c.next m.psn false
  let s := s.setConn m.conn { c with next := c.next + 1, waits := c.waits ++ [w] }
  let s := s.count 64 Obj.HOST_BYTES_IN m.len
  if 0xE000000000 ≤ m.va then s
  else
    let (discarded, s) := s.wakeWrite m.va m.len
    if discarded then s else s.write (.host m.conn c.next) m.va data

/-- A request taken: it waits for what comes before it, and is performed by `State.hostDrain`. -/
def State.hostAccept (s : State) (op : HostOp) (m : HostMsg) (together : Bool) : State :=
  let c := s.conn m.conn
  let queue (w : HostWait) : State := s.setConn m.conn { c with waits := c.waits ++ [w] }
  match op with
  | .write => s.hostWrite m together
  | .read => queue (.read m (s.connSlice m.conn) false)
  | .add => queue (.add m (s.connSlice m.conn) false)

/-- A congestion notification sent, at most one in 50 µs (R465). -/
def State.sendCnp (s : State) (k : Nat) : State :=
  let c := s.conn k
  if (c.cnpSent.map (fun t => decide (s.now < t + 50000))).getD false then s
  else (s.setConn k { c with cnpSent := some s.now }).send (.cnp k)

/-- Whether a port delivers a message to a connection that answers: the port is UP, the connection READY or UNBOUND. -/
def State.hostHears (s : State) (k : Nat) : Bool :=
  s.obj (Obj.HOST_PORT_STATE (s.obj (Obj.QP_PORT k))) == 2 && (s.obj (Obj.QP_STATE k) == 1 || s.obj (Obj.QP_STATE k) == 3)

/-- What FEC has done on a port that is UP, counted (Table 19-4). -/
def State.hostFec (s : State) (m : HostMsg) : State :=
  let p := s.obj (Obj.QP_PORT m.conn)
  if s.obj (Obj.HOST_PORT_STATE p) = 2 then
    (s.count 64 (Obj.HOST_FEC_CORRECTED p) m.corrected).count 64 (Obj.HOST_FEC_UNCORRECTED p) m.uncorrected
  else s

/-- Whether a port takes the frames of a message (R461): of 4,200 B at most, tagged as HOST_VLAN sets (log 150). -/
def State.hostFrames (s : State) (m : HostMsg) : Bool :=
  let v := s.obj (Obj.HOST_VLAN (s.obj (Obj.QP_PORT m.conn)))
  decide (m.frame ≤ 4200) && (if v = 0xFFFF then m.vlan.isNone else m.vlan.any (fun t => t % 2 ^ 12 == v % 2 ^ 12))

/-- The packet sequence numbers that a request takes (R463): one for each packet of a write or of a read's answer, one for a fetch-add.
PRESUMED: as the transport's standard counts them (log 151). -/
def State.psnSpan (s : State) (op : HostOp) (m : HostMsg) : Nat :=
  match op with
  | .add => 1
  | _ => max 1 (ceilDiv m.len (128 * 2 ^ s.mtuCode m.conn))

/-- How far a request's number lies behind the one that the connection expects; 0 for that very number. -/
def State.psnBehind (s : State) (m : HostMsg) : Nat := ((s.conn m.conn).expPsn + 2 ^ 24 - m.psn % 2 ^ 24) % 2 ^ 24

/-- The number of a request that waits. -/
def HostWait.psn : HostWait → Nat
  | .write _ psn _ => psn
  | .op _ _ psn _ _ => psn
  | .read m _ _ => m.psn
  | .add m _ _ => m.psn

/-- A request that the connection has had before (R463): a write is acknowledged again once it is performed, a read is answered anew, and a
fetch-add returns the value that it returned, without being performed. PRESUMED: as the transport's standard lays it down (log 151). -/
def State.hostRepeat (s : State) (op : HostOp) (m : HostMsg) (together : Bool) : State :=
  let c := s.conn m.conn
  if s.obj (Obj.QP_STATE m.conn) = 3 ∨ c.unbind then s.hostRefuse m 0x0801
  else if s.fenced ∧ !windowRead op m.va then s.hostRefuse m 0x0806
  else if c.waits.any (fun w => w.psn == m.psn) then s
  else match op with
  | .write => s.send (.rdmaAck m.conn m.psn)
  | .read => if s.hostAnswer op m ≠ 0 then s.hostRefuse m (s.hostAnswer op m) else s.hostAccept op m together
  | .add => match c.replays.find? (fun r => r.1 == m.psn) with
    | some r => s.send (.rdmaAtomic m.conn m.psn r.2)
    | none => s

/-- The connection expects the number behind a request that it has accepted. -/
def State.takePsn (s : State) (op : HostOp) (m : HostMsg) : State :=
  let c := s.conn m.conn
  s.setConn m.conn { c with expPsn := (c.expPsn + s.psnSpan op m) % 2 ^ 24 }

/-- A request of a host with the number that its connection expects (R463, R466): refused, or accepted. -/
def State.hostFresh (s : State) (op : HostOp) (m : HostMsg) (together : Bool) : State :=
  let code := s.hostAnswer op m
  if code ≠ 0 then s.hostRefuse m code else (s.takePsn op m).hostAccept op m together

/-- The syndrome of a NAK for a request past the number expected. PRESUMED (log 10). -/
def nakSequence : Nat := 0x60

/-- A request of a host: one past the number expected draws a NAK that names that number, and is not performed (R463). -/
def State.hostRequest (s : State) (op : HostOp) (m : HostMsg) (together : Bool) : State :=
  let s := s.hostFec m
  if !s.hostHears m.conn ∨ !s.hostFrames m then s
  else
    let s := if m.ce then s.sendCnp m.conn else s
    let behind := s.psnBehind m
    if behind = 0 then s.hostFresh op m together
    else if behind ≤ 2 ^ 23 then s.hostRepeat op m together
    else s.send (.rdmaNak m.conn (s.conn m.conn).expPsn nakSequence)

/-! ### Requests performed -/

/-- The bytes that a read returns, and what the read leaves. -/
def State.hostData (s : State) (m : HostMsg) : List Byte × State :=
  if m.va < 0xC000000000 then (s.bytes m.va m.len, s.noteRead 1 m.va m.len)
  else if m.va < 0xE800000000 then
    (((List.range (m.len / 8)).map (fun i => leBytes 8 (s.windowWord (m.va - 0xE000000000 + 8 * i)))).flatten, s)
  else
    let key := windowKey m.va
    (slice (leBytes (objRow key).size (s.view key)) 0 m.len, s)

/-- Whether a request at a place of a connection's list may be performed: a write when none of its pieces waits for a copy; a read when
no write is ahead of it (R468); an operation on a Waypoint when nothing is (R251, R259). -/
def State.waitReady (s : State) (k : Nat) (before : List HostWait) (w : HostWait) : Bool :=
  match w with
  | .write n _ _ => !s.writeWaits (.host k n)
  | .read _ _ _ => before.all (fun x => match x with | .write _ _ _ => false | .op _ _ _ _ _ => false | _ => true)
  | _ => before.isEmpty

/-- The first request of a list that may be performed, with the list without it. -/
def State.takeReady (s : State) (k : Nat) (before : List HostWait) : List HostWait → Option (HostWait × List HostWait)
  | [] => none
  | w :: r => if s.waitReady k before w then some (w, before ++ r) else s.takeReady k (before ++ [w]) r

/-- An answer that leaves unless the connection answers no more. -/
def State.answerHost (s : State) (silent : Bool) (m : OutMsg) : State := if silent then s else s.send m

/-- A request performed (R467, R468). -/
def State.performWait (s : State) (k : Nat) (w : HostWait) : State :=
  let s := s.count 64 (Obj.QP_REQUESTS k) 1
  match w with
  | .write _ psn silent => s.answerHost silent (.rdmaAck k psn)
  | .op wp sl psn kind silent => (s.answerHost silent (.rdmaAck k psn)).post (.wp { asker := .host k, slice := sl, wp, kind })
  | .read m _ silent =>
    let (data, s) := s.hostData m
    (s.count 64 Obj.HOST_BYTES_OUT m.len).answerHost silent (.rdmaData k m.psn data)
  | .add m sl silent =>
    let wp := (m.va - 0xE000000000) / 32
    let c := s.conn k
    let s := s.setConn k { c with replays := ((m.psn, (s.wp wp).value) :: c.replays).take 16 }
    let s := s.answerHost silent (.rdmaAtomic k m.psn (s.wp wp).value)
    s.post (.wp { asker := .host k, slice := sl, wp, kind := .add (m.addend % 2 ^ 64) })

/-- A connection whose last accepted request is done becomes UNBOUND if its slot was released (R471). -/
def State.settleUnbind (s : State) (k : Nat) : State :=
  let c := s.conn k
  if c.unbind ∧ c.waits.isEmpty then (s.setConn k { c with unbind := false }).setObj (Obj.QP_STATE k) 3 else s

/-- The first request of any connection that may be performed, performed. -/
def State.hostDrain (s : State) : Option State :=
  (s.hosts.findSome? (fun e => (s.takeReady e.1 [] e.2.waits).map (fun x => (e.1, x)))).map (fun (k, w, rest) =>
    (((s.setConn k { s.conn k with waits := rest }).performWait k w).settleUnbind k))

/-! ### The commands -/

/-- RDMA_WRITE (R466, R467). -/
def doRdmaWrite (m : HostMsg) (s : State) : Out := withConn s m.conn (.next (s.hostRequest .write m false))

/-- RDMA_READ (R466, R468): with the errors that have come about in what it reads. -/
def doRdmaRead (m : HostMsg) (errors : List StoredError) (s : State) : Out :=
  withConn s m.conn (.next ((s.strikes errors).hostRequest .read m false))

/-- ATOMIC_FETCH_ADD (R251, R468). -/
def doAtomicFetchAdd (m : HostMsg) (s : State) : Out := withConn s m.conn (.next (s.hostRequest .add m false))

/-- Whether a message is an 8 B write toward one word of Waypoint entries: 1 MARK, 3 the flags. -/
def wordTarget (m : HostMsg) (word : Nat) : Bool :=
  decide (0xE000000000 ≤ m.va) && decide (m.va < 0xE000080000) && (m.va - 0xE000000000) % 32 / 8 == word

/-- WAYPOINT_MARK (R244): a host's write of MARK. -/
def doWaypointMark (m : HostMsg) (s : State) : Out := withConn s m.conn (.next (if wordTarget m 1 then s.hostRequest .write m false else s))

/-- WAYPOINT_CLEAR (R241, R243, R244): a host's write of the flags; `together` says whether it arrives in one cycle with what LAST_TIME
records. -/
def doWaypointClear (m : HostMsg) (together : Bool) (s : State) : Out :=
  withConn s m.conn (.next (if wordTarget m 3 then s.hostRequest .write m together else s))

/-- CNP (R465): a notification received halves the send rate. -/
def doCnp (k : Nat) (s : State) : Out :=
  withConn s k (
    if s.hostHears k then
      let c := s.conn k
      .next ((s.setConn k { c with rate := c.rate / 2, cnpAt := s.now }).count 32 (Obj.HOST_CNP_RECEIVED (s.obj (Obj.QP_PORT k))) 1)
    else .next s)

/-- CNP_RATE_RESTORE (R465): a tenth of the port rate given back after 55 µs without a notification. -/
def doCnpRateRestore (k : Nat) (s : State) : Out :=
  withConn s k (
    let c := s.conn k
    if c.rate < hostRate ∧ c.cnpAt + 55000 ≤ s.now then
      .next (s.setConn k { c with rate := min hostRate (c.rate + hostRate / 10), cnpAt := s.now })
    else .next s)

/-- HOST_LINK_UP: training of a port succeeds (R461). -/
def doHostLinkUp (p : Nat) (s : State) : Out :=
  withHostPort s p (
    let st := s.obj (Obj.HOST_PORT_STATE p)
    .next (if st = 1 ∨ st = 3 then s.hostTrained p else s))

/-- HOST_LINK_DOWN: a port loses its link, or its training fails. -/
def doHostLinkDown (p : Nat) (s : State) : Out :=
  withHostPort s p (
    let st := s.obj (Obj.HOST_PORT_STATE p)
    .next (if st = 1 ∨ st = 2 then s.setObj (Obj.HOST_PORT_STATE p) 3 else s))

/-! ### Objects of the link (R472, Table 19-4) -/

/-- OPEN (R472). -/
def State.qpOpen (s : State) (k : Nat) : Wr :=
  let slot := s.obj (Obj.QP_SLICE_SLOT k)
  let (lo, n) := s.progRange k
  let progOk := n == 0 || (decide (lo + n ≤ 0xC000000000) && s.hbmOwnedBy (s.connSlice k) lo n)
  let mtu := s.mtuCode k
  if s.obj (Obj.QP_STATE k) ≠ 0 then s.no 0x0805
  else if 7 < slot ∨ !s.slotAssigned slot then s.no 0x0805
  else if !progOk ∨ mtu < 3 ∨ 5 < mtu ∨ s.rdAtomic k = 0 ∨ 16 < s.rdAtomic k then s.no 0x0809
  else ((s.setConn k { s.conn k with
    rate := hostRate, cnpSent := none, cnpAt := s.now, unbind := false, expPsn := bits (s.obj (Obj.QP_REMOTE k)) 215 192, replays := [] }).setObj
      (Obj.QP_STATE k) 1).ok

/-- CLOSE (R472): legal in every state. -/
def State.qpClose (s : State) (k : Nat) : Wr :=
  ((s.setConn k { (s.hushConn k).conn k with unbind := false }).setObj (Obj.QP_STATE k) 0).ok

/-- A write of QP_CTRL. -/
def State.writeQpCtrl (s : State) (k v : Nat) : Wr :=
  match v with
  | 1 => s.qpOpen k
  | 2 => s.qpClose k
  | _ => s.no 0x0809

/-- The defined bits of QP_REMOTE (Table 19-4). -/
def remoteMask : Nat :=
  (2 ^ 128 - 1) + (2 ^ 24 - 1) * 2 ^ 128 + (2 ^ 24 - 1) * 2 ^ 160 + (2 ^ 24 - 1) * 2 ^ 192 + (2 ^ 16 - 1) * 2 ^ 216

/-- A write of .03–.09 of a connection slot. -/
def State.writeQp (s : State) (k key v : Nat) : Wr :=
  if (key = Obj.QP_SLICE_SLOT k ∧ 7 < v) ∨ (key = Obj.QP_PORT k ∧ 3 < v) then s.no 0x0809
  else if s.obj (Obj.QP_STATE k) ≠ 0 then s.no 0x0805
  else
    let w := if key = Obj.QP_REMOTE k then v &&& remoteMask else if key = Obj.QP_REGIONS k then v % 16
      else if key = Obj.QP_PROG k then v % 2 ^ 48 else v
    (s.setObj key w).ok

/-- A write of HOST_PORT_CTRL. -/
def State.writeHostPortCtrl (s : State) (p v : Nat) : Wr :=
  let st := s.obj (Obj.HOST_PORT_STATE p)
  match v with
  | 0 => (s.setObjs [(Obj.HOST_PORT_CTRL p, 0), (Obj.HOST_PORT_STATE p, 0)]).ok
  | 1 =>
    let s := s.setObj (Obj.HOST_PORT_CTRL p) 1
    (if st = 0 ∧ s.pd 68 = 2 then s.setObj (Obj.HOST_PORT_STATE p) 1 else s).ok
  | _ => s.no 0x0809

/-- Whether a READY connection uses a port. -/
def State.portInUse (s : State) (p : Nat) : Bool :=
  (List.range 240).any (fun k => s.obj (Obj.QP_STATE k) == 1 && s.obj (Obj.QP_PORT k) == p)

/-- A write of another object of a host port. -/
def State.writeHostPort (s : State) (p key v : Nat) : Wr :=
  if (key = Obj.HOST_PHY p ∧ 1 < v) ∨ (key = Obj.HOST_PFC_PRIO p ∧ 7 < v ∧ v ≠ 0xFF) then s.no 0x0809
  else if key = Obj.HOST_ADDR p ∧ s.portInUse p then s.no 0x0805
  else (s.setObj key (if key = Obj.HOST_VLAN p ∧ v ≠ 0xFFFF then v % 2 ^ 15 else v)).ok

end Sys2Proof.Machine
end

