-- ==== Sys2Proof/Machine/Mgmt.lean ====
section
/-! DEFINITION. Writes of objects, area by area of the dictionary (Table 18-1): each object's ranges, states and effect (R424 items 6, 8
and 9, R446, R447), W1C clears (R9, R436) and the role keys (R430). -/

namespace Sys2Proof.Machine

/-- A value stored if it fits its range (R447). -/
def State.storeIf (s : State) (key v : Nat) (fits : Bool) : Wr := if fits then (s.setObj key v).ok else s.no 0x0809

/-- A W1C write: bits written 1 are cleared (R9, R436). -/
def State.clearObj (s : State) (key mask : Nat) : Wr := (s.setObj key (clearMask (s.obj key) mask)).ok

/-! ### The areas -/

/-- Power, clocks, temperature (Tables 16-6, 16-7). -/
def State.writePower (s : State) (key v : Nat) : Wr :=
  if key = Obj.PWR_LIMIT then s.writePwrLimit v
  else if key = Obj.PWR_STATUS then s.clearObj key v
  else if key = Obj.POWER_CTRL then s.writePowerCtrl v
  else if key = Obj.THR_PIN_STEP then s.writeThrPinStep v
  else if key = Obj.PD_CTRL then s.writePdCtrl v
  else if key = Obj.CLK_CAP 0 then s.writeClkCap 0 v
  else if key = Obj.CLK_CAP 1 then s.writeClkCap 1 v
  else s.no 0x0803

/-- Drift, health, Reserves (Tables 15-6, 15-7). -/
def State.writeHealth (s : State) (key v : Nat) : Wr :=
  if key = Obj.DRIFT_THRESH ∨ key = Obj.CORE_DRIFT_THRESH then s.writeDriftThresh key v
  else if key = Obj.MODULE_HEALTH then s.clearObj key v
  else if key = Obj.SPARE_PRESSURE then s.writeSparePressure v
  else if key = Obj.RSV_SWAP then s.writeRsvSwap v
  else if key = Obj.RETIRED_MAP then s.writeRetiredMap v
  else if key = Obj.SP_BANK_CE_THRESH then s.writeBankThresh v
  else (s.setObj key v).ok

/-- Charts, classes, delivery, Fans (Table 10-9). -/
def State.writeFabric (s : State) (key v : Nat) : Wr :=
  if key = Obj.CHART_CTRL then s.writeChartCtrl v
  else if key = Obj.CHART_SEL then s.storeIf key v (decide (v ≤ 1))
  else if key = Obj.CHART_SELF then s.writeChartSelf v
  else if key = Obj.CHART_READ_DEV then s.storeIf key v (decide (v < 16384))
  else if key = Obj.FENCE_VEC then s.writeFenceVec v
  else if key = Obj.CLASS_WEIGHTS then s.storeIf key v ((List.range 6).all (fun i => bits v (8 * i + 15) (8 * i + 8) != 0))
  else if key = Obj.E2E_RTO then s.storeIf key v (decide (5 ≤ v) && decide (v ≤ 1000))
  else if key = Obj.FAN_SEL then s.storeIf key v (decide (v < 4096))
  else if key = Obj.FAN_ENTRY then s.writeFanEntry v
  else (s.setObj key v).ok

/-- A fabric port (Table 10-10). -/
def State.writePort (s : State) (p key v : Nat) : Wr :=
  if key = Obj.PORT_CTRL p then s.writePortCtrl p v
  else if key = Obj.PORT_CTRL_LANE p then s.storeIf key v (decide (v < 4))
  else if key = Obj.PORT_PHY p then s.storeIf key v (decide (v ≤ 1))
  else s.clearObj key v

/-- A collective context (Table 11-7). -/
def State.writeCtx (s : State) (n key v : Nat) : Wr :=
  if key = Obj.CTX_ARM n then s.writeCtxArm n v else s.writeCtxCtrl n v

/-- HBM, copy-before-write, Sextant (Table 8-5) and the stacks (Table 8-6). -/
def State.writeHbm (s : State) (key v : Nat) : Wr :=
  if key = Obj.HBM_RATE then s.writeHbmRate v
  else if key = Obj.SCRUB_PERIOD then s.writeScrubPeriod v
  else if key = Obj.ROW_CE_THRESH then s.writeRowThresh v
  else if key = Obj.LANE_CE_THRESH then s.writeLaneThresh v
  else if key = Obj.CBW_MAP_BASE0 ∨ key = Obj.CBW_MAP_BASE1 then s.writeMapBase key v
  else if key = Obj.SXT_CTRL then s.writeSxtCtrl v
  else if key = Obj.SXT_TARGET then s.writeSxtSetting key (v % 2 ^ 9)
  else if key = Obj.SXT_AXIS ∨ key = Obj.SXT_MODE then s.writeSxtSetting key v
  else if 0x6100 ≤ key / 256 ∧ key / 256 < 0x610C then s.clearObj key v
  else (s.setObj key v).ok

/-- The defined bits of a Fix region (Table 14-1). -/
def regionMask : Nat := (2 ^ 69 - 1) + (2 ^ 40 - 1) * 2 ^ 128 + (2 ^ 32 - 1) * 2 ^ 192

/-- Fixes (Table 14-9). -/
def State.writeFixArea (s : State) (key v : Nat) : Wr :=
  if key = Obj.FIX_CTRL then s.writeFixCtrl v
  else if key = Obj.FIX_SVC then s.writeFixSvc v
  else if key = Obj.FIX_DRAINED_SLOTS then s.writeDrained v
  else if key = Obj.FIX_LAST_ID ∨ key = Obj.FIX_BASE_ID then (s.setObj key v).ok
  else if key / 256 = 0x6610 then s.writeRegion key (v &&& regionMask)
  else s.writeFix key v

/-- A slice slot (Table 18-5). -/
def State.writeSlot (s : State) (k key v : Nat) : Wr :=
  if key = Obj.SLICE_CTRL k then (if s.swapDue then s.performSwaps else s).writeSliceCtrl k v else s.writeSlice k key v

/-- A stage slot (Table 12-1). -/
def State.writeStageSlot (s : State) (k key v : Nat) : Wr :=
  if key = Obj.STG_CTRL k then s.writeStgCtrl k v
  else if key = Obj.ACT_STATUS k then s.clearObj key v
  else if key = Obj.STG_CORES k then s.writeStage k key v
  else if key = Obj.STG_POS k then s.writeStage k key (v % 2 ^ 24)
  else if key = Obj.IN_WP k ∨ key = Obj.GRAD_WP k ∨ key = Obj.COLL_WP k then s.writeStage k key (v % 2 ^ 29)
  else s.writeStage k key v

/-- Step, seal, Wake, Consort, fence (Tables 4-10, 13-5, 13-8, 13-9). -/
def State.writeStepArea (s : State) (key v : Nat) : Wr :=
  if key = Obj.SEAL_WP ∨ key = Obj.SEAL_THRESH then s.writeSeal key v
  else if key = Obj.STEP_CTRL then s.writeStepCtrl v
  else if key = Obj.STEP_STATUS then s.clearObj key v
  else if key / 256 = 0x7401 then s.writeWakeEntry key v
  else if key = Obj.FENCE_CTRL then s.writeFenceCtrl v
  else if key = Obj.FENCE_REQ_DEV then s.writeFenceReq v
  else s.writeStepObj key v

/-- A core's objects (Tables 2-11, 3-9, 4-11, 5-13, 6-8). Bit 3 of ARITH_FLAGS, INXNT, is a read-only 1 (Table 2-10). -/
def State.writeCoreArea (s : State) (core key v : Nat) : Wr :=
  let area := key / 65536
  if area = 0x84 then s.clearObj key (v % 8)
  else if area = 0x85 then s.clearObj key v
  else if area = 0x86 then
    s.storeIf key v ((key != Obj.RNG_MODE core || decide (v ≤ 1)) && (key != Obj.RNG_RANK core || decide (v < 128)))
  else if area = 0x87 then
    if key = Obj.CORE_CTRL core then s.writeCoreCtrl core v
    else if key = Obj.PROG_GEN core then s.writeProgGen core v
    else s.writeLaunch core key v
  else if key = Obj.LYR_START core then s.writeLyrStart core v
  else s.writeLyr core (key % 256 - 1) v

/-- Waypoint unit and Chronometer (Table 9-7). -/
def State.writeChronoArea (s : State) (key v : Nat) : Wr :=
  if key = Obj.WP_SELECT then s.storeIf key v (decide (v < 16384))
  else if key = Obj.CHR_PARENT_PORT then s.writeChrParent v
  else if key = Obj.CHR_ALT_PORT then s.writeChrAlt v
  else if key = Obj.CHR_SYNC_PERIOD then s.storeIf key v (decide (16 ≤ v))
  else if key = Obj.CHR_SET then s.writeChrSet v
  else (s.setObj key v).ok

/-- Host ports and connections (Table 19-4). -/
def State.writeHostArea (s : State) (key v : Nat) : Wr :=
  let i := key / 256
  if i < 0xA010 then
    let p := i - 0xA008
    if key = Obj.HOST_PORT_CTRL p then s.writeHostPortCtrl p v else s.writeHostPort p key v
  else
    let k := i - 0xA010
    if key = Obj.QP_CTRL k then s.writeQpCtrl k v else s.writeQp k key v

/-- Management (Table 17-9). -/
def State.writeMgmtArea (s : State) (key v : Nat) : Wr :=
  if key = Obj.MGMT_STATUS then s.clearObj key v
  else if key = Obj.ALERT_SUMMARY then (s.clearAlert v).ok
  else if key = Obj.BEACON_PERIOD then s.storeIf key v (decide (20 ≤ v) && decide (v ≤ 1000))
  else (s.setObj key v).ok

/-- Attestation, firmware, record, bench self-test, dictionary service (Tables 18-6, 20-7). -/
def State.writeServiceArea (s : State) (key v : Nat) : Wr :=
  if key = Obj.DICT_DEFAULTS then s.writeDictDefaults v
  else if key = Obj.ATT_NONCE then s.writeAttNonce v
  else if key = Obj.ATT_CTRL then s.writeAttCtrl v
  else if key = Obj.FW_CTRL then s.writeFwCtrl v
  else if key = Obj.FW_OFFSET then s.writeFwOffset v
  else if key = Obj.CFG_OFFSET then s.writeCfgOffset v
  else if key = Obj.CFG_CTRL then s.writeCfgCtrl v
  else if key = Obj.BIST_CTRL then s.writeBistCtrl v
  else if key = Obj.BIST_TARGET then (s.setObj key (v % 2 ^ 104)).ok
  else s.storeIf key v (decide (v ≤ 1))

/-- A write of a value to an object that accepts writes. -/
def State.writeValue (s : State) (key v : Nat) : Wr :=
  let i := key / 256
  match coreOfIndex i with
  | some n => s.writeCoreArea n key v
  | none =>
    if i < 0x2000 then s.writeServiceArea key v
    else if i < 0x3000 then s.writeMgmtArea key v
    else if i < 0x4000 then s.writePower key v
    else if i < 0x5000 then s.writeHealth key v
    else if i < 0x5100 ∨ i = 0x5300 then s.writeFabric key v
    else if i < 0x5110 then s.writePort (i - 0x5100) key v
    else if i < 0x6000 then s.writeCtx (i - 0x5410) key v
    else if i < 0x6600 then s.writeHbm key v
    else if i < 0x7000 then s.writeFixArea key v
    else if i < 0x7100 then s.writeSlot (i - 0x7020) key v
    else if 0x7300 ≤ i ∧ i < 0x7400 then s.writeStageSlot (i - 0x7300) key v
    else if i < 0x8000 then s.writeStepArea key v
    else if 0x9100 ≤ i ∧ i < 0x9200 then s.writeGroupSlice (i - 0x9100) v
    else if i < 0xA000 then s.writeChronoArea key v
    else if i < 0xF000 then s.writeHostArea key v
    else s.writeServiceArea key v

/-! ### Role keys (R430, R443) -/

/-- A write of KEY_OBSERVER (0), KEY_OPERATOR (1) or KEY_JOB (2): it takes effect once the response has left. -/
def State.writeKey (s : State) (role : Nat) (l : List Byte) : Wr :=
  if l.length ≠ 32 then s.no 0x0809
  else if role = 2 ∧ 2 ≤ s.obj Obj.STEP_STATE ∧ s.obj Obj.STEP_STATE ≤ 7 then s.no 0x0805
  else
    let s := s.count 32 Obj.KEY_CHANGES 1
    { s with hmu := { s.hmu with keyDue := some (role, l) } }.ok

/-! ### The whole write -/

/-- Whether the bytes of a written value have the object's length (R446); CHART_LOAD checks its own (Table 10-9). -/
def lengthFits (key n : Nat) : Bool := key == Obj.CHART_LOAD || n == (objRow key).size

/-- The value, checked and performed, of an object whose bytes have the right length. -/
def State.writeFitted (s : State) (key : Nat) (l : List Byte) : Wr :=
  if key = Obj.KEY_OBSERVER then s.writeKey 0 l
  else if key = Obj.KEY_OPERATOR then s.writeKey 1 l
  else if key = Obj.KEY_JOB then s.writeKey 2 l
  else if key = Obj.CHART_LOAD then s.writeChartLoadBytes l
  else if key = Obj.FW_CHUNK then s.writeFwChunk l
  else if key = Obj.CFG_CHUNK then s.writeCfgChunk l
  else if (objRow key).ty = .bool ∧ 1 < leNat l then s.no 0x0809
  else s.writeValue key (leNat l)

/-- Keys that flash keeps (R430); they are no RWP values. -/
def keptKey (key : Nat) : Bool := key == Obj.KEY_OBSERVER || key == Obj.KEY_OPERATOR

/-- A write of bytes to an object (R446, R447, items 8 and 9 of R424); an accepted write of a persisted object is journalled (R457). -/
def State.performWrite (s : State) (key : Nat) (l : List Byte) : Wr :=
  if !lengthFits key l.length then s.no 0x0809
  else
    let (s', code) := s.writeFitted key l
    if code = 0 ∧ (objRow key).acc = .rwp then s'.journalled.ok
    else if code = 0 ∧ keptKey key then s'.flashWrite.ok
    else (s', code)

end Sys2Proof.Machine
end

