-- ==== Sys2Proof/Machine/Hdp.lean ====
section
/-! DEFINITION. The Hexea Dictionary Protocol (17): messages and tags (R423, R428), counters and the response cache (R429, R431), the
order of checks (R424), segmented transfers (R425, R426), subscriptions (R427), what the loader answers (R478). -/

namespace Sys2Proof.Machine

/-! ### Messages -/

/-- The 256 bits of a header (Table 17-1). -/
def hdpHeader (q : HdpReq) (dup : Bool) : Nat :=
  q.hdr.ver % 16 + q.typ % 16 * 2 ^ 4 + q.hdr.role % 4 * 2 ^ 8 + b2n q.hdr.tagged * 2 ^ 10 + b2n dup * 2 ^ 11 +
    q.hdr.reqId % 2 ^ 16 * 2 ^ 16 + q.index % 2 ^ 16 * 2 ^ 32 + q.sub % 2 ^ 8 * 2 ^ 48 + q.len % 2 ^ 16 * 2 ^ 64 +
    q.code % 2 ^ 16 * 2 ^ 80 + q.segno % 2 ^ 32 * 2 ^ 96 + q.hdr.counter % 2 ^ 64 * 2 ^ 128 + q.hdr.dev % 2 ^ 16 * 2 ^ 192

/-- The tag of a message under a key (R428). -/
def hdpTag (key : List Byte) (q : HdpReq) (dup : Bool) : Nat := kmac256 key (leBytes 32 (hdpHeader q dup) ++ q.payload) hdpCustom

/-- The key of the dictionary's object that a message names. -/
def reqKey (q : HdpReq) : Nat := q.index * 256 + q.sub

/-- What a role key has. -/
def State.roleKey (s : State) (role : Nat) : RoleKey :=
  match role with
  | 0 => s.hmu.observer | 1 => s.hmu.operator | 2 => s.hmu.job | _ => s.hmu.service

/-- The state with a role key's part replaced. -/
def State.setRoleKey (s : State) (role : Nat) (k : RoleKey) : State :=
  match role with
  | 0 => { s with hmu := { s.hmu with observer := k } }
  | 1 => { s with hmu := { s.hmu with operator := k } }
  | 2 => { s with hmu := { s.hmu with job := k } }
  | _ => { s with hmu := { s.hmu with service := k } }

/-- A message with the tag of its role's key; untagged where it is to be or where there is no such key. -/
def State.sealHdp (s : State) (q : HdpReq) (dup : Bool) : HdpReq :=
  match (s.roleKey q.hdr.role).key with
  | some k => if q.hdr.tagged then { q with hdr := { q.hdr with tag := hdpTag k q dup } } else { q with hdr := { q.hdr with tag := 0 } }
  | none => { q with hdr := { q.hdr with tagged := false, tag := 0 } }

/-- A message put behind those that wait on its segment. -/
def State.queueHdp (s : State) (o : HdpOut) : State :=
  match o.msg.hdr.seg with
  | .a => { s with hmu := { s.hmu with queueA := s.hmu.queueA ++ [o] } }
  | .b => { s with hmu := { s.hmu with queueB := s.hmu.queueB ++ [o] } }

/-- A message of the module in answer to one that reached it (R421): on the same segment, from the address that it reached, to its address
and port, with hop limit 255; header echoed. -/
def answerTo (q : HdpReq) (typ code segno : Nat) (payload : List Byte) : HdpReq :=
  { q with hdr := { q.hdr with ver := 1, held := 0, hops := 255, extended := false }, typ, code, segno, len := payload.length, payload }

/-- An answer tagged and queued; a key that waits for it takes effect when it has left (R430). -/
def State.answer (s : State) (m : HdpReq) (dup : Bool) : State :=
  let key := s.hmu.keyDue
  ({ s with hmu := { s.hmu with keyDue := none } }).queueHdp { msg := s.sealHdp m dup, low := false, dup, key }

/-! ### Counters (R429) and the cache (R431) -/

/-- Whether a key accepts a counter. -/
def RoleKey.accepts (k : RoleKey) (c : Nat) : Bool :=
  (k.floor.map (fun f => decide (f < c))).getD true &&
    (match k.top with
    | none => true
    | some t => decide (t < c) || (decide (t ≤ c + 64) && decide (c ≠ t) && !k.seen.contains c))

/-- A counter accepted: the window moves with the highest, the ceiling once the highest passes it. -/
def RoleKey.take (k : RoleKey) (c : Nat) : RoleKey :=
  let top := max c (k.top.getD 0)
  let seen := ((c :: k.seen) ++ k.top.toList).filter (fun x => decide (top ≤ x + 64) && x != top)
  let passed := (k.ceiling.map (fun x => decide (x < top))).getD true
  { k with top := some top, seen, ceiling := if passed then some (top + 65536) else k.ceiling }

/-- The bytes of a message: it without the address it came from and what it found waiting. -/
def sameBytes (a b : HdpReq) : Bool :=
  let bare (q : HdpReq) : HdpReq :=
    { q with hdr := { q.hdr with seg := .a, src := 0, port := 0, held := 0, hops := 255, extended := false, toSlot := true } }
  bare a == bare b

/-- A request with its response remembered (R431): the last 64 responses of a key. A message that draws none takes no place among them; the
unit knows it again, so that the same bytes are no reuse of its counter (log 152). -/
def State.cache (s : State) (q : HdpReq) (r : Option HdpReq) : State :=
  if !q.hdr.tagged then s
  else
    let k := s.roleKey q.hdr.role
    match r with
    | some r => s.setRoleKey q.hdr.role { k with cache := ((q, r) :: k.cache).take 64 }
    | none => if k.quiet.any (sameBytes q) then s else s.setRoleKey q.hdr.role { k with quiet := (q :: k.quiet).take 64 }

/-- What the counter and the tag say of a message (R428, R429, R431). -/
inductive AuthAns where
  | pass
  | copy (r : HdpReq)
  | fail
  deriving DecidableEq, Repr

/-- Authentication of a message. One that has drawn no response comes in again: a segment that the unit holds is acknowledged anew, and one
that it dropped is taken if it now fits (R425). -/
def State.authenticate (s : State) (q : HdpReq) : AuthAns :=
  if !q.hdr.tagged then (if q.hdr.role = 0 ∧ s.obj Obj.OBS_OPEN = 1 then .pass else .fail)
  else
    let k := s.roleKey q.hdr.role
    match k.key with
    | none => .fail
    | some key =>
      if q.hdr.tag ≠ hdpTag key q false then .fail
      else match k.cache.find? (fun c => c.1.hdr.counter == q.hdr.counter) with
      | some c => if sameBytes c.1 q then .copy c.2 else .fail
      | none => if k.accepts q.hdr.counter ∨ k.quiet.any (sameBytes q) then .pass else .fail

/-- Whether a failed message had a tag that held: its answer then carries one too (R428). -/
def State.tagHolds (s : State) (q : HdpReq) : Bool :=
  q.hdr.tagged && (match (s.roleKey q.hdr.role).key with | some key => q.hdr.tag == hdpTag key q false | none => false)

/-! ### Refusals -/

/-- What is counted and logged of a code that is returned (R435, R438, Table 17-9). -/
def State.noteCode (s : State) (q : HdpReq) (code : Nat) : State :=
  let source := srcCode (4 + segNo q.hdr.seg) 0
  let args := q.hdr.src % 2 ^ 64 + q.index % 2 ^ 16 * 2 ^ 64
  if code = 0x080A then ((s.count 32 Obj.HDP_AUTH_FAILS 1).mgmtStatus 8).logViolation code source 0xFFFF args
  else if code = 0x0801 ∨ code = 0x0808 then s.logViolation code source 0xFFFF args
  else if code = 0x080B then s.count 32 Obj.HDP_BUSY 1
  else if code = 0x0805 then s.logEvent .stateRefused code source 0xFFFF (s.dictArgs (reqKey q) (leNat q.payload) q.hdr.role (segNo q.hdr.seg))
  else s

/-! ### The order of checks (R424) -/

/-- The objects of the record's update: any role may write them while no record is in force (R483). -/
def recordObject (key : Nat) : Bool := key == Obj.CFG_OFFSET || key == Obj.CFG_CHUNK || key == Obj.CFG_CTRL

/-- Whether a role suffices (R10). -/
def State.roleGood (s : State) (key role : Nat) : Bool :=
  (recordObject key && !s.fw.inForce) || decide ((objRow key).role.rank ≤ role)

/-- Whether an object may be written: KEY_SERVICE may not (R430). -/
def writable (key : Nat) : Bool := (objRow key).acc != .ro && key != Obj.KEY_SERVICE

/-- Items 4 to 7: the object exists and takes such a message, the role suffices, the access kind fits, its owner answers. `write`: the
message writes; `kind`: it needs an object of segmented transfers (`some true`), of expedited ones, or of either (`none`). -/
def State.objectCode (s : State) (key role : Nat) (write : Bool) (kind : Option Bool) : Nat :=
  if !objExists key then 0x0802
  else if kind.isSome ∧ kind ≠ some (objRow key).ty.segmented then 0x0809
  else if !s.roleGood key role then 0x0808
  else if write ∧ !writable key then 0x0803
  else s.ownerCode key

/-- What a message does once it is admitted: the code, and the answer's payload and SEGNO; `silent` for none. -/
structure Served where
  state   : State
  code    : Nat
  payload : List Byte
  segno   : Nat
  silent  : Bool

/-- An answer without payload. -/
def served (w : Wr) : Served := { state := w.1, code := w.2, payload := [], segno := 0, silent := false }

/-- An answer that refuses. -/
def State.refuse (s : State) (code : Nat) : Served := { state := s, code, payload := [], segno := 0, silent := false }

/-- The message answered and remembered; `counts`: it is a request that raises HDP_REQUESTS when performed. -/
def Served.finish (w : Served) (q : HdpReq) (counts : Bool) : State :=
  let s := w.state.noteCode q w.code
  let s := if w.code = 0 ∧ counts then s.count 64 Obj.HDP_REQUESTS 1 else s
  if w.silent ∧ w.code = 0 then s.cache q none
  else
    let r := if w.code = 0 then answerTo q 7 0 w.segno w.payload else answerTo q 8 w.code 0 []
    (s.answer r false).cache q (some r)

/-- Whether a message's lengths agree (R423). -/
def reqFormed (q : HdpReq) : Bool := q.len == q.payload.length && decide (q.len ≤ 1024)

/-- What the loader answers (R478): untagged READ_EXP of START_STATE and FW_LAST_ERROR, writes to FW_CTRL, FW_OFFSET and FW_CHUNK. -/
def loaderTakes (q : HdpReq) : Bool :=
  !q.hdr.tagged &&
    ((q.typ == 0 && ((reqKey q) == Obj.START_STATE || (reqKey q) == Obj.FW_LAST_ERROR)) ||
      (q.typ == 1 && ((reqKey q) == Obj.FW_CTRL || (reqKey q) == Obj.FW_OFFSET)) ||
      ((q.typ == 3 || q.typ == 4 || q.typ == 11) && (reqKey q) == Obj.FW_CHUNK))

/-- The counter of a tagged message accepted. -/
def State.takeCounter (s : State) (q : HdpReq) : State :=
  let k := s.roleKey q.hdr.role
  if q.hdr.tagged && k.accepts q.hdr.counter then s.setRoleKey q.hdr.role (k.take q.hdr.counter) else s

/-- Items 2 and 3 on a module whose firmware runs, then the rest. -/
def State.takeIn (s : State) (q : HdpReq) (counts : Bool) (work : State → Served) : State :=
  match s.authenticate q with
  | .copy r =>
    (s.count 32 Obj.HDP_DUPS 1).answer
      { r with hdr := { r.hdr with seg := q.hdr.seg, src := q.hdr.src, port := q.hdr.port, toSlot := q.hdr.toSlot } } true
  | .fail =>
    let r := answerTo q 8 0x080A 0 []
    (s.noteCode q 0x080A).answer { r with hdr := { r.hdr with tagged := s.tagHolds q } } false
  | .pass =>
    let s := s.takeCounter q
    if q.hdr.dev ≠ 0xFFFF ∧ q.hdr.dev ≠ s.selfId then s.cache q none
    else (work s).finish q counts

/-- Whether an expedited request finds no room (R433): the unit holds 32. -/
def noRoom (q : HdpReq) : Bool := decide (q.typ ≤ 1) && decide (32 ≤ q.hdr.held)

/-- An expedited request that finds no room: 0x080B, and nothing of it is looked at, so that its counter stays free (R433, log 56). -/
def State.turnAway (s : State) (q : HdpReq) : State := ((s.mgmtStatus 4).noteCode q 0x080B).answer (answerTo q 8 0x080B 0 []) false

/-- Whether a datagram reaches the protocol (R421): its hop limit is 255, it carries no extension header and no fragment, and the address
that it names is one that the module holds on the segment (R420, R478, R497). -/
def State.datagramGood (s : State) (h : Hdr) : Bool :=
  h.hops == 255 && !h.extended && !s.hmu.taken.contains ⟨h.seg, h.toSlot⟩ && (h.toSlot || s.obj Obj.START_STATE != 1)

/-- A message that reaches the unit. -/
def State.hdpReceive (s : State) (q : HdpReq) (counts : Bool) (work : State → Served) : State :=
  if !s.segUp q.hdr.seg ∨ !s.hmuServes ∨ !s.datagramGood q.hdr then s
  else
    let s := s.hmuWork
    if !reqFormed q then s.count 32 Obj.HDP_MALFORMED 1
    else if noRoom q then s.turnAway q
    else if q.hdr.ver ≠ 1 ∨ 12 ≤ q.typ then (s.noteCode q 0x0809).answer (answerTo q 8 0x0809 0 []) false
    else if s.obj Obj.START_STATE = 1 then
      let plain := { q with hdr := { q.hdr with tagged := false } }
      if q.hdr.dev ≠ 0xFFFF then s
      else (if loaderTakes q then work s else s.refuse 0x0805).finish plain counts
    else s.takeIn q counts work

/-- The role that a message has: the loader answers at any role. -/
def State.roleOf (s : State) (q : HdpReq) : Nat := if s.obj Obj.START_STATE = 1 then 3 else q.hdr.role

/-! ### Expedited requests (R424) -/

/-- READ_EXP performed. -/
def readExpWork (q : HdpReq) (s : State) : Served :=
  let code := s.objectCode (reqKey q) (s.roleOf q) false (some false)
  if code ≠ 0 then s.refuse code
  else if q.len ≠ 0 then s.refuse 0x0809
  else { state := s, code := 0, payload := s.viewBytes (reqKey q) (objRow (reqKey q)).size, segno := 0, silent := false }

/-- WRITE_EXP performed. -/
def writeExpWork (q : HdpReq) (s : State) : Served :=
  let code := s.objectCode (reqKey q) (s.roleOf q) true (some false)
  if code ≠ 0 then s.refuse code else served (s.performWrite (reqKey q) q.payload)

/-- READ_EXP; a message of a reserved type is answered here (Table 17-2). -/
def doReadExp (q : HdpReq) (s : State) : Out :=
  .next (if q.typ = 0 ∨ 12 ≤ q.typ then s.hdpReceive q true (readExpWork q) else s)

/-- The launch objects of a core (Table 5-11). -/
def launchObjects (n : Nat) : List Nat :=
  [Obj.CORE_MODE n, Obj.ENTRY_PC n, Obj.LAUNCH_WP n, Obj.LAUNCH_THRESH n, Obj.LAUNCH_ARG n, Obj.PROG_GEN n, Obj.WDOG_LIMIT n, Obj.RUN_LIMIT n]

/-- Whether a write gives way to a RESET of its core in the same cycle (R156, R167): ARM, LYR_START and the launch objects. -/
def yieldsToReset (key : Nat) (payload : List Byte) : Bool :=
  match coreOfIndex (key / 256) with
  | some n => (launchObjects n).contains key || key == Obj.LYR_START n || (key == Obj.CORE_CTRL n && leNat payload == 1)
  | none => false

/-- Whether a write is a command to switch off a domain that is waking (R407). -/
def State.yieldsToWake (s : State) (key : Nat) (payload : List Byte) : Bool :=
  key == Obj.PD_CTRL && bits (leNat payload) 9 8 == 0 && s.pd (bits (leNat payload) 6 0) == 1

/-- WRITE_EXP performed in a cycle in which a RESET may reach the core (R156), or the module may begin to wake the domain (R407): a write
that would succeed is refused for state. -/
def writeExpWith (q : HdpReq) (coincides : Bool) (s : State) : Served :=
  let w := writeExpWork q s
  if coincides && (yieldsToReset (reqKey q) q.payload || s.yieldsToWake (reqKey q) q.payload) && w.code == 0 then s.refuse 0x0805 else w

/-- A WRITE_EXP that reaches the unit. -/
def State.receiveWrite (s : State) (q : HdpReq) (coincides : Bool) : State :=
  if q.typ = 1 then s.hdpReceive q true (writeExpWith q coincides) else s

/-- Whether a message writes a persisted object. -/
def persists (q : HdpReq) : Bool := (objRow (reqKey q)).acc == .rwp

/-- Two WRITE_EXP of one cycle (R434, R457): in segment order, T1S-A first; of two values of one persisted object that which stands alone is
journalled. -/
def State.receiveTwo (s : State) (q r : HdpReq) (coincides : Bool) : State :=
  let (x, y) := if r.hdr.seg = .a ∧ q.hdr.seg = .b then (r, q) else (q, r)
  let t := (s.receiveWrite x coincides).receiveWrite y coincides
  let n := s.obj Obj.PERSIST_WRITES
  if reqKey q = reqKey r ∧ persists q ∧ t.obj Obj.PERSIST_WRITES = n + 2 then t.setObj Obj.PERSIST_WRITES (n + 1) else t

/-- OBJECT_WRITE: a WRITE_EXP. With the power failing before its journal entry has completed, a write of a persisted object is lost and
draws no response: the object returns with its previous value (R457). -/
def doObjectWrite (c : WriteCycle) (s : State) : Out :=
  .next (if c.powerFails && persists c.what then s.post (.epo 2)
    else match c.second with
      | none => s.receiveWrite c.what c.coincides
      | some r => s.receiveTwo c.what r c.coincides)

/-- A WRITE_EXP of a value to an object. -/
def writeReq (h : Hdr) (key v : Nat) : HdpReq :=
  let n := (objRow key).size
  { hdr := h, typ := 1, index := key / 256, sub := key % 256, len := n, code := 0, segno := 0, payload := leBytes n v }

/-- A command that is a WRITE_EXP of a value to one object. -/
def State.writeCommand (s : State) (h : Hdr) (key v : Nat) : State :=
  let q := writeReq h key v
  s.hdpReceive q true (writeExpWork q)

/-- The same in a cycle in which a RESET may reach the object's core (R156), or the module may begin to wake the domain (R407). -/
def State.writeCommandWith (s : State) (h : Hdr) (key v : Nat) (coincides : Bool) : State :=
  let q := writeReq h key v
  s.hdpReceive q true (writeExpWith q coincides)

/-! ### Transfers (R425, R426) -/

/-- A transfer slot. -/
def State.transfer (s : State) (t : Nat) : Option Transfer := Sparse.get (fun _ => none) s.hmu.transfers t

/-- The state with a transfer slot replaced. -/
def State.setTransfer (s : State) (t : Nat) (x : Option Transfer) : State :=
  { s with hmu := { s.hmu with transfers := Sparse.set (fun _ => none) s.hmu.transfers t x } }

/-- A transfer that a message belongs to: same object, REQ_ID, sender and direction. -/
def State.transferOf (s : State) (q : HdpReq) (write : Bool) : Option (Nat × Transfer) :=
  (List.range 4).findSome? (fun t => (s.transfer t).bind (fun x =>
    if x.write == write && (reqKey x.opener) == (reqKey q) && x.opener.hdr.src == q.hdr.src && x.opener.hdr.seg == q.hdr.seg &&
      x.opener.hdr.role == q.hdr.role && x.opener.hdr.reqId == q.hdr.reqId then some (t, x) else none))

/-- The read that a message has just opened. -/
def State.readOpened (s : State) (q : HdpReq) : Option (Nat × Transfer) :=
  (List.range 4).findSome? (fun t => (s.transfer t).bind (fun x =>
    if !x.write && x.sent == 0 && sameBytes x.opener q then some (t, x) else none))

/-- A free transfer slot. -/
def State.freeTransfer (s : State) : Option Nat := (List.range 4).find? (fun t => (s.transfer t).isNone)

/-- Whether an object has an open write. -/
def State.writeOpen (s : State) (key : Nat) : Bool :=
  (List.range 4).any (fun t => (s.transfer t).elim false (fun x => x.write && (reqKey x.opener) == key))

/-- Segments of a transfer of `n` bytes. -/
def segCount (n : Nat) : Nat := ceilDiv n 1024

/-- A SEGMENT of a read. -/
def segmentMsg (x : Transfer) (i : Nat) : HdpReq := answerTo x.opener 4 0 i ((x.bytes.drop (1024 * i)).take 1024)

/-- Segments of a read queued, from one number to another. -/
def State.sendSegments (s : State) (x : Transfer) (lo hi : Nat) : State :=
  (List.range (hi - lo)).foldl (fun t i => t.queueHdp { msg := t.sealHdp (segmentMsg x (lo + i)) false, low := false, dup := false, key := none }) s

/-- A read goes on: at most 8 segments stand unacknowledged; with the last one acknowledged it ends. -/
def State.pushRead (s : State) (t : Nat) (x : Transfer) : State :=
  if segCount x.total ≤ x.done then s.setTransfer t none
  else
    let hi := min (segCount x.total) (x.done + 8)
    (s.sendSegments x x.sent hi).setTransfer t (some { x with sent := max x.sent hi })

/-- READ_SEG performed: the answer carries the total length, and the first segments follow it. -/
def readSegWork (q : HdpReq) (s : State) : Served :=
  let code := s.objectCode (reqKey q) (s.roleOf q) false (some true)
  if code ≠ 0 then s.refuse code
  else match s.freeTransfer with
  | none => s.refuse 0x080B
  | some t =>
    let n := (objRow (reqKey q)).size
    let x : Transfer :=
      { opener := q, write := false, total := n, bytes := s.viewBytes (reqKey q) n, done := 0, sent := 0,
        progress := s.now, resentAt := s.now }
    { state := s.setTransfer t (some x), code := 0, payload := leBytes 8 n, segno := 0, silent := false }

/-- READ_SEG: the segments are queued behind the answer. -/
def doReadSeg (q : HdpReq) (s : State) : Out :=
  if q.typ ≠ 2 then .next s
  else
    let s' := s.hdpReceive q true (readSegWork q)
    .next (match s'.readOpened q with
      | some (t, x) => s'.pushRead t x
      | none => s')

/-- WRITE_SEG performed. -/
def writeSegWork (q : HdpReq) (s : State) : Served :=
  let code := s.objectCode (reqKey q) (s.roleOf q) true (some true)
  if code ≠ 0 then s.refuse code
  else if q.len ≠ 8 ∨ 2 ^ 24 < leNat q.payload then s.refuse 0x0809
  else match s.freeTransfer with
  | none => s.refuse 0x080B
  | some t =>
    if s.writeOpen (reqKey q) then s.refuse 0x080B
    else
      let x : Transfer :=
        { opener := q, write := true, total := leNat q.payload, bytes := [], done := 0, sent := 0,
          progress := s.now, resentAt := s.now }
      served (s.setTransfer t (some x)).ok

/-- WRITE_SEG. -/
def doWriteSeg (q : HdpReq) (s : State) : Out := .next (if q.typ = 3 then s.hdpReceive q true (writeSegWork q) else s)

/-- The last segment of a write has arrived: role and state are checked again, and the whole value is applied, or nothing. -/
def State.applyTransfer (s : State) (x : Transfer) (role segno : Nat) : Served :=
  let code := s.objectCode (reqKey x.opener) role true (some true)
  if x.bytes.length ≠ x.total then s.refuse 0x0809
  else if code ≠ 0 then s.refuse code
  else { served (s.performWrite (reqKey x.opener) x.bytes) with segno }

/-- SEGMENT performed: the next one in order is kept, one held already is acknowledged again, one past a gap is dropped. -/
def segmentWork (q : HdpReq) (s : State) : Served :=
  match s.transferOf q true with
  | none => s.refuse 0x0805
  | some (t, x) =>
    if q.segno < x.done then { served s.ok with segno := x.done - 1 }
    else if x.done < q.segno then { served s.ok with silent := true }
    else
      let y : Transfer := { x with bytes := x.bytes ++ q.payload, done := x.done + 1, progress := s.now }
      if q.len < 1024 ∨ y.total ≤ y.bytes.length then (s.setTransfer t none).applyTransfer y (s.roleOf q) q.segno
      else { served (s.setTransfer t (some y)).ok with segno := q.segno, silent := y.done % 8 != 0 }

/-- SEGMENT. -/
def doSegment (q : HdpReq) (s : State) : Out := .next (if q.typ = 4 then s.hdpReceive q false (segmentWork q) else s)

/-- RESPONSE of a requester: segments of a read acknowledged, and the next ones follow. -/
def responseWork (q : HdpReq) (s : State) : Served :=
  match s.transferOf q false with
  | none => { served s.ok with silent := true }
  | some (t, x) =>
    let y : Transfer := { x with done := max x.done (min (q.segno + 1) x.sent), progress := if x.done < q.segno + 1 then s.now else x.progress }
    { served (s.pushRead t y).ok with silent := true }

/-- RESPONSE. -/
def doResponse (q : HdpReq) (s : State) : Out := .next (if q.typ = 7 then s.hdpReceive q false (responseWork q) else s)

/-- The open transfer of a message's request ended. -/
def State.dropTransfer (s : State) (q : HdpReq) (write : Bool) : State :=
  match s.transferOf q write with
  | some (n, _) => s.setTransfer n none
  | none => s

/-- ABORT of a requester: its transfer of the object ends with no effect (R426). -/
def abortWork (q : HdpReq) (s : State) : Served :=
  { served ((s.dropTransfer q true).dropTransfer q false).ok with silent := true }

/-- HDP_ABORT. -/
def doHdpAbort (q : HdpReq) (s : State) : Out := .next (if q.typ = 11 then s.hdpReceive q false (abortWork q) else s)

/-- A message that the module sends of itself, at work for it. -/
def State.emitHdp (s : State) (low : Bool) (m : HdpReq) : State := s.hmuWork.queueHdp { msg := s.sealHdp m false, low, dup := false, key := none }

/-- A transfer that the model has: one of four. -/
def withTransfer (s : State) (t : Nat) (o : Out) : Out := if t < 4 then o else .next s

/-- SEGMENT_RESEND (R425): 20 ms without progress send again from the first unacknowledged segment. -/
def doSegmentResend (t : Nat) (s : State) : Out :=
  withTransfer s t (match s.transfer t with
    | some x =>
      if !x.write ∧ x.done < x.sent ∧ max x.progress x.resentAt + 20000000 ≤ s.now then
        .next ((s.hmuWork.sendSegments x x.done x.sent).setTransfer t (some { x with resentAt := s.now }))
      else .next s
    | none => .next s)

/-- TRANSFER_TIMEOUT (R426): 1 s without progress ends a transfer with an ABORT that carries 0x080B. -/
def doTransferTimeout (t : Nat) (s : State) : Out :=
  withTransfer s t (match s.transfer t with
    | some x =>
      if x.progress + 1000000000 ≤ s.now then
        .next (((s.setTransfer t none).count 32 Obj.HDP_BUSY 1).emitHdp false (answerTo x.opener 11 0x080B 0 []))
      else .next s
    | none => .next s)

/-! ### Whole transfers -/

/-- A command that stands for a whole segmented write: its opening request is checked, answered, and the value applied; the last
acknowledgement carries the code. -/
def blobWork (q : HdpReq) (value : List Byte) (s : State) : Served :=
  let code := s.objectCode (reqKey q) (s.roleOf q) true (some true)
  if code ≠ 0 then s.refuse code
  else if s.freeTransfer.isNone ∨ s.writeOpen (reqKey q) then s.refuse 0x080B
  else
    let s := s.answer (answerTo q 7 0 0 []) false
    { served (s.performWrite (reqKey q) value) with segno := segCount value.length - 1 }

/-- The opening request of a whole transfer. -/
def blobReq (h : Hdr) (key n : Nat) : HdpReq :=
  { hdr := h, typ := 3, index := key / 256, sub := key % 256, len := 8, code := 0, segno := 0, payload := leBytes 8 n }

/-- A command that writes a value of the segmented types to one object. -/
def State.blobCommand (s : State) (h : Hdr) (key : Nat) (value : List Byte) : State :=
  let q := blobReq h key value.length
  s.hdpReceive q true (blobWork q value)

/-! ### Subscriptions (R427) -/

/-- A subscription slot. -/
def State.sub (s : State) (n : Nat) : Option Subscription := Sparse.get (fun _ => none) s.hmu.subs n

/-- The state with a subscription slot replaced. -/
def State.setSub (s : State) (n : Nat) (x : Option Subscription) : State :=
  { s with hmu := { s.hmu with subs := Sparse.set (fun _ => none) s.hmu.subs n x } }

/-- The subscription of a sender to an object. -/
def State.subOf (s : State) (q : HdpReq) : Option Nat :=
  (List.range 64).find? (fun n => (s.sub n).elim false (fun x =>
    (reqKey x.req) == (reqKey q) && x.req.hdr.src == q.hdr.src && x.req.hdr.seg == q.hdr.seg && x.req.hdr.role == q.hdr.role))

/-- Minimum interval in ms, lease in s and port of a SUBSCRIBE (Table 17-2). -/
def subInterval (q : HdpReq) : Nat := bits (leNat q.payload) 15 0
def subLease (q : HdpReq) : Nat := bits (leNat q.payload) 31 16
def subPort (q : HdpReq) : Nat := bits (leNat q.payload) 47 32

/-- SUBSCRIBE performed. -/
def subscribeWork (q : HdpReq) (s : State) : Served :=
  let code := s.objectCode (reqKey q) (s.roleOf q) false none
  let good := q.len == 8 && decide (10 ≤ subInterval q) && decide (subInterval q ≤ 60000) && decide (1 ≤ subLease q) &&
    decide (subLease q ≤ 3600) && decide ((objRow (reqKey q)).size ≤ 1024)
  let expires := s.now + subLease q * 1000000000
  if code ≠ 0 then s.refuse code
  else if !good then s.refuse 0x0809
  else match s.subOf q with
  | some n => served (s.setSub n ((s.sub n).map (fun (x : Subscription) => { x with req := q, expires }))).ok
  | none =>
    match (List.range 64).find? (fun n => (s.sub n).isNone) with
    | none => s.refuse 0x080B
    | some n => served (s.setSub n (some { req := q, seen := s.view (reqKey q), dirty := false, last := none, segno := 0, expires })).ok

/-- SUBSCRIBE. -/
def doSubscribe (q : HdpReq) (s : State) : Out := .next (if q.typ = 5 then s.hdpReceive q true (subscribeWork q) else s)

/-- UNSUBSCRIBE performed; with no subscription there is nothing to end. -/
def unsubscribeWork (q : HdpReq) (s : State) : Served :=
  let code := s.objectCode (reqKey q) (s.roleOf q) false none
  if code ≠ 0 then s.refuse code
  else match s.subOf q with
  | some n => served (s.setSub n none).ok
  | none => s.refuse 0x0805

/-- UNSUBSCRIBE. -/
def doUnsubscribe (q : HdpReq) (s : State) : Out := .next (if q.typ = 6 then s.hdpReceive q true (unsubscribeWork q) else s)

/-- The subscriptions whose object has changed are noted. -/
def State.noteSub (s : State) (n : Nat) : State :=
  match s.sub n with
  | some x =>
    let v := s.view (reqKey x.req)
    if v = x.seen then s else s.setSub n (some { x with seen := v, dirty := true })
  | none => s

/-- Every subscription noted. -/
def State.noteSubs (s : State) : State := s.hmu.subs.foldl (fun t e => t.noteSub e.1) s

/-! ### The module's own messages -/

/-- The send counter taken, under the ceiling rule (R429). -/
def State.nextCounter (s : State) : Nat × State :=
  let c := s.hmu.sendCounter
  let ceiling := if s.hmu.sendCeiling < c then c + 65536 else s.hmu.sendCeiling
  (c, { s with hmu := { s.hmu with sendCounter := c + 1, sendCeiling := ceiling } })

/-- A subscription slot that the model has: one of 64. -/
def withSub (s : State) (n : Nat) (o : Out) : Out := if n < 64 then o else .next s

/-- A NOTIFY of a subscription's object, to the subscriber's address and the port it named. -/
def notifyMsg (x : Subscription) (counter : Nat) (value : List Byte) : HdpReq :=
  let m := answerTo x.req 9 0 x.segno value
  { m with hdr := { m.hdr with counter, tagged := true, port := subPort x.req } }

/-- NOTIFY (R427): the object has changed, and the minimum interval has passed. -/
def doNotify (n : Nat) (s : State) : Out :=
  withSub s n (match (s.noteSub n).sub n with
    | some x =>
      let waited := (x.last.map (fun t => decide (t + subInterval x.req * 1000000 ≤ s.now))).getD true
      if x.dirty && waited && s.hmuServes then
        let s := (s.noteSub n).setSub n (some { x with dirty := false, last := some s.now, segno := x.segno + 1 })
        let (c, s) := s.nextCounter
        .next (s.emitHdp true (notifyMsg x c (s.viewBytes (reqKey x.req) (objRow (reqKey x.req)).size)))
      else .next s
    | none => .next s)

/-- LEASE_EXPIRY (R427). -/
def doLeaseExpiry (n : Nat) (s : State) : Out :=
  withSub s n (match s.sub n with
    | some x => .next (if x.expires ≤ s.now then s.setSub n none else s)
    | none => .next s)

end Sys2Proof.Machine
end

