-- ==== Sys2Proof/Machine/Unit.lean ====
section
/-! DEFINITION. The management unit's own work (17): Beacons (R441, R442, R478), the transmit opportunity (R419, R432), sleep, watchdog
and reset (R416, R418), the segments (R422), neighbour discovery (R420, R462), the flush of the logs (R439). -/

namespace Sys2Proof.Machine

/-! ### Beacons -/

/-- Whether the unit has KEY_SERVICE. -/
def State.hasServiceKey (s : State) : Bool := s.hmu.service.key.isSome && s.obj Obj.PUF_STATUS != 2

/-- The Beacon's payload (Table 17-8); in RECOVERY NO_DEV and NO_KEY are 1 and STEP_STATE reads 0xF (R478). -/
def State.beaconWord (s : State) : Nat :=
  let loader := s.obj Obj.START_STATE == 1
  let self := s.selfId
  let noDev := loader || self == 0xFFFF
  s.chr % 2 ^ 64 + s.hmu.beaconNo % 2 ^ 32 * 2 ^ 64 + (if noDev then 0 else self % 2 ^ 14) * 2 ^ 96 + b2n noDev * 2 ^ 110 +
    s.obj Obj.SLOT % 64 * 2 ^ 112 + (if loader then 15 else s.obj Obj.STEP_STATE % 16) * 2 ^ 120 + s.obj Obj.FENCE_STATE % 16 * 2 ^ 124 +
    s.obj Obj.STEP_NUM % 2 ^ 64 * 2 ^ 128 + s.obj Obj.DRIFT_STATE % 16 * 2 ^ 192 + s.obj Obj.EPO_STATE % 4 * 2 ^ 196 +
    s.obj Obj.CHR_STATE % 8 * 2 ^ 198 + b2n s.replaceN * 2 ^ 201 + b2n s.alertN * 2 ^ 202 + b2n (loader || !s.hasServiceKey) * 2 ^ 203 +
    s.obj Obj.FENCE_REQ_DEV % 2 ^ 16 * 2 ^ 208 + s.obj Obj.HMU_RESETS % 2 ^ 16 * 2 ^ 224 + s.events.seq % 2 ^ 32 * 2 ^ 256 +
    s.violations.seq % 2 ^ 32 * 2 ^ 288 + s.obj Obj.MODULE_HEALTH % 2 ^ 32 * 2 ^ 320 + s.obj Obj.STEP_STATUS % 2 ^ 32 * 2 ^ 352

/-- ff02::1, low half, and the Beacon's port (R441). -/
def beaconPort : Nat := 47811

/-- A Beacon for one segment (R441): under KEY_SERVICE with ROLE 3, or untagged with ROLE 0 where there is none. -/
def State.beaconMsg (s : State) (g : Seg) (counter : Nat) : HdpReq :=
  let tagged := s.obj Obj.START_STATE != 1 && s.hasServiceKey
  { hdr :=
      { seg := g, ver := 1, role := if tagged then 3 else 0, tagged, reqId := 0, counter, dev := s.selfId, tag := 0, src := 1,
        port := beaconPort, held := 0 }
    typ := 10, index := 0, sub := 0, len := 64, code := 0, segno := 0, payload := leBytes 64 s.beaconWord }

/-- A Beacon sent on each segment that is not DOWN. -/
def State.sendBeacon (s : State) (low : Bool) : State :=
  let s := { s with hmu := { s.hmu with beaconNo := s.hmu.beaconNo + 1 } }
  let (c, s) := if s.obj Obj.START_STATE = 1 then (0, s) else s.nextCounter
  [Seg.a, Seg.b].foldl (fun t g => if t.segUp g then t.emitHdp low (t.beaconMsg g c) else t) s

/-- The period of Beacons in ns: BEACON_PERIOD, or 1 s in RECOVERY. -/
def State.beaconPeriod (s : State) : Nat := if s.obj Obj.START_STATE = 1 then 1000000000 else s.obj Obj.BEACON_PERIOD * 1000000

/-- BEACON (R441). -/
def doBeacon (s : State) : Out :=
  let due := (s.hmu.beaconAt.map (fun t => decide (t + s.beaconPeriod ≤ s.now))).getD true
  if s.hmuServes ∧ due then .next ({ s with hmu := { s.hmu with beaconAt := some s.now } }.sendBeacon true) else .next s

/-- IMMEDIATE_BEACON (R442): a change that it reports has come about; two are at least 5 ms apart. -/
def doImmediateBeacon (s : State) : Out :=
  let free := (s.hmu.immediateAt.map (fun t => decide (t + 5000000 ≤ s.now))).getD true
  if s.beaconDue ∧ free ∧ s.hmuServes ∧ s.obj Obj.START_STATE ≠ 1 then
    .next ({ s with beaconDue := false, hmu := { s.hmu with immediateAt := some s.now } }.sendBeacon false)
  else .next s

/-! ### The transmit opportunity (R419, R432) -/

/-- The message that goes first: one that yields to none before one that yields, each in order. -/
def nextOut (l : List HdpOut) : Option HdpOut :=
  match l.find? (fun o => !o.low) with
  | some o => some o
  | none => l.head?

/-- A key written takes effect: its window starts empty (R430). -/
def State.keyEffect (s : State) (k : Option (Nat × List Byte)) : State :=
  match k with
  | some (role, bytes) => s.setRoleKey role (.fresh (some bytes))
  | none => s

/-- A message of the protocol leaves its segment's queue. -/
def State.sendQueued (s : State) (g : Seg) (o : HdpOut) : State :=
  let s := match g with
    | .a => { s with hmu := { s.hmu with queueA := s.hmu.queueA.erase o } }
    | .b => { s with hmu := { s.hmu with queueB := s.hmu.queueB.erase o } }
  (s.send (.hdp g o.dup o.msg)).keyEffect o.key

/-- The oldest neighbour discovery frame of a segment leaves. -/
def State.sendNd (s : State) (g : Seg) : State :=
  let q := match g with | .a => s.hmu.ndA | .b => s.hmu.ndB
  match q with
  | [] => s
  | o :: rest =>
    let s := match g with
      | .a => { s with hmu := { s.hmu with ndA := rest } }
      | .b => { s with hmu := { s.hmu with ndB := rest } }
    s.send (match o with | .advert a => .neighborAdvert (.seg g) a | .solicit a => .neighborSolicit (.seg g) a)

/-- TRANSMIT_OPPORTUNITY (R419, R432): one frame leaves. A RESPONSE goes ahead of every NOTIFY and periodic BEACON; neighbour discovery goes
between them (log 153). -/
def doTransmitOpportunity (g : Seg) (s : State) : Out :=
  let q := match g with | .a => s.hmu.queueA | .b => s.hmu.queueB
  let nd := match g with | .a => s.hmu.ndA | .b => s.hmu.ndB
  if !s.segUp g then .next s
  else match nextOut q with
  | none => .next (s.sendNd g)
  | some o => .next (if o.low && !nd.isEmpty then s.sendNd g else s.sendQueued g o)

/-! ### Sleep, watchdog, reset (R416, R418) -/

/-- HMU_SLEEP: 10 ms with no work queued. -/
def doHmuSleep (s : State) : Out :=
  let h := s.hmu
  if !h.asleep ∧ h.lastWork + 10000000 ≤ s.now ∧ h.queueA.isEmpty ∧ h.queueB.isEmpty ∧ h.ndA.isEmpty ∧
      h.ndB.isEmpty then
    .next { s with hmu := { s.hmu with asleep := true } }
  else .next s

/-- HC_WATCHDOG: a management core has failed; the other takes all the work. -/
def doHcWatchdog (core : Nat) (s : State) : Out :=
  if 2 ≤ core then .next s
  else if bit (s.obj Obj.HMU_STATUS) core then .next ((s.setObj Obj.HMU_STATUS (clearBit (s.obj Obj.HMU_STATUS) core)).alert 16)
  else .next s

/-- What an HMU reset does to an update (R482): a commit in progress leaves the flash torn and the staging area lost. -/
def State.resetUpdate (s : State) : State :=
  if s.fwState = 3 then { s with fw := { s.fw with staging := [] } }.setObj Obj.FW_STATE 6 else s

/-- HMU_RESET: both management cores have failed; subscriptions, transfers and the response cache are lost. -/
def doHmuReset (s : State) : Out :=
  if s.obj Obj.HMU_STATUS ≠ 0 then .next s
  else
    let h := s.hmu
    let kept :=
      { h.afresh s.now with
        beaconNo := h.beaconNo, beaconAt := h.beaconAt, immediateAt := h.immediateAt, taken := h.taken, hostPhys := h.hostPhys }
    let s := { s with hmu := kept }
    .next (((s.setObj Obj.HMU_STATUS 3).count 32 Obj.HMU_RESETS 1).resetUpdate)

/-! ### Segments (R422) -/

/-- SEG_STATE with one segment's field set. -/
def State.setSeg (s : State) (g : Seg) (up : Bool) : State :=
  let old := s.obj Obj.SEG_STATE
  s.setObj Obj.SEG_STATE (match g with | .a => old / 4 * 4 + b2n up | .b => old % 4 + 4 * b2n up)

/-- SEGMENT_DOWN: 10 ms without beacons of the coordinator. -/
def doSegmentDown (g : Seg) (s : State) : Out := .next (if s.segUp g then (s.setSeg g false).mgmtStatus (2 ^ segNo g) else s)

/-- NEIGHBOR_SOLICITATION for one of the module's addresses: on a segment the answer waits for a transmit opportunity (R419). -/
def doNeighborSolicitation (l : NdLink) (target : Nat) (s : State) : Out :=
  .next (if (s.addresses l).contains target then
      match l with
      | .seg g => s.hmuWork.queueNd g (.advert target)
      | .host _ => s.send (.neighborAdvert l target)
    else s)

/-- SEGMENT_UP: beacons return, and the module looks for its addresses on the segment (R420). -/
def doSegmentUp (r : SegReturn) (s : State) : Out :=
  .next (if !s.segUp r.seg ∧ s.hmuServes then (s.setSeg r.seg true).detect r.seg r.slot r.mac else s)

/-! ### The logs in flash (R439) -/

/-- The entries of both logs are in flash. -/
def State.flushed (s : State) : State :=
  { s with events := { s.events with unflushed := 0 }, violations := { s.violations with unflushed := 0 } }

/-- LOG_FLUSH: a block that fails to program is replaced from the spare blocks; with none left the flush fails (Table 17-5). -/
def doLogFlush (programFails : Bool) (s : State) : Out :=
  if s.events.unflushed = 0 ∧ s.violations.unflushed = 0 then .next s
  else if !programFails then .next s.flushed
  else .next (if s.health.flashUsed < 256 then s.blockFailed.flushed else s.blockFailed)

end Sys2Proof.Machine
end

