-- ==== Sys2Proof/Machine/Settle.lean ====
section
/-! DEFINITION. What a command brings about beyond its own effect, performed before the command ends: Waypoint operations with
everything that watches the Waypoint, frames delivered, units that test their conditions (log 8). -/

namespace Sys2Proof.Machine

/-! ### Waypoint operations (R236, R245, R307, R331, R341, R344) -/

/-- The contexts that wait for their GO on a Waypoint (R307). -/
def State.goContexts (s : State) (wp : Nat) : List Nat :=
  (List.range 128).filter (fun n => s.ctxState n == 1 && (s.ctx n).goEn && (s.ctx n).goWp == wp)

/-- What watches a Waypoint beside its waiters, tested after an operation: the seal, the step's ends, contexts, accounts. -/
def State.watchers (s : State) (wp : Nat) : State :=
  let s := if wp = s.obj Obj.SEAL_WP then s.sealTest else s
  let s := if wp = s.obj Obj.END_WP ∨ wp = s.obj Obj.READY_WP then s.post .stepTest else s
  let s := (s.goContexts wp).foldl (fun t n => t.post (.context n)) s
  s.accounts wp

/-- Whether the operation of a requester passes R236. -/
def State.wpRefused (s : State) (r : WpReq) : Nat :=
  match r.asker with
  | .host _ => 0
  | _ => s.wpCode r.slice r.wp

/-- An add that another device or a host makes may be discarded by the Wake (R349, R350). -/
def State.wpDiscard (s : State) (r : WpReq) : Bool × State :=
  match r.kind, r.asker with
  | .add _, .host _ => s.wakeAdd r.wp
  | .add _, .frame dev _ => if dev = s.selfId then (false, s) else s.wakeAdd r.wp
  | _, _ => (false, s)

/-- A Waypoint operation asked for, performed or refused. A host's is checked where its message is accepted (R466). -/
def State.performReq (s : State) (r : WpReq) : State :=
  if s.wpRefused r ≠ 0 then s.refuseWp r (s.wpRefused r)
  else
    let (discarded, s) := s.wpDiscard r
    if discarded then s else (s.performWp r.wp r.kind).watchers r.wp

/-! ### Consequences -/

/-- A layer that may run: one of kind 7 hands its descriptor to a context. -/
def State.beginLayer (s : State) (core : Nat) : State := if s.lyKind core = 7 then s.collectiveLayer core else s.runLayer core

/-- One consequence performed. -/
def State.perform (s : State) (p : Post) : State :=
  match p with
  | .wp r => s.performReq r
  | .stepFail bit code => s.stepFail bit code
  | .layer core => s.beginLayer core
  | .layerNext core => s.layerNext core
  | .frame port f => s.deliver port f
  | .onModule op f => s.selfFrame op f
  | .landed op _ => s.opLanded op
  | .failed op f code => s.opFailed op f code
  | .lost op f => s.opLost op f
  | .context n => s.ctxTest n
  | .stepTest => s.stepTest
  | .fixTest => s.fixTest.rebuildTest
  | .fixEnd cause => s.fixEnd cause
  | .entrySwaps => s.performSwaps.spareBanks
  | .selfFence event => s.selfFence event
  | .epo cause => s.emergencyOff cause
  | .inputOff => s.inputOff
  | .inputDark => s.inputDark
  | .restart => s.coldStart false
  | .bringIn => s.bringIn

/-- Everything that is due performed, in order: consequences, swaps that wait for no job (R392), then requests of hosts that may now be
performed, until nothing is left; then subscriptions note what has changed. -/
def State.settle : Nat → State → State
  | 0, s => s
  | n + 1, s =>
    match s.posts with
    | p :: rest => State.settle n ({ s with posts := rest }.perform p)
    | [] =>
      if s.swapDue then State.settle n s.performSwaps
      else match s.hostDrain with
      | some t => State.settle n t
      | none => s.noteSubs

/-- More than one command brings about. -/
def settleFuel : Nat := 65536

/-- A command's outcome with everything that it brings about. -/
def settled (o : Out) : Out :=
  match o with
  | .next s => .next (s.settle settleFuel)
  | .fault f => .fault f
  | .refused r => .refused r

end Sys2Proof.Machine
end

