-- ==== Sys2Proof/Machine/CoreCommands.lean ====
section
/-! DEFINITION. The meanings of the commands of start-up, cores, matrix array, vector engine, core control and layers (03–06, 20): each runs its operation with
everything that follows within the command. -/

namespace Sys2Proof.Machine

/-- POWER_ON (R478). -/
def execPowerOn (r : StartReadings) (s : State) : Out := settled (doPowerOn r s)

/-- BUNDLE_ISSUE (R154). -/
def execBundleIssue (core : Nat) (s : State) : Out := settled (doBundleIssue core s)

/-- LINE_FILL (R146). -/
def execLineFill (core : Nat) (s : State) : Out := settled (doLineFill core s)

/-- RELEASE_BUFFER_PERFORM (R151). -/
def execReleaseBufferPerform (core : Nat) (s : State) : Out := settled (doReleaseBufferPerform core s)

/-- MCFG (R63). -/
def execMcfg (core : Nat) (s : State) : Out := settled (doMcfg core s)

/-- MWLD (R64). -/
def execMwld (core : Nat) (s : State) : Out := settled (doMwld core s)

/-- MSTR (R66). -/
def execMstr (core : Nat) (s : State) : Out := settled (doMstr core s)

/-- DRAIN (R68). -/
def execDrain (core : Nat) (errors : List StoredError) (s : State) : Out := settled (doDrain core errors s)

/-- CHAIN_START (R100). -/
def execChainStart (core : Nat) (s : State) : Out := settled (doChainStart core s)

/-- GATED_UPDATE (R122). -/
def execGatedUpdate (core : Nat) (s : State) : Out := settled (doGatedUpdate core s)

/-- CHAIN_COMPLETE (R102). -/
def execChainComplete (core : Nat) (s : State) : Out := settled (doChainComplete core s)

/-- SEAL_THRESH (R121). -/
def execSealThresh (h : Hdr) (value : Nat) (s : State) : Out := settled (.next (s.writeCommand h Obj.SEAL_THRESH value))

/-- ARM (R157); a RESET of the same cycle refuses it (R156). -/
def execArm (h : InCycle Hdr) (core : Nat) (s : State) : Out :=
  settled (.next (s.writeCommandWith h.what (inRange core 104 (Obj.CORE_CTRL core)) 1 h.coincides))

/-- RESET (R159). One that comes in the cycle of the fault just taken leaves the core parked, with its record and its cause counter
(R165). -/
def execReset (h : InCycle Hdr) (core : Nat) (s : State) : Out :=
  let t := s.writeCommand h.what (inRange core 104 (Obj.CORE_CTRL core)) 2
  settled (.next (if h.coincides && s.justParked core && t.coreSt core == .idle then t.faultStands core else t))

/-- PROG_GEN (R149); a RESET of the same cycle refuses it (R156). -/
def execProgGen (h : InCycle Hdr) (core : Nat) (gen : Nat) (s : State) : Out :=
  settled (.next (s.writeCommandWith h.what (inRange core 104 (Obj.PROG_GEN core)) gen h.coincides))

/-- PROGRESS_WATCHDOG (R163). -/
def execProgressWatchdog (core : Nat) (s : State) : Out := settled (doProgressWatchdog core s)

/-- RUN_WATCHDOG (R163). -/
def execRunWatchdog (core : Nat) (s : State) : Out := settled (doRunWatchdog core s)

/-- LYR_WRITE (R166). -/
def execLyrWrite (h : Hdr) (core : Nat) (reg : Nat) (value : Nat) (s : State) : Out :=
  settled (.next (s.writeCommand h (inRange core 104 (inRange reg 64 (Obj.LYR core reg))) value))

/-- LYR_START (R167); a RESET of the same cycle refuses it. -/
def execLyrStart (h : InCycle Hdr) (core : Nat) (s : State) : Out :=
  settled (.next (s.writeCommandWith h.what (inRange core 104 (Obj.LYR_START core)) 1 h.coincides))

end Sys2Proof.Machine
end

