-- ==== Sys2Proof/Machine/FabricCommands.lean ====
section
/-! DEFINITION. The meanings of the commands of the fabric: frames, flows, links, ports, Charts (10): each runs its operation with
everything that follows within the command. -/

namespace Sys2Proof.Machine

/-- FRAME_ROUTE (R264). -/
def execFrameRoute (arrival : Option Arrival) (f : Frame) (s : State) : Out := settled (doFrameRoute arrival f s)

/-- WRITE (R289). -/
def execWrite (f : Frame) (s : State) : Out := settled (doWrite f s)

/-- READ (R272). -/
def execRead (f : Frame) (s : State) : Out := settled (doRead f s)

/-- READ_DATA (R272). -/
def execReadData (f : Frame) (s : State) : Out := settled (doReadData f s)

/-- WP_ADD (R249). -/
def execWpAdd (f : Frame) (s : State) : Out := settled (doWpAdd f s)

/-- ACK (R279). -/
def execAck (f : Frame) (s : State) : Out := settled (doAck f s)

/-- ERR_RESP (R290). -/
def execErrResp (f : Frame) (s : State) : Out := settled (doErrResp f s)

/-- PARTIAL (R293). -/
def execPartialNotice (f : Frame) (s : State) : Out := settled (doPartialNotice f s)

/-- ACK_TIMER (R279). -/
def execAckTimer (k : FlowKey) (s : State) : Out := settled (doAckTimer k s)

/-- E2E_RESEND (R280). -/
def execE2eResend (k : FlowKey) (s : State) : Out := settled (doE2eResend k s)

/-- PATH_LOST (R281). -/
def execPathLost (k : FlowKey) (s : State) : Out := settled (doPathLost k s)

/-- LINK_CONTROL_BLOCK (R267). -/
def execLinkControlBlock (port : Nat) (s : State) : Out := settled (doLinkControlBlock port s)

/-- NAK (R274). -/
def execNak (port : Nat) (seqNo : Nat) (s : State) : Out := settled (doNak port seqNo s)

/-- LINK_REPLAY_TIMEOUT (R274). -/
def execLinkReplayTimeout (port : Nat) (s : State) : Out := settled (doLinkReplayTimeout port s)

/-- FRAME_AGE_DROP (R276). -/
def execFrameAgeDrop (s : State) : Out := settled (doFrameAgeDrop s)

/-- PORT_RETRAIN (R296). -/
def execPortRetrain (r : Retrain) (s : State) : Out := settled (doPortRetrain r.port r.lost s)

/-- RETRAIN_DONE (R296). -/
def execRetrainDone (port : Nat) (o : TrainOutcome) (s : State) : Out := settled (doRetrainDone port o s)

/-- PORT_RETRY (R296). -/
def execPortRetry (port : Nat) (s : State) : Out := settled (doPortRetry port s)

/-- PORT_DISABLE (R299). -/
def execPortDisable (h : Hdr) (port : Nat) (s : State) : Out :=
  settled (.next (s.writeCommand h (inRange port 16 (Obj.PORT_CTRL port)) 0))

/-- PORT_ENABLE (R296). -/
def execPortEnable (h : Hdr) (port : Nat) (s : State) : Out :=
  settled (.next (s.writeCommand h (inRange port 16 (Obj.PORT_CTRL port)) 1))

/-- PORT_RETRAIN_CMD (R296). -/
def execPortRetrainCmd (h : Hdr) (port : Nat) (s : State) : Out :=
  settled (.next (s.writeCommand h (inRange port 16 (Obj.PORT_CTRL port)) 2))

/-- LANE_SWAP (R300). -/
def execLaneSwap (h : Hdr) (port : Nat) (s : State) : Out :=
  settled (.next (s.writeCommand h (inRange port 16 (Obj.PORT_CTRL port)) 3))

/-- CHART_BEGIN (R286). -/
def execChartBegin (h : Hdr) (s : State) : Out := settled (.next (s.writeCommand h Obj.CHART_CTRL 1))

/-- CHART_LOAD (R302). -/
def execChartLoad (h : Hdr) (part : ChartPart) (s : State) : Out :=
  settled (.next (match part with
    | .entries first words => s.blobCommand h Obj.CHART_LOAD (leBytes 2 first ++ (words.map (leBytes 8)).flatten)
    | .self dev => s.writeCommand h Obj.CHART_SELF dev))

/-- CHART_SEAL (R286). -/
def execChartSeal (h : Hdr) (s : State) : Out := settled (.next (s.writeCommand h Obj.CHART_CTRL 2))

/-- SWITCH (R286). -/
def execSwitch (h : Hdr) (s : State) : Out := settled (.next (s.writeCommand h Obj.CHART_CTRL 3))

/-- SWITCH_CLOSE (R287). -/
def execSwitchClose (h : Hdr) (s : State) : Out := settled (.next (s.writeCommand h Obj.CHART_CTRL 4))

/-- CHART_ABORT (R286). -/
def execChartAbort (h : Hdr) (s : State) : Out := settled (.next (s.writeCommand h Obj.CHART_CTRL 5))

/-- CHART_SWITCH_TIME (R286). -/
def execChartSwitchTime (s : State) : Out := settled (doChartSwitchTime s)

/-- CHART_DRAIN_CLOSE (R287). -/
def execChartDrainClose (chart : Nat) (s : State) : Out := settled (doChartDrainClose chart s)

end Sys2Proof.Machine
end

