-- ==== Sys2Proof/Machine/HealthCommands.lean ====
section
/-! DEFINITION. The meanings of the commands of Reserves, Drift, power, clocks, temperature (15, 16): each runs its operation with
everything that follows within the command. -/

namespace Sys2Proof.Machine

/-- RSV_SWAP (R390). -/
def execRsvSwap (h : Hdr) (core : Nat) (reserve : Nat) (s : State) : Out :=
  settled (.next (s.writeCommand h Obj.RSV_SWAP (core % 128 + reserve % 128 * 2 ^ 8)))

/-- RSV_SWAP_CANCEL (R390). -/
def execRsvSwapCancel (h : Hdr) (core : Nat) (s : State) : Out :=
  settled (.next (s.writeCommand h Obj.RSV_SWAP (core % 128 + 2 ^ 15)))

/-- RESERVE_READY (R391). -/
def execReserveReady (core : Nat) (pass : Bool) (s : State) : Out := settled (doReserveReady core pass s)

/-- RESERVE_IDLE_TIMEOUT (R390). -/
def execReserveIdleTimeout (core : Nat) (s : State) : Out := settled (doReserveIdleTimeout core s)

/-- DRIFT_EVALUATION (R396). -/
def execDriftEvaluation (canaries : List (Nat × Int)) (xdLost : Nat) (s : State) : Out :=
  settled (doDriftEvaluation canaries xdLost s)

/-- DRIFT_PERSIST (R396). -/
def execDriftPersist (s : State) : Out := settled (doDriftPersist s)

/-- LANE_SWAP_REQUEST (R387). -/
def execLaneSwapRequest (port : Nat) (lane : Nat) (s : State) : Out := settled (doLaneSwapRequest port lane s)

/-- PHASE_SHED (R388). -/
def execPhaseShed (rail : Rail) (s : State) : Out := settled (doPhaseShed rail s)

/-- SENSOR_LOST (R389). -/
def execSensorLost (site : Nat) (sensor : Nat) (s : State) : Out := settled (doSensorLost site sensor s)

/-- SPARE_PRESSURE (R399). -/
def execSparePressure (h : Hdr) (value : Nat) (s : State) : Out :=
  settled (.next (s.writeCommand h Obj.SPARE_PRESSURE value))

/-- RETIRED_MAP (R395). -/
def execRetiredMap (h : Hdr) (value : Nat) (s : State) : Out :=
  settled (.next (s.blobCommand h Obj.RETIRED_MAP (leBytes 16 value)))

/-- INPUT_SAMPLE (R402). -/
def execInputSample (milliVolt : Nat) (milliAmp : Nat) (s : State) : Out := settled (doInputSample milliVolt milliAmp s)

/-- PD_ON (R405). -/
def execPdOn (h : Hdr) (domain : Nat) (s : State) : Out :=
  settled (.next (s.writeCommand h Obj.PD_CTRL (domain % 128 + 2 ^ 8)))

/-- PD_OFF (R405); a wake of the same cycle refuses it (R407). -/
def execPdOff (h : InCycle Hdr) (domain : Nat) (s : State) : Out :=
  settled (.next (s.writeCommandWith h.what Obj.PD_CTRL (domain % 128) h.coincides))

/-- PD_SELF_REFRESH (R405). -/
def execPdSelfRefresh (h : Hdr) (domain : Nat) (s : State) : Out :=
  settled (.next (s.writeCommand h Obj.PD_CTRL (domain % 128 + 2 * 2 ^ 8)))

/-- DOMAIN_POWER_GOOD (R406). -/
def execDomainPowerGood (g : PowerGood) (s : State) : Out := settled (doPowerGood g s)

/-- DOMAIN_WAKE_FAIL (R407). -/
def execDomainWakeFail (domain : Nat) (s : State) : Out := settled (doDomainWakeFail domain s)

/-- PLL_LOCK (R409). -/
def execPllLock (die : Nat) (s : State) : Out := settled (doPllLock die s)

/-- THROTTLE_STEP_UP (R410). -/
def execThrottleStepUp (die : Nat) (s : State) : Out := settled (doThrottleStepUp die s)

/-- SITE_TEMP_SAMPLE (R410). -/
def execSiteTempSample (readings : List (Option Int × Option Int)) (s : State) : Out := settled (doSiteTempSample readings s)

/-- CLK_CAP (R410). -/
def execClkCap (h : Hdr) (die : Nat) (value : Nat) (s : State) : Out :=
  settled (.next (s.writeCommand h (inRange die 2 (Obj.CLK_CAP die)) value))

/-- THROTTLE_N (R411). -/
def execThrottleN (s : State) : Out := settled (doThrottleN s)

/-- THROTTLE_N_RELEASE (R411). -/
def execThrottleNRelease (s : State) : Out := settled (doThrottleNRelease s)

/-- EPO_N (R412). -/
def execEpoN (s : State) : Out := settled (doEpoN s)

/-- EPO_N_RELEASE (R413). -/
def execEpoNRelease (s : State) : Out := settled (doEpoNRelease s)

/-- FENCE_N (R358). -/
def execFenceN (s : State) : Out := settled (doFenceN s)

/-- FENCE_N_RELEASE (R496). -/
def execFenceNRelease (s : State) : Out := settled (doFenceNRelease s)

/-- RESTART (R413). -/
def execRestart (h : Hdr) (s : State) : Out := settled (.next (s.writeCommand h Obj.POWER_CTRL 1))

end Sys2Proof.Machine
end

