-- ==== Sys2Proof/Machine/JobCommands.lean ====
section
/-! DEFINITION. The meanings of the commands of collectives, stages, step, Consort, fences, Fixes (11–14): each runs its operation with
everything that follows within the command. -/

namespace Sys2Proof.Machine

/-- CTX_ARM (R306). -/
def execCtxArm (h : Hdr) (ctx : Nat) (addr : Nat) (s : State) : Out :=
  settled (.next (s.writeCommand h (inRange ctx 128 (Obj.CTX_ARM ctx)) addr))

/-- DISARM (R307). -/
def execDisarm (h : Hdr) (ctx : Nat) (s : State) : Out :=
  settled (.next (s.writeCommand h (inRange ctx 128 (Obj.CTX_CTRL ctx)) 1))

/-- CONTRIB (R316). -/
def execContrib (f : Frame) (s : State) : Out := settled (doContrib f s)

/-- DEADLINE (R320). -/
def execDeadline (ctx : Nat) (s : State) : Out := settled (doDeadline ctx s)

/-- LATE (R321). -/
def execLate (f : Frame) (s : State) : Out := settled (doLate f s)

/-- RESULT (R310). -/
def execResult (f : Frame) (s : State) : Out := settled (doResult f s)

/-- STAGE_ENABLE (R329). -/
def execStageEnable (h : Hdr) (slot : Nat) (s : State) : Out :=
  settled (.next (s.writeCommand h (inRange slot 8 (Obj.STG_CTRL slot)) 1))

/-- STAGE_DISABLE (R330). -/
def execStageDisable (h : Hdr) (slot : Nat) (s : State) : Out :=
  settled (.next (s.writeCommand h (inRange slot 8 (Obj.STG_CTRL slot)) 2))

/-- STEP_BEGIN (R338). -/
def execStepBegin (h : Hdr) (s : State) : Out := settled (.next (s.writeCommand h Obj.STEP_CTRL 1))

/-- END_JOB (R338). -/
def execEndJob (h : Hdr) (s : State) : Out := settled (.next (s.writeCommand h Obj.STEP_CTRL 2))

/-- RESTORE (R356). -/
def execRestore (h : Hdr) (s : State) : Out := settled (.next (s.writeCommand h Obj.STEP_CTRL 3))

/-- STANDBY (R338). -/
def execStandby (h : Hdr) (s : State) : Out := settled (.next (s.writeCommand h Obj.STEP_CTRL 4))

/-- CONSORT_STREAM (R353). -/
def execConsortStream (s : State) : Out := settled (doConsortStream s)

/-- CHECK_TIMEOUT (R341). -/
def execCheckTimeout (s : State) : Out := settled (doCheckTimeout s)

/-- CONSORT_TIMEOUT (R340). -/
def execConsortTimeout (s : State) : Out := settled (doConsortTimeout s)

/-- STEP_VOTE (R345). -/
def execStepVote (f : Frame) (s : State) : Out := settled (doStepVote f s)

/-- STEP_COMMIT (R339). -/
def execStepCommit (f : Frame) (s : State) : Out := settled (doStepCommit f s)

/-- STEP_ABORT (R343). -/
def execStepAbort (f : Frame) (s : State) : Out := settled (doStepAbort f s)

/-- STEP_RESUME (R339). -/
def execStepResume (f : Frame) (s : State) : Out := settled (doStepResume f s)

/-- VOTE_RESEND (R347). -/
def execVoteResend (s : State) : Out := settled (doVoteResend s)

/-- CONSORT_DATA (R354). -/
def execConsortData (f : Frame) (s : State) : Out := settled (doConsortData f s)

/-- CONSORT_DONE (R354). -/
def execConsortDone (f : Frame) (s : State) : Out := settled (doConsortDone f s)

/-- CONSORT_ACK (R340). -/
def execConsortAck (f : Frame) (s : State) : Out := settled (doConsortAck f s)

/-- CONSORT_PULL (R355). -/
def execConsortPull (f : Frame) (s : State) : Out := settled (doConsortPull f s)

/-- CONSORT_LOAD (R355). -/
def execConsortLoad (f : Frame) (s : State) : Out := settled (doConsortLoad f s)

/-- MODULE_FENCE (R358). -/
def execModuleFence (h : Hdr) (s : State) : Out := settled (.next (s.writeCommand h Obj.FENCE_CTRL 1))

/-- RELEASE (R359). -/
def execRelease (h : Hdr) (s : State) : Out := settled (.next (s.writeCommand h Obj.FENCE_CTRL 2))

/-- FENCE_REQ_DEV (R361). -/
def execFenceReqDev (h : Hdr) (dev : Nat) (s : State) : Out := settled (.next (s.writeCommand h Obj.FENCE_REQ_DEV dev))

/-- FIX_ARM (R383). -/
def execFixArm (h : Hdr) (s : State) : Out := settled (.next (s.writeCommand h Obj.FIX_CTRL 1))

/-- ABANDON (R377). -/
def execAbandon (h : Hdr) (s : State) : Out := settled (.next (s.writeCommand h Obj.FIX_CTRL 2))

/-- FIX_ENCODE (R368). -/
def execFixEncode (die : Nat) (s : State) : Out := settled (doFixEncode die s)

/-- FIX_STRIPE (R371). -/
def execFixStripe (f : Frame) (s : State) : Out := settled (doFixStripe f s)

/-- FIX_STRIPE_RETRY (R372). -/
def execFixStripeRetry (s : State) : Out := settled (doFixStripeRetry s)

/-- FIX_COUNT (R371). -/
def execFixCount (f : Frame) (s : State) : Out := settled (doFixCount f s)

/-- FIX_PREPARED (R374). -/
def execFixPrepared (f : Frame) (s : State) : Out := settled (doFixPrepared f s)

/-- FIX_COMMIT (R375). -/
def execFixCommit (f : Frame) (s : State) : Out := settled (doFixCommit f s)

/-- FIX_DISCARD (R377). -/
def execFixDiscard (f : Frame) (s : State) : Out := settled (doFixDiscard f s)

/-- FIX_TIMEOUT (R377). -/
def execFixTimeout (s : State) : Out := settled (doFixTimeout s)

/-- FIX_PREPARED_RESEND (R376). -/
def execFixPreparedResend (s : State) : Out := settled (doFixPreparedResend s)

/-- FIX_DRAINED_SLOTS (R372). -/
def execFixDrainedSlots (h : Hdr) (value : Nat) (s : State) : Out :=
  settled (.next (s.writeCommand h Obj.FIX_DRAINED_SLOTS value))

/-- APPLY (R380). -/
def execFixApply (h : Hdr) (s : State) : Out := settled (.next (s.writeCommand h Obj.FIX_SVC 1))

/-- REBUILD (R381). -/
def execRebuild (h : Hdr) (s : State) : Out := settled (.next (s.writeCommand h Obj.FIX_SVC 2))

/-- RESOLVE_COMMIT (R376). -/
def execResolveCommit (h : Hdr) (s : State) : Out := settled (.next (s.writeCommand h Obj.FIX_SVC 3))

/-- RESOLVE_DISCARD (R376). -/
def execResolveDiscard (h : Hdr) (s : State) : Out := settled (.next (s.writeCommand h Obj.FIX_SVC 4))

/-- FIX_PULL (R381). -/
def execFixPull (f : Frame) (s : State) : Out := settled (doFixPull f s)

/-- FIX_CHUNK (R381). -/
def execFixChunk (f : Frame) (s : State) : Out := settled (doFixChunk f s)

end Sys2Proof.Machine
end

