-- ==== Sys2Proof/Machine/MemoryCommands.lean ====
section
/-! DEFINITION. The meanings of the commands of layer records, DMA engines, HBM and the Sextant (06–08): each runs its operation with
everything that follows within the command. -/

namespace Sys2Proof.Machine

/-- RECORD_LOAD (R166). -/
def execRecordLoad (core : Nat) (s : State) : Out := settled (doRecordLoad core s)

/-- LAYER_COMPLETE (R170). -/
def execLayerComplete (core : Nat) (s : State) : Out := settled (doLayerComplete core s)

/-- DMA_DESCRIPTOR_START (R195). -/
def execDmaDescriptorStart (core : Nat) (engine : Nat) (errors : List StoredError) (s : State) : Out :=
  settled (doDmaDescriptorStart core engine errors s)

/-- DMA_COMPLETE (R203). -/
def execDmaComplete (core : Nat) (engine : Nat) (s : State) : Out := settled (doDmaComplete core engine s)

/-- SCRUB_READ (R214). -/
def execScrubRead (burst : Nat) (errors : List StoredError) (s : State) : Out := settled (doScrubRead burst errors s)

/-- REFRESH (R220). -/
def execRefresh (u : Upkeep) (busy : Bool) (s : State) : Out := settled (doRefresh u busy s)

/-- REFRESH_MANAGEMENT (R222). -/
def execRefreshManagement (u : Upkeep) (s : State) : Out := settled (doRefreshManagement u s)

/-- ROW_REMAP (R218). -/
def execRowRemap (group : Nat) (s : State) : Out := settled (doRowRemap group s)

/-- STACK_TEMP_READ (R225). -/
def execStackTempRead (readings : List (Option Int × Option Int)) (s : State) : Out := settled (doStackTempRead readings s)

/-- CBW_COPY (R228). -/
def execCbwCopy (page : Nat) (s : State) : Out := settled (doCbwCopy page s)

/-- BACKGROUND_COPY (R229). -/
def execBackgroundCopy (die : Nat) (s : State) : Out := settled (doBackgroundCopy die s)

/-- SXT_RUN (R231). -/
def execSxtRun (h : Hdr) (s : State) : Out := settled (.next (s.writeCommand h Obj.SXT_CTRL 1))

/-- SXT_ABORT (R233). -/
def execSxtAbort (h : Hdr) (s : State) : Out := settled (.next (s.writeCommand h Obj.SXT_CTRL 2))

/-- SXT_DONE (R233). -/
def execSxtDone (margins : List LaneMargin) (s : State) : Out := settled (doSxtDone margins s)

end Sys2Proof.Machine
end

