-- ==== Sys2Proof/Machine/ObjectCommands.lean ====
section
/-! DEFINITION. The meanings of the commands of W1C clears, slices, the host link, firmware and the service of the module (17–20): each runs its operation with
everything that follows within the command. -/

namespace Sys2Proof.Machine

/-- Bits of a sticky word that hardware sets, each with its event counter where it has one (R55). -/
def State.raiseEach (s : State) (key bits : Nat) (counters : List (Nat × Nat)) : State :=
  counters.foldl (fun t c => if bit bits c.1 then t.count 32 c.2 1 else t) (s.raise key bits)

/-- Bits of a core's ARITH_FLAGS set by hardware, with INV_EVENTS, OVF_EVENTS and UFL_EVENTS (R55, Table 2-11). -/
def State.arithSets (s : State) (core bits : Nat) : State :=
  if 104 ≤ core then s
  else s.raiseEach (Obj.ARITH_FLAGS core) (bits % 8) [(0, Obj.INV_EVENTS core), (1, Obj.OVF_EVENTS core), (2, Obj.UFL_EVENTS core)]

/-- Bits of a core's CHK_STATUS set by hardware, each with its counter (R90, Table 3-9). -/
def State.chkSets (s : State) (core bits : Nat) : State :=
  if 104 ≤ core then s
  else s.raiseEach (Obj.CHK_STATUS core) (bits % 16) [(0, Obj.CHK_MISMATCH_EVENTS core), (1, Obj.CHK_NONFINITE_EVENTS core),
    (2, Obj.CHK_CLIPPED_EVENTS core), (3, Obj.CHK_OFF_EVENTS core)]

/-- Bits of a stack's HEALTH set by hardware; CE, UE and REMAP_EXHAUSTED have a counter (R234, Table 8-6). -/
def State.stackSets (s : State) (stack bits : Nat) : State :=
  if 12 ≤ stack then s
  else s.raiseEach (Obj.STACK_HEALTH stack) (bits % 128) [(0, Obj.CE_COUNT stack), (1, Obj.UE_COUNT stack), (5, Obj.REMAP_EXHAUSTED stack)]

/-- OVER and UNDER of a stage set by hardware; ACT_OVER_EVENTS counts OVER (R332, Table 12-1). -/
def State.actSets (s : State) (slot bits : Nat) : State :=
  if 8 ≤ slot then s else s.raiseEach (Obj.ACT_STATUS slot) (bits % 4) [(0, Obj.ACT_OVER_EVENTS slot)]

/-- Bits of a fabric port's PORT_HEALTH set by hardware; LINK_DOWN has a counter (R302, Table 10-10). -/
def State.portSets (s : State) (port bits : Nat) : State :=
  if 16 ≤ port then s else s.raiseEach (Obj.PORT_HEALTH port) (bits % 8) [(0, Obj.LINK_DOWN_EVENTS port)]

/-- Of the bits that a write clears, those that hardware sets in the same cycle: set wins (R55). -/
def clearedAgain (m : ClearMask) : Nat := m.mask &&& m.sets

/-- A clearing write of a sticky word and the sets of its cycle: the write, over the mask that it carries, then the bits set again, whose
counters rise (R55). -/
def clearCommand (h : Hdr) (key : Nat) (m : ClearMask) (sets : State → Nat → State) (s : State) : Out :=
  settled (.next (sets (s.writeCommand h key m.mask) (clearedAgain m)))

/-- ARITH_FLAGS_CLEAR (R55). -/
def execArithFlagsClear (h : Hdr) (core : Nat) (m : ClearMask) (s : State) : Out :=
  clearCommand h (inRange core 104 (Obj.ARITH_FLAGS core)) m (·.arithSets core ·) s

/-- CHK_STATUS_CLEAR (R90). -/
def execChkStatusClear (h : Hdr) (core : Nat) (m : ClearMask) (s : State) : Out :=
  clearCommand h (inRange core 104 (Obj.CHK_STATUS core)) m (·.chkSets core ·) s

/-- STACK_HEALTH_CLEAR (R234). -/
def execStackHealthClear (h : Hdr) (stack : Nat) (m : ClearMask) (s : State) : Out :=
  clearCommand h (inRange stack 12 (Obj.STACK_HEALTH stack)) m (·.stackSets stack ·) s

/-- ACT_STATUS_CLEAR (R332). -/
def execActStatusClear (h : Hdr) (slot : Nat) (m : ClearMask) (s : State) : Out :=
  clearCommand h (inRange slot 8 (Obj.ACT_STATUS slot)) m (·.actSets slot ·) s

/-- STEP_STATUS_CLEAR (R362). -/
def execStepStatusClear (h : Hdr) (m : ClearMask) (s : State) : Out :=
  clearCommand h Obj.STEP_STATUS m (fun t b => t.stepStatus (b % 1024)) s

/-- HEALTH_CLEAR (R400). -/
def execHealthClear (h : Hdr) (m : ClearMask) (s : State) : Out :=
  clearCommand h Obj.MODULE_HEALTH m (fun t b => t.moduleHealth (b % 4096)) s

/-- PWR_STATUS_CLEAR (R414). -/
def execPwrStatusClear (h : Hdr) (m : ClearMask) (s : State) : Out :=
  clearCommand h Obj.PWR_STATUS m (fun t b => t.pwrStatus (b % 256)) s

/-- MGMT_STATUS_CLEAR (R436). -/
def execMgmtStatusClear (h : Hdr) (m : ClearMask) (s : State) : Out :=
  clearCommand h Obj.MGMT_STATUS m (fun t b => t.mgmtStatus (b % 64)) s

/-- ALERT_SUMMARY_CLEAR (R436). -/
def execAlertSummaryClear (h : Hdr) (m : ClearMask) (s : State) : Out :=
  clearCommand h Obj.ALERT_SUMMARY m (fun t b => t.alert (b % 64)) s

/-- PORT_HEALTH_CLEAR (R302). -/
def execPortHealthClear (h : Hdr) (port : Nat) (m : ClearMask) (s : State) : Out :=
  clearCommand h (inRange port 16 (Obj.PORT_HEALTH port)) m (·.portSets port ·) s

/-- ASSIGN (R450). -/
def execAssign (h : Hdr) (slot : Nat) (s : State) : Out :=
  settled (.next (s.writeCommand h (inRange slot 8 (Obj.SLICE_CTRL slot)) 1))

/-- SLICE_RELEASE (R451). -/
def execSliceRelease (h : Hdr) (slot : Nat) (s : State) : Out :=
  settled (.next (s.writeCommand h (inRange slot 8 (Obj.SLICE_CTRL slot)) 2))

/-- DICT_DEFAULTS (R454). -/
def execDictDefaults (h : Hdr) (s : State) : Out := settled (.next (s.writeCommand h Obj.DICT_DEFAULTS 1))

/-- DICT_DEFAULTS_CANCEL (R454). -/
def execDictDefaultsCancel (h : Hdr) (s : State) : Out := settled (.next (s.writeCommand h Obj.DICT_DEFAULTS 2))

/-- RDMA_WRITE (R466). -/
def execRdmaWrite (m : HostMsg) (s : State) : Out := settled (doRdmaWrite m s)

/-- RDMA_READ (R466). -/
def execRdmaRead (m : HostMsg) (errors : List StoredError) (s : State) : Out := settled (doRdmaRead m errors s)

/-- ATOMIC_FETCH_ADD (R468). -/
def execAtomicFetchAdd (m : HostMsg) (s : State) : Out := settled (doAtomicFetchAdd m s)

/-- CNP (R465). -/
def execCnp (conn : Nat) (s : State) : Out := settled (doCnp conn s)

/-- CNP_RATE_RESTORE (R465). -/
def execCnpRateRestore (conn : Nat) (s : State) : Out := settled (doCnpRateRestore conn s)

/-- QP_OPEN (R472). -/
def execQpOpen (h : Hdr) (conn : Nat) (s : State) : Out :=
  settled (.next (s.writeCommand h (inRange conn 240 (Obj.QP_CTRL conn)) 1))

/-- QP_CLOSE (R472). -/
def execQpClose (h : Hdr) (conn : Nat) (s : State) : Out :=
  settled (.next (s.writeCommand h (inRange conn 240 (Obj.QP_CTRL conn)) 2))

/-- FW_BEGIN (R482). -/
def execFwBegin (h : Hdr) (s : State) : Out := settled (.next (s.writeCommand h Obj.FW_CTRL 1))

/-- FW_CHUNK (R482). -/
def execFwChunk (h : Hdr) (data : List Byte) (s : State) : Out := settled (.next (s.blobCommand h Obj.FW_CHUNK data))

/-- VERIFY (R482). -/
def execVerify (h : Hdr) (s : State) : Out := settled (.next (s.writeCommand h Obj.FW_CTRL 2))

/-- FW_COMMIT (R482). -/
def execFwCommit (h : Hdr) (s : State) : Out := settled (.next (s.writeCommand h Obj.FW_CTRL 3))

/-- FW_COMMIT_DONE (R482). -/
def execFwCommitDone (s : State) : Out := settled (doFwCommitDone s)

/-- ACTIVATE (R482). -/
def execActivate (h : Hdr) (s : State) : Out := settled (.next (s.writeCommand h Obj.FW_CTRL 4))

/-- CANCEL (R482). -/
def execCancel (h : Hdr) (s : State) : Out := settled (.next (s.writeCommand h Obj.FW_CTRL 5))

/-- CFG_BEGIN (R483). -/
def execCfgBegin (h : Hdr) (s : State) : Out := settled (.next (s.writeCommand h Obj.CFG_CTRL 1))

/-- CFG_CHUNK (R483). -/
def execCfgChunk (h : Hdr) (data : List Byte) (s : State) : Out := settled (.next (s.blobCommand h Obj.CFG_CHUNK data))

/-- CFG_APPLY (R483). -/
def execCfgApply (h : Hdr) (s : State) : Out := settled (.next (s.writeCommand h Obj.CFG_CTRL 2))

/-- ATT_GENERATE (R481). -/
def execAttGenerate (h : Hdr) (s : State) : Out := settled (.next (s.writeCommand h Obj.ATT_CTRL 1))

/-- ATT_DONE (R481). -/
def execAttDone (s : State) : Out := settled (doAttDone s)

/-- BIST_RUN (R485). -/
def execBistRun (h : Hdr) (s : State) : Out := settled (.next (s.writeCommand h Obj.BIST_CTRL 1))

/-- BIST_DONE (R485). -/
def execBistDone (failed : List Nat) (s : State) : Out := settled (doBistDone failed s)

/-- SEGMENT_UP (R422). -/
def execSegmentUp (seg : SegReturn) (s : State) : Out := settled (doSegmentUp seg s)

/-- LINK_CONTROL_BLOCK_RECEIVED (R274). -/
def execLinkControlBlockReceived (port : Nat) (acked : Nat) (credits : List (Nat × Nat)) (s : State) : Out :=
  settled (doLinkControlBlockReceived port acked credits s)

/-- HOST_PORT_CTRL (R472). -/
def execHostPortCtrl (h : Hdr) (port : Nat) (value : Nat) (s : State) : Out :=
  settled (.next (s.writeCommand h (inRange port 4 (Obj.HOST_PORT_CTRL port)) value))

/-- HOST_LINK_UP (R461). -/
def execHostLinkUp (port : Nat) (s : State) : Out := settled (doHostLinkUp port s)

/-- HOST_LINK_DOWN (R461). -/
def execHostLinkDown (port : Nat) (s : State) : Out := settled (doHostLinkDown port s)

/-- FIX_APPLY_DONE (R380). -/
def execFixApplyDone (s : State) : Out := settled (doFixApplyDone s)

/-- TRANSMIT_OPPORTUNITY (R432). -/
def execTransmitOpportunity (seg : Seg) (s : State) : Out := settled (doTransmitOpportunity seg s)

end Sys2Proof.Machine
end

