-- ==== Sys2Proof/Machine/UnitCommands.lean ====
section
/-! DEFINITION. The meanings of the commands of the management unit (17): each runs its operation with
everything that follows within the command. -/

namespace Sys2Proof.Machine

/-- HMU_SLEEP (R416). -/
def execHmuSleep (s : State) : Out := settled (doHmuSleep s)

/-- HC_WATCHDOG (R418). -/
def execHcWatchdog (core : Nat) (s : State) : Out := settled (doHcWatchdog core s)

/-- HMU_RESET (R418). -/
def execHmuReset (s : State) : Out := settled (doHmuReset s)

/-- SEGMENT_DOWN (R422). -/
def execSegmentDown (seg : Seg) (s : State) : Out := settled (doSegmentDown seg s)

/-- NEIGHBOR_SOLICITATION (R420). -/
def execNeighborSolicitation (link : NdLink) (target : Nat) (s : State) : Out :=
  settled (doNeighborSolicitation link target s)

/-- READ_EXP (R424). -/
def execReadExp (q : HdpReq) (s : State) : Out := settled (doReadExp q s)

/-- OBJECT_WRITE (R424). -/
def execObjectWrite (q : WriteCycle) (s : State) : Out := settled (doObjectWrite q s)

/-- READ_SEG (R425). -/
def execReadSeg (q : HdpReq) (s : State) : Out := settled (doReadSeg q s)

/-- WRITE_SEG (R425). -/
def execWriteSeg (q : HdpReq) (s : State) : Out := settled (doWriteSeg q s)

/-- SEGMENT (R426). -/
def execSegment (q : HdpReq) (s : State) : Out := settled (doSegment q s)

/-- RESPONSE (R425). -/
def execResponse (q : HdpReq) (s : State) : Out := settled (doResponse q s)

/-- SEGMENT_RESEND (R425). -/
def execSegmentResend (transfer : Nat) (s : State) : Out := settled (doSegmentResend transfer s)

/-- TRANSFER_TIMEOUT (R426). -/
def execTransferTimeout (transfer : Nat) (s : State) : Out := settled (doTransferTimeout transfer s)

/-- HDP_ABORT (R426). -/
def execHdpAbort (q : HdpReq) (s : State) : Out := settled (doHdpAbort q s)

/-- SUBSCRIBE (R427). -/
def execSubscribe (q : HdpReq) (s : State) : Out := settled (doSubscribe q s)

/-- UNSUBSCRIBE (R427). -/
def execUnsubscribe (q : HdpReq) (s : State) : Out := settled (doUnsubscribe q s)

/-- NOTIFY (R427). -/
def execNotify (slot : Nat) (s : State) : Out := settled (doNotify slot s)

/-- LEASE_EXPIRY (R427). -/
def execLeaseExpiry (slot : Nat) (s : State) : Out := settled (doLeaseExpiry slot s)

/-- KEY_WRITE (R430). -/
def execKeyWrite (h : Hdr) (key : Nat) (value : List Byte) (s : State) : Out :=
  settled (.next (s.blobCommand h (inRange key 4 (Obj.KEY_OBSERVER + key)) value))

/-- BEACON (R441). -/
def execBeacon (s : State) : Out := settled (doBeacon s)

/-- IMMEDIATE_BEACON (R442). -/
def execImmediateBeacon (s : State) : Out := settled (doImmediateBeacon s)

/-- LOG_FLUSH (R439). -/
def execLogFlush (programFails : Bool) (s : State) : Out := settled (doLogFlush programFails s)

end Sys2Proof.Machine
end

