-- ==== Sys2Proof/Machine/WaypointCommands.lean ====
section
/-! DEFINITION. The meanings of the commands of Waypoints and the Chronometer (09): each runs its operation with
everything that follows within the command. -/

namespace Sys2Proof.Machine

/-- WAYPOINT_ADD (R240). -/
def execWaypointAdd (slice : Nat) (wp : Nat) (value : Nat) (s : State) : Out := settled (doWaypointAdd slice wp value s)

/-- WAYPOINT_SET (R239). -/
def execWaypointSet (slice : Nat) (wp : Nat) (value : Nat) (s : State) : Out := settled (doWaypointSet slice wp value s)

/-- WAYPOINT_WAIT (R245). -/
def execWaypointWait (core : Nat) (wp : Nat) (threshold : Nat) (s : State) : Out :=
  settled (doWaypointWait core wp threshold s)

/-- TIMED_ADD (R247). -/
def execTimedAdd (slice : Nat) (wp : Nat) (value : Nat) (time : Nat) (s : State) : Out :=
  settled (doTimedAdd slice wp value time s)

/-- TIMED_ADD_DUE (R247). -/
def execTimedAddDue (s : State) : Out := settled (doTimedAddDue s)

/-- ERROR_COMPLETION (R241). -/
def execErrorCompletion (slice : Nat) (wp : Nat) (code : Nat) (s : State) : Out :=
  settled (doErrorCompletion slice wp code s)

/-- WAYPOINT_MARK (R239). -/
def execWaypointMark (m : HostMsg) (s : State) : Out := settled (doWaypointMark m s)

/-- WAYPOINT_CLEAR (R243). -/
def execWaypointClear (m : HostMsg) (together : Bool) (s : State) : Out := settled (doWaypointClear m together s)

/-- GROUP_SLICE (R237). -/
def execGroupSlice (h : Hdr) (group : Nat) (slice : Nat) (s : State) : Out :=
  settled (.next (s.writeCommand h (inRange group 256 (Obj.GROUP_SLICE group)) slice))

/-- CHRONOMETER_EXCHANGE (R254). -/
def execChronometerExchange (s : State) : Out := settled (doChronometerExchange s)

/-- TIME_REQ (R254). -/
def execTimeReq (a : Arrival) (f : Frame) (s : State) : Out := settled (doTimeReq a f s)

/-- TIME_RSP (R254). -/
def execTimeRsp (a : Arrival) (f : Frame) (t4 : Nat) (s : State) : Out := settled (doTimeRsp a f t4 s)

/-- CHR_SET (R256). -/
def execChrSet (h : Hdr) (value : Nat) (s : State) : Out := settled (.next (s.writeCommand h Obj.CHR_SET value))

/-- CHR_PARENT_PORT (R254). -/
def execChrParentPort (h : Hdr) (value : Nat) (s : State) : Out :=
  settled (.next (s.writeCommand h Obj.CHR_PARENT_PORT value))

end Sys2Proof.Machine
end

