-- ==== Sys2Proof/Machine/Dispatch.lean ====
section
/-! DEFINITION. The dispatch: one arm for each constructor of `Instr`. -/

namespace Sys2Proof.Machine

def exec (i : Instr) (s : State) : Host.Outcome State Fault Refusal :=
  match i with
  | .powerOn r => Sys2Proof.Machine.execPowerOn r s
  | .bundleIssue core => Sys2Proof.Machine.execBundleIssue core s
  | .ldaWriteback core => Sys2Proof.Machine.execLdaWriteback core s
  | .lineFill core => Sys2Proof.Machine.execLineFill core s
  | .releaseBufferPerform core => Sys2Proof.Machine.execReleaseBufferPerform core s
  | .mcfg core => Sys2Proof.Machine.execMcfg core s
  | .mwld core => Sys2Proof.Machine.execMwld core s
  | .checksumWeightsReady core => Sys2Proof.Machine.execChecksumWeightsReady core s
  | .mstr core => Sys2Proof.Machine.execMstr core s
  | .mcls core => Sys2Proof.Machine.execMcls core s
  | .drain core errors => Sys2Proof.Machine.execDrain core errors s
  | .portStarvationOverride core requester => Sys2Proof.Machine.execPortStarvationOverride core requester s
  | .chainStart core => Sys2Proof.Machine.execChainStart core s
  | .gatedUpdate core => Sys2Proof.Machine.execGatedUpdate core s
  | .chainComplete core => Sys2Proof.Machine.execChainComplete core s
  | .sealThresh h value => Sys2Proof.Machine.execSealThresh h value s
  | .arm h core => Sys2Proof.Machine.execArm h core s
  | .reset h core => Sys2Proof.Machine.execReset h core s
  | .progGen h core gen => Sys2Proof.Machine.execProgGen h core gen s
  | .progressWatchdog core => Sys2Proof.Machine.execProgressWatchdog core s
  | .runWatchdog core => Sys2Proof.Machine.execRunWatchdog core s
  | .lyrWrite h core reg value => Sys2Proof.Machine.execLyrWrite h core reg value s
  | .lyrStart h core => Sys2Proof.Machine.execLyrStart h core s
  | .recordLoad core => Sys2Proof.Machine.execRecordLoad core s
  | .layerComplete core => Sys2Proof.Machine.execLayerComplete core s
  | .dmaDescriptorStart core engine errors => Sys2Proof.Machine.execDmaDescriptorStart core engine errors s
  | .dmaComplete core engine => Sys2Proof.Machine.execDmaComplete core engine s
  | .scrubRead burst errors => Sys2Proof.Machine.execScrubRead burst errors s
  | .refresh u busy => Sys2Proof.Machine.execRefresh u busy s
  | .refreshManagement u => Sys2Proof.Machine.execRefreshManagement u s
  | .rowRemap group => Sys2Proof.Machine.execRowRemap group s
  | .stackTempRead readings => Sys2Proof.Machine.execStackTempRead readings s
  | .cbwCopy page => Sys2Proof.Machine.execCbwCopy page s
  | .backgroundCopy die => Sys2Proof.Machine.execBackgroundCopy die s
  | .sxtRun h => Sys2Proof.Machine.execSxtRun h s
  | .sxtAbort h => Sys2Proof.Machine.execSxtAbort h s
  | .sxtDone margins => Sys2Proof.Machine.execSxtDone margins s
  | .waypointAdd slice wp value => Sys2Proof.Machine.execWaypointAdd slice wp value s
  | .waypointSet slice wp value => Sys2Proof.Machine.execWaypointSet slice wp value s
  | .waypointWait core wp threshold => Sys2Proof.Machine.execWaypointWait core wp threshold s
  | .timedAdd slice wp value time => Sys2Proof.Machine.execTimedAdd slice wp value time s
  | .timedAddDue => Sys2Proof.Machine.execTimedAddDue s
  | .errorCompletion slice wp code => Sys2Proof.Machine.execErrorCompletion slice wp code s
  | .waypointMark m => Sys2Proof.Machine.execWaypointMark m s
  | .waypointClear m together => Sys2Proof.Machine.execWaypointClear m together s
  | .groupSlice h group slice => Sys2Proof.Machine.execGroupSlice h group slice s
  | .chronometerExchange => Sys2Proof.Machine.execChronometerExchange s
  | .timeReq a f => Sys2Proof.Machine.execTimeReq a f s
  | .timeRsp a f t4 => Sys2Proof.Machine.execTimeRsp a f t4 s
  | .chrSet h value => Sys2Proof.Machine.execChrSet h value s
  | .chrParentPort h value => Sys2Proof.Machine.execChrParentPort h value s
  | .frameRoute arrival f => Sys2Proof.Machine.execFrameRoute arrival f s
  | .write f => Sys2Proof.Machine.execWrite f s
  | .read f => Sys2Proof.Machine.execRead f s
  | .readData f => Sys2Proof.Machine.execReadData f s
  | .wpAdd f => Sys2Proof.Machine.execWpAdd f s
  | .ack f => Sys2Proof.Machine.execAck f s
  | .errResp f => Sys2Proof.Machine.execErrResp f s
  | .partialNotice f => Sys2Proof.Machine.execPartialNotice f s
  | .ackTimer k => Sys2Proof.Machine.execAckTimer k s
  | .e2eResend k => Sys2Proof.Machine.execE2eResend k s
  | .pathLost k => Sys2Proof.Machine.execPathLost k s
  | .linkControlBlock port => Sys2Proof.Machine.execLinkControlBlock port s
  | .nak port seqNo => Sys2Proof.Machine.execNak port seqNo s
  | .linkReplayTimeout port => Sys2Proof.Machine.execLinkReplayTimeout port s
  | .frameAgeDrop => Sys2Proof.Machine.execFrameAgeDrop s
  | .portRetrain r => Sys2Proof.Machine.execPortRetrain r s
  | .retrainDone port o => Sys2Proof.Machine.execRetrainDone port o s
  | .portRetry port => Sys2Proof.Machine.execPortRetry port s
  | .portDisable h port => Sys2Proof.Machine.execPortDisable h port s
  | .portEnable h port => Sys2Proof.Machine.execPortEnable h port s
  | .portRetrainCmd h port => Sys2Proof.Machine.execPortRetrainCmd h port s
  | .laneSwap h port => Sys2Proof.Machine.execLaneSwap h port s
  | .chartBegin h => Sys2Proof.Machine.execChartBegin h s
  | .chartLoad h part => Sys2Proof.Machine.execChartLoad h part s
  | .chartSeal h => Sys2Proof.Machine.execChartSeal h s
  | .switch h => Sys2Proof.Machine.execSwitch h s
  | .switchClose h => Sys2Proof.Machine.execSwitchClose h s
  | .chartAbort h => Sys2Proof.Machine.execChartAbort h s
  | .chartSwitchTime => Sys2Proof.Machine.execChartSwitchTime s
  | .chartDrainClose chart => Sys2Proof.Machine.execChartDrainClose chart s
  | .ctxArm h ctx addr => Sys2Proof.Machine.execCtxArm h ctx addr s
  | .disarm h ctx => Sys2Proof.Machine.execDisarm h ctx s
  | .contrib f => Sys2Proof.Machine.execContrib f s
  | .deadline ctx => Sys2Proof.Machine.execDeadline ctx s
  | .late f => Sys2Proof.Machine.execLate f s
  | .result f => Sys2Proof.Machine.execResult f s
  | .stageEnable h slot => Sys2Proof.Machine.execStageEnable h slot s
  | .stageDisable h slot => Sys2Proof.Machine.execStageDisable h slot s
  | .stepBegin h => Sys2Proof.Machine.execStepBegin h s
  | .endJob h => Sys2Proof.Machine.execEndJob h s
  | .restore h => Sys2Proof.Machine.execRestore h s
  | .standby h => Sys2Proof.Machine.execStandby h s
  | .consortStream => Sys2Proof.Machine.execConsortStream s
  | .checkTimeout => Sys2Proof.Machine.execCheckTimeout s
  | .consortTimeout => Sys2Proof.Machine.execConsortTimeout s
  | .stepVote f => Sys2Proof.Machine.execStepVote f s
  | .stepCommit f => Sys2Proof.Machine.execStepCommit f s
  | .stepAbort f => Sys2Proof.Machine.execStepAbort f s
  | .stepResume f => Sys2Proof.Machine.execStepResume f s
  | .voteResend => Sys2Proof.Machine.execVoteResend s
  | .consortData f => Sys2Proof.Machine.execConsortData f s
  | .consortDone f => Sys2Proof.Machine.execConsortDone f s
  | .consortAck f => Sys2Proof.Machine.execConsortAck f s
  | .consortPull f => Sys2Proof.Machine.execConsortPull f s
  | .consortLoad f => Sys2Proof.Machine.execConsortLoad f s
  | .moduleFence h => Sys2Proof.Machine.execModuleFence h s
  | .release h => Sys2Proof.Machine.execRelease h s
  | .fenceReqDev h dev => Sys2Proof.Machine.execFenceReqDev h dev s
  | .fixArm h => Sys2Proof.Machine.execFixArm h s
  | .abandon h => Sys2Proof.Machine.execAbandon h s
  | .fixEncode die => Sys2Proof.Machine.execFixEncode die s
  | .fixStripe f => Sys2Proof.Machine.execFixStripe f s
  | .fixStripeRetry => Sys2Proof.Machine.execFixStripeRetry s
  | .fixCount f => Sys2Proof.Machine.execFixCount f s
  | .fixPrepared f => Sys2Proof.Machine.execFixPrepared f s
  | .fixCommit f => Sys2Proof.Machine.execFixCommit f s
  | .fixDiscard f => Sys2Proof.Machine.execFixDiscard f s
  | .fixTimeout => Sys2Proof.Machine.execFixTimeout s
  | .fixPreparedResend => Sys2Proof.Machine.execFixPreparedResend s
  | .fixDrainedSlots h value => Sys2Proof.Machine.execFixDrainedSlots h value s
  | .fixApply h => Sys2Proof.Machine.execFixApply h s
  | .rebuild h => Sys2Proof.Machine.execRebuild h s
  | .resolveCommit h => Sys2Proof.Machine.execResolveCommit h s
  | .resolveDiscard h => Sys2Proof.Machine.execResolveDiscard h s
  | .fixPull f => Sys2Proof.Machine.execFixPull f s
  | .fixChunk f => Sys2Proof.Machine.execFixChunk f s
  | .rsvSwap h core reserve => Sys2Proof.Machine.execRsvSwap h core reserve s
  | .rsvSwapCancel h core => Sys2Proof.Machine.execRsvSwapCancel h core s
  | .reserveReady core pass => Sys2Proof.Machine.execReserveReady core pass s
  | .reserveIdleTimeout core => Sys2Proof.Machine.execReserveIdleTimeout core s
  | .driftEvaluation canaries xdLost => Sys2Proof.Machine.execDriftEvaluation canaries xdLost s
  | .driftPersist => Sys2Proof.Machine.execDriftPersist s
  | .laneSwapRequest port lane => Sys2Proof.Machine.execLaneSwapRequest port lane s
  | .phaseShed rail => Sys2Proof.Machine.execPhaseShed rail s
  | .sensorLost site sensor => Sys2Proof.Machine.execSensorLost site sensor s
  | .sparePressure h value => Sys2Proof.Machine.execSparePressure h value s
  | .retiredMap h value => Sys2Proof.Machine.execRetiredMap h value s
  | .inputSample milliVolt milliAmp => Sys2Proof.Machine.execInputSample milliVolt milliAmp s
  | .pdOn h domain => Sys2Proof.Machine.execPdOn h domain s
  | .pdOff h domain => Sys2Proof.Machine.execPdOff h domain s
  | .pdSelfRefresh h domain => Sys2Proof.Machine.execPdSelfRefresh h domain s
  | .domainPowerGood g => Sys2Proof.Machine.execDomainPowerGood g s
  | .domainWakeFail domain => Sys2Proof.Machine.execDomainWakeFail domain s
  | .pllLock die => Sys2Proof.Machine.execPllLock die s
  | .throttleStepUp die => Sys2Proof.Machine.execThrottleStepUp die s
  | .siteTempSample readings => Sys2Proof.Machine.execSiteTempSample readings s
  | .clkCap h die value => Sys2Proof.Machine.execClkCap h die value s
  | .throttleN => Sys2Proof.Machine.execThrottleN s
  | .throttleNRelease => Sys2Proof.Machine.execThrottleNRelease s
  | .epoN => Sys2Proof.Machine.execEpoN s
  | .epoNRelease => Sys2Proof.Machine.execEpoNRelease s
  | .fenceN => Sys2Proof.Machine.execFenceN s
  | .fenceNRelease => Sys2Proof.Machine.execFenceNRelease s
  | .restart h => Sys2Proof.Machine.execRestart h s
  | .hmuSleep => Sys2Proof.Machine.execHmuSleep s
  | .hcWatchdog core => Sys2Proof.Machine.execHcWatchdog core s
  | .hmuReset => Sys2Proof.Machine.execHmuReset s
  | .segmentDown seg => Sys2Proof.Machine.execSegmentDown seg s
  | .neighborSolicitation link target => Sys2Proof.Machine.execNeighborSolicitation link target s
  | .readExp q => Sys2Proof.Machine.execReadExp q s
  | .objectWrite q => Sys2Proof.Machine.execObjectWrite q s
  | .readSeg q => Sys2Proof.Machine.execReadSeg q s
  | .writeSeg q => Sys2Proof.Machine.execWriteSeg q s
  | .segment q => Sys2Proof.Machine.execSegment q s
  | .response q => Sys2Proof.Machine.execResponse q s
  | .segmentResend transfer => Sys2Proof.Machine.execSegmentResend transfer s
  | .transferTimeout transfer => Sys2Proof.Machine.execTransferTimeout transfer s
  | .hdpAbort q => Sys2Proof.Machine.execHdpAbort q s
  | .subscribe q => Sys2Proof.Machine.execSubscribe q s
  | .unsubscribe q => Sys2Proof.Machine.execUnsubscribe q s
  | .notify slot => Sys2Proof.Machine.execNotify slot s
  | .leaseExpiry slot => Sys2Proof.Machine.execLeaseExpiry slot s
  | .keyWrite h key value => Sys2Proof.Machine.execKeyWrite h key value s
  | .beacon => Sys2Proof.Machine.execBeacon s
  | .immediateBeacon => Sys2Proof.Machine.execImmediateBeacon s
  | .logFlush programFails => Sys2Proof.Machine.execLogFlush programFails s
  | .arithFlagsClear h core m => Sys2Proof.Machine.execArithFlagsClear h core m s
  | .chkStatusClear h core m => Sys2Proof.Machine.execChkStatusClear h core m s
  | .stackHealthClear h stack m => Sys2Proof.Machine.execStackHealthClear h stack m s
  | .actStatusClear h slot m => Sys2Proof.Machine.execActStatusClear h slot m s
  | .stepStatusClear h m => Sys2Proof.Machine.execStepStatusClear h m s
  | .healthClear h m => Sys2Proof.Machine.execHealthClear h m s
  | .pwrStatusClear h m => Sys2Proof.Machine.execPwrStatusClear h m s
  | .mgmtStatusClear h m => Sys2Proof.Machine.execMgmtStatusClear h m s
  | .alertSummaryClear h m => Sys2Proof.Machine.execAlertSummaryClear h m s
  | .portHealthClear h port m => Sys2Proof.Machine.execPortHealthClear h port m s
  | .assign h slot => Sys2Proof.Machine.execAssign h slot s
  | .sliceRelease h slot => Sys2Proof.Machine.execSliceRelease h slot s
  | .dictDefaults h => Sys2Proof.Machine.execDictDefaults h s
  | .dictDefaultsCancel h => Sys2Proof.Machine.execDictDefaultsCancel h s
  | .rdmaWrite m => Sys2Proof.Machine.execRdmaWrite m s
  | .rdmaRead m errors => Sys2Proof.Machine.execRdmaRead m errors s
  | .atomicFetchAdd m => Sys2Proof.Machine.execAtomicFetchAdd m s
  | .cnp conn => Sys2Proof.Machine.execCnp conn s
  | .cnpRateRestore conn => Sys2Proof.Machine.execCnpRateRestore conn s
  | .qpOpen h conn => Sys2Proof.Machine.execQpOpen h conn s
  | .qpClose h conn => Sys2Proof.Machine.execQpClose h conn s
  | .fwBegin h => Sys2Proof.Machine.execFwBegin h s
  | .fwChunk h data => Sys2Proof.Machine.execFwChunk h data s
  | .verify h => Sys2Proof.Machine.execVerify h s
  | .fwCommit h => Sys2Proof.Machine.execFwCommit h s
  | .fwCommitDone => Sys2Proof.Machine.execFwCommitDone s
  | .activate h => Sys2Proof.Machine.execActivate h s
  | .cancel h => Sys2Proof.Machine.execCancel h s
  | .cfgBegin h => Sys2Proof.Machine.execCfgBegin h s
  | .cfgChunk h data => Sys2Proof.Machine.execCfgChunk h data s
  | .cfgApply h => Sys2Proof.Machine.execCfgApply h s
  | .attGenerate h => Sys2Proof.Machine.execAttGenerate h s
  | .attDone => Sys2Proof.Machine.execAttDone s
  | .bistRun h => Sys2Proof.Machine.execBistRun h s
  | .bistDone failed => Sys2Proof.Machine.execBistDone failed s
  | .segmentUp seg => Sys2Proof.Machine.execSegmentUp seg s
  | .linkControlBlockReceived port acked credits => Sys2Proof.Machine.execLinkControlBlockReceived port acked credits s
  | .hostPortCtrl h port value => Sys2Proof.Machine.execHostPortCtrl h port value s
  | .hostLinkUp port => Sys2Proof.Machine.execHostLinkUp port s
  | .hostLinkDown port => Sys2Proof.Machine.execHostLinkDown port s
  | .fixApplyDone => Sys2Proof.Machine.execFixApplyDone s
  | .transmitOpportunity seg => Sys2Proof.Machine.execTransmitOpportunity seg s

end Sys2Proof.Machine
end

