-- ==== Sys2Proof/Machine/Tick.lean ====
section
/-! DEFINITION. What passes while no command waits: a nanosecond (log 1). -/

namespace Sys2Proof.Machine

/-- STEP_NS of a die's present throttle step counts the nanosecond (Table 16-7). -/
def State.clockTick (s : State) (die : Nat) : State := s.count 64 (Obj.STEP_NS die (s.obj (Obj.CLK_STEP die))) 1

/-- Whether the dies have their clocks: the firmware has been started and the module is not off (R409, R412, R478). -/
def State.clocked (s : State) : Bool := decide (2 ≤ s.obj Obj.START_STATE) && s.obj Obj.EPO_STATE == 0

/-- What passes for a core: the watchdog's cycles of the nanosecond, and the Chronometer's advance in its idle counters. -/
def State.coreTick (n : Nat) (s : State) (core : Nat) : State := (s.watchdogTick core).idleTick n core

/-- The counters of time that the dies, the ports and the cores keep (R163, R184, R275, R296, R335–R337, R409); `n` is the Chronometer's advance. -/
def State.timeCounters (s : State) (n : Nat) : State :=
  if s.clocked then (List.range 104).foldl (State.coreTick n) ((List.range 16).foldl State.portTick ((s.clockTick 0).clockTick 1)) else s

/-- A nanosecond of true time: the Chronometer counts it while the always-on domain has power (R402), a nanosecond more or less while it slews (R255), and so do the counters of
time. -/
def tick (s : State) : State :=
  if s.dead then { s with now := s.now + 1 }
  else
  let t := { s with now := s.now + 1 }.chrTick
  t.timeCounters ((t.chr + 2 ^ 64 - s.chr) % 2 ^ 64)

end Sys2Proof.Machine
end

