-- ==== Sys2Proof/WellFormed.lean ====
section
/-! DEFINITION. Well-formed commands: every field fits the width that the manual gives it, and every unit named is one that the
module has. What a register does with a value beyond its range is the command's meaning, not a question of form. -/

namespace Sys2Proof

/-- The sizes of the module: cores (R17), stacks, fabric ports, host ports, Waypoints, contexts, connections. -/
abbrev numCores : Nat := 104
abbrev numStacks : Nat := 12
abbrev numPorts : Nat := 16
abbrev numHostPorts : Nat := 4
abbrev numWaypoints : Nat := 16384
abbrev numGroups : Nat := 256
abbrev numContexts : Nat := 128
abbrev numConns : Nat := 240

/-- The cores that are Reserves at reset (R17). -/
def reserveCores : List Nat := [48, 49, 50, 51, 100, 101, 102, 103]

/-- A header of the dictionary protocol (Table 17-1). -/
def Hdr.wf (h : Hdr) : Bool :=
  decide (h.ver < 16) && decide (h.role < 4) && decide (h.reqId < 2 ^ 16) && decide (h.counter < 2 ^ 64) && decide (h.dev < 2 ^ 16) &&
    decide (h.tag < 2 ^ 256) && decide (h.src < 2 ^ 64) && decide (h.port < 2 ^ 16) && decide (h.held < 2 ^ 16) && decide (h.hops < 2 ^ 8)

/-- A message of the dictionary protocol. -/
def HdpReq.wf (q : HdpReq) : Bool :=
  q.hdr.wf && decide (q.typ < 16) && decide (q.index < 2 ^ 16) && decide (q.sub < 2 ^ 8) && decide (q.len < 2 ^ 16) &&
    decide (q.code < 2 ^ 16) && decide (q.segno < 2 ^ 32)

/-- A fabric frame (Table 10-1). -/
def Frame.wf (f : Frame) : Bool :=
  decide (f.opcode < 2 ^ 8) && decide (f.cls < 8) && decide (f.epoch < 2) && decide (f.dstDev < 2 ^ 14) && decide (f.dstCore < 2 ^ 7) &&
    decide (f.slice < 2 ^ 12) && decide (f.fanId < 2 ^ 12) && decide (f.srcDev < 2 ^ 14) && decide (f.srcCore < 2 ^ 7) &&
    decide (f.len < 2 ^ 13) && decide (f.hops < 16) && decide (f.code < 2 ^ 16) && decide (f.seq < 2 ^ 32) && decide (f.aux < 2 ^ 32) &&
    decide (f.addr < 2 ^ 40) && decide (f.hcrc < 2 ^ 16) && decide (f.pcrc < 2 ^ 32)

/-- An RDMA message (19). -/
def HostMsg.wf (m : HostMsg) : Bool :=
  decide (m.conn < numConns) && decide (m.rkey < 2 ^ 32) && decide (m.va < 2 ^ 64) && decide (m.len < 2 ^ 32) &&
    decide (m.addend < 2 ^ 64) && decide (m.opcode < 2 ^ 8) && decide (m.psn < 2 ^ 24) && decide (m.corrected < 2 ^ 64) &&
    decide (m.uncorrected < 2 ^ 64) && m.vlan.all (fun v => decide (v < 2 ^ 15)) && decide (m.frame < 2 ^ 16)

/-- A stored error: a burst of HBM with one of its lanes, or a granule of a scratchpad with one of its bits (R191, R211). -/
def StoredError.wf (e : StoredError) : Bool :=
  (decide (e.unitNo * 32 < 0xC000000000) && (e.pin.all (fun p => decide (p < 68)))) ||
    (decide (0xC000000000 ≤ e.unitNo * 32) && decide (e.unitNo * 32 < 0xC000000000 + numCores * 0x800000) &&
      decide (e.unitNo * 32 % 0x800000 < 0x600000))

/-- What a lane measured (Table 8-4). -/
def LaneMargin.wf (m : LaneMargin) : Bool := decide (m.stack < numStacks) && decide (m.channel < 16) && decide (m.lane < 68)

/-- A blocking of one of the four classes of Table 8-2. -/
def Blocking.wf (b : Blocking) : Bool := decide (b.cls < 4) && decide (b.ns < 2 ^ 32)

/-- The readings of a start (20). -/
def StartReadings.wf (r : StartReadings) : Bool :=
  decide (r.sa < 64) && r.failedDomains.all (fun d => decide (d < 80)) && r.failedCores.all (fun c => decide (c < numCores)) &&
    r.fabricUp.all (fun p => decide (p.1 < numPorts) && decide (p.2 < 2 ^ 16)) && r.hostUp.all (fun p => decide (p < numHostPorts)) &&
    r.fastStacks.all (fun k => decide (k < numStacks)) && r.weakLanes.all LaneMargin.wf

/-- The end of a training. -/
def TrainOutcome.wf (o : TrainOutcome) : Bool := o.deadLanes.all (fun l => decide (l < 4)) && decide (o.neighbor < 2 ^ 16)

/-- How a frame comes by a port (R274). -/
def Arrival.wf (a : Arrival) : Bool := decide (a.port < numPorts) && decide (a.linkSeq < 4096)

/-- A part of a Chart (Table 10-9). -/
def ChartPart.wf : ChartPart → Bool
  | .entries first words => decide (first < 2 ^ 16) && words.all (fun w => decide (w < 2 ^ 64))
  | .self dev => decide (dev < 2 ^ 16)

/-- A flow (R277). -/
def FlowKey.wf (k : FlowKey) : Bool :=
  decide (k.dev < 2 ^ 14) && k.fan.all (fun n => decide (n < 2 ^ 12)) && decide (k.cls < 8) && decide (k.epoch < 2)

/-- A rail: two dies (R388). -/
def Rail.wf : Rail → Bool
  | .die d => decide (d < 2)
  | .xd => true
  | .hbm => true

/-- A requester of a scratchpad port: two DMA engines (Table 7-1). -/
def SpRequester.wf : SpRequester → Bool
  | .dmaRead e => decide (e < 2)
  | .dmaWrite e => decide (e < 2)
  | _ => true

/-- A clearing write and the sets of its cycle. -/
def ClearMask.wf (m : ClearMask) : Bool := decide (m.mask < 2 ^ 64) && decide (m.sets < 2 ^ 64)

/-- Well-formed commands. -/
def Instr.wf : Instr → Bool
  | .powerOn r => r.wf
  | .bundleIssue core => decide (core < numCores)
  | .ldaWriteback core => decide (core < numCores)
  | .lineFill core => decide (core < numCores)
  | .releaseBufferPerform core => decide (core < numCores)
  | .mcfg core => decide (core < numCores)
  | .mwld core => decide (core < numCores)
  | .checksumWeightsReady core => decide (core < numCores)
  | .mstr core => decide (core < numCores)
  | .mcls core => decide (core < numCores)
  | .drain core errors => decide (core < numCores) && errors.all StoredError.wf
  | .portStarvationOverride core r => decide (core < numCores) && r.wf
  | .chainStart core => decide (core < numCores)
  | .gatedUpdate core => decide (core < numCores)
  | .chainComplete core => decide (core < numCores)
  | .sealThresh h v => h.wf && decide (v < 2 ^ 64)
  | .arm h core => h.what.wf && decide (core < numCores)
  | .reset h core => h.what.wf && decide (core < numCores)
  | .progGen h core gen => h.what.wf && decide (core < numCores) && decide (gen < 2 ^ 32)
  | .progressWatchdog core => decide (core < numCores)
  | .runWatchdog core => decide (core < numCores)
  | .lyrWrite h core reg v => h.wf && decide (core < numCores) && decide (reg < 64) && decide (v < 2 ^ 64)
  | .lyrStart h core => h.what.wf && decide (core < numCores)
  | .recordLoad core => decide (core < numCores)
  | .layerComplete core => decide (core < numCores)
  | .dmaDescriptorStart core engine errors => decide (core < numCores) && decide (engine < 2) && errors.all StoredError.wf
  | .dmaComplete core engine => decide (core < numCores) && decide (engine < 2)
  | .scrubRead burst errors => decide (burst * 32 < 0xC000000000) && errors.all StoredError.wf
  | .refresh u _ => decide (u.bank < numStacks * 32 * 32) && u.blocked.all Blocking.wf
  | .refreshManagement u => decide (u.bank < numStacks * 32 * 32) && u.blocked.all Blocking.wf
  | .rowRemap group => decide (group < numStacks * 32 * 32 * 4096)
  | .stackTempRead readings => decide (readings.length = numStacks)
  | .cbwCopy page => decide (page * 65536 < 0xC000000000)
  | .backgroundCopy die => decide (die < 2)
  | .sxtRun h => h.wf
  | .sxtAbort h => h.wf
  | .sxtDone margins => margins.all LaneMargin.wf
  | .waypointAdd slice wp v => decide (slice < 2 ^ 16) && decide (wp < numWaypoints) && decide (v < 2 ^ 64)
  | .waypointSet slice wp v => decide (slice < 2 ^ 16) && decide (wp < numWaypoints) && decide (v < 2 ^ 64)
  | .waypointWait core wp v => decide (core < numCores) && decide (wp < numWaypoints) && decide (v < 2 ^ 64)
  | .timedAdd slice wp v t => decide (slice < 2 ^ 16) && decide (wp < numWaypoints) && decide (v < 2 ^ 64) && decide (t < 2 ^ 64)
  | .timedAddDue => true
  | .errorCompletion slice wp code => decide (slice < 2 ^ 16) && decide (wp < numWaypoints) && decide (code < 2 ^ 16)
  | .waypointMark m => m.wf
  | .waypointClear m _ => m.wf
  | .groupSlice h g slice => h.wf && decide (g < numGroups) && decide (slice < 2 ^ 16)
  | .chronometerExchange => true
  | .timeReq a f => a.wf && f.wf
  | .timeRsp a f t4 => a.wf && f.wf && decide (t4 < 2 ^ 64)
  | .chrSet h v => h.wf && decide (v < 2 ^ 64)
  | .chrParentPort h v => h.wf && decide (v < 2 ^ 8)
  | .frameRoute arrival f => arrival.all Arrival.wf && f.wf
  | .write f => f.wf
  | .read f => f.wf
  | .readData f => f.wf
  | .wpAdd f => f.wf
  | .ack f => f.wf
  | .errResp f => f.wf
  | .partialNotice f => f.wf
  | .ackTimer k => k.wf
  | .e2eResend k => k.wf
  | .pathLost k => k.wf
  | .linkControlBlock port => decide (port < numPorts)
  | .nak port seqNo => decide (port < numPorts) && decide (seqNo < 4096)
  | .linkReplayTimeout port => decide (port < numPorts)
  | .frameAgeDrop => true
  | .portRetrain r => decide (r.port < numPorts)
  | .retrainDone port o => decide (port < numPorts) && o.wf
  | .portRetry port => decide (port < numPorts)
  | .portDisable h port => h.wf && decide (port < numPorts)
  | .portEnable h port => h.wf && decide (port < numPorts)
  | .portRetrainCmd h port => h.wf && decide (port < numPorts)
  | .laneSwap h port => h.wf && decide (port < numPorts)
  | .chartBegin h => h.wf
  | .chartLoad h part => h.wf && part.wf
  | .chartSeal h => h.wf
  | .switch h => h.wf
  | .switchClose h => h.wf
  | .chartAbort h => h.wf
  | .chartSwitchTime => true
  | .chartDrainClose chart => decide (chart < 2)
  | .ctxArm h ctx addr => h.wf && decide (ctx < numContexts) && decide (addr < 2 ^ 64)
  | .disarm h ctx => h.wf && decide (ctx < numContexts)
  | .contrib f => f.wf
  | .deadline ctx => decide (ctx < numContexts)
  | .late f => f.wf
  | .result f => f.wf
  | .stageEnable h slot => h.wf && decide (slot < 8)
  | .stageDisable h slot => h.wf && decide (slot < 8)
  | .stepBegin h => h.wf
  | .endJob h => h.wf
  | .restore h => h.wf
  | .standby h => h.wf
  | .consortStream => true
  | .checkTimeout => true
  | .consortTimeout => true
  | .stepVote f => f.wf
  | .stepCommit f => f.wf
  | .stepAbort f => f.wf
  | .stepResume f => f.wf
  | .voteResend => true
  | .consortData f => f.wf
  | .consortDone f => f.wf
  | .consortAck f => f.wf
  | .consortPull f => f.wf
  | .consortLoad f => f.wf
  | .moduleFence h => h.wf
  | .release h => h.wf
  | .fenceReqDev h dev => h.wf && decide (dev < 2 ^ 16)
  | .fixArm h => h.wf
  | .abandon h => h.wf
  | .fixEncode die => decide (die < 2)
  | .fixStripe f => f.wf
  | .fixStripeRetry => true
  | .fixCount f => f.wf
  | .fixPrepared f => f.wf
  | .fixCommit f => f.wf
  | .fixDiscard f => f.wf
  | .fixTimeout => true
  | .fixPreparedResend => true
  | .fixDrainedSlots h v => h.wf && decide (v < 2 ^ 32)
  | .fixApply h => h.wf
  | .rebuild h => h.wf
  | .resolveCommit h => h.wf
  | .resolveDiscard h => h.wf
  | .fixPull f => f.wf
  | .fixChunk f => f.wf
  | .rsvSwap h core r => h.wf && decide (core < 2 ^ 7) && decide (r < 2 ^ 7)
  | .rsvSwapCancel h core => h.wf && decide (core < 2 ^ 7)
  | .reserveReady core _ => reserveCores.contains core
  | .reserveIdleTimeout core => reserveCores.contains core
  | .driftEvaluation canaries _ => canaries.all (fun c => decide (c.1 < numCores))
  | .driftPersist => true
  | .laneSwapRequest port lane => decide (port < numPorts) && decide (lane < 4)
  | .phaseShed rail => rail.wf
  | .sensorLost site sensor => decide (site < 28) && decide (sensor < 2)
  | .sparePressure h v => h.wf && decide (v < 2 ^ 32)
  | .retiredMap h v => h.wf && decide (v < 2 ^ 128)
  | .inputSample mv ma => decide (mv < 2 ^ 32) && decide (ma < 2 ^ 32)
  | .pdOn h d => h.wf && decide (d < 2 ^ 7)
  | .pdOff h d => h.what.wf && decide (d < 2 ^ 7)
  | .pdSelfRefresh h d => h.wf && decide (d < 2 ^ 7)
  | .domainPowerGood g => decide (g.domain < 80)
  | .domainWakeFail d => decide (d < 80)
  | .pllLock die => decide (die < 2)
  | .throttleStepUp die => decide (die < 2)
  | .siteTempSample _ => true
  | .clkCap h die v => h.wf && decide (die < 2) && decide (v < 2 ^ 8)
  | .throttleN => true
  | .throttleNRelease => true
  | .epoN => true
  | .epoNRelease => true
  | .fenceN => true
  | .fenceNRelease => true
  | .restart h => h.wf
  | .hmuSleep => true
  | .hcWatchdog core => decide (core < 2)
  | .hmuReset => true
  | .segmentDown _ => true
  | .neighborSolicitation l target =>
    (match l with | .seg _ => true | .host p => decide (p < numHostPorts)) && decide (target < 2 ^ 128)
  | .readExp q => q.wf
  | .objectWrite q => q.what.wf && q.second.all HdpReq.wf
  | .readSeg q => q.wf
  | .writeSeg q => q.wf
  | .segment q => q.wf
  | .response q => q.wf
  | .segmentResend t => decide (t < 4)
  | .transferTimeout t => decide (t < 4)
  | .hdpAbort q => q.wf
  | .subscribe q => q.wf
  | .unsubscribe q => q.wf
  | .notify n => decide (n < 64)
  | .leaseExpiry n => decide (n < 64)
  | .keyWrite h key _ => h.wf && decide (key < 4)
  | .beacon => true
  | .immediateBeacon => true
  | .logFlush _ => true
  | .arithFlagsClear h core m => h.wf && decide (core < numCores) && m.wf
  | .chkStatusClear h core m => h.wf && decide (core < numCores) && m.wf
  | .stackHealthClear h k m => h.wf && decide (k < numStacks) && m.wf
  | .actStatusClear h slot m => h.wf && decide (slot < 8) && m.wf
  | .stepStatusClear h m => h.wf && m.wf
  | .healthClear h m => h.wf && m.wf
  | .pwrStatusClear h m => h.wf && m.wf
  | .mgmtStatusClear h m => h.wf && m.wf
  | .alertSummaryClear h m => h.wf && m.wf
  | .portHealthClear h port m => h.wf && decide (port < numPorts) && m.wf
  | .assign h slot => h.wf && decide (slot < 8)
  | .sliceRelease h slot => h.wf && decide (slot < 8)
  | .dictDefaults h => h.wf
  | .dictDefaultsCancel h => h.wf
  | .rdmaWrite m => m.wf
  | .rdmaRead m errors => m.wf && errors.all StoredError.wf
  | .atomicFetchAdd m => m.wf
  | .cnp conn => decide (conn < numConns)
  | .cnpRateRestore conn => decide (conn < numConns)
  | .qpOpen h conn => h.wf && decide (conn < numConns)
  | .qpClose h conn => h.wf && decide (conn < numConns)
  | .fwBegin h => h.wf
  | .fwChunk h _ => h.wf
  | .verify h => h.wf
  | .fwCommit h => h.wf
  | .fwCommitDone => true
  | .activate h => h.wf
  | .cancel h => h.wf
  | .cfgBegin h => h.wf
  | .cfgChunk h _ => h.wf
  | .cfgApply h => h.wf
  | .attGenerate h => h.wf
  | .attDone => true
  | .bistRun h => h.wf
  | .bistDone failed => failed.all (fun c => decide (c < numCores))
  | .segmentUp _ => true
  | .linkControlBlockReceived port acked credits =>
    decide (port < numPorts) && decide (acked < 4096) && credits.all (fun c => decide (c.1 < 8))
  | .hostPortCtrl h port v => h.wf && decide (port < numHostPorts) && decide (v < 2 ^ 8)
  | .hostLinkUp port => decide (port < numHostPorts)
  | .hostLinkDown port => decide (port < numHostPorts)
  | .fixApplyDone => true
  | .transmitOpportunity _ => true

end Sys2Proof
end

