-- ==== Sys2Proof/Safety.lean ====
section
/-! DEFINITION. The terms in which statements speak of states: the canonical forms, what a command keeps, quiet states, and requests
of the dictionary protocol that are granted. -/

namespace Sys2Proof.Machine

/-! ### What commands keep -/

/-- The dictionary's store in its canonical form: keys rising strictly, no entry equal to its object's default. -/
def Dict.wf (d : List (Nat × Nat)) : Bool := Sparse.wf dictDefault d

/-- What no command disturbs: the queue, true time, free values already taken, and the canonical forms. -/
structure State.Keeps (s t : State) : Prop where
  pending : t.pending = s.pending
  now     : t.now = s.now
  free    : s.free ≤ t.free
  mem     : Memory.wf s.mem = true → Memory.wf t.mem = true
  dict    : Dict.wf s.dict = true → Dict.wf t.dict = true

/-! ### What follows within a command -/

/-- A state once everything that its command has set going within itself is done (log 8). -/
def State.after (u : State) : State := u.settle settleFuel

/-- A state once everything is done that the first thing set going within a command brings with it. -/
def State.afterFirst (u : State) : State := u.settle (settleFuel - 1)

/-- Nothing waits to follow: no work set going within a command, no swap of a Reserve, no host's request on its connection, no
subscription. -/
structure State.Quiet (s : State) : Prop where
  posts : s.posts = []
  swaps : s.health.swaps = []
  hosts : ∀ e ∈ s.hosts, e.2.waits = []
  subs  : s.hmu.subs = []

/-! ### Requests of the dictionary protocol -/

/-- The unit at work with a message whose counter it has accepted (R418, R429). -/
def State.heard (s : State) (q : HdpReq) : State := s.hmuWork.takeCounter q

/-- A message reaches firmware that serves it and is heard (R418, R421, R424): a segment is UP, the datagram is one that the unit takes, the
form is right, an expedited one finds room (R433), tag and counter hold, and it is for this module (items 1–3). -/
structure State.Hears (s : State) (q : HdpReq) : Prop where
  up        : s.segUp q.hdr.seg = true
  datagram  : s.datagramGood q.hdr = true
  serves    : s.hmuServes = true
  firmware  : s.obj Obj.START_STATE ≠ 1
  formed    : reqFormed q = true
  room      : noRoom q = false
  version   : q.hdr.ver = 1
  typ       : q.typ < 12
  authentic : s.hmuWork.authenticate q = .pass
  addressed : q.hdr.dev = 0xFFFF ∨ q.hdr.dev = (s.heard q).selfId

/-- A message that also passes the checks of its object before the object's own (R424): the object exists and takes such a message from
its role (items 4–7). -/
structure State.Grants (s : State) (q : HdpReq) (write : Bool) (kind : Option Bool) : Prop extends State.Hears s q where
  object : (s.heard q).objectCode (reqKey q) q.hdr.role write kind = 0

/-- A request performed without refusal: it is counted, answered with code 0 and remembered with its answer (R429, R431, R435). -/
def State.answered (u : State) (q : HdpReq) (segno : Nat) (payload : List Byte) : State :=
  let r := answerTo q 7 0 segno payload
  ((u.count 64 Obj.HDP_REQUESTS 1).answer r false).cache q (some r)

/-- A message of an open transfer performed and answered: such messages are not counted as requests (R431). -/
def State.replied (u : State) (q : HdpReq) (segno : Nat) : State :=
  (u.answer (answerTo q 7 0 segno []) false).cache q (some (answerTo q 7 0 segno []))

/-- A granted write of a value to an object of expedited messages. -/
def State.GrantsWrite (s : State) (h : Hdr) (key v : Nat) : Prop := s.Grants (writeReq h key v) true (some false)

/-- A granted opening of a whole segmented write of `n` bytes, with a transfer slot free for it (R425, R426). -/
structure State.GrantsBlob (s : State) (h : Hdr) (key n : Nat) : Prop where
  granted : s.Grants (blobReq h key n) true (some true)
  slot    : (s.heard (blobReq h key n)).freeTransfer.isSome = true
  alone   : (s.heard (blobReq h key n)).writeOpen key = false

/-- The state that performs a granted write: its message heard. -/
def State.heardWrite (s : State) (h : Hdr) (key v : Nat) : State := s.heard (writeReq h key v)

/-- A write performed without refusal, and what follows. -/
def State.wrote (u : State) (h : Hdr) (key v : Nat) : State := (u.answered (writeReq h key v) 0 []).after

/-- The state that performs a granted segmented write: its opening message heard and answered. -/
def State.heardBlob (s : State) (h : Hdr) (key n : Nat) : State :=
  (s.heard (blobReq h key n)).answer (answerTo (blobReq h key n) 7 0 0 []) false

/-- A segmented write performed without refusal: the last acknowledgement carries the code (R425). -/
def State.wroteBlob (u : State) (h : Hdr) (key n : Nat) : State := (u.answered (blobReq h key n) (segCount n - 1) []).after

/-- Command `c`, which is a write of `v` to `key`, completes with its own effect: granted, and with the condition `ok` on the state that
has heard it, it answers the next state in which the effect has been performed and the request answered. -/
def WriteCompletes (c : Instr) (s : State) (h : Hdr) (key v : Nat) (ok : State → Prop) (effect : State → State) : Prop :=
  s.GrantsWrite h key v → ok (s.heardWrite h key v) → exec c s = .next ((effect (s.heardWrite h key v)).wrote h key v)

/-- Command `c`, which is a segmented write of bytes to `key`, completes with its own effect. -/
def BlobCompletes (c : Instr) (s : State) (h : Hdr) (key : Nat) (l : List Byte) (ok : State → Prop) (effect : State → State) : Prop :=
  s.GrantsBlob h key l.length → ok (s.heardBlob h key l.length) →
    exec c s = .next ((effect (s.heardBlob h key l.length)).wroteBlob h key l.length)

/-- Command `c`, which clears the bits of `m` of a sticky word, completes with its own effect: of those bits the ones that hardware sets in the
same cycle are set again, and `sets` counts them, for set wins (R55). -/
def ClearCompletes (c : Instr) (s : State) (h : Hdr) (key : Nat) (m : ClearMask) (effect : State → State) (sets : State → Nat → State) : Prop :=
  s.GrantsWrite h key m.mask →
    exec c s = .next (sets ((effect (s.heardWrite h key m.mask)).answered (writeReq h key m.mask) 0 []) (m.mask &&& m.sets)).after

/-! ### Conditions of commands -/

/-- What ARM asks of an idle core (R156, R157, R168): its entry, the right to run a kernel, and a launch Waypoint of its own slice. -/
structure State.mayArm (u : State) (core : Nat) : Prop where
  idle   : u.coreSt core = .idle
  kernel : u.obj (Obj.CORE_MODE core) = 0 → u.kernelRight core = true ∧ bundleAddr (u.obj (Obj.ENTRY_PC core)) = true
  layers : u.obj (Obj.CORE_MODE core) ≠ 0 → u.obj (Obj.ENTRY_PC core) % 512 = 0
  sliced : u.sliceOfCore core ≠ 0xFFFF
  owned  : u.wpOwner (u.obj (Obj.LAUNCH_WP core)) = u.sliceOfCore core

/-- A core just ARMED, in the mode that CORE_MODE gives it (R156). -/
def State.armedCore (u : State) (core : Nat) : State :=
  (u.setCoreSt core .armed).setCore core { u.core core with mode := u.obj (Obj.CORE_MODE core) }

/-- What the launch Waypoint answers a core that is just ARMED. -/
def State.launchAns (u : State) (core : Nat) : WaitAns :=
  (u.armedCore core).waitAns (u.sliceOfCore core) (u.obj (Obj.LAUNCH_WP core)) ((u.armedCore core).obj (Obj.LAUNCH_THRESH core))

/-- A bundle meets nothing that keeps it from issuing (R128–R160): it stands as it was written under its GEN (R161), every slot is legal, no
register it touches waits for a load, the queues and the release buffer have room, its FENCE has nothing to wait for, its addresses lie in
the scratchpad, and no Waypoint holds it back. -/
structure State.mayIssue (s : State) (core : Nat) (b : Nat) : Prop where
  whole     : (s.core core).tornBundle (s.obj (Obj.PROG_GEN core)) b = false
  legal     : illegalSlot b = none
  loop      : ((s.core core).takes (Slots.of b).scalar && slotOp (Slots.of b).scalar == 0x20 &&
    (s.core core).loopIllegal (Slots.of b).scalar (seqOf (s.core core).pc)) = false
  registers : ((s.core core).touches (Slots.of b)).any (fun r => (s.core core).lda.any (fun p => p.1 == r)) = false
  queues    : (s.core core).queueFull (Slots.of b) = false
  releases  : ((s.core core).takes (Slots.of b).sync && releases (slotOp (Slots.of b).sync) && decide (4 ≤ (s.core core).rel.length)) = false
  fence     : ((s.core core).takes (Slots.of b).sync && slotOp (Slots.of b).sync == 5 &&
    (s.core core).fenceHolds (syUnits (Slots.of b).sync)) = false
  addresses : s.addressFault core (Slots.of b) = none
  waypoint  : s.syncWait core (Slots.of b).sync = none

/-- A loaded layer can start (R166–R169): the header is of a known kind and version, its link is aligned, and all its Waypoints
are the core's to use. -/
structure State.layerGood (w : State) (core : Nat) : Prop where
  kind    : bits (w.lyr core 0) 3 0 ≤ 7
  version : bits (w.lyr core 0) 7 4 = 1
  link    : bit (w.lyr core 0) 8 = true → w.lyr core 5 % 512 = 0
  wps     : ∀ x ∈ w.lyWps core, w.wpCode (w.sliceOfCore core) x = 0

/-- A chain that can start (R100, R101, R104, R122, R123): no gate holds the unit, it is the next chain and well formed, a gated one was
issued with a threshold and finds the flag sealed, and nothing it uses is in use. -/
structure State.mayChain (s : State) (core : Nat) (ch : Chain) (c : Core) : Prop where
  open_  : (s.core core).vec.gate = none
  next   : (s.core core).nextChain = some (ch, c)
  ok     : (ChainDesc.of ch.desc).ok ch.off = true
  gated  : (ChainDesc.of ch.desc).gate = true → ch.unsealable = false ∧ bit (s.obj Obj.STEP_NF) 1 = true
  free   : chainConflicts ((ChainDesc.of ch.desc).under (bit (s.obj Obj.STEP_NF) 0)) (s.core core).vec.running = false

/-- A host's request that its connection accepts (R463–R466, R470): the connection hears it and answers it with code 0. Its FEC
blocks are counted and a CE mark is answered with a CNP first. -/
def State.hostHeard (s : State) (m : HostMsg) : State := if m.ce then (s.hostFec m).sendCnp m.conn else s.hostFec m

/-- A connection accepts a request: its frame has the port's form (R461), and it is the next of the connection (R463). -/
structure State.HostAccepts (s : State) (op : HostOp) (m : HostMsg) : Prop where
  conn  : m.conn < 240
  hears : (s.hostFec m).hostHears m.conn = true
  frame : (s.hostFec m).hostFrames m = true
  next  : (s.hostHeard m).psnBehind m = 0
  code  : (s.hostHeard m).hostAnswer op m = 0

/-! ### Frames that arrive -/

/-- A frame that reaches this module whole and addressed to it, while nothing else is set going (R272, R277, R285, R290). -/
structure State.Receives (s : State) (f : Frame) (op : Nat) : Prop where
  alone   : s.posts = []
  opcode  : f.opcode = op
  header  : headerGood f = true
  payload : payloadGood f = true
  open_   : (s.fenced && sequenced op) = false
  routes  : s.chartRoutes f.epoch = true
  here    : f.mcast = true ∨ f.dstDev = (s.chart f.epoch).self

/-- A frame that a port in service takes from its link (R267, R274): no codeword failed, header and payload are good, and it is the next
of the link. -/
structure State.LinkTakes (s : State) (a : Arrival) (f : Frame) : Prop where
  port    : a.port < 16
  up      : s.portUp a.port = true
  whole   : a.uncorrected = 0
  header  : headerGood f = true
  payload : payloadGood f = true
  next    : a.linkSeq = (s.port a.port).expLink

/-- A sequenced frame that is also the next of its flow and of a good form (R272, R278). -/
structure State.Accepts (s : State) (f : Frame) (op : Nat) : Prop where
  receives : s.Receives f op
  inOrder  : (s.rxFlow (recvKey f)).check f.seq = .accept
  formed   : wellFormedHeader f = true

/-- The state that takes an accepted frame: its flow expects the next one and is of the frame's slice. -/
def State.expecting (s : State) (f : Frame) : State :=
  s.setRxFlow { s.rxFlow (recvKey f) with expected := nextSeq f.seq, slice := f.slice }

/-- Command `c`, the arrival of a sequenced frame, completes with its own effect: accepted, and with the condition `ok`, the effect is
performed and the frame is noted for acknowledgement (R278, R279). -/
def FrameCompletes (c : Instr) (s : State) (f : Frame) (op : Nat) (ok : State → Prop) (effect : State → State) : Prop :=
  s.Accepts f op → ok (s.expecting f) → exec c s = .next ((effect (s.expecting f)).noteAccepted (recvKey f)).afterFirst

/-- A CONTRIB that a live context takes (R309–R313, R318): of its slice, from a member other than late ones, whole, and within its chunk;
`d` says whether it is of the present instance or of the next. -/
structure State.TakesContrib (u : State) (f : Frame) (d : Nat) : Prop where
  live    : u.ctxLive (frameCtx f) = true
  slice   : f.slice = u.ctxSlice (frameCtx f)
  reduces : (u.ctx (frameCtx f)).reduces = true
  sender  : (u.ctx (frameCtx f)).sender f = true
  single  : f.mcast = false
  length  : 0 < f.len ∧ f.len ≤ 4096
  whole   : if (u.ctx (frameCtx f)).comp = 0 then f.len * 8 % (u.ctx (frameCtx f)).cF.storeBits = 0
    else f.len % (u.ctx (frameCtx f)).recordLen = 0 ∧ f.addr % 4096 = 0
  chunk   : f.addr + (u.ctx (frameCtx f)).payloadElems f.payload ≤ (u.ctx (frameCtx f)).count
  inst    : u.instanceOf (frameCtx f) f = some d
  timely  : d = 0 → ((u.ctx (frameCtx f)).member (frameRank f)).late = false ∧
    ¬ ((u.ctx (frameCtx f)).closed = true ∧ u.ctxState (frameCtx f) = 3)

/-- A RESULT that a live context takes (R314, R315): of its slice, from another member that owns what it brings, whole, and in range. -/
structure State.TakesResult (u : State) (f : Frame) (d : Nat) : Prop where
  live   : u.ctxLive (frameCtx f) = true
  slice  : f.slice = u.ctxSlice (frameCtx f)
  gives  : (u.ctx (frameCtx f)).op ≠ 0
  sender : (u.ctx (frameCtx f)).sender f = true
  root   : (u.ctx (frameCtx f)).op = 3 → frameRank f = (u.ctx (frameCtx f)).root
  other  : frameRank f ≠ (u.ctx (frameCtx f)).rank
  length : 0 < f.len ∧ f.len ≤ 4096
  whole  : f.len * 8 % (u.ctx (frameCtx f)).dF.storeBits = 0 ∧ f.addr * (u.ctx (frameCtx f)).dF.storeBits % 8 = 0
  range  : let c := u.ctx (frameCtx f)
    let base := if c.op = 3 then 0 else frameRank f * c.count
    base ≤ f.addr ∧ f.addr + f.len * 8 / c.dF.storeBits ≤ base + c.count
  inst   : u.instanceOf (frameCtx f) f = some d
  present : d = 0 → ((u.ctx (frameCtx f)).member (frameRank f)).absent = false

/-! ### Waypoints without watchers; requests refused; slots that take effect -/

/-- Nothing watches a Waypoint: no core waits on it or is ARMED on it, and no seal, step end, context or account uses it. -/
structure State.Unwatched (s : State) (wp : Nat) : Prop where
  waiters  : ∀ w ∈ s.waiters, w.wp ≠ wp
  sealing  : s.obj Obj.SEAL_WP ≠ wp
  ending   : s.obj Obj.END_WP ≠ wp
  ready    : s.obj Obj.READY_WP ≠ wp
  contexts : s.goContexts wp = []
  accounts : ∀ k < 8, s.stageActive k = true → s.obj (Obj.CHARGE_WP k) ≠ wp ∧ s.obj (Obj.FREE_WP k) ≠ wp

/-- A request refused with a code: noted as the code asks (R435, R438), answered with an ERROR of the code, and remembered (R431). -/
def State.declined (u : State) (q : HdpReq) (code : Nat) : State :=
  ((u.noteCode q code).answer (answerTo q 8 code 0 []) false).cache q (some (answerTo q 8 code 0 []))

/-- A request that names one object, with the command that brings it (Table 17-2). -/
def broughtBy (q : HdpReq) (c : Instr) : Prop :=
  q.typ = 0 ∧ c = .readExp q ∨ q.typ = 1 ∧ (∃ r, c = .objectWrite ⟨q, r, none, false⟩) ∨ q.typ = 2 ∧ c = .readSeg q ∨ q.typ = 3 ∧ c = .writeSeg q ∨
    q.typ = 5 ∧ c = .subscribe q ∨ q.typ = 6 ∧ c = .unsubscribe q

/-- The access kind that a request needs of its object: an object of segmented transfers, one of expedited messages, or either. -/
def askKind (q : HdpReq) : Option Bool := if q.typ ≤ 1 then some false else if q.typ ≤ 3 then some true else none

/-- Command `c` brings a request of one object that firmware hears; no read that the very same message opened stands unserved. -/
structure State.Asks (s : State) (c : Instr) (q : HdpReq) : Prop extends State.Hears s q where
  brings : broughtBy q c
  first  : (s.heard q).readOpened q = none

/-- A bundle's slots with 0, the word of a NOP, in place of those whose predicate keeps them from taking effect. -/
def Slots.effective (b : Slots) (c : Core) : Slots :=
  let keep (w : Nat) : Nat := if c.takes w then w else 0
  { scalar := keep b.scalar, load := keep b.load, store := keep b.store, matrix := keep b.matrix, vector := keep b.vector,
    sync := keep b.sync }

/-- The bundle at a running core's pc is in its instruction cache and meets nothing that keeps it from issuing. -/
structure State.Issues (s : State) (core b : Nat) : Prop extends State.mayIssue s core b where
  real    : core < 104
  runs    : s.coreSt core = .running ∨ s.coreSt core = .waiting
  program : (s.core core).mode = 0
  layer   : (s.core core).layer = .none
  hold    : (s.core core).hold = .none
  cached  : ((s.core core).line (lineOf (s.core core).pc)).map (fun l => bundleIn l (s.core core).pc) = some b

/-- The operations of the scalar slot that write an address register (Table 5-4): the exact value for two sources, of which the register
takes 48 bits. -/
def scalarValue (w x y : Nat) : Option Int :=
  let imm := toSigned 21 (scImm w)
  let low6 := scImm w % 64
  match slotOp w with
  | 0x01 => some (x + y)
  | 0x02 => some (x + imm)
  | 0x03 => some (x - y)
  | 0x04 => some (x * 2 ^ low6)
  | 0x05 => some ((x / 2 ^ low6 : Nat) : Int)
  | 0x06 => some ((x &&& y : Nat) : Int)
  | 0x07 => some ((x ||| y : Nat) : Int)
  | 0x08 => some ((x ^^^ y : Nat) : Int)
  | 0x09 => some (x * imm)
  | 0x0A => some (x + y * imm)
  | 0x0B => some imm
  | 0x0C => some ((x ||| scImm w * 2 ^ 21 : Nat) : Int)
  | 0x0D => some ((x ||| low6 * 2 ^ 42 : Nat) : Int)
  | 0x0E => some ((if x ≤ y then x else y : Nat) : Int)
  | 0x0F => some ((if x ≤ y then y else x : Nat) : Int)
  | _ => none

/-- The relations of CMP and CMPI by their code (Table 5-4): EQ, NE, LTU, LEU, GTU, GEU. -/
def scalarRelation (x y : Nat) : List Bool :=
  [decide (x = y), decide (x ≠ y), decide (x < y), decide (x ≤ y), decide (y < x), decide (y ≤ x)]

/-- The operations of the scalar slot that write a predicate (Table 5-4): CMP and CMPI relate two values, PLOG combines two predicates. -/
def scalarFlag (c : Core) (w x y : Nat) : Option Bool :=
  let p := c.pred (scS1 w % 8)
  let q := c.pred (scS2 w % 8)
  match slotOp w with
  | 0x10 => (scalarRelation x y)[scImm w % 8]?
  | 0x11 => (scalarRelation x (toSigned 18 (scImm w / 8) % 2 ^ 48).toNat)[scImm w % 8]?
  | 0x12 => [p && q, p || q, p != q, p && !q][scImm w % 4]?
  | _ => none

/-- A sequenced frame whole in its header that reaches its flow at this module: not fenced, by a Chart that routes, and for this module
(R270, R272, R285, R295). -/
structure State.ReachesFlow (s : State) (f : Frame) : Prop where
  header    : headerGood f = true
  sequenced : sequenced f.opcode = true
  open_     : s.fenced = false
  routes    : s.chartRoutes f.epoch = true
  here      : f.mcast = true ∨ f.dstDev = (s.chart f.epoch).self

/-- A run of counters that a key accepts, one after the other, from one state of its window to another. -/
inductive Accepted : RoleKey → List Nat → RoleKey → Prop where
  | nil (k : RoleKey) : Accepted k [] k
  | cons {k k' : RoleKey} {c : Nat} {l : List Nat} : k.accepts c = true → Accepted (k.take c) l k' → Accepted k (c :: l) k'

end Sys2Proof.Machine
end

