-- ==== Sys2Proof/Certificates/Slice0/Obligations.lean ====
section
/-! DEFINITION. The statements: what each command does, and what the module keeps. -/

open Sys2Proof Sys2Proof.Machine

/-- Writes of a core's objects complete (R121, R149, R156, R157, R159, R164, R166–R169): ARM of an idle core makes it ARMED, and it
launches at once or waits at its launch Waypoint, an operation of that Waypoint either way (DEDUCED, log entry 80); RESET of a core
neither OFF nor FENCED clears it and leaves it IDLE; PROG_GEN of an idle core takes the value and empties the instruction lines;
LYR_WRITE fills a register, and LYR_START runs the registers, of an idle core in LAYERS mode; SEAL_THRESH takes a value while the flag is
unsealed. -/
def Obligations.CoreWritesComplete : Prop :=
  ∀ (s : State) (h : Hdr) (core : Nat), core < 104 →
    WriteCompletes (.arm ⟨h, false⟩ core) s h (Obj.CORE_CTRL core) 1
      (fun u => u.mayArm core ∧ u.launchAns core = .satisfied)
      (fun u => ((u.armedCore core).tookWait (u.obj (Obj.LAUNCH_WP core))).launchCore core) ∧
    WriteCompletes (.arm ⟨h, false⟩ core) s h (Obj.CORE_CTRL core) 1
      (fun u => u.mayArm core ∧ u.launchAns core = .held)
      (fun u => ((u.armedCore core).tookWait (u.obj (Obj.LAUNCH_WP core))).addWaiter core (u.obj (Obj.LAUNCH_WP core))
        ((u.armedCore core).obj (Obj.LAUNCH_THRESH core)) .launch) ∧
    WriteCompletes (.reset ⟨h, false⟩ core) s h (Obj.CORE_CTRL core) 2 (fun u => u.coreSt core ≠ .off ∧ u.coreSt core ≠ .fenced)
      (fun u => (u.coreReset core).setCoreSt core .idle) ∧
    (∀ gen < 2 ^ 32, WriteCompletes (.progGen ⟨h, false⟩ core gen) s h (Obj.PROG_GEN core) gen (fun u => u.coreSt core = .idle)
      (fun u => (u.setObj (Obj.PROG_GEN core) gen).setCore core { u.core core with icache := [], demand := none, ahead := [] })) ∧
    (∀ reg < 64, ∀ v < 2 ^ 64, WriteCompletes (.lyrWrite h core reg v) s h (Obj.LYR core reg) v
      (fun u => u.coreSt core = .idle ∧ u.obj (Obj.CORE_MODE core) = 1) (fun u => u.setLyr core reg v)) ∧
    WriteCompletes (.lyrStart ⟨h, false⟩ core) s h (Obj.LYR_START core) 1 (fun u => u.coreSt core = .idle ∧ u.obj (Obj.CORE_MODE core) = 1 ∧
        u.layerGood core) (fun u => u.startLayer core) ∧
    (∀ v < 2 ^ 64, WriteCompletes (.sealThresh h v) s h Obj.SEAL_THRESH v (fun u => bit (u.obj Obj.STEP_NF) 1 = false)
      (fun u => (u.setObj Obj.SEAL_THRESH v).sealTest))

/-- Writes of ports and Charts complete (R282, R284, R286, R296, R300, R302): PORT_DISABLE takes the port out of service and PORT_ENABLE
starts its training; PORT_RETRAIN_CMD retrains a port that is not OFF (one that is OFF refuses it, the model's choice, log entry 85);
LANE_SWAP puts the free spare in place of the lane named; CHART_BEGIN empties a CLOSED Chart, CHART_LOAD fills a LOADING one, CHART_SEAL
seals it; SWITCH and SWITCH_CLOSE of a SEALED Chart switch at once or at the time set, which the command takes from CHART_SWITCH_AT (the
model's choice, log entry 88); CHART_ABORT closes a Chart not yet active. -/
def Obligations.FabricWritesComplete : Prop :=
  ∀ (s : State) (h : Hdr),
    (∀ p < 16,
      WriteCompletes (.portDisable h p) s h (Obj.PORT_CTRL p) 0 (fun _ => True)
        (fun u => (if u.obj (Obj.PORT_STATE p) = 0 then u else u.portOut p 0).setObj (Obj.PORT_CTRL p) 0) ∧
      WriteCompletes (.portEnable h p) s h (Obj.PORT_CTRL p) 1 (fun _ => True)
        (fun u => (if u.obj (Obj.PORT_STATE p) = 0 then (u.setPortState p 1).setPort p { u.port p with trainAt := u.now } else u).setObj
          (Obj.PORT_CTRL p) 1) ∧
      WriteCompletes (.portRetrainCmd h p) s h (Obj.PORT_CTRL p) 2 (fun u => u.obj (Obj.PORT_STATE p) ≠ 0)
        (fun u => (if u.obj (Obj.PORT_STATE p) = 2 then u.portOut p 3 else (u.setPortState p 3).setPort p { u.port p with trainAt := u.now }).setObj
          (Obj.PORT_CTRL p) 2) ∧
      WriteCompletes (.laneSwap h p) s h (Obj.PORT_CTRL p) 3 (fun u => u.obj (Obj.PORT_STATE p) = 2 ∧ u.spareFree p = true)
        (fun u => ((u.takeSpare p (u.obj (Obj.PORT_CTRL_LANE p))).portOut p 5).setObj (Obj.PORT_CTRL p) 3)) ∧
    WriteCompletes (.chartBegin h) s h Obj.CHART_CTRL 1 (fun u => u.chartState u.chartSel = 0)
      (fun u => (({ u with
          txFlows := u.txFlows.filter (fun x => x.key.epoch != u.chartSel)
          rxFlows := u.rxFlows.filter (fun x => x.key.epoch != u.chartSel) } : State).setChart u.chartSel
            { u.chart u.chartSel with entries := [] }).setChartState u.chartSel 1) ∧
    (∀ first words, first + words.length ≤ 16384 → (∀ w ∈ words, w < 2 ^ 64) → first < 2 ^ 16 →
      BlobCompletes (.chartLoad h (.entries first words)) s h Obj.CHART_LOAD (leBytes 2 first ++ (words.map (leBytes 8)).flatten)
        (fun u => u.chartState u.chartSel = 1)
        (fun u => u.setChart u.chartSel { u.chart u.chartSel with
          entries := Sparse.setRun entryReset (u.chart u.chartSel).entries first (words.map (fun w => w &&& entryMask)) })) ∧
    (∀ dev < 16384, WriteCompletes (.chartLoad h (.self dev)) s h Obj.CHART_SELF dev (fun u => u.chartState u.chartSel = 1)
      (fun u => u.setChart u.chartSel { u.chart u.chartSel with self := dev })) ∧
    WriteCompletes (.chartSeal h) s h Obj.CHART_CTRL 2 (fun u => u.chartState u.chartSel = 1)
      (fun u => (u.setObj Obj.CHART_DIGEST
          (if u.chartSel = 0 then u.obj Obj.CHART_DIGEST / 2 ^ 256 * 2 ^ 256 + (u.chart u.chartSel).digest
            else u.obj Obj.CHART_DIGEST % 2 ^ 256 + (u.chart u.chartSel).digest * 2 ^ 256)).setChartState u.chartSel 2) ∧
    WriteCompletes (.switch h) s h Obj.CHART_CTRL 3 (fun u => u.chartState u.chartSel = 2 ∧ u.switchAt = none)
      (fun u =>
        let w : PendSwitch := { chart := u.chartSel, close := false, time := u.obj Obj.CHART_SWITCH_AT }
        if w.time ≤ u.chr then u.performSwitch w else { u with switchAt := some w }) ∧
    WriteCompletes (.switchClose h) s h Obj.CHART_CTRL 4 (fun u => u.chartState u.chartSel = 2 ∧ u.switchAt = none)
      (fun u =>
        let w : PendSwitch := { chart := u.chartSel, close := true, time := u.obj Obj.CHART_SWITCH_AT }
        if w.time ≤ u.chr then u.performSwitch w else { u with switchAt := some w }) ∧
    WriteCompletes (.chartAbort h) s h Obj.CHART_CTRL 5 (fun u => u.chartState u.chartSel = 1 ∨ u.chartState u.chartSel = 2)
      (fun u => ({ u with switchAt := u.switchAt.filter (fun w => w.chart != u.chartSel) } : State).setChartState u.chartSel 0)

/-- Writes of the memory system, the Waypoints and the Chronometer complete (R231, R232, R237, R256, R261): SXT_RUN starts a Sextant
while no slice holds cores and SXT_ABORT ends it; GROUP_SLICE gives a group that no core waits on to a slice, cleared; CHR_SET sets the
count of a ROOT while no slice holds cores; CHR_PARENT_PORT names the parent, as a persisted object. -/
def Obligations.ServiceWritesComplete : Prop :=
  ∀ (s : State) (h : Hdr),
    WriteCompletes (.sxtRun h) s h Obj.SXT_CTRL 1 (fun u => u.noSliceHoldsCores = true ∧ u.sextant = none)
      (fun u => (({ u with
          sextant := some { target := u.obj Obj.SXT_TARGET, axis := u.obj Obj.SXT_AXIS, full := u.obj Obj.SXT_MODE == 1, since := u.now } } :
            State).setStacks (u.obj Obj.SXT_TARGET) 3).setObj Obj.SXT_STATE 1) ∧
    (∀ x, WriteCompletes (.sxtAbort h) s h Obj.SXT_CTRL 2 (fun u => u.sextant = some x)
      (fun u => ((({ u with sextant := none } : State).setStacks x.target 2).setObj Obj.SXT_STATE 3).releaseHeld)) ∧
    (∀ group < 256, ∀ slice, slice < 2 ^ 12 ∨ slice = 0xFFFF →
      WriteCompletes (.groupSlice h group slice) s h (Obj.GROUP_SLICE group) slice (fun u => u.groupWaited group = false)
        (fun u => (u.setObj (Obj.GROUP_SLICE group) slice).clearGroup group)) ∧
    (∀ v < 2 ^ 64, WriteCompletes (.chrSet h v) s h Obj.CHR_SET v (fun u => u.chrState = 4 ∧ u.noSliceHoldsCores = true)
      (fun u => ({ u with chr := v } : State).count 32 Obj.CHR_STEPS 1)) ∧
    (∀ v, chrPortValue v = true → WriteCompletes (.chrParentPort h v) s h Obj.CHR_PARENT_PORT v (fun _ => True)
      (fun u =>
        let w := u.setObj Obj.CHR_PARENT_PORT v
        (if v = 0xFF then w.chrMove 4
        else if v = 0xFE ∨ u.obj Obj.CHR_PARENT_PORT = 0xFF ∨ u.obj Obj.CHR_PARENT_PORT = 0xFE then
          ({ w with chrU := { w.chrU with sent := none, good := 0 } } : State).chrMove 0
        else { w with chrU := { w.chrU with sent := none } }).journalled))

/-- Writes of a job's objects complete (R306, R309, R325, R328–R330, R338, R339, R355, R356, R358–R360): CTX_ARM arms an IDLE context
with a descriptor of an owned address, whose owner is the context's slice (the model's choice, log entry 89), and DISARM frees one that
is ARMED or in ERROR; STAGE_ENABLE and STAGE_DISABLE; STEP_BEGIN, END_JOB, RESTORE and STANDBY move the step state machine; MODULE_FENCE
fences the module, RELEASE lifts the fence while FENCE_N is released, and FENCE_REQ_DEV logs and announces the device that is to be
fenced. -/
def Obligations.JobWritesComplete : Prop :=
  ∀ (s : State) (h : Hdr),
    (∀ n < 128,
      (∀ a < 0xC000000000, a % 128 = 0 → WriteCompletes (.ctxArm h n a) s h (Obj.CTX_ARM n) a
        (fun u => u.ctxState n = 0 ∧ u.ownerOf a ≠ 0xFFFF) (fun u => u.ctxArm n a (u.ownerOf a) none)) ∧
      WriteCompletes (.disarm h n) s h (Obj.CTX_CTRL n) 1 (fun u => u.ctxState n = 1 ∨ u.ctxState n = 5) (fun u => u.ctxIdle n)) ∧
    (∀ k < 8,
      WriteCompletes (.stageEnable h k) s h (Obj.STG_CTRL k) 1 (fun u => u.stageActive k = false ∧ u.stageCode k = 0)
        (fun u => u.setObjs [(Obj.STG_STATE k, 1), (Obj.ACT_HIGH k, 0), (Obj.ACT_STATUS k, 0)]) ∧
      WriteCompletes (.stageDisable h k) s h (Obj.STG_CTRL k) 2 (fun u => u.stageActive k = true)
        (fun u => u.setObj (Obj.STG_STATE k) 0)) ∧
    WriteCompletes (.stepBegin h) s h Obj.STEP_CTRL 1 (fun u => u.stepSt = 0 ∧ u.beginGood = true)
      (fun u =>
        let w := u.setObjs [(Obj.STEP_NUM, u.obj Obj.STEP_FIRST), (Obj.STEP_ATTEMPT, 0)]
        ({ w with fixU := { w.fixU with firstAfterBegin := true } } : State).freshWake.stepEntry 0) ∧
    WriteCompletes (.endJob h) s h Obj.STEP_CTRL 2 (fun u => u.stepSt ≠ 8) (fun u => u.leaveJob) ∧
    WriteCompletes (.restore h) s h Obj.STEP_CTRL 3 (fun u => u.stepSt = 1)
      (fun u => (({ u with stepU := { u.stepU with spare := true, kept := [], rolled := false } } : State).setObj
        Obj.WAKE_STATE 3).startRestore) ∧
    WriteCompletes (.standby h) s h Obj.STEP_CTRL 4 (fun u => u.stepSt = 0)
      (fun u => ({ u with stepU := { u.stepU with standby := u.selfId } } : State).setStepSt 1) ∧
    WriteCompletes (.moduleFence h) s h Obj.FENCE_CTRL 1 (fun u => u.obj Obj.FENCE_STATE = 0) (fun u => u.fenceModule 1 0) ∧
    WriteCompletes (.release h) s h Obj.FENCE_CTRL 2 (fun u => u.obj Obj.FENCE_STATE ≠ 0 ∧ u.power.fencePin = false)
      (fun u => u.liftFence) ∧
    (∀ dev, dev < 2 ^ 14 ∨ dev = 0xFFFF → WriteCompletes (.fenceReqDev h dev) s h Obj.FENCE_REQ_DEV dev (fun _ => True)
      (fun u => { (u.setObj Obj.FENCE_REQ_DEV dev).logEvent .fenceRequest 0 (srcCode 0 0) u.stepSlice dev with
        beaconDue := u.beaconDue || u.obj Obj.FENCE_REQ_DEV != dev }))

/-- Writes of FIX_CTRL, FIX_SVC and FIX_DRAINED_SLOTS complete (R367, R372, R373, R378–R381, R383, R384): ARM arms a Fix unless one of
its checks refuses it; ABANDON discards one that is ARMED or under way, with cause 5; drained slots rise and let a commit that waits for
a free slot (the model's choice, log entry 100) go on; FIX_APPLY of a good commit record, REBUILD of a member's position from the Fix
last committed and the two decisions of an unresolved Fix begin or are done. -/
def Obligations.FixWritesComplete : Prop :=
  ∀ (s : State) (h : Hdr),
    WriteCompletes (.fixArm h) s h Obj.FIX_CTRL 1 (fun u => u.fixArmCode u.fixFull = 0) (fun u => u.armFix u.fixFull) ∧
    WriteCompletes (.abandon h) s h Obj.FIX_CTRL 2 (fun u => u.fixState = 1 ∨ u.fixState = 2)
      (fun u => (u.fixDiscard 5).sendPrepared 5) ∧
    (∀ v < 2 ^ 64, WriteCompletes (.fixDrainedSlots h v) s h Obj.FIX_DRAINED_SLOTS v (fun u => u.obj Obj.FIX_DRAINED_SLOTS ≤ v)
      (fun u =>
        let w := u.setObj Obj.FIX_DRAINED_SLOTS v
        (if w.fixU.commitDue then w.fixCommit else w).post .fixTest)) ∧
    WriteCompletes (.fixApply h) s h Obj.FIX_SVC 1
      (fun u =>
        let a := u.obj Obj.FIX_APPLY_ADDR
        let r := leNat (u.bytes (u.home a) 128)
        let w := u.noteRead 3 (u.home a) (128 + bits r 191 128)
        u.obj Obj.STEP_STATE = 0 ∧ u.fixState = 0 ∧ u.rangeMapped a 128 = true ∧ u.rangeMapped a (128 + bits r 191 128) = true ∧
          bits r 575 320 = shake256 (w.applyStream a) ∧ bits r 291 278 = w.selfId ∧
          (bit r 264 = true ∨ (bits r 31 0 = w.obj Obj.FIX_LAST_ID + 1 ∧ bits r 63 32 = w.obj Obj.FIX_BASE_ID)))
      (fun u =>
        let a := u.obj Obj.FIX_APPLY_ADDR
        let w := u.noteRead 3 (u.home a) (128 + bits (leNat (u.bytes (u.home a) 128)) 191 128)
        ({ w with fixU := { w.fixU with apply := some a } } : State).setFixState 4) ∧
    (∀ (last : FixLast) (n : Nat), WriteCompletes (.rebuild h) s h Obj.FIX_SVC 2
      (fun u =>
        let pos := u.obj Obj.FIX_REBUILD_POS
        u.obj Obj.STEP_STATE = 0 ∧ u.fixState = 0 ∧ pos ≤ u.fixD ∧ u.fixU.last = some last ∧ last.id = u.obj Obj.FIX_LAST_ID ∧
          last.counts.find? (fun c => c.1 == pos) = some (pos, n))
      (fun u => u.startRebuild last (u.obj Obj.FIX_REBUILD_POS) n)) ∧
    WriteCompletes (.resolveCommit h) s h Obj.FIX_SVC 3 (fun u => u.fixState = 3) (fun u => u.fixCommit) ∧
    WriteCompletes (.resolveDiscard h) s h Obj.FIX_SVC 4 (fun u => u.fixState = 3) (fun u => u.fixDiscard 7)

/-- Writes of health, power and clock objects complete (R390, R395, R399, R405, R410, R413): a swap by the score's own choice or to a
named free Reserve enters the queue and takes its Reserve, and a swap not yet under way is taken back; SPARE_PRESSURE is kept with its
time and RETIRED_MAP with its journal entry; a domain is woken with all it depends on, put off where nothing needs it, and a stack put to
self-refresh; a clock cap is kept and asked of its die; RESTART follows its write. -/
def Obligations.HealthWritesComplete : Prop :=
  ∀ (s : State) (h : Hdr),
    (∀ core < 104,
      WriteCompletes (.rsvSwap h core 0x7F) s h Obj.RSV_SWAP (core + 0x7F00)
        (fun u => u.maySwap core = true ∧ (reservesOf (dieOfCore core)).any u.rsvFree = true)
        (fun u => (u.enterSwap core).findReserve core) ∧
      (∀ r ∈ reservesOf (dieOfCore core), WriteCompletes (.rsvSwap h core r) s h Obj.RSV_SWAP (core + r * 256)
        (fun u => u.maySwap core = true ∧ u.rsvFree r = true ∧ ∀ w, u.swapOf r = some w → u.needsFirst core w.core = true)
        (fun u => (u.enterSwap core).giveReserve core r)) ∧
      WriteCompletes (.rsvSwapCancel h core) s h Obj.RSV_SWAP (core + 0x8000)
        (fun u => u.health.swaps.any (fun w => w.core == core) = true) (fun u => u.cancelSwap core)) ∧
    (∀ v < 2 ^ 32, WriteCompletes (.sparePressure h v) s h Obj.SPARE_PRESSURE v (fun _ => True)
      (fun u => u.setObjs [(Obj.SPARE_PRESSURE, v), (Obj.SPARE_PRESSURE_AT, u.chr)])) ∧
    (∀ v < 2 ^ 128, BlobCompletes (.retiredMap h v) s h Obj.RETIRED_MAP (leBytes 16 v) (fun u => u.obj Obj.STEP_STATE = 0)
      (fun u => ({ u with health := { u.health with retiredLost := false } }.setObj Obj.RETIRED_MAP (v % 2 ^ 104)).journalled)) ∧
    (∀ d < 78,
      WriteCompletes (.pdOn h d) s h Obj.PD_CTRL (d + 0x100)
        (fun u => (d < 52 → u.pairSleeps d = false) ∧ u.pd d ≠ 4 ∧ u.staysOff = false) (fun u => u.wakeAll d) ∧
      WriteCompletes (.pdOff ⟨h, false⟩ d) s h Obj.PD_CTRL d
        (fun u => (d < 52 → u.pairSleeps d = false) ∧ u.pd d ≠ 4 ∧ u.mayGoOff d = true) (fun u => u.domainOff d)) ∧
    (∀ i < 12, WriteCompletes (.pdSelfRefresh h (52 + i)) s h Obj.PD_CTRL (52 + i + 0x200)
      (fun u => u.dieFree (dieOfDomain (52 + i)) = true ∧ u.pd (52 + i) ≠ 4 ∧ u.staysOff = false)
      (fun u => u.selfRefresh (52 + i))) ∧
    (∀ die < 2, ∀ v ≤ 4, WriteCompletes (.clkCap h die v) s h (Obj.CLK_CAP die) v (fun _ => True)
      (fun u => (u.setObj (Obj.CLK_CAP die) v).setRequest die 0 v)) ∧
    WriteCompletes (.restart h) s h Obj.POWER_CTRL 1 (fun u => u.power.epoPin = false ∧ u.obj Obj.EPO_STATE ≠ 0) (fun u => u.post .restart)

/-- Clearing writes of the status words complete (R55, R90, R234, R302, R332, R362, R400, R414, R436): the bits of the mask go to 0 and
the others stay as they are; ALERT_SUMMARY then shows again every bit whose source still holds. Of the bits that the mask clears, those
that the hardware sets in the same cycle are set again, with the counters that the word has: set wins. That a set falls into the clearing
cycle is an operand of the command (the model's choice, log 63). -/
def Obligations.ClearWritesComplete : Prop :=
  ∀ (s : State) (h : Hdr) (sets : Nat), ∀ mask < 2 ^ 32,
    (∀ n < 104, ClearCompletes (.arithFlagsClear h n ⟨mask, sets⟩) s h (Obj.ARITH_FLAGS n) ⟨mask, sets⟩
      (fun u => u.setObj (Obj.ARITH_FLAGS n) (clearMask (u.obj (Obj.ARITH_FLAGS n)) (mask % 8))) (fun t b => t.arithSets n b)) ∧
    (∀ n < 104, ClearCompletes (.chkStatusClear h n ⟨mask, sets⟩) s h (Obj.CHK_STATUS n) ⟨mask, sets⟩
      (fun u => u.setObj (Obj.CHK_STATUS n) (clearMask (u.obj (Obj.CHK_STATUS n)) mask)) (fun t b => t.chkSets n b)) ∧
    (∀ n < 12, ClearCompletes (.stackHealthClear h n ⟨mask, sets⟩) s h (Obj.STACK_HEALTH n) ⟨mask, sets⟩
      (fun u => u.setObj (Obj.STACK_HEALTH n) (clearMask (u.obj (Obj.STACK_HEALTH n)) mask)) (fun t b => t.stackSets n b)) ∧
    (∀ n < 8, ClearCompletes (.actStatusClear h n ⟨mask, sets⟩) s h (Obj.ACT_STATUS n) ⟨mask, sets⟩
      (fun u => u.setObj (Obj.ACT_STATUS n) (clearMask (u.obj (Obj.ACT_STATUS n)) mask)) (fun t b => t.actSets n b)) ∧
    (∀ n < 16, ClearCompletes (.portHealthClear h n ⟨mask, sets⟩) s h (Obj.PORT_HEALTH n) ⟨mask, sets⟩
      (fun u => u.setObj (Obj.PORT_HEALTH n) (clearMask (u.obj (Obj.PORT_HEALTH n)) mask)) (fun t b => t.portSets n b)) ∧
    ClearCompletes (.stepStatusClear h ⟨mask, sets⟩) s h Obj.STEP_STATUS ⟨mask, sets⟩
      (fun u => u.setObj Obj.STEP_STATUS (clearMask (u.obj Obj.STEP_STATUS) mask)) (fun t b => t.stepStatus (b % 1024)) ∧
    ClearCompletes (.healthClear h ⟨mask, sets⟩) s h Obj.MODULE_HEALTH ⟨mask, sets⟩
      (fun u => u.setObj Obj.MODULE_HEALTH (clearMask (u.obj Obj.MODULE_HEALTH) mask)) (fun t b => t.moduleHealth (b % 4096)) ∧
    ClearCompletes (.pwrStatusClear h ⟨mask, sets⟩) s h Obj.PWR_STATUS ⟨mask, sets⟩
      (fun u => u.setObj Obj.PWR_STATUS (clearMask (u.obj Obj.PWR_STATUS) mask)) (fun t b => t.pwrStatus (b % 256)) ∧
    ClearCompletes (.mgmtStatusClear h ⟨mask, sets⟩) s h Obj.MGMT_STATUS ⟨mask, sets⟩
      (fun u => u.setObj Obj.MGMT_STATUS (clearMask (u.obj Obj.MGMT_STATUS) mask)) (fun t b => t.mgmtStatus (b % 64)) ∧
    ClearCompletes (.alertSummaryClear h ⟨mask, sets⟩) s h Obj.ALERT_SUMMARY ⟨mask, sets⟩
      (fun u => u.setObj Obj.ALERT_SUMMARY (clearMask (u.obj Obj.ALERT_SUMMARY) mask ||| u.alertSources)) (fun t b => t.alert (b % 64))

/-- Writes of slices, defaults, connections, host ports and keys complete (R430, R450, R451, R453, R454, R464, R472): ASSIGN of a good
FREE slot and RELEASE of one that nothing uses, each after a swap that is due (R453); the request for a defaults restore and its
withdrawal; QP OPEN of a CLOSED connection of an assigned slot with good values and QP CLOSE; HOST_PORT_CTRL 0 and 1; a role key, in
force after the answer. -/
def Obligations.SliceWritesComplete : Prop :=
  ∀ (s : State) (h : Hdr),
    (∀ n < 8,
      WriteCompletes (.assign h n) s h (Obj.SLICE_CTRL n) 1
        (fun u =>
          let w := if u.swapDue then u.performSwaps else u
          w.slotAssigned n = false ∧ w.sliceValues n = true ∧ w.sliceCoresFree n = true ∧ w.chrU.everSync = true)
        (fun u => (if u.swapDue then u.performSwaps else u).setObj (Obj.SLICE_STATE n) 1) ∧
      WriteCompletes (.sliceRelease h n) s h (Obj.SLICE_CTRL n) 2
        (fun u =>
          let w := if u.swapDue then u.performSwaps else u
          w.slotAssigned n = true ∧ w.sliceBusy n = false)
        (fun u => (if u.swapDue then u.performSwaps else u).freeSlice n)) ∧
    WriteCompletes (.dictDefaults h) s h Obj.DICT_DEFAULTS 1 (fun u => u.obj Obj.STEP_STATE = 0)
      (fun u => u.setObj Obj.DICT_DEFAULTS_PENDING 1) ∧
    WriteCompletes (.dictDefaultsCancel h) s h Obj.DICT_DEFAULTS 2 (fun u => u.obj Obj.DICT_DEFAULTS_PENDING ≠ 0)
      (fun u => u.setObj Obj.DICT_DEFAULTS_PENDING 0) ∧
    (∀ k < 240,
      WriteCompletes (.qpOpen h k) s h (Obj.QP_CTRL k) 1
        (fun u => u.obj (Obj.QP_STATE k) = 0 ∧ u.obj (Obj.QP_SLICE_SLOT k) < 8 ∧ u.slotAssigned (u.obj (Obj.QP_SLICE_SLOT k)) = true ∧
          ((u.progRange k).2 = 0 ∨ ((u.progRange k).1 + (u.progRange k).2 ≤ 0xC000000000 ∧
            u.hbmOwnedBy (u.connSlice k) (u.progRange k).1 (u.progRange k).2 = true)) ∧
          3 ≤ u.mtuCode k ∧ u.mtuCode k ≤ 5 ∧ 1 ≤ u.rdAtomic k ∧ u.rdAtomic k ≤ 16)
        (fun u =>
          let c := { u.conn k with rate := hostRate, cnpSent := none, cnpAt := u.now, unbind := false, replays := [] }
          (u.setConn k { c with expPsn := bits (u.obj (Obj.QP_REMOTE k)) 215 192 }).setObj
          (Obj.QP_STATE k) 1) ∧
      WriteCompletes (.qpClose h k) s h (Obj.QP_CTRL k) 2 (fun _ => True)
        (fun u => (u.setConn k { (u.hushConn k).conn k with unbind := false }).setObj (Obj.QP_STATE k) 0)) ∧
    (∀ p < 4,
      WriteCompletes (.hostPortCtrl h p 0) s h (Obj.HOST_PORT_CTRL p) 0 (fun _ => True)
        (fun u => u.setObjs [(Obj.HOST_PORT_CTRL p, 0), (Obj.HOST_PORT_STATE p, 0)]) ∧
      WriteCompletes (.hostPortCtrl h p 1) s h (Obj.HOST_PORT_CTRL p) 1 (fun _ => True)
        (fun u => if u.obj (Obj.HOST_PORT_STATE p) = 0 ∧ u.pd 68 = 2 then
          u.setObjs [(Obj.HOST_PORT_CTRL p, 1), (Obj.HOST_PORT_STATE p, 1)] else u.setObj (Obj.HOST_PORT_CTRL p) 1)) ∧
    (∀ role < 3, ∀ l : List Byte, l.length = 32 → BlobCompletes (.keyWrite h role l) s h (Obj.KEY_OBSERVER + role) l
      (fun u => role = 2 → u.obj Obj.STEP_STATE < 2 ∨ 7 < u.obj Obj.STEP_STATE)
      (fun u =>
        let w : State := { u.count 32 Obj.KEY_CHANGES 1 with hmu := { u.hmu with keyDue := some (role, l) } }
        if role = 2 then w else w.flashWrite))

/-- Writes of the service, firmware, record, attestation and test objects complete (R474–R476, R481–R483, R485): BEGIN takes in a new
image and CHUNK the next 2,048 bytes of it; VERIFY shows the digest and checks the image; COMMIT erases and programs, and its last step
follows; ACTIVATE restarts an idle module and CANCEL drops the image; a record is taken in by its 256-byte halves and APPLY writes it and
puts it into force; ATT_CTRL builds a report; BIST_CTRL begins a run on cores that are OFF or IDLE and in no slice. -/
def Obligations.ServiceRecordWritesComplete : Prop :=
  ∀ (s : State) (h : Hdr),
    WriteCompletes (.fwBegin h) s h Obj.FW_CTRL 1 (fun u => u.fwState = 0 ∨ u.fwState = 4 ∨ u.fwState = 5 ∨ u.fwState = 6)
      (fun u => { u with fw := { u.fw with staging := [] } }.setObjs [(Obj.FW_OFFSET, 0), (Obj.FW_STAGED_DIGEST, 0), (Obj.FW_STATE, 1)]) ∧
    (∀ l : List Byte, l.length = 2048 → BlobCompletes (.fwChunk h l) s h Obj.FW_CHUNK l
      (fun u => u.fwState = 1 ∧ u.obj Obj.FW_OFFSET + 2048 ≤ 6291456)
      (fun u =>
        let staging := Sparse.set (fun _ => List.replicate 2048 0#8) u.fw.staging (u.obj Obj.FW_OFFSET / 2048) l
        { u with fw := { u.fw with staging } }.setObj Obj.FW_OFFSET (u.obj Obj.FW_OFFSET + 2048))) ∧
    WriteCompletes (.verify h) s h Obj.FW_CTRL 2 (fun u => u.fwState = 1)
      (fun u =>
        let b := u.stagedBytes
        let w := u.setObj Obj.FW_STAGED_DIGEST (if imageLength b ≤ 6291200 then leNat (imageDigest b) else 0)
        if w.imageGood b then w.setObj Obj.FW_STATE 2 else w.setObjs [(Obj.FW_STATE, 5), (Obj.FW_LAST_ERROR, 0x080A)]) ∧
    WriteCompletes (.fwCommit h) s h Obj.FW_CTRL 3 (fun u => u.fwState = 2)
      (fun u => { u with fw := { u.fw with flash := .torn } }.setObj Obj.FW_STATE 3) ∧
    WriteCompletes (.activate h) s h Obj.FW_CTRL 4
      (fun u => u.fwState = 4 ∧ u.noSliceHoldsCores = true ∧ u.obj Obj.STEP_STATE = 0) (fun u => u.post .restart) ∧
    WriteCompletes (.cancel h) s h Obj.FW_CTRL 5 (fun u => u.fwState = 1 ∨ u.fwState = 2) (fun u => u.setObj Obj.FW_STATE 0) ∧
    WriteCompletes (.cfgBegin h) s h Obj.CFG_CTRL 1 (fun _ => True)
      (fun u => { u with fw := { u.fw with buffer := List.replicate 512 0#8 } }.setObj Obj.CFG_OFFSET 0) ∧
    (∀ l : List Byte, l.length = 256 → BlobCompletes (.cfgChunk h l) s h Obj.CFG_CHUNK l (fun _ => True)
      (fun u =>
        let buffer := u.fw.buffer.take (u.obj Obj.CFG_OFFSET) ++ l ++ u.fw.buffer.drop (u.obj Obj.CFG_OFFSET + 256)
        { u with fw := { u.fw with buffer } })) ∧
    WriteCompletes (.cfgApply h) s h Obj.CFG_CTRL 2
      (fun u => u.recordGood u.fw.buffer = true ∧ (u.fw.inForce = true → u.obj Obj.CFG_SEQ < recordSeq u.fw.buffer) ∧
        u.obj Obj.PUF_STATUS ≠ 2)
      (fun u =>
        let r := u.fw.buffer
        let fw := if u.recordChoice = some true then { u.fw with copy1 := r } else { u.fw with copy0 := r }
        (({ u with fw, hmu := { u.hmu with keyDue := some (3, u.unwrap r) } } : State).showRecord r).flashWrite) ∧
    WriteCompletes (.attGenerate h) s h Obj.ATT_CTRL 1 (fun u => u.obj Obj.PUF_STATUS ≠ 2 ∧ u.obj Obj.ATT_STATE ≠ 1)
      (fun u => { u with fw := { u.fw with report := u.reportBytes } }.setObj Obj.ATT_STATE 1) ∧
    WriteCompletes (.bistRun h) s h Obj.BIST_CTRL 1
      (fun u => u.obj Obj.BIST_STATE ≠ 1 ∧
        ∀ n ∈ u.bistTargets, (u.coreSt n = .idle ∨ u.coreSt n = .off) ∧ (u.slotOfCore n).isNone = true)
      (fun u =>
        (u.bistTargets.foldl (fun (t : State) n => t.setCoreSt n .off)
          { u with fw := { u.fw with bist := u.bistTargets.map (fun n => (n, (u.coreSt n).code)) } }).setObj Obj.BIST_STATE 1)

/-- Commands of a core's issue complete (R128, R129, R132, R140, R141, R146, R147, R150, R151, R153, R154, R247, R249): a bundle that
meets nothing in its way issues; a loaded value reaches its register; the line that issue waits for enters the cache where its generation
is the program's; and the oldest entry of the release buffer is performed when all before it is done and none of the module's own writes
is held: the ADD or SET of a Waypoint, an ADD of another module's, a timed ADD, and DONE. -/
def Obligations.IssueCompletes : Prop :=
  ∀ s : State, ∀ core < 104,
    (∀ b, (s.coreSt core = .running ∨ s.coreSt core = .waiting) → (s.core core).mode = 0 → (s.core core).layer = .none →
      (s.core core).hold = .none → ((s.core core).line (lineOf (s.core core).pc)).map (fun l => bundleIn l (s.core core).pc) = some b →
      s.mayIssue core b → exec (.bundleIssue core) s = .next ((s.tookSync core (Slots.of b).sync).issueBundle core (Slots.of b)).after) ∧
    (∀ d v n rest, (s.core core).lda = (d, v, n) :: rest →
      exec (.ldaWriteback core) s = .next (s.setCore core { (s.core core).setReg d v.toNat with lda := rest })) ∧
    (∀ line, (s.core core).demand = some line →
      let u := (s.noteRead 0 (line * 512) 512).noteRead 0 (line * 512 / 65536 * 65536) 64
      leNat (u.bytes (line * 512 / 65536 * 65536) 4) = u.obj (Obj.PROG_GEN core) →
      exec (.lineFill core) s =
        .next ((u.setCore core { s.core core with demand := none }).fillLine core line (u.obj (Obj.PROG_GEN core))).after) ∧
    (∀ e r, (s.core core).rel = e :: r → (s.core core).allBefore e.tag = true → s.frameWaits s.selfId = false →
      let out := s.setCore core { s.core core with rel := r }
      let slice := s.sliceOfCore core
      (∀ wp v, e.kind = .add wp v → exec (.releaseBufferPerform core) s =
        .next (out.post (.wp { asker := .core core 5, slice, wp, kind := .add v })).after) ∧
      (∀ wp v, e.kind = .set wp v → exec (.releaseBufferPerform core) s =
        .next (out.post (.wp { asker := .core core 5, slice, wp, kind := .set v })).after) ∧
      (∀ dev wp v, e.kind = .addRemote dev wp v → exec (.releaseBufferPerform core) s =
        .next ((out.setCore core { s.core core with rel := r, remote := (s.core core).remote + 1 }).inject (.remoteAdd core (s.core core).resets) none
          (remoteAddFrame core dev wp v (slice % 2 ^ 12))).after) ∧
      (∀ wp v t, e.kind = .addTimed wp v t → s.wpCode slice wp = 0 → s.timed.length < timedSlots →
        exec (.releaseBufferPerform core) s = .next (out.registerTimed { wp, value := v, time := t, slice }).after) ∧
      (∀ wp v, e.kind = .done wp v → s.wpCode slice wp = 0 →
        let idle := (out.setCore core { s.core core with rel := r, hold := .none, loops := [] }).setCoreSt core .idle
        exec (.releaseBufferPerform core) s =
          .next (if v = 0 then idle else idle.post (.wp { asker := .core core 5, slice, wp, kind := .add v })).after))

/-- Commands of the systolic array complete (R63–R68, R73, R74, R78, R84, R142, R189, R504): MCFG takes its 32 bytes as the pending
configuration, MWLD loads the shadow bank, its checksum weights become ready, MSTR streams through ready weights into a tile that has or
finds an accumulator half, MCLS passes the tile to the drain, DRAIN writes the oldest closed tile, and a requester refused for 32 cycles
is counted and takes the port. -/
def Obligations.ArrayCompletes : Prop :=
  ∀ s : State, ∀ core < 104,
    let c := s.core core
    let a := c.array
    (∀ op, c.matHead .mcfg = some op → op.off + 32 ≤ spSize → (MatCfg.ofBytes (s.spBytes core op.off 32)).2 = true →
      exec (.mcfg core) s = .next (((s.noteRead 0 (spBase core + op.off) 32).setCore core
        (c.matDone { a with pend := (MatCfg.ofBytes (s.spBytes core op.off 32)).1 })).progressed core).after) ∧
    (∀ op, c.matHead .mwld = some op → a.pend.opfmtOk = true → a.pend.arrOk = true → a.pend.loadEnd op.off ≤ spSize →
      (a.pend.bMx = true → a.pend.scaleEnd op.soff ≤ spSize) →
      exec (.mwld core) s = .next (((s.noteSpans 0 (a.pend.loadSpans (spBase core + op.off) (spBase core + op.soff))).setCore core
        (c.matDone { a with shadow := loadBank s core op a.pend a.shadow, fresh := true, ready := false })).progressed core).after) ∧
    (a.fresh = true → a.ready = false → exec (.checksumWeightsReady core) s =
      .next ((s.setCore core { c with array := { a with
        shadow := if a.shadow.undef then a.shadow else a.shadow.formed a.shadow.cfg, ready := true } }).progressed core)) ∧
    (∀ op, c.matHead .mstr = some op → a.canStream = true → streams op a.turned a.turned.openTile = true →
      exec (.mstr core) s = .next (s.streamStep core op a.turned a.turned.openTile).after) ∧
    (∀ op t, c.matHead .mcls = some op → a.tile = some t → exec (.mcls core) s =
      .next ((s.setCore core (c.matDone
        { a with tile := none, drain := a.drain ++ [{ tile := t, off := op.off, tag := op.tag }] })).progressed core)) ∧
    (∀ d rest errors, a.drain = d :: rest → drains d = true → exec (.drain core errors) s =
      .next ((((s.strikes errors).setCore core { c with array := { a with drain := rest } }).progressed core).drainTile core d).after) ∧
    (∀ r,
      let w := s.count 64 (if readsPort r then Obj.RD_PORT_WAIT_CYCLES core else Obj.WR_PORT_WAIT_CYCLES core) 32
      let w := if r = .vectorRead ∨ r = .vectorWrite then w.count 64 (Obj.PORT_WAIT_CYCLES core) 32 else w
      exec (.portStarvationOverride core r) s =
        .next (if (c.matHead .mstr).isSome then w.fresh.2.count 64 (Obj.BUBBLE_CYCLES core) (overrideBubbles r w.free) else w.fresh.2))

/-- Commands of a core's vector unit, layers, DMA engines and watchdogs complete (R100–R102, R121–R124, R163, R168–R170, R182–R184,
R193–R195, R203): a chain starts, a gated one goes on once the flag is sealed, and a chain that is done is counted and adds to its
Waypoint; a linked record is loaded and starts its layer; a layer that is done adds to its Waypoints; a DMA descriptor is performed and,
done, is counted; a watched core that makes no progress or runs too long is parked. -/
def Obligations.WorkCompletes : Prop :=
  ∀ s : State, ∀ core < 104,
    (∀ ch c, s.mayChain core ch c → exec (.chainStart core) s = .next ((s.setCore core c).runChain core ch).after) ∧
    (∀ ch, bit (s.obj Obj.STEP_NF) 1 = true → (s.core core).vec.gate = some ch →
      chainConflicts ((ChainDesc.of ch.desc).under (bit (s.obj Obj.STEP_NF) 0)) (s.core core).vec.running = false →
      exec (.gatedUpdate core) s = .next ((s.countFree 64 (Obj.GATE_WAIT_CYCLES core) 0).runChain core ch).after) ∧
    (bit (s.obj Obj.STEP_NF) 1 = true → (s.core core).vec.gate = none → (s.core core).layer = .gated →
      exec (.gatedUpdate core) s = .next ((s.countFree 64 (Obj.GATE_WAIT_CYCLES core) 0).performLayer core).after) ∧
    (∀ r rest, (s.core core).vec.running = r :: rest →
      let d := ChainDesc.of r.chain.desc
      let u := (s.setCore core { s.core core with vec := { (s.core core).vec with running := rest } }).progressed core
      let v := ((u.count 64 (Obj.CHAINS_DONE core) 1).count 64 (Obj.ELEM_CYCLES core) r.cycles).countFree 64 (Obj.PORT_WAIT_CYCLES core) 0
      let w := v.flagEvent core r.flags
      exec (.chainComplete core) s = .next (if d.doneEn then w.postCoreWp core d.doneWp (.add 1) else w).after) ∧
    (∀ a, (s.core core).layer = .loading a → s.rangeMapped a 512 = true → a < 0xC000000000 → s.sliceOfCore core ≠ 0xFFFF →
      s.hbmOwnedBy (s.sliceOfCore core) a 512 = true →
      let u := s.noteRead 0 a 512
      let w := (u.setRecord core (u.bytes a 512)).setObj (Obj.CUR_RECORD core) a
      let x := w.setCore core { w.core core with pc := a }
      x.layerGood core → exec (.recordLoad core) s = .next (x.startLayer core).after) ∧
    ((s.core core).layer = .worked 0 → s.writeWaits (.layer core) = false →
      let d := s.lyr core 3
      let u := if bit d 30 then s.postCoreWp core (s.lyRelWp core) (.add 1) else s
      exec (.layerComplete core) s = .next (((if bit d 14 then u.postCoreWp core (u.lyDoneWp core) (.add (bits d 63 32)) else u).post
        (.layerNext core)).after)) ∧
    (∀ e < 2,
      (∀ op rest errors, (s.core core).dmaQ e = op :: rest → ((DmaDesc.of op.desc).ord = true → (s.core core).dmaRun e = []) →
        (DmaDesc.of op.desc).ok = true →
        let d := DmaDesc.of op.desc
        let u := ((s.strikes errors).setCore core ((s.core core).setDma e rest ((s.core core).dmaRun e))).progressed core
        let r := u.doDma core (.dma core e op.tag) d
        u.firstFailure core (if d.rows = 0 then [] else d.ranges u core) = none → r.2.2.2 = 0 →
        exec (.dmaDescriptorStart core e errors) s = .next (r.1.setCore core ((r.1.core core).setDma e ((r.1.core core).dmaQ e)
          ((r.1.core core).dmaRun e ++ [{ op, bytes := r.2.1, flags := r.2.2.1 }]))).after) ∧
      (∀ r rest, (s.core core).dmaRun e = r :: rest → s.writeWaits (.dma core e r.op.tag) = false →
        let d := DmaDesc.of r.op.desc
        let u := (s.setCore core ((s.core core).setDma e ((s.core core).dmaQ e) rest)).progressed core
        let w := ((u.count 64 (if e = 0 then Obj.DMA0_DESCRIPTORS core else Obj.DMA1_DESCRIPTORS core) 1).count 64
          (Obj.DMA_BYTES core) r.bytes).flagEvent core r.flags
        exec (.dmaComplete core e) s = .next (if d.doneEn then w.postCoreWp core d.doneWp (.add 1) else w).after)) ∧
    (s.watched core = true →
      s.obj (Obj.WDOG_LIMIT core) ≤ (s.core core).wdog / 100 →
      exec (.progressWatchdog core) s = .next (s.faultNoAddr core 5 0x0805 0xFF).after) ∧
    (s.obj (Obj.RUN_LIMIT core) ≠ 0 → (s.coreSt core = .running ∨ s.coreSt core = .waiting) →
      s.obj (Obj.RUN_LIMIT core) ≤ s.now - (s.core core).launch →
      exec (.runWatchdog core) s = .next (s.faultNoAddr core 6 0x0805 0xFF).after)

/-- Commands of the memory's upkeep complete (R212–R214, R216–R218, R220–R222, R224–R226, R228–R233): a scrub read counts the error of
its burst and writes a correctable one back; a refresh is performed or postponed up to four times; refresh management of a bank that has
reached the initial threshold is counted, both record the blocking they end, and each lowers the bank's activation count (log 45); a
marked row group is remapped while no step runs; the stacks' temperatures are read and acted on; a page that writes wait for is copied
and the writes go on; a marked page is copied in the background; a Sextant run ends with its results, writes that waited for it go on,
the fields that its axis does not measure free (log 43). -/
def Obligations.UpkeepCompletes : Prop :=
  ∀ s : State,
    (∀ b < hbmBursts, ∀ errors, s.obj (Obj.STACK_STATE (decodeHbm (b * 32)).stack) ≠ 3 →
      let u := (s.strikes errors).noteError 3 b
      (∀ n, (s.strikes errors).errAt b = .correctable n → exec (.scrubRead b errors) s = .next (u.setErr b .none).after) ∧
      ((∀ n, (s.strikes errors).errAt b ≠ .correctable n) → exec (.scrubRead b errors) s = .next u.after)) ∧
    (∀ bank < hbmBanks, ∀ blocked acts,
      let u := blocked.foldl (State.blocked (stackOfBank bank)) s
      let n := Sparse.get (fun _ => 0) u.postponed bank
      let a := u.activated bank acts
      let put (p : Nat) : State := { u with postponed := Sparse.set (fun _ => 0) u.postponed bank p }
      exec (.refresh ⟨bank, blocked, acts⟩ false) s = .next ((put 0).setActs bank (a - Config.rfmRefresh)).after ∧
      exec (.refresh ⟨bank, blocked, acts⟩ true) s =
        .next ((put (min 4 (n + 1))).setActs bank (if n < 4 then a else a - Config.rfmRefresh)).after ∧
      (Config.rfmInitial ≤ a → exec (.refreshManagement ⟨bank, blocked, acts⟩) s =
        .next ((u.setActs bank (a - Config.rfmInitial)).count 64 (Obj.RFM_COUNT (stackOfBank bank)) 1).after) ∧
      (a < Config.rfmInitial → exec (.refreshManagement ⟨bank, blocked, acts⟩) s = .next (u.setActs bank a).after)) ∧
    (∀ g ∈ s.marked, g < hbmBanks * 4096 → s.obj Obj.STEP_STATE = 0 → exec (.rowRemap g) s = .next (s.remapGroup g).after) ∧
    (∀ readings,
      let u := ((readings.take 12).zipIdx).foldl (fun (t : State) r => t.readStack r.2 r.1) s
      let v := u.tempRequest 0 6 stackRows (u.hottestStack 0)
      let w := v.tempRequest 1 6 stackRows (v.hottestStack 1)
      exec (.stackTempRead readings) s =
        .next (if 1000 ≤ max (w.hottestStack 0) (w.hottestStack 1) then w.post (.selfFence 0x6C01) else w).after) ∧
    (∀ page t, s.held.any (fun w => w.page == page) = true → s.pageMarked page = true → s.obj Obj.CBW_ACTIVE = 1 →
      s.copyPage 0 page = some t → exec (.cbwCopy page) s = .next t.after) ∧
    (∀ page, s.held.any (fun w => w.page == page) = true → s.pageMarked page = false ∨ s.obj Obj.CBW_ACTIVE ≠ 1 →
      exec (.cbwCopy page) s = .next s.releaseHeld.after) ∧
    (∀ die < 2, ∀ page t, s.obj Obj.CBW_ACTIVE = 1 → s.firstMarked die = some page → 64 < s.stageRoom die - (s.staged die).length →
      s.copyPage 3 page = some t → exec (.backgroundCopy die) s = .next t.marksDone.after) ∧
    (∀ x margins, s.sextant = some x →
      let chs := sextantChannels x.target
      let unmeasured := if x.axis = 3 then 0 else Config.freeNat s.free
      let record := (chs.map (fun ch =>
        channelRecord margins unmeasured ch (s.obj Obj.HBM_RATE_ACTIVE) x.full x.axis (s.obj Obj.SXT_MIN_UI))).flatten
      exec (.sxtDone margins) s = .next (((({ s with sextant := none, free := s.free + 1 } : State).setStacks x.target 2).setObjs
        [(Obj.SXT_STATE, 2), (Obj.SXT_RESULT, leNat record)]).pendFailing x.full x.axis
          ((chs.map (fun ch => (List.range 68).map (marginOf margins ch))).flatten)).releaseHeld.after)

/-- Operations on Waypoints complete (R236, R237, R240–R243, R245, R247, R250): with nothing else set going, ADD, SET and an error
completion of an entry of the requester's slice are performed and whatever watches the entry is told; a core's WAIT passes or is held, an
operation of its Waypoint either way (DEDUCED, log entry 80); a timed ADD is registered where the table has room and waits for an entry
where it has none; the earliest is performed at its time and the waiting ones are admitted; a MARK and a CLEAR of a host are accepted. -/
def Obligations.WaypointsComplete : Prop :=
  ∀ s : State, ∀ wp < 16384,
    (∀ slice, s.posts = [] → s.wpCode slice wp = 0 →
      (∀ v < 2 ^ 64, exec (.waypointAdd slice wp v) s = .next ((s.performWp wp (.add v)).watchers wp).afterFirst) ∧
      (∀ v < 2 ^ 64, exec (.waypointSet slice wp v) s = .next ((s.performWp wp (.set v)).watchers wp).afterFirst) ∧
      (∀ c < 2 ^ 16, exec (.errorCompletion slice wp c) s = .next ((s.performWp wp (.error c)).watchers wp).afterFirst)) ∧
    (∀ core < 104, ∀ th < 2 ^ 64, s.coreSt core = .running → (s.core core).hold = .none →
      (s.waitAns (s.sliceOfCore core) wp th = .satisfied →
        let u := s.tookWait wp
        exec (.waypointWait core wp th) s = .next (u.setCore core { u.core core with hold := .woken }).after) ∧
      (s.waitAns (s.sliceOfCore core) wp th = .held →
        let u := ((s.tookWait wp).addWaiter core wp th .wwait).setCoreSt core .waiting
        exec (.waypointWait core wp th) s = .next (u.setCore core { u.core core with hold := .wwait wp th }).after)) ∧
    (∀ slice v time, v < 2 ^ 64 → s.wpCode slice wp = 0 → s.timed.length < timedSlots →
      exec (.timedAdd slice wp v time) s = .next (s.registerTimed { wp, value := v, time, slice }).after) ∧
    (∀ slice v time, v < 2 ^ 64 → s.wpCode slice wp = 0 → timedSlots ≤ s.timed.length →
      exec (.timedAdd slice wp v time) s =
        .next { s.count 32 Obj.TIMED_FULL_WAITS 1 with timedHeld := s.timedHeld ++ [({ wp, value := v, time, slice } : Timed)] }.after) ∧
    (∀ t, earliest s.timed = some t → t.time ≤ s.chr → exec .timedAddDue s =
      .next (({ s with timed := s.timed.erase t } : State).askWp .timed t.slice t.wp (.add t.value)).admitTimed.after) ∧
    (∀ t, earliest s.timed = some t → t.time ≤ s.chr → s.timedHeld = [] → s.posts = [] → s.wpCode t.slice t.wp = 0 →
      exec .timedAddDue s = .next ((({ s with timed := s.timed.erase t } : State).performWp t.wp (.add t.value)).watchers t.wp).afterFirst) ∧
    (∀ m, s.HostAccepts .write m →
      (wordTarget m 1 = true → exec (.waypointMark m) s = .next (((s.hostHeard m).takePsn .write m).hostAccept .write m false).after) ∧
      (∀ together, wordTarget m 3 = true →
        exec (.waypointClear m together) s = .next (((s.hostHeard m).takePsn .write m).hostAccept .write m together).after))

/-- Frames between modules complete (R249, R265, R268, R272, R278–R281, R289, R350): WRITE and READ_DATA (this one without being matched
to a READ outstanding, the model's choice, log entry 126) are performed at their target unless the Wake discards them or keeps a module
from itself, READ is answered with its bytes, WP_ADD is asked for; an acknowledgement, an error response and a PARTIAL notice reach the
flows they speak of; a flow's acknowledgement is sent when 1 µs has passed, its frames are sent again after E2E_RTO, and its path is lost
after 2 ms. -/
def Obligations.FramesComplete : Prop :=
  ∀ s : State,
    (∀ f : Frame,
      (∀ c op, (c = .write f ∧ op = 1 ∨ c = .readData f ∧ op = 3) →
        FrameCompletes c s f op
          (fun u => 0 < f.len ∧ f.len ≤ 4096 ∧ u.frameTarget f (frameAddr f) f.len = 0 ∧ f.srcDev ≠ u.selfId)
          (fun u =>
            let (discarded, w) := u.wakeWrite (frameAddr f) f.len
            if discarded then w else w.write (.frame f.srcDev f.cls) (frameAddr f) f.payload) ∧
        FrameCompletes c s f op
          (fun u => 0 < f.len ∧ f.len ≤ 4096 ∧ u.frameTarget f (frameAddr f) f.len = 0 ∧ f.srcDev = u.selfId ∧
            u.wakeReadOnly (frameAddr f) f.len = false)
          (fun u => u.write (.frame f.srcDev f.cls) (frameAddr f) f.payload)) ∧
      FrameCompletes (.read f) s f 2
        (fun u => f.len = 8 ∧ f.aux < 4096 ∧ u.frameTarget f (frameAddr f) (f.aux % 4096 + 1) = 0)
        (fun u =>
          let back := fabricTarget (leNat f.payload % 2 ^ 40)
          let from_ := u.home (frameAddr f)
          (u.noteRead 1 from_ (f.aux % 4096 + 1)).inject .read (some (frameAddr f))
            { unitFrame 3 f.cls f.srcDev f.slice 0 back.2 (u.bytes from_ (f.aux % 4096 + 1)) with dstCore := back.1 }) ∧
      FrameCompletes (.wpAdd f) s f 4 (fun u => f.len = 8 ∧ u.wpCode f.slice (f.aux % 2 ^ 14) = 0)
        (fun u => u.post (.wp { asker := .frame f.srcDev f.srcCore, slice := f.slice, wp := f.aux % 2 ^ 14, kind := .add (leNat f.payload) })) ∧
      (wellFormedHeader f = true → s.Receives f 5 → exec (.ack f) s = .next (if f.mcast then s.ackMulticast f else s.ackUnicast f).afterFirst) ∧
      (wellFormedHeader f = true → s.Receives f 6 → exec (.errResp f) s = .next (s.noteErrResp f).afterFirst) ∧
      (wellFormedHeader f = true → s.Receives f 7 → exec (.partialNotice f) s = .next ((s.notePartial f).ctxPartial f).afterFirst)) ∧
    (∀ k,
      (0 < (s.rxFlow k).uncovered → (s.rxFlow k).since + 1000 ≤ s.now → exec (.ackTimer k) s = .next (s.sendAck k).after) ∧
      ((s.txFlow k).unacked ≠ [] → (s.txFlow k).resentAt + s.obj Obj.E2E_RTO * 1000 ≤ s.now →
        let u := (s.setTxFlow { s.txFlow k with resentAt := s.now }).count 64 Obj.E2E_RETRANSMITS (s.txFlow k).unacked.length
        exec (.e2eResend k) s = .next ((s.txFlow k).unacked.foldl (fun (t : State) y => t.emitFlow k (t.reread y)) u).after) ∧
      ((s.txFlow k).unacked ≠ [] → (s.txFlow k).lost = false → (s.txFlow k).progress + 2000000 ≤ s.now →
        exec (.pathLost k) s = .next (s.losePath (s.txFlow k)).after))

/-- Frames under way and the links complete (R263–R265, R271–R276, R283, R285, R296–R298): a unit's frame enters the fabric, and a core's
own counts as one of its remote operations until it is answered; a frame that a port in service takes from its link in turn is noted and
routed; control blocks go out and come in, a NAK and a timeout replay what is not acknowledged, and what has waited 200 µs is dropped; a
port in service retrains whose training is lost or whose replays do not come through, its training ends, and a failed port tries again.
-/
def Obligations.LinksComplete : Prop :=
  ∀ s : State,
    (∀ f,
      let g := s.outgoing f
      let c := s.core g.srcCore
      ((104 ≤ g.srcCore ∨ sequenced g.opcode = false) → exec (.frameRoute none f) s = .next (s.inject .none none g).after) ∧
      (g.srcCore < 104 → sequenced g.opcode = true → exec (.frameRoute none f) s =
        .next ((s.setCore g.srcCore { c with remote := c.remote + 1 }).inject (.remoteFrame g.srcCore c.resets) none g).after)) ∧
    exec .frameAgeDrop s = .next ((List.range 16).foldl State.agePort s.ageRouter).after ∧
    (∀ a f, s.LinkTakes a f →
      let p := a.port
      let u := ((s.count 64 (Obj.FEC_CORRECTED p) a.corrected).count 64 (Obj.FEC_UNCORRECTED p) 0).laneSymbols p a.symbols
      let v := ((u.setPort p { s.port p with expLink := ((s.port p).expLink + 1) % 4096 }).count 64 (Obj.RX_FRAMES p) 1).count 64
        (Obj.RX_BYTES p) f.len
      exec (.frameRoute (some a) f) s = .next (v.accepted p f).after ∧
      (f.opcode ≠ 8 → f.opcode ≠ 9 → f.hops ≠ 15 → (v.fenced && sequenced f.opcode) = false →
        exec (.frameRoute (some a) f) s = .next (v.route s.now (some p) f).after)) ∧
    (∀ p < 16,
      (s.portUp p = true →
        exec (.linkControlBlock p) s = .next ((s.setPort p { s.port p with owed := [] }).send
          (.control p (((s.port p).expLink + 4095) % 4096) (s.port p).owed none)).after ∧
        (∀ acked credits,
          let q := s.port p
          let left := q.retry.filter (fun r => !linkUpTo r.seqNo acked)
          let used := credits.foldl (fun m c => Sparse.set (fun _ => 0) m c.1 (Sparse.get (fun _ => 0) m c.1 - c.2)) q.used
          let progress := if left.length < q.retry.length then s.now else q.progress
          exec (.linkControlBlockReceived p acked credits) s =
            .next ((s.setPort p { q with retry := left, used, progress }).pump q.queue.length p).after) ∧
        (∀ n < 4096, ∀ r ∈ (s.port p).retry, r.seqNo = n → exec (.nak p n) s = .next (s.replayFrom p n).after) ∧
        (∀ r rest, (s.port p).retry = r :: rest → max (s.port p).progress (s.port p).replayAt + 2000 ≤ s.now →
          exec (.linkReplayTimeout p) s = .next (s.replayFrom p r.seqNo).after) ∧
        (∀ lost, (lost || (s.port p).failing s.now) = true →
          exec (.portRetrain ⟨p, lost⟩) s = .next (((s.count 32 (Obj.LINK_DOWN_EVENTS p) 1).portHealth p 1).portOut p 3).after)) ∧
      (∀ o, s.obj (Obj.PORT_STATE p) = 1 ∨ s.obj (Obj.PORT_STATE p) = 3 ∨ s.obj (Obj.PORT_STATE p) = 5 →
        exec (.retrainDone p o) s = .next (s.trained p o).after) ∧
      (s.obj (Obj.PORT_STATE p) = 4 → (s.port p).trainAt + 100000000 ≤ s.now →
        exec (.portRetry p) s = .next ((s.setPortState p 3).setPort p { s.port p with trainAt := s.now }).after))

/-- The Chronometer's exchanges and the Charts' own times complete (R254, R256, R284, R286, R287): an exchange that is due sends a
request to the parent's port, a request is answered with the count, and the answer to the request outstanding gives the offset of its
four times; a switch that is due is performed; and a draining Chart is closed 4 ms after. -/
def Obligations.TimeCompletes : Prop :=
  ∀ s : State,
    (∀ p, s.chrState ≠ 4 → s.obj Obj.CHR_PARENT_PORT < 16 → s.chrU.phase + s.obj Obj.CHR_SYNC_PERIOD * 1000 ≤ s.now →
      let u := if s.chrU.sent.isSome then s.chrFailed else s
      let v : State := { u with chrU := { u.chrU with phase := u.now } }
      v.chrPort = some p →
      exec .chronometerExchange s =
        .next ((({ v with chrU := { v.chrU with sent := some (v.chr, p) } } : State).toPort p v.now none (v.timeFrame 8 (leBytes 8 v.chr)))).after) ∧
    (∀ a f, s.LinkTakes a f → wellFormedHeader f = true →
      let p := a.port
      let r := (s.linkReceive a f).2.owe (some p) f
      (f.opcode = 8 → f.payload.length = 8 → exec (.timeReq a f) s =
        .next (r.toPort p s.now none (r.timeFrame 9 (f.payload ++ leBytes 8 s.chr ++ leBytes 8 s.chr))).after) ∧
      (∀ t1 t4, f.opcode = 9 → s.chrU.sent = some (t1, p) → f.payload.length = 24 → leNat (slice f.payload 0 8) = t1 →
        exec (.timeRsp a f t4) s = .next (r.chrExchange (theta t1 (leNat (slice f.payload 8 8)) (leNat (slice f.payload 16 8)) t4
          (toSigned 32 (r.obj (Obj.CHR_PORT_CAL p))))).after)) ∧
    (∀ w, s.switchAt = some w → w.time ≤ s.chr → exec .chartSwitchTime s = .next (s.performSwitch w).after) ∧
    (∀ e < 2, s.chartState e = 4 → (s.chart e).drainAt + 4000000 ≤ s.chr → exec (.chartDrainClose e) s = .next (s.closeChart e).after)

/-- The frames and the deadline of a collective complete (R309–R316, R318–R322): a CONTRIB is accumulated and counted for its member, a
RESULT is written to its place, a LATE ends the sending to its member and folds the rest, or is kept for the instance that has not begun,
one that is stale is only counted, and at the deadline the members that are neither complete nor absent are declared late. -/
def Obligations.CollectivesComplete : Prop :=
  ∀ (s : State) (f : Frame),
    let n := frameCtx f
    let r := frameRank f
    (∀ d, FrameCompletes (.contrib f) s f 0x10 (fun u => u.TakesContrib f d) (fun u =>
      let c := u.ctx n
      let m := c.payloadElems f.payload
      ((u.accumulate n (u.ctxInst n + d) (c.payloadValues f.addr f.payload)).setMember n r
        (fun x => if d = 0 then { x with got := x.got + m } else { x with gotNext := x.gotNext + m })).post (.context n))) ∧
    (∀ d, FrameCompletes (.result f) s f 0x11 (fun u => u.TakesResult f d) (fun u =>
      let c := u.ctx n
      let m := f.len * 8 / c.dF.storeBits
      ((u.ctxWrite n (c.dst + f.addr * c.dF.storeBits / 8) f.payload).setMember n r
        (fun x => if d = 0 then { x with res := x.res + m } else { x with resNext := x.resNext + m })).post (.context n))) ∧
    (∀ d, FrameCompletes (.late f) s f 0x12
      (fun u => f.len = 16 ∧ f.mcast = false ∧ f.addr = 0 ∧ u.ctxLive n = true ∧ u.instanceOf n f = some d ∧
        f.slice = u.ctxSlice n ∧ (u.ctx n).reduces = true ∧ (u.ctx n).sender f = true ∧
        (d ≠ 1 → u.ctxState n ≠ 1 → ((u.ctx n).member r).absent = false))
      (fun u =>
        let upto := leNat (slice f.payload 0 5)
        let w := u.count 32 Obj.LATE_RECEIVED 1
        if d = 1 then w.setMember n r (fun m => { m with lateNext := some upto })
        else if u.ctxState n = 1 then w.setMember n r (fun m => { m with lateAt := some upto })
        else ((w.stopSending n r).foldRange n r upto (u.ctx n).count).post (.context n))) ∧
    FrameCompletes (.late f) s f 0x12
      (fun u => f.len = 16 ∧ f.mcast = false ∧ f.addr = 0 ∧ (u.ctxState n = 0 ∨
        f.slice = u.ctxSlice n ∧ (u.ctxLive n = false ∨ u.instanceOf n f = none)))
      (fun u => (u.count 32 Obj.LATE_RECEIVED 1).count 32 Obj.STALE_LATE 1) ∧
    (∀ k < 128, s.ctxState k = 2 → (s.ctx k).dlEn = true → (s.ctx k).reduces = true → (s.ctx k).due ≤ s.chr →
      exec (.deadline k) s = .next (((s.tardy k).foldl (State.declareLate k (s.ctx k)) s).post (.context k)).after)

/-- CONSORT_STREAM, CHECK_TIMEOUT, CONSORT_TIMEOUT and VOTE_RESEND complete (R341, R353, R344, R354): once a step's conditions hold in
CHECK the stream of the shard's image opens; a check whose time is up before its decision and a stream whose time is up fail their
condition; a vote whose frame was not delivered is sent again. -/
def Obligations.StepClocksComplete : Prop :=
  ∀ s : State,
    (s.stepSt = 3 → s.conditionsHold = true → s.obj Obj.CONSORT_STATE = 0 →
      exec .consortStream s = .next s.openStream.after) ∧
    (∀ t, s.stepU.checkAt = some t → s.obj Obj.CHECK_TIMEOUT ≠ 0 → t + s.obj Obj.CHECK_TIMEOUT * 1000000 ≤ s.now →
      exec .checkTimeout s = .next (({ s with stepU := { s.stepU with checkAt := none } } : State).stepFail 6 0).after) ∧
    ((s.obj Obj.CONSORT_STATE = 1 ∨ s.obj Obj.CONSORT_STATE = 2) → s.stepU.streamAt + s.obj Obj.CONSORT_TIMEOUT * 1000000 ≤ s.now →
      exec .consortTimeout s = .next (((s.abandonStream).setObj Obj.CONSORT_STATE 4).stepFail 5 0).after) ∧
    (∀ v, s.stepU.lastVote = some v → s.stepU.resend = true → (s.stepSt = 4 ∨ s.stepSt = 5 ∨ s.stepSt = 6) →
      exec .voteResend s = .next (({ s with stepU := { s.stepU with resend := false } } : State).sendVote v).after)

/-- STEP_VOTE, STEP_COMMIT, STEP_ABORT and STEP_RESUME complete (R344–R346): the root tallies a COMMIT vote, decides on an ABORT vote at
once, and tallies a READY; a member performs the decision of its step and attempt that fits its state; a spare in STANDBY takes the step
and attempt from a decision, one step on after a commit and one attempt on after an abort. -/
def Obligations.VotesComplete : Prop :=
  ∀ (s : State) (f : Frame),
    let step := leNat (slice f.payload 0 8)
    let attempt := leNat (slice f.payload 8 4)
    let word := leNat (slice f.payload 12 4)
    (∀ t : Tally,
      let votes (u : State) : Prop := f.len = 16 ∧ u.otherStep f = false ∧ u.stepSt ≠ 0 ∧ u.stepSt ≠ 8 ∧ t.decision = none ∧
        (u.openTally step attempt).stepU.tallies.find? (fun t => t.step == step && t.attempt == attempt) = some t
      FrameCompletes (.stepVote f) s f 0x23 (fun u => votes u ∧ word % 4 = 0) (fun u =>
        let t' := { t with commits := addOnce t.commits f.srcDev }
        let w := (u.openTally step attempt).setTally step attempt t'
        if w.obj Obj.MEMBERS ≤ t'.commits.length then w.tallyDecide t' 0 0 0 else w) ∧
      FrameCompletes (.stepVote f) s f 0x23 (fun u => votes u ∧ word % 4 = 1) (fun u =>
        ((u.openTally step attempt).setTally step attempt t).tallyDecide t 1 f.srcDev (bits word 31 16)) ∧
      FrameCompletes (.stepVote f) s f 0x23 (fun u => votes u ∧ word % 4 = 2) (fun u =>
        let t' := { t with readies := addOnce t.readies f.srcDev }
        let w := (u.openTally step attempt).setTally step attempt t'
        if w.obj Obj.MEMBERS ≤ t'.readies.length then w.tallyDecide t' 2 0 0 else w)) ∧
    (∀ c d act num att,
      (c = .stepCommit f ∧ d = 0 ∧ act = State.commitStep ∧ num = (step + 1) % 2 ^ 64 ∧ att = attempt ∨
        c = .stepAbort f ∧ d = 1 ∧ act = State.abortStep ∧ num = step ∧ att = (attempt + 1) % 2 ^ 32 ∨
        c = .stepResume f ∧ d = 2 ∧ act = (fun u => u.stepEntry 0) ∧ num = step ∧ att = attempt) →
      word % 4 = d →
      FrameCompletes c s f 0x24 (fun u => f.len = 16 ∧ u.otherStep f = false ∧ u.stepSt ≠ 1 ∧ (step, attempt) = u.stepKey ∧
        u.decisionFits d = true) act ∧
      FrameCompletes c s f 0x24 (fun u => f.len = 16 ∧ u.otherStep f = false ∧ u.stepSt = 1)
        (fun u => u.setObjs [(Obj.STEP_NUM, num), (Obj.STEP_ATTEMPT, att)]))

/-- CONSORT_DATA, CONSORT_DONE, CONSORT_ACK, CONSORT_PULL and CONSORT_LOAD complete (R353–R356): the Consort writes a stream's blocks to
its pending slot and answers the stream's end; a restore that brought the whole image ends; an acknowledgement of the stream under way
ends it and lets the member vote if its conditions still hold, and one with a code fails it; the active image is sent to a partner that
pulls it, and what arrives of it fills the shard. -/
def Obligations.ConsortComplete : Prop :=
  ∀ (s : State) (f : Frame),
    let step := leNat (slice f.payload 0 8)
    FrameCompletes (.consortData f) s f 0x20
      (fun u =>
        let keep := f.payload.take (6 * u.obj Obj.MIRROR_PARAMS - f.addr)
        u.otherStep f = false ∧ f.srcDev = u.obj Obj.CONSORT_OF ∧ u.stepSt ≠ 0 ∧ u.stepSt ≠ 8 ∧ wholeBlocks f = true ∧
          u.checkRange u.stepSlice (u.slotBase u.pendingSlot + f.addr) keep.length = 0)
      (fun u =>
        let keep := f.payload.take (6 * u.obj Obj.MIRROR_PARAMS - f.addr)
        let w := u.write (.frame f.srcDev f.cls) (u.slotBase u.pendingSlot + f.addr) keep
        { w with stepU := { w.stepU with received := some { u.streamOf f with bytes := (u.streamOf f).bytes + f.len } } }) ∧
    FrameCompletes (.consortDone f) s f 0x21
      (fun u => u.otherStep f = false ∧ f.len = 20 ∧ f.cls ≠ 6 ∧ f.srcDev = u.obj Obj.CONSORT_OF ∧ u.stepSt ≠ 0 ∧ u.stepSt ≠ 8)
      (fun u => (State.streamDone f u).1) ∧
    (∀ r, FrameCompletes (.consortDone f) s f 0x21
      (fun u => u.otherStep f = false ∧ f.len = 20 ∧ f.cls = 6 ∧ u.stepU.restore = some r ∧ f.srcDev = u.obj Obj.CONSORT_PARTNER ∧
        step = r.step ∧ leNat (slice f.payload 8 8) = r.bytes ∧ r.bytes = 6 * u.obj Obj.SHARD_PARAMS)
      (fun u => u.restoreEnd)) ∧
    FrameCompletes (.consortAck f) s f 0x22
      (fun u => u.otherStep f = false ∧ f.len = 16 ∧ f.srcDev = u.obj Obj.CONSORT_PARTNER ∧
        (step, leNat (slice f.payload 10 4)) = u.stepKey ∧ (u.obj Obj.CONSORT_STATE = 1 ∨ u.obj Obj.CONSORT_STATE = 2))
      (fun u =>
        let code := leNat (slice f.payload 8 2)
        let w := u.setObj Obj.CONSORT_LAST (u.obj Obj.CONSORT_LAST % 2 ^ 64 + u.chr * 2 ^ 64 + step * 2 ^ 128 + code * 2 ^ 192)
        if code ≠ 0 then w.consortFail
        else
          let x := ({ w with stepU := { w.stepU with guard := [] } } : State).setObj Obj.CONSORT_STATE 3
          if x.stepSt = 3 then x.checkedTest else x) ∧
    FrameCompletes (.consortPull f) s f 0x25
      (fun u => u.otherStep f = false ∧ f.len = 8 ∧ u.obj Obj.MIRROR_ACTIVE ≤ 1 ∧ u.obj Obj.MIRROR_STEP = leNat f.payload)
      (fun u =>
        let a := u.home (u.slotBase (u.obj Obj.MIRROR_ACTIVE))
        let n := 6 * u.obj Obj.MIRROR_PARAMS
        (u.noteRead 3 a n).sendImage 0x26 6 f.srcDev (leNat f.payload) 0 (u.bytes a n)) ∧
    (∀ r, FrameCompletes (.consortLoad f) s f 0x26
      (fun u => u.otherStep f = false ∧ u.stepU.restore = some r ∧ f.srcDev = u.obj Obj.CONSORT_PARTNER ∧ wholeBlocks f = true)
      (fun u =>
        let w := ((chunks 192 (f.len / 192 + 1) f.payload).zipIdx).foldl (fun (t : State) x =>
          if f.addr / 192 + x.2 < t.obj Obj.SHARD_PARAMS / 32 then t.restoreBlock (f.addr / 192 + x.2) x.1 else t) u
        { w with stepU := { w.stepU with restore := some { r with bytes := r.bytes + f.len } } }))

/-- Commands of a Fix under way complete (R370–R377, R380–R382): a staged page is encoded, its records joining the stream as those before
them are there, and the stream is closed once all is copied and staged; a STRIPE is folded into its parity row, an uncorrectable one
ending the Fix, and a COUNT noted; refused stripes are sent again when due; the root tallies and decides; a decision is performed; a Fix
that takes too long ends, and a member says again that it is prepared; a PULL is answered with its chunk, a CHUNK is folded into the
rebuild, and a commit record is applied. -/
def Obligations.FixesComplete : Prop :=
  ∀ (s : State) (f : Frame),
    let id := leNat (slice f.payload 0 4)
    let own (u : State) : Prop := f.slice = u.obj Obj.STEP_SLICE
    (∀ die < 2, s.fixState = 2 → s.fixU.ended = false →
      (∀ x rest, s.staged die = x :: rest → s.hasUncorrectable (s.stageAddr die x.slot) 65536 = false →
        let a := s.stageAddr die x.slot
        let r := (s.noteRead 3 a 65536).pageRecords x.page (s.bytes a 65536)
        let t := ({ r.2 with fixU := { r.2.fixU with records := r.1.foldl (fun l x => putRecord x l) r.2.fixU.records } } : State).setStaged die rest
        s.flushRecords = some s → exec (.fixEncode die) s = .next (t.flushRecords.getD t).after) ∧
      (∀ t, s.flushRecords = some s → s.staged die = [] → s.obj Obj.CBW_ACTIVE = 0 → s.fixU.staged0 = [] → s.fixU.staged1 = [] →
        s.closeStream = some t →
        exec (.fixEncode die) s = .next t.after)) ∧
    (∀ p d x t, FrameCompletes (.fixStripe f) s f 0x30
      (fun u => own u ∧ u.fixCurrent = true ∧ bits f.addr 39 24 = u.fixU.id % 2 ^ 16 ∧
        u.fixGroup.zipIdx.find? (fun x => x.1 == f.srcDev) = some (d, p) ∧ holderOf u.fixD f.aux = u.fixPos ∧ p ≠ u.fixPos ∧
        0 < f.len ∧ f.len ≤ 4096 ∧ f.addr % 2 ^ 20 + f.len ≤ 2 ^ 20 ∧ u.parityRow f.aux = some (x, t))
      (fun _ =>
        let a := t.slotAddr x.slot + f.addr % 2 ^ 20
        let v := if t.hasUncorrectable (t.home a) f.len then t.post (.fixEnd 8) else t
        let w := (v.noteRead 3 (v.home a) f.len).write .unit a (List.zipWith (· ^^^ ·) (v.bytes (v.home a) f.len) f.payload)
        let got := Sparse.set (fun _ => 0) x.got p (Sparse.get (fun _ => 0) x.got p + f.len)
        let rows := w.fixU.rows.map (fun y => if y.row = x.row then { y with got := got } else y)
        ({ w with fixU := { w.fixU with rows } } : State).closeRows.post .fixTest)) ∧
    FrameCompletes (.fixCount f) s f 0x31
      (fun u => own u ∧ f.len = 16 ∧ u.fixCurrent = true ∧ id = u.fixU.id ∧
        u.fixGroup.getD (leNat (slice f.payload 8 1) % 16) 0x4000 = f.srcDev)
      (fun u =>
        let p := leNat (slice f.payload 8 1) % 16
        let counts := (p, leNat (slice f.payload 4 4)) :: u.fixU.counts.filter (fun x => x.1 != p)
        ({ u with fixU := { u.fixU with counts } } : State).closeRows.post .fixTest) ∧
    (s.fixState = 2 → (s.fixU.retries.filter (fun r => decide (r.due ≤ s.now))) ≠ [] →
      exec .fixStripeRetry s = .next ((s.fixU.retries.filter (fun r => decide (r.due ≤ s.now))).foldl (fun (t : State) r => t.fixSend r.frame)
        { s with fixU := { s.fixU with retries := s.fixU.retries.filter (fun r => !decide (r.due ≤ s.now)) } }).after) ∧
    (∀ tally : FixTally, tally.id = id → tally.step = leNat (slice f.payload 4 8) →
      FrameCompletes (.fixPrepared f) s f 0x32
        (fun u => own u ∧ f.len = 24 ∧ u.obj Obj.COMMIT_ROOT = u.selfId ∧ u.fixU.decisions.find? (fun d => d.id == id) = none ∧
          leNat (slice f.payload 12 1) = 0 ∧ u.fixU.tally.getD { id, step := leNat (slice f.payload 4 8), devs := [] } = tally)
        (fun u =>
          let devs := if tally.devs.contains f.srcDev then tally.devs else tally.devs ++ [f.srcDev]
          let w : State := { u with fixU := { u.fixU with tally := some { tally with devs } } }
          if devs.length = w.obj Obj.MEMBERS then w.fixDecide { id, step := leNat (slice f.payload 4 8), discard := false } else w)) ∧
    (∀ c d, (c = .fixCommit f ∧ d = 0 ∨ c = .fixDiscard f ∧ d = 1) → leNat (slice f.payload 12 4) % 2 = d →
      FrameCompletes c s f 0x33 (fun u => own u ∧ f.len = 16 ∧ (u.fixState = 2 ∨ u.fixState = 3) ∧ id = u.fixU.id)
        (fun u => if d = 1 then u.fixDiscard 7 else if u.fixState = 2 then u.clearMarks.fixCommit else u.fixCommit)) ∧
    (s.fixState = 2 → s.fixU.since + s.obj Obj.FIX_TIMEOUT * 1000000 ≤ s.now →
      exec .fixTimeout s = .next (s.post (.fixEnd 2)).after) ∧
    (s.fixU.resend = true → s.fixState = 3 →
      exec .fixPreparedResend s = .next (({ s with fixU := { s.fixU with resend := false } } : State).sendPrepared 0).after) ∧
    (∀ k, FrameCompletes (.fixPull f) s f 0x34
      (fun u => own u ∧ f.len = 8 ∧ u.storeSlot id (leNat (slice f.payload 4 4)) = some k)
      (fun v => let u := v.noteDir; (List.range 256).foldl (fun (t : State) i => t.fixSend (unitFrame 0x35 6 f.srcDev 0 (leNat (slice f.payload 4 4))
        (i * 4096 + id % 2 ^ 16 * 2 ^ 24) (slice (u.bytes (u.home (u.slotAddr k)) (2 ^ 20)) (i * 4096) 4096)))
        (u.noteRead 3 (u.home (u.slotAddr k)) (2 ^ 20)))) ∧
    (∀ b, FrameCompletes (.fixChunk f) s f 0x35
      (fun u => own u ∧ u.fixU.rebuild = some b ∧ u.fixState = 5 ∧ bits f.addr 39 24 = b.id % 2 ^ 16 ∧ 0 < f.len ∧ f.len ≤ 4096 ∧
        f.addr % 2 ^ 20 + f.len ≤ 2 ^ 20 ∧ b.rows.any (fun r => r.1 == f.aux) = true)
      (fun u => ({ u with fixU := { u.fixU with rebuild := some (b.addChunk u.fixD f) } } : State).post .fixTest)) ∧
    (∀ a, s.fixU.apply = some a → s.fixState = 4 → exec .fixApplyDone s = .next (s.applyFix a).after)

/-- Commands of Reserves and Drift complete (R387–R392, R394, R396, R398): a Reserve that passes its test takes over from its core or
waits, and one that fails is FAILED; an idle one goes to sleep again after 60 s; Drift is evaluated when due and its inputs are saved
each hour; a lane that was above its threshold in ten windows of a second in a row waits its turn; a shed phase, a lost sensor are
counted and act on the clocks. -/
def Obligations.ReservesComplete : Prop :=
  ∀ s : State,
    (∀ core < 104, isReserve core = true →
      (s.rsv core = 1 → s.pd (core / 2) = 2 →
        (let u := ((s.coreReset core).setCoreSt core .off).setRsv core 2;
          (∀ w, u.swapOf core = some w → exec (.reserveReady core true) s =
            .next (((u.setObjs [(Obj.CORE_MODE core, u.obj (Obj.CORE_MODE w.core)), (Obj.ENTRY_PC core, u.obj (Obj.ENTRY_PC w.core)),
              (Obj.PROG_GEN core, u.obj (Obj.PROG_GEN w.core))]).preload core w.core).post .bringIn).after) ∧
          (u.swapOf core = none → exec (.reserveReady core true) s = .next ((u.setIdleSince core (some u.now)).findAgain).after)) ∧
        (let u := (((s.setRsv core 4).moduleHealth 32).driftEvent 20 0 1).logEvent .reserveFailed 0 (srcCode 1 core) 0xFFFF 0;
          (∀ w, u.swapOf core = some w → exec (.reserveReady core false) s = .next (((u.setSwaps (u.health.swaps.map
            (fun x => if x.core = w.core then { x with reserve := none } else x))).findReserve w.core)).after) ∧
          (u.swapOf core = none → exec (.reserveReady core false) s = .next u.after))) ∧
      (s.rsv core = 2 → s.swapOf core = none → heldFor (Sparse.get (fun _ => none) s.health.idleSince core) s.now 60000000000 = true →
        let u := ((s.setRsv core 0).setIdleSince core none).coreOff core
        let sib := sibling core
        exec (.reserveIdleTimeout core) s =
          .next (if u.coreSt sib = .off ∧ (isReserve sib = false ∨ (u.rsv sib ≠ 1 ∧ u.rsv sib ≠ 2)) then u.domainOff (core / 2) else u).after)) ∧
    (∀ canaries lost, 2 ≤ s.obj Obj.START_STATE → s.health.evaluateDue = true ∨ s.health.evaluated + 1000000000 ≤ s.now →
      let h := s.hmuWork
      let u : State := { h with health := { h.health with xdLost := lost, evaluated := h.now, evaluateDue := false } }
      let v := canaries.foldl (fun (t : State) (c : Nat × Int) =>
        if c.1 < 104 ∧ !t.sleeping c.1 then t.setObj (Obj.CANARY_PS c.1) (ofSigned 32 c.2) else t) u
      exec (.driftEvaluation canaries lost) s = .next ((((List.range 104).foldl State.evalCore v).autoSwaps
        (fun n => v.obj (Obj.CORE_DRIFT_STATE n))).findAgain.evalModule).after) ∧
    (s.health.saved + 3600000000000 ≤ s.now →
      exec .driftPersist s = .next ({ s with health := { s.health with saved := s.now, savedInputs := s.drift } } : State).flashWrite.after) ∧
    (∀ p < 16, ∀ lane < 4,
      let u := s.closeWindow
      10 ≤ u.laneRun (p * 4 + lane) → u.spareFree p = true → p * 4 + lane ∉ u.health.lanePending →
      exec (.laneSwapRequest p lane) s =
        .next (({ u with health := { u.health with lanePending := u.health.lanePending ++ [p * 4 + lane] } } : State).post .bringIn).after) ∧
    (∀ rail,
      let n := Sparse.get (fun _ => 0) s.health.phases (railNo rail) + 1
      let u : State := { s with health := { s.health with phases := Sparse.set (fun _ => 0) s.health.phases (railNo rail) n } }
      let v := (u.count 8 Obj.PHASE_SHED 1).moduleHealth 128
      (∀ d < 2, rail = .die d → exec (.phaseShed rail) s = .next (if n < 2 then v else v.setRequest d 7 3).after) ∧
      (rail = .xd ∨ rail = .hbm → exec (.phaseShed rail) s = .next (if n < 2 then v else v.setRequests 7 3).after)) ∧
    (∀ site < 28, ∀ k < 2, 2 * site + k ∉ s.health.sensorsLost → Sparse.get (fun _ => 0) s.health.sensorSeen (2 * site + k) + 1000000 ≤ s.now →
      exec (.sensorLost site k) s = .next ((({ s with
        health := { s.health with sensorsLost := s.health.sensorsLost ++ [2 * site + k] } } : State).moduleHealth 0x200).sensorRequest).after)

/-- Commands of power, clocks, temperature and pins complete (R358, R402–R404, R406, R407, R409–R413): an input sample is recorded and
acted on; a domain wakes, a stack out of off with the short test of its lanes (R233), or fails; a die's clock locks and steps up; the
sites' temperatures act on the clocks and fence; THROTTLE_N, EPO_N and FENCE_N act and are released, and below 20 V or behind an open
input only their levels are kept. -/
def Obligations.PowerCompletes : Prop :=
  ∀ s : State,
    (∀ mv ma,
      (s.power.open_ = false → s.power.dark = false →
        exec (.inputSample mv ma) s = .next (s.wakeOn (((s.recordSample mv ma).voltage mv).powerLimit (mv * ma / 1000))).after) ∧
      (s.power.open_ = false → s.power.dark = true →
        exec (.inputSample mv ma) s = .next ({ s with power := { s.power with dark := decide (mv < 20000) } } : State).after) ∧
      (s.power.open_ = true →
        let inRange := heldSince s.power.inRange s.now (decide (30000 ≤ mv) && decide (mv ≤ 40000))
        exec (.inputSample mv ma) s = .next { s with power := if heldFor inRange s.now 1000000000 then
          { PowerUnit.reset with epoPin := s.power.epoPin, fencePin := s.power.fencePin, thrPin := s.power.thrPin }
          else { s.power with inRange := inRange } }.after)) ∧
    (∀ d < 78,
      let u : State := { s with power := { s.power with waking := s.power.waking.filter (fun w => w.1 != d) } }
      (∀ margins, s.power.waking.any (fun w => w.1 == d) = true →
        let t := (u.domainOn d).nextRamps
        exec (.domainPowerGood ⟨d, margins⟩) s = .next (if 52 ≤ d ∧ d < 64 ∧ s.obj (Obj.STACK_STATE (d - 52)) = 0 then
          t.pendFailing false 3 (margins.filter (fun m => m.stack == d - 52)) else t).after) ∧
      (s.power.waking.any (fun w => w.1 == d && decide (w.2 ≤ s.now)) = true →
        let v : State := { s.setPd d 4 with power := { s.power with waking := s.power.waking.filter (fun w => w.1 != d) } }
        exec (.domainWakeFail d) s =
          .next ((((v.pwrStatus 0x80).alert 2).logEvent .domainFail 0 (srcCode 0 0) 0xFFFF d).dropWaiting d).nextRamps.after)) ∧
    (∀ die < 2,
      (∀ t, (s.pll die).relock = some t → exec (.pllLock die) s = .next (s.switchStep die t).after) ∧
      ((s.pll die).relock = none → (s.pll die).idle = false →
        exec (.pllLock die) s = .next (s.setPll die { s.pll die with idle := true }).after) ∧
      (∀ t, (s.pll die).upSince = some t → s.slowest die < s.clkStep die → t + 10000000 ≤ s.now → (s.pll die).relock = none →
        exec (.throttleStepUp die) s =
          .next ((s.setPll die { s.pll die with upSince := some s.now }).toStep die (s.clkStep die - 1)).after)) ∧
    (∀ readings, s.dead = false →
      let u := (((readings.take 28).zipIdx).foldl (fun (t : State) r => t.readSite r.2 r.1) s).sensorRequest
      exec (.siteTempSample readings) s = .next (s.wakeOn ((List.range 104).foldl State.excursion ((u.actDie 0).actDie 1).actXd)).after) ∧
    (let pins (epo fence thr : Bool) : State := { s with power := { s.power with epoPin := epo, fencePin := fence, thrPin := thr } }
      let epo := s.power.epoPin
      let fence := s.power.fencePin
      let thr := s.power.thrPin
      (s.dead = true → exec .throttleN s = .next (pins epo fence true).after ∧ exec .throttleNRelease s = .next (pins epo fence false).after ∧
        exec .epoN s = .next (pins true fence thr).after ∧ exec .epoNRelease s = .next (pins false fence thr).after ∧
        exec .fenceN s = .next (pins epo true thr).after ∧ exec .fenceNRelease s = .next (pins epo false thr).after) ∧
      (s.dead = false →
        exec .throttleN s = .next (((pins epo fence true).pwrStatus 0x40).setRequests 1 (s.obj Obj.THR_PIN_STEP)).hmuWork.after ∧
        exec .throttleNRelease s = .next ((pins epo fence false).setRequests 1 0).hmuWork.after ∧
        exec .epoN s = .next ((pins true fence thr).emergencyOff 1).hmuWork.after ∧
        exec .epoNRelease s = .next (pins false fence thr).hmuWork.after ∧
        exec .fenceNRelease s = .next (pins epo false thr).hmuWork.after)) ∧
    (s.dead = false →
      let u := ({ s with power := { s.power with fencePin := true } } : State).hmuWork
      (s.obj Obj.EPO_STATE = 0 → s.obj Obj.FENCE_STATE = 0 → s.obj Obj.START_STATE = 4 → exec .fenceN s = .next (u.fenceModule 2 0).after) ∧
      (s.obj Obj.EPO_STATE = 0 → s.obj Obj.FENCE_STATE = 1 →
        exec .fenceN s = .next ({ u.setObj Obj.FENCE_STATE 2 with beaconDue := true } : State).after))

/-- Messages of the dictionary protocol complete (R422, R424–R428, R431, R435): READ_EXP is answered with the value, WRITE_EXP writes it,
READ_SEG opens a transfer, is answered with the length and sends its first segments, WRITE_SEG opens one; a SEGMENT in order is taken,
its eighth acknowledged, and the last writes the value; an acknowledgement moves a read on; an ABORT ends its transfers; a subscription
is opened, renewed and ended. -/
def Obligations.MessagesComplete : Prop :=
  ∀ (s : State) (q : HdpReq),
    let u := s.heard q
    let key := reqKey q
    (q.typ = 0 → q.len = 0 → s.Grants q false (some false) →
      exec (.readExp q) s = .next (u.answered q 0 (u.viewBytes key (objRow key).size)).after) ∧
    (∀ w, q.typ = 1 → s.Grants q true (some false) → u.performWrite key q.payload = (w, 0) →
      exec (.objectWrite ⟨q, false, none, false⟩) s = .next (w.answered q 0 []).after) ∧
    (∀ t, q.typ = 2 → s.Grants q false (some true) → u.freeTransfer = some t →
      let n := (objRow key).size
      let x : Transfer :=
        { opener := q, write := false, total := n, bytes := u.viewBytes key n, done := 0, sent := 0, progress := u.now, resentAt := u.now }
      let w := (u.setTransfer t (some x)).answered q 0 (leBytes 8 n)
      exec (.readSeg q) s = .next ((w.readOpened q).elim w (fun x => w.pushRead x.1 x.2)).after) ∧
    (∀ t, q.typ = 3 → s.Grants q true (some true) → q.len = 8 → leNat q.payload ≤ 2 ^ 24 → u.freeTransfer = some t → u.writeOpen key = false →
      let x : Transfer :=
        { opener := q, write := true, total := leNat q.payload, bytes := [], done := 0, sent := 0, progress := u.now, resentAt := u.now }
      exec (.writeSeg q) s = .next ((u.setTransfer t (some x)).answered q 0 []).after) ∧
    (∀ t x, q.typ = 4 → s.Hears q → u.transferOf q true = some (t, x) → q.segno = x.done →
      let y : Transfer := { x with bytes := x.bytes ++ q.payload, done := x.done + 1, progress := u.now }
      (q.len = 1024 → y.bytes.length < y.total → y.done % 8 = 0 →
        exec (.segment q) s = .next ((u.setTransfer t (some y)).replied q q.segno).after) ∧
      (q.len = 1024 → y.bytes.length < y.total → y.done % 8 ≠ 0 →
        exec (.segment q) s = .next ((u.setTransfer t (some y)).cache q none).after) ∧
      (∀ w, y.bytes.length = y.total → (u.setTransfer t none).objectCode (reqKey x.opener) q.hdr.role true (some true) = 0 →
        (u.setTransfer t none).performWrite (reqKey x.opener) y.bytes = (w, 0) →
        exec (.segment q) s = .next (w.replied q q.segno).after)) ∧
    (∀ t x, q.typ = 7 → s.Hears q → u.transferOf q false = some (t, x) →
      let y : Transfer := { x with done := max x.done (min (q.segno + 1) x.sent), progress := if x.done < q.segno + 1 then u.now else x.progress }
      exec (.response q) s = .next ((u.pushRead t y).cache q none).after) ∧
    (q.typ = 11 → s.Hears q →
      exec (.hdpAbort q) s = .next (((u.dropTransfer q true).dropTransfer q false).cache q none).after) ∧
    (q.typ = 5 → s.Grants q false none → q.len = 8 → 10 ≤ subInterval q → subInterval q ≤ 60000 → 1 ≤ subLease q → subLease q ≤ 3600 →
      (objRow key).size ≤ 1024 →
      let expires := u.now + subLease q * 1000000000
      (∀ n, u.subOf q = some n → exec (.subscribe q) s =
        .next ((u.setSub n ((u.sub n).map (fun x => { x with req := q, expires }))).answered q 0 []).after) ∧
      (∀ n, u.subOf q = none → (List.range 64).find? (fun n => (u.sub n).isNone) = some n → exec (.subscribe q) s =
        .next ((u.setSub n (some { req := q, seen := u.view key, dirty := false, last := none, segno := 0, expires })).answered q 0 []).after)) ∧
    (∀ n, q.typ = 6 → s.Grants q false none → u.subOf q = some n → exec (.unsubscribe q) s = .next ((u.setSub n none).answered q 0 []).after)

/-- What the management unit does of itself completes (R416–R420, R422, R425, R427, R433, R437–R439, R441, R442): segments are sent again
and a transfer times out; a subscription notifies and ends; Beacons are sent; the logs are flushed, a block that fails to program being
replaced by one of 256 spares; the unit sleeps, a watchdog stops one of its cores and a reset restarts it; a segment goes down and comes
up; a solicitation is answered, on a segment in its turn; what waits for a segment leaves in a transmit opportunity, one frame in each.
-/
def Obligations.ManagementCompletes : Prop :=
  ∀ s : State,
    (∀ t < 4, ∀ x, s.transfer t = some x →
      (x.write = false → x.done < x.sent → max x.progress x.resentAt + 20000000 ≤ s.now →
        exec (.segmentResend t) s =
          .next ((s.hmuWork.sendSegments x x.done x.sent).setTransfer t (some { x with resentAt := s.now })).after) ∧
      (x.progress + 1000000000 ≤ s.now → exec (.transferTimeout t) s =
        .next (((s.setTransfer t none).count 32 Obj.HDP_BUSY 1).emitHdp false (answerTo x.opener 11 0x080B 0 [])).after)) ∧
    (∀ n < 64,
      (∀ x, (s.noteSub n).sub n = some x → x.dirty = true → (∀ t, x.last = some t → t + subInterval x.req * 1000000 ≤ s.now) →
        s.hmuServes = true →
        let u := ((s.noteSub n).setSub n (some { x with dirty := false, last := some s.now, segno := x.segno + 1 })).nextCounter
        exec (.notify n) s =
          .next (u.2.emitHdp true (notifyMsg x u.1 (u.2.viewBytes (reqKey x.req) (objRow (reqKey x.req)).size))).after) ∧
      (∀ x, s.sub n = some x → x.expires ≤ s.now → exec (.leaseExpiry n) s = .next (s.setSub n none).after)) ∧
    (s.hmuServes = true → (∀ t, s.hmu.beaconAt = some t → t + s.beaconPeriod ≤ s.now) →
      exec .beacon s = .next ({ s with hmu := { s.hmu with beaconAt := some s.now } }.sendBeacon true).after) ∧
    (s.beaconDue = true → (∀ t, s.hmu.immediateAt = some t → t + 5000000 ≤ s.now) → s.hmuServes = true → s.obj Obj.START_STATE ≠ 1 →
      exec .immediateBeacon s =
        .next ({ s with beaconDue := false, hmu := { s.hmu with immediateAt := some s.now } }.sendBeacon false).after) ∧
    (s.events.unflushed ≠ 0 ∨ s.violations.unflushed ≠ 0 →
      exec (.logFlush false) s = .next s.flushed.after ∧
      (s.health.flashUsed < 256 →
        let u : State := { s with health := { s.health with flashUsed := s.health.flashUsed + 1 } }
        exec (.logFlush true) s =
          .next (if 256 - (s.health.flashUsed + 1) < 64 then u.moduleHealth 0x800 else u).flushed.after) ∧
      (256 ≤ s.health.flashUsed → exec (.logFlush true) s = .next (s.alert 0x20).after)) ∧
    (s.hmu.asleep = false → s.hmu.lastWork + 10000000 ≤ s.now → s.hmu.queueA = [] → s.hmu.queueB = [] → s.hmu.ndA = [] → s.hmu.ndB = [] →
      exec .hmuSleep s = .next ({ s with hmu := { s.hmu with asleep := true } } : State).after) ∧
    (∀ c < 2, bit (s.obj Obj.HMU_STATUS) c = true →
      exec (.hcWatchdog c) s = .next ((s.setObj Obj.HMU_STATUS (clearBit (s.obj Obj.HMU_STATUS) c)).alert 16).after) ∧
    (s.obj Obj.HMU_STATUS = 0 →
      let h := s.hmu
      let u : State := { s with
        hmu := { h.afresh s.now with
          beaconNo := h.beaconNo, beaconAt := h.beaconAt, immediateAt := h.immediateAt, taken := h.taken, hostPhys := h.hostPhys } }
      exec .hmuReset s = .next (((u.setObj Obj.HMU_STATUS 3).count 32 Obj.HMU_RESETS 1).resetUpdate).after) ∧
    (∀ g, (s.segUp g = true → exec (.segmentDown g) s = .next ((s.setSeg g false).mgmtStatus (2 ^ segNo g)).after) ∧
      (∀ slot mac, s.segUp g = false → s.hmuServes = true →
        exec (.segmentUp ⟨g, slot, mac⟩) s = .next ((s.setSeg g true).detect g slot mac).after)) ∧
    (∀ target,
      (∀ g, (s.addresses (.seg g)).contains target = true →
        exec (.neighborSolicitation (.seg g) target) s = .next (s.hmuWork.queueNd g (.advert target)).after) ∧
      (∀ p, (s.addresses (.host p)).contains target = true →
        exec (.neighborSolicitation (.host p) target) s = .next (s.send (.neighborAdvert (.host p) target)).after)) ∧
    (∀ o,
      (s.segUp .a = true → nextOut s.hmu.queueA = some o → o.low = false ∨ s.hmu.ndA = [] → exec (.transmitOpportunity .a) s =
        .next (({ s with hmu := { s.hmu with queueA := s.hmu.queueA.erase o } }.send (.hdp .a o.dup o.msg)).keyEffect o.key).after) ∧
      (s.segUp .b = true → nextOut s.hmu.queueB = some o → o.low = false ∨ s.hmu.ndB = [] → exec (.transmitOpportunity .b) s =
        .next (({ s with hmu := { s.hmu with queueB := s.hmu.queueB.erase o } }.send (.hdp .b o.dup o.msg)).keyEffect o.key).after)) ∧
    (∀ target rest, s.segUp .a = true → s.hmu.ndA = .advert target :: rest →
      (∀ o, nextOut s.hmu.queueA = some o → o.low = true) → exec (.transmitOpportunity .a) s =
        .next (({ s with hmu := { s.hmu with ndA := rest } } : State).send (.neighborAdvert (.seg .a) target)).after)

/-- Requests of hosts, start-up and the events of the records complete (R461, R463–R469, R478, R479, R481, R482, R485): a connection
accepts a WRITE, a READ, a FETCH_ADD that is its next, answers one it has had before again and refuses one that leaves a gap (log 151); a
CNP halves its rate, which rises again; a host link goes up and down; POWER_ON brings a good image up; a commit is programmed, a report
signed, a test run ended. -/
def Obligations.HostsComplete : Prop :=
  ∀ s : State,
    (∀ m,
      (s.HostAccepts .write m → exec (.rdmaWrite m) s = .next (((s.hostHeard m).takePsn .write m).hostAccept .write m false).after) ∧
      (∀ errors, (s.strikes errors).HostAccepts .read m →
        exec (.rdmaRead m errors) s = .next ((((s.strikes errors).hostHeard m).takePsn .read m).hostAccept .read m false).after) ∧
      (s.HostAccepts .add m →
        exec (.atomicFetchAdd m) s = .next (((s.hostHeard m).takePsn .add m).hostAccept .add m false).after) ∧
      (m.conn < 240 → (s.hostFec m).hostHears m.conn = true → (s.hostFec m).hostFrames m = true → 0 < (s.hostHeard m).psnBehind m →
        ((s.hostHeard m).psnBehind m ≤ 2 ^ 23 → exec (.rdmaWrite m) s = .next ((s.hostHeard m).hostRepeat .write m false).after) ∧
        (2 ^ 23 < (s.hostHeard m).psnBehind m → exec (.rdmaWrite m) s =
          .next ((s.hostHeard m).send (.rdmaNak m.conn ((s.hostHeard m).conn m.conn).expPsn nakSequence)).after))) ∧
    (∀ k < 240,
      (s.hostHears k = true → exec (.cnp k) s = .next ((s.setConn k { s.conn k with rate := (s.conn k).rate / 2, cnpAt := s.now }).count 32
        (Obj.HOST_CNP_RECEIVED (s.obj (Obj.QP_PORT k))) 1).after) ∧
      ((s.conn k).rate < hostRate → (s.conn k).cnpAt + 55000 ≤ s.now → exec (.cnpRateRestore k) s =
        .next (s.setConn k { s.conn k with rate := min hostRate ((s.conn k).rate + hostRate / 10), cnpAt := s.now }).after)) ∧
    (∀ p < 4,
      (s.obj (Obj.HOST_PORT_STATE p) = 1 ∨ s.obj (Obj.HOST_PORT_STATE p) = 3 →
        exec (.hostLinkUp p) s = .next (s.hostTrained p).after) ∧
      (s.obj (Obj.HOST_PORT_STATE p) = 1 ∨ s.obj (Obj.HOST_PORT_STATE p) = 2 →
        exec (.hostLinkDown p) s = .next (s.setObj (Obj.HOST_PORT_STATE p) 3).after)) ∧
    (∀ r, s.dead = false →
      let u := (if s.fw.loader then s else s.coldStart true).load r
      u.obj Obj.START_STATE ≠ 1 → u.power.epoPin = false → exec (.powerOn r) s = .next ((u.bringUp r).heedPins).after) ∧
    (s.fwState = 3 →
      let image := Image.programmed s.stagedBytes
      let u := { s with fw := { s.fw with flash := image } }.setObjs [(Obj.FW_STATE, 4), (Obj.FW_FLASH_RELEASE, image.release)]
      exec .fwCommitDone s = .next ((if s.obj Obj.START_STATE = 1 then u.post .restart else u).flashProgram s.stagedBytes.length).after) ∧
    (s.obj Obj.ATT_STATE = 1 → exec .attDone s = .next (s.setObjs
      [(Obj.ATT_REPORT, leNat (s.fw.report ++ Ed448.sign s.identityPrivate (shakeBytes 64 s.fw.report))), (Obj.ATT_STATE, 2)]).after) ∧
    (∀ failed, s.obj Obj.BIST_STATE = 1 → exec (.bistDone failed) s = .next ((s.fw.bist.foldl State.bistEnd
      { s with fw := { s.fw with bist := [] } }).setObjs
        [(Obj.BIST_RESULT, maskOf ((s.fw.bist.map (·.1)).filter (fun n => failed.contains n))), (Obj.BIST_STATE, 2)]).after)

/-- A step runs the command at the front of the queue: it is `exec` of that command on the state with the queue's rest. -/
def Obligations.StepRunsTheFrontCommand : Prop :=
  ∀ (c : Instr) (rest : List Instr) (s : State), step { s with pending := c :: rest } = exec c { s with pending := rest }

/-- With no command waiting, a nanosecond passes (the model's choice, log 1): true time advances by one, the 64-bit Chronometer by one,
and by one more or less in every 10,000 while an offset is slewed out; besides the Chronometer's own unit, only objects (the counters of
time, and the state of a port whose training fails), the cores' clocks and the ports' change. In a module that is dead, below 20 V or
behind an open input, only true time passes. -/
def Obligations.IdleStepPassesTime : Prop :=
  ∀ s : State, s.pending = [] →
    (s.dead = true → step s = .next { s with now := s.now + 1 }) ∧
    (s.dead = false → ∃ t, step s = .next t ∧
    t = { s with now := s.now + 1, chr := t.chr, chrU := t.chrU, dict := t.dict, cores := t.cores, ports := t.ports } ∧
    t.chr = if s.chrU.slew = 0 ∨ (s.now + 1) % 10000 ≠ 0 then (s.chr + 1) % 2 ^ 64
      else if 0 < s.chrU.slew then (s.chr + 2) % 2 ^ 64 else s.chr)

/-- Every step keeps the canonical forms of memory and of the dictionary's store: addresses and keys rise strictly, and nothing is listed
at its default. -/
def Obligations.EveryStepKeepsTheCanonicalForms : Prop :=
  ∀ s t : State, step s = .next t → Memory.wf s.mem = true → Dict.wf s.dict = true → Memory.wf t.mem = true ∧ Dict.wf t.dict = true

/-- The state after reset has memory and dictionary in their canonical forms, and nothing waits in it. -/
def Obligations.ResetIsCanonical : Prop :=
  Memory.wf State.reset.mem = true ∧ Dict.wf State.reset.dict = true ∧ State.reset.pending = [] ∧ State.reset.Quiet

/-- No command disturbs the queue or true time (that a command takes no time is the model's choice, log entry 1), and none takes a free
value back (the counter of the values that the spec leaves open, log entry 6). -/
def Obligations.CommandsKeepQueueAndTime : Prop :=
  ∀ (c : Instr) (s t : State), exec c s = .next t → t.pending = s.pending ∧ t.now = s.now ∧ s.free ≤ t.free

/-- What power-good leaves (R235, R252, and the reset values of the dictionary's tables): the Waypoints and the Chronometer at 0, no
Chart and no context in use, the module neither started nor fenced, every fabric port and connection off, the cores IDLE and the Reserves
OFF. -/
def Obligations.ResetLeaves : Prop :=
  (∀ wp, State.reset.wp wp = Wp.reset) ∧ Wp.reset.value = 0 ∧ Wp.reset.err = false ∧ Wp.reset.ovf = false ∧ Wp.reset.mark = 0 ∧
  State.reset.chr = 0 ∧ State.reset.obj Obj.START_STATE = 0 ∧ State.reset.obj Obj.FENCE_STATE = 0 ∧ State.reset.obj Obj.EPO_STATE = 0 ∧
  State.reset.obj Obj.STEP_STATE = 0 ∧ State.reset.obj Obj.FIX_STATE = 0 ∧ State.reset.obj Obj.CHART0_STATE = 0 ∧
  State.reset.obj Obj.CHART1_STATE = 0 ∧ State.reset.timed = [] ∧ State.reset.waiters = [] ∧
  (∀ n < 104, State.reset.coreSt n = if isReserve n then .off else .idle) ∧ (∀ p < 16, State.reset.obj (Obj.PORT_STATE p) = 0) ∧
  (∀ n < 128, State.reset.ctxState n = 0) ∧ (∀ k < 240, State.reset.obj (Obj.QP_STATE k) = 0)

/-- An ADD (R240, Table 9-3) on an entry that nothing watches, in a state where nothing else waits: VALUE takes the sum, or its largest
value where the sum exceeds it, and then OVF is set and WP_OVF_EVENTS rises; WP_OPS rises and LAST_TIME takes the Chronometer's count.
MARK, ERR, ERR_CODE and ERR_COUNT, every other entry, every other object and all other state stay as they are. -/
def Obligations.WaypointAddSaturates : Prop :=
  ∀ (s : State) (slice wp v : Nat), wp < 16384 → v < 2 ^ 64 → s.Quiet → s.Unwatched wp → s.wpCode slice wp = 0 →
    ∃ t, exec (.waypointAdd slice wp v) s = .next t ∧
      (t.wp wp).value = min (2 ^ 64 - 1) ((s.wp wp).value + v) ∧
      (t.wp wp).ovf = ((s.wp wp).ovf || decide (2 ^ 64 ≤ (s.wp wp).value + v)) ∧
      (t.wp wp).mark = (s.wp wp).mark ∧ (t.wp wp).err = (s.wp wp).err ∧ (t.wp wp).errCode = (s.wp wp).errCode ∧
      (t.wp wp).errCount = (s.wp wp).errCount ∧ (t.wp wp).lastTime = s.chr ∧
      t.obj Obj.WP_OPS = satInc 64 (s.obj Obj.WP_OPS) 1 ∧
      t.obj Obj.WP_OVF_EVENTS = (if 2 ^ 64 ≤ (s.wp wp).value + v then satInc 32 (s.obj Obj.WP_OVF_EVENTS) 1 else s.obj Obj.WP_OVF_EVENTS) ∧
      (∀ x ≠ wp, t.wp x = s.wp x) ∧ (∀ k, k ≠ Obj.WP_OPS → k ≠ Obj.WP_OVF_EVENTS → t.obj k = s.obj k) ∧
      t = { s with wps := t.wps, dict := t.dict }

/-- A SET (Table 9-3) on an entry that nothing watches, in a state where nothing else waits: VALUE takes the value, WP_OPS rises and
LAST_TIME takes the Chronometer's count; nothing else of the entry, no other entry, object or state changes. -/
def Obligations.WaypointSetStores : Prop :=
  ∀ (s : State) (slice wp v : Nat), wp < 16384 → v < 2 ^ 64 → s.Quiet → s.Unwatched wp → s.wpCode slice wp = 0 →
    ∃ t, exec (.waypointSet slice wp v) s = .next t ∧
      (t.wp wp).value = v ∧ (t.wp wp).ovf = (s.wp wp).ovf ∧ (t.wp wp).mark = (s.wp wp).mark ∧ (t.wp wp).err = (s.wp wp).err ∧
      (t.wp wp).errCode = (s.wp wp).errCode ∧ (t.wp wp).errCount = (s.wp wp).errCount ∧ (t.wp wp).lastTime = s.chr ∧
      t.obj Obj.WP_OPS = satInc 64 (s.obj Obj.WP_OPS) 1 ∧
      (∀ x ≠ wp, t.wp x = s.wp x) ∧ (∀ k ≠ Obj.WP_OPS, t.obj k = s.obj k) ∧ t = { s with wps := t.wps, dict := t.dict }

/-- An error completion (R241) on an entry that nothing watches, in a state where nothing else waits: VALUE stays, ERR is set, ERR_CODE
takes the code if ERR was clear, ERR_COUNT (to its largest value, 255), WP_ERR_EVENTS and WP_OPS rise, and LAST_TIME takes the
Chronometer's count (R242); OVF, MARK, every other entry and object and all other state stay. A CLEAR of ERR clears ERR_CODE and
ERR_COUNT with it, whatever else it clears. -/
def Obligations.ErrorCompletionMarksItsWaypoint : Prop :=
  (∀ (s : State) (slice wp c : Nat), wp < 16384 → c < 2 ^ 16 → s.Quiet → s.Unwatched wp → s.wpCode slice wp = 0 →
    ∃ t, exec (.errorCompletion slice wp c) s = .next t ∧
      (t.wp wp).value = (s.wp wp).value ∧ (t.wp wp).err = true ∧ (t.wp wp).lastTime = s.chr ∧ t.obj Obj.WP_OPS = satInc 64 (s.obj Obj.WP_OPS) 1 ∧
      (t.wp wp).errCode = (if (s.wp wp).err then (s.wp wp).errCode else c) ∧
      (t.wp wp).errCount = min 255 ((s.wp wp).errCount + 1) ∧ t.obj Obj.WP_ERR_EVENTS = satInc 32 (s.obj Obj.WP_ERR_EVENTS) 1 ∧
      (t.wp wp).ovf = (s.wp wp).ovf ∧ (t.wp wp).mark = (s.wp wp).mark ∧
      (∀ x ≠ wp, t.wp x = s.wp x) ∧ (∀ k, k ≠ Obj.WP_OPS → k ≠ Obj.WP_ERR_EVENTS → t.obj k = s.obj k) ∧
      t = { s with wps := t.wps, dict := t.dict }) ∧
  (∀ (s : State) (wp : Nat) (o : Bool), ((s.applyWp wp (.clear o true false)).wp wp).err = false ∧
    ((s.applyWp wp (.clear o true false)).wp wp).errCode = 0 ∧ ((s.applyWp wp (.clear o true false)).wp wp).errCount = 0 ∧
    ((s.applyWp wp (.clear o true false)).wp wp).value = (s.wp wp).value)

/-- A MARK and a CLEAR of a host (Table 9-3, R243, R466) on an entry that nothing watches, in a state where nothing else waits: a MARK
puts its word into MARK; a CLEAR with bit 0 of its word clears OVF, with bit 1 ERR, ERR_CODE and ERR_COUNT, and where a set shares its
cycle leaves what that set made. WP_OPS rises and LAST_TIME takes the Chronometer's count; VALUE and all else of the entry stays, and
every other entry. The connection counts the request and its bytes and is sent the acknowledgement; every other object, connection and
all other state stays as hearing the frame left it. -/
def Obligations.HostMarksAndClears : Prop :=
  ∀ (s : State) (m : HostMsg),
    let wp := (m.va - 0xE000000000) / 32
    let word := leNat (slice m.data 0 m.len)
    let w := s.wp wp
    let now := w.at s.chr
    let u := s.hostHeard m
    let frame (t : State) : Prop :=
      (t.wp wp).value = w.value ∧ (t.wp wp).lastTime = s.chr ∧ (∀ x ≠ wp, t.wp x = s.wp x) ∧
      t.obj Obj.WP_OPS = satInc 64 (u.obj Obj.WP_OPS) 1 ∧ t.obj Obj.HOST_BYTES_IN = satInc 64 (u.obj Obj.HOST_BYTES_IN) m.len ∧
      t.obj (Obj.QP_REQUESTS m.conn) = satInc 64 (u.obj (Obj.QP_REQUESTS m.conn)) 1 ∧
      (∀ k, k ≠ Obj.WP_OPS → k ≠ Obj.HOST_BYTES_IN → k ≠ Obj.QP_REQUESTS m.conn → t.obj k = u.obj k) ∧
      (∀ k ≠ m.conn, t.conn k = u.conn k) ∧
      t = { u with wps := t.wps, dict := t.dict, hosts := t.hosts, out := .rdmaAck m.conn m.psn :: u.out }
    s.HostAccepts .write m → s.Quiet → u.Unwatched wp →
    (wordTarget m 1 = true → ∃ t, exec (.waypointMark m) s = .next t ∧ frame t ∧
      (t.wp wp).mark = word % 2 ^ 64 ∧ (t.wp wp).ovf = w.ovf ∧ (t.wp wp).err = w.err ∧ (t.wp wp).errCode = w.errCode ∧
      (t.wp wp).errCount = w.errCount) ∧
    (wordTarget m 3 = true →
      (∃ t, exec (.waypointClear m false) s = .next t ∧ frame t ∧ (t.wp wp).mark = w.mark ∧
        (t.wp wp).ovf = (w.ovf && !bit word 0) ∧ (t.wp wp).err = (w.err && !bit word 1) ∧
        (t.wp wp).errCode = (if bit word 1 then 0 else w.errCode) ∧ (t.wp wp).errCount = (if bit word 1 then 0 else w.errCount)) ∧
      (∃ t, exec (.waypointClear m true) s = .next t ∧ frame t ∧ (t.wp wp).mark = w.mark ∧
        (t.wp wp).ovf = (if bit word 0 then now.nowOvf else w.ovf) ∧ (t.wp wp).err = (if bit word 1 then now.nowErr.isSome else w.err)))

/-- R237: a granted write of GROUP_SLICE, in a state where nothing else waits, gives the group to the slice, sets each of its 64 entries
to 0 and drops its pending timed adds; other groups keep their entries and their timed adds (said where none of theirs waits for room,
for it would be admitted). While a core waits on a Waypoint of the group, or is ARMED on one, the write returns 0x0805, and no entry,
timed add or owner changes. -/
def Obligations.GroupSliceClearsItsGroup : Prop :=
  ∀ (s : State) (h : Hdr) (group slice : Nat), group < 256 → (slice < 2 ^ 12 ∨ slice = 0xFFFF) → s.Quiet →
    s.GrantsWrite h (Obj.GROUP_SLICE group) slice →
    (s.groupWaited group = false → (∀ a ∈ s.timedHeld, a.wp / 64 = group) → ∃ t, exec (.groupSlice h group slice) s = .next t ∧
      (∀ wp, t.wp wp = if wp / 64 = group then Wp.reset else s.wp wp) ∧
      t.timed = s.timed.filter (fun a => a.wp / 64 != group) ∧ t.timedHeld = [] ∧ t.obj (Obj.GROUP_SLICE group) = slice ∧
      (∀ g < 256, g ≠ group → t.obj (Obj.GROUP_SLICE g) = s.obj (Obj.GROUP_SLICE g))) ∧
    (s.groupWaited group = true → ∃ t, exec (.groupSlice h group slice) s = .next t ∧
      t = (s.heardWrite h (Obj.GROUP_SLICE group) slice).declined (writeReq h (Obj.GROUP_SLICE group) slice) 0x0805 ∧
      t.wps = s.wps ∧ t.timed = s.timed ∧ ∀ g < 256, t.obj (Obj.GROUP_SLICE g) = s.obj (Obj.GROUP_SLICE g))

/-- R248: registered timed adds survive the RESET and any fault of a core; a module fence drops every one, and a GROUP_SLICE write those
of its group; TIMED_DROPPED counts all that are dropped. Of adds that wait for room the model says besides (log 157): they are dropped
alike, and of those kept, the oldest first, each takes a slot while one is free, or none where its time has come; the rest go on waiting,
and then no slot is free. -/
def Obligations.TimedAddsOutliveTheirCore : Prop :=
  (∀ (s : State) (core : Nat), ((s.coreReset core).setCoreSt core .idle).timed = s.timed) ∧
  (∀ (s : State) (core cause code slot addr gen : Nat), (s.faultPark core cause code slot addr gen).timed = s.timed) ∧
  (∀ (s : State) (how cause : Nat), (s.fenceModule how cause).timed = [] ∧ (s.fenceModule how cause).timedHeld = []) ∧
  (∀ (s : State) (g : Nat), s.timedHeld = [] → (s.clearGroup g).timed = s.timed.filter (fun a => a.wp / 64 != g)) ∧
  (∀ (s : State) (p : Timed → Bool),
    let kept := s.timed.filter (fun t => !p t)
    let wait := s.timedHeld.filter (fun t => !p t)
    (∃ a b, wait = a ++ b ∧ (s.dropTimed p).timed = kept ++ a.filter (fun t => decide (s.chr < t.time)) ∧ (s.dropTimed p).timedHeld = b ∧
      (b ≠ [] → timedSlots ≤ (s.dropTimed p).timed.length) ∧ (kept.length ≤ timedSlots → (s.dropTimed p).timed.length ≤ timedSlots)) ∧
    (s.dropTimed p).obj Obj.TIMED_DROPPED =
      satInc 32 (s.obj Obj.TIMED_DROPPED) ((s.timed.filter p).length + (s.timedHeld.filter p).length))

/-- Timed adds are performed in ascending time and, of equal times, in order of registration (R247): the add that is due next is the
first registered of those with the least time. -/
def Obligations.EarliestTimedAddIsNext : Prop :=
  ∀ (l : List Timed) (t : Timed), earliest l = some t →
    ∃ a b, l = a ++ t :: b ∧ (∀ x ∈ a, t.time < x.time) ∧ (∀ x ∈ b, t.time ≤ x.time)

/-- A request that one of the checks before the object's own refuses, and a write that the object itself refuses, are answered with the
code, noted and remembered, and change nothing else (R12, R424): the state that answers is the one that heard the request. Only a write
of RSV_SWAP that finds no Reserve leaves its mark in MODULE_HEALTH, and is left out here; an APPLY has read its record before it refuses
it, which is nothing where no stored error stands; and a swap that is due comes before a SLICE_CTRL of its cycle (R453). -/
def Obligations.RefusedRequestsHaveNoEffect : Prop :=
  ∀ (s : State) (q : HdpReq) (c : Instr) (code : Nat), s.Asks c q → code ≠ 0 →
    ((s.heard q).objectCode (reqKey q) q.hdr.role (q.typ == 1 || q.typ == 3) (askKind q) = code →
      exec c s = .next ((s.heard q).declined q code).after) ∧
    (q.typ = 1 → reqKey q ≠ Obj.RSV_SWAP → (reqKey q = Obj.FIX_SVC → s.errs = []) → (∀ k < 8, reqKey q = Obj.SLICE_CTRL k → s.swapDue = false) →
      (s.heard q).objectCode (reqKey q) q.hdr.role true (askKind q) = 0 →
      ((s.heard q).performWrite (reqKey q) q.payload).2 = code → exec c s = .next ((s.heard q).declined q code).after)

/-- R10: Observer, Operator, Job and Service rank in this order; a role holds every right of those below it; and a request for an object
whose minimum role is above the message's returns 0x0808, with no effect. (The objects of the record's update ask for no role while no
record is in force, R483, and are left out here.) -/
def Obligations.RolesBelowTheMinimumAreRefused : Prop :=
  (Role.observer.rank < Role.operator.rank ∧ Role.operator.rank < Role.job.rank ∧ Role.job.rank < Role.service.rank) ∧
  (∀ (s : State) (key r r' : Nat) (w : Bool) (k : Option Bool), r ≤ r' → s.objectCode key r w k = 0 → s.objectCode key r' w k = 0) ∧
  (∀ (s : State) (q : HdpReq) (c : Instr), s.Asks c q → objExists (reqKey q) = true → recordObject (reqKey q) = false →
    (∀ b, (askKind q) = some b → (objRow (reqKey q)).ty.segmented = b) → q.hdr.role < (objRow (reqKey q)).role.rank →
    exec c s = .next ((s.heard q).declined q 0x0808).after)

/-- R445: a request for an object that the dictionary does not hold returns 0x0802, with no effect: past core C103, past context 127,
past the last stack object, and wherever else Table 18-1 lists nothing. -/
def Obligations.AbsentObjectsAreRefused : Prop :=
  (objExists 0x846801 = false ∧ objExists 0x549001 = false ∧ objExists 0x610010 = false) ∧
  (∀ (s : State) (q : HdpReq) (c : Instr), s.Asks c q → objExists (reqKey q) = false →
    exec c s = .next ((s.heard q).declined q 0x0802).after)

/-- R57: a read or a clear of a flag object of a Reserve core that sleeps returns 0x0805, with no effect. -/
def Obligations.SleepingReservesRefuseTheirFlags : Prop :=
  ∀ (s : State) (core sub : Nat) (q : HdpReq) (c : Instr), isReserve core = true → s.sleeping core = true → 1 ≤ sub → sub ≤ 4 →
    s.Asks c q → reqKey q = 0x840000 + 0x100 * core + sub → (objRow (reqKey q)).role.rank ≤ q.hdr.role →
    (q.typ = 0 → exec c s = .next ((s.heard q).declined q 0x0805).after) ∧
    (q.typ = 1 → sub = 1 → exec c s = .next ((s.heard q).declined q 0x0805).after)

/-- R131: a core in program mode that launches has A0 = LAUNCH_ARG[47:0], A1 to A31 and P1 to P7 zero, and K0 to K3 zero with no loop
active; and so has one whose ARM finds its launch Waypoint reached, in a state where nothing else waits and no stage keeps its account by
that Waypoint: the core then runs from ENTRY_PC, and no other core and no memory changes. Of the Waypoints only the launch Waypoint takes
part, and only its time of the last operation changes (R242; that the wait of a launch counts as an operation is DEDUCED, log entry 80).
-/
def Obligations.LaunchSetsTheRegisters : Prop :=
  ∀ (s : State) (core : Nat),
    let launched (c : Core) : Prop := c.reg 0 = s.obj (Obj.LAUNCH_ARG core) % 2 ^ 48 ∧ (∀ i, 1 ≤ i → i < 32 → c.reg i = 0) ∧
      (∀ i, 1 ≤ i → i < 8 → c.pred i = false) ∧ (∀ i < 4, c.loopReg i = 0) ∧ c.loops = []
    let wp := s.obj (Obj.LAUNCH_WP core)
    ((s.core core).mode = 0 → launched ((s.launchCore core).core core)) ∧
    (∀ h, core < 104 → s.Quiet →
      (∀ k < 8, s.stageActive k = true → s.obj (Obj.CHARGE_WP k) ≠ wp ∧ s.obj (Obj.FREE_WP k) ≠ wp) →
      s.obj (Obj.CORE_MODE core) = 0 → s.GrantsWrite h (Obj.CORE_CTRL core) 1 →
      (s.heardWrite h (Obj.CORE_CTRL core) 1).mayArm core → (s.heardWrite h (Obj.CORE_CTRL core) 1).launchAns core = .satisfied →
      ∃ t, exec (.arm ⟨h, false⟩ core) s = .next t ∧ launched (t.core core) ∧ (t.core core).pc = s.obj (Obj.ENTRY_PC core) % 2 ^ 48 ∧
        t.coreSt core = .running ∧ (∀ n ≠ core, t.core n = s.core n) ∧ (∀ w, t.wp w = if w = wp then (s.wp w).at s.chr else s.wp w) ∧
        t = { s with dict := t.dict, cores := t.cores, wps := t.wps, hmu := t.hmu })

/-- R128: a slot takes effect only when P[PRED] XOR PNEG is 1, and P0 reads as 1; a bundle that issues does what it does with NOPs in the
place of the slots that take no effect. -/
def Obligations.PredicatesGateEverySlot : Prop :=
  (∀ (c : Core) (w : Nat), c.takes w = xor (c.pred (w % 8)) (w.testBit 3)) ∧ (∀ c : Core, c.pred 0 = true) ∧
  (∀ (s : State) (core b : Nat), s.Issues core b →
    let e := (Slots.of b).effective (s.core core)
    exec (.bundleIssue core) s = .next ((s.tookSync core e.sync).issueBundle core e).after)

/-- A bundle whose only effect is a scalar operation of Table 5-4 that writes an address register (ADD, ADDI, SUB, SHL, SHR, AND, OR,
XOR, MULI, MADDI, MOVI, ORSH, ORST, MINU, MAXU), in a state where nothing else waits: register D takes the low 48 bits of the value of
the two sources as they stood (R129); no other address register, no predicate, no other core, no memory and no Waypoint changes. -/
def Obligations.ScalarOperationsWriteOneRegister : Prop :=
  ∀ (s : State) (core b : Nat) (v : Int), s.Quiet → s.Issues core b →
    let w := (Slots.of b).scalar
    (s.core core).takes w = true → scalarValue w (s.source core (scS1 w)) (s.source core (scS2 w)) = some v →
    slotOp (Slots.of b).load = 0 → slotOp (Slots.of b).store = 0 → slotOp (Slots.of b).matrix = 0 → vectorOp (Slots.of b).vector = 0 →
    slotOp (Slots.of b).sync = 0 →
    ∃ t, exec (.bundleIssue core) s = .next t ∧ (∀ i, (t.core core).reg i = if i = scD w then (v % 2 ^ 48).toNat else (s.core core).reg i) ∧
      (∀ i, (t.core core).pred i = (s.core core).pred i) ∧ (∀ n ≠ core, t.core n = s.core n) ∧
      t = { s with dict := t.dict, cores := t.cores }

/-- A bundle whose only effect is CMP, CMPI or PLOG (Table 5-4), in a state where nothing else waits: predicate D[2:0] takes the relation
of the two values, or the combination of the two predicates, as they stood (R129), and a write of P0 has no effect, for it reads as 1
(R128); no other predicate, no address register, no other core, no memory and no Waypoint changes. -/
def Obligations.ComparisonsWriteOnePredicate : Prop :=
  ∀ (s : State) (core b : Nat) (v : Bool), s.Quiet → s.Issues core b →
    let w := (Slots.of b).scalar
    (s.core core).takes w = true → scalarFlag (s.core core) w (s.source core (scS1 w)) (s.source core (scS2 w)) = some v →
    slotOp (Slots.of b).load = 0 → slotOp (Slots.of b).store = 0 → slotOp (Slots.of b).matrix = 0 → vectorOp (Slots.of b).vector = 0 →
    slotOp (Slots.of b).sync = 0 →
    ∃ t, exec (.bundleIssue core) s = .next t ∧
      (∀ i, (t.core core).pred i = if i = scD w % 8 then i == 0 || v else (s.core core).pred i) ∧
      (∀ i, (t.core core).reg i = (s.core core).reg i) ∧ (∀ n ≠ core, t.core n = s.core n) ∧
      t = { s with dict := t.dict, cores := t.cores }

/-- A bundle whose only effect is STA, in a state where nothing else waits and no stored error lies where it writes (Table 5-5, R3): the
8 bytes at the scratchpad offset A[B] + OFF take the register, least significant byte first; every other byte of memory, every register
and all state but the dictionary and the cores stay as they are, except for data being sent that the write disturbs (R313). -/
def Obligations.StoresWriteEightBytes : Prop :=
  ∀ (s : State) (core b : Nat), s.Quiet → s.Issues core b →
    let w := (Slots.of b).store
    let c := s.core core
    let a := spBase core + c.offset (memB w) (memOff w)
    let d := s.disturb false a 8
    c.takes w = true → slotOp w = 1 → slotOp (Slots.of b).scalar = 0 → slotOp (Slots.of b).load = 0 → slotOp (Slots.of b).matrix = 0 →
    vectorOp (Slots.of b).vector = 0 → slotOp (Slots.of b).sync = 0 → s.errorsIn a 8 = [] →
    ∃ t, exec (.bundleIssue core) s = .next t ∧
      (∀ i < 8, (t.byte (a + i)).toNat = c.reg (memD w) / 2 ^ (8 * i) % 2 ^ 8) ∧
      (∀ x, x < a ∨ a + 8 ≤ x → t.byte x = s.byte x) ∧ (∀ i, (t.core core).reg i = c.reg i) ∧ (∀ n ≠ core, t.core n = s.core n) ∧
      t = { s with dict := t.dict, cores := t.cores, mem := t.mem, ctxs := d.ctxs, txFlows := d.txFlows, free := d.free }

/-- R278: the SEQ of an arriving frame is compared with the expected value E of its flow in serial order modulo 2^32. At E the frame is
accepted, though it may still be refused, and E advances; behind E it is a duplicate, dropped, counted in E2E_DUPLICATES and acknowledged
at once; ahead of E it is dropped and counted in E2E_GAP_DROPS, without an ACK; and one whose payload CRC fails is dropped as a gap and
counted in E2E_CRC_ERRORS. -/
def Obligations.FramesAreTakenInSequence : Prop :=
  ∀ (s : State) (port : Option Nat) (f : Frame), s.ReachesFlow f →
    let e := (s.rxFlow (recvKey f)).expected
    (payloadGood f = true → f.seq = e →
      ((s.expecting f).rxFlow (recvKey f)).expected = nextSeq e ∧
      (wellFormedHeader f = true → ((s.expecting f).takeFrame f).2 = 0 →
        s.deliver port f = ((s.expecting f).takeFrame f).1.noteAccepted (recvKey f)) ∧
      (wellFormedHeader f = false → s.deliver port f = ((s.expecting f).errResp f 0x0809).noteAccepted (recvKey f))) ∧
    (payloadGood f = true → f.seq ≠ e → (e + 2 ^ 32 - f.seq) % 2 ^ 32 < 2 ^ 31 →
      s.deliver port f = (s.count 64 Obj.E2E_DUPLICATES 1).sendAck (recvKey f)) ∧
    (payloadGood f = true → 2 ^ 31 ≤ (e + 2 ^ 32 - f.seq) % 2 ^ 32 → s.deliver port f = s.count 64 Obj.E2E_GAP_DROPS 1) ∧
    (payloadGood f = false → s.deliver port f = (s.count 32 Obj.E2E_CRC_ERRORS 1).count 64 Obj.E2E_GAP_DROPS 1)

/-- A key whose window is empty accepts, after it has accepted a run of counters, exactly the counters above the ceiling that it started
with (where it has one) that it has not accepted before and that lie above its highest or within the 64 below it (R429). And a tagged
request of firmware is performed only if its key accepts its counter, or if it is, byte for byte, one of the last messages that have
drawn no answer, which say the same again (log 152). -/
def Obligations.CountersAreAcceptedOnce : Prop :=
  (∀ (k₀ k : RoleKey) (l : List Nat) (c : Nat), k₀.top = none → k₀.seen = [] → Accepted k₀ l k →
    (k.accepts c = true ↔ (∀ f, k₀.floor = some f → f < c) ∧ ∀ x ∈ l, c ≠ x ∧ x ≤ c + 64)) ∧
  (∀ (s : State) (q : HdpReq), q.hdr.tagged = true → s.authenticate q = .pass →
    (s.roleKey q.hdr.role).accepts q.hdr.counter = true ∨ (s.roleKey q.hdr.role).quiet.any (sameBytes q) = true)

/-- The decoding of R210 loses nothing: two HBM addresses that lie in the same stack, pseudo-channel, bank, row and column byte are one,
and every place that a stack has is some address's. -/
def Obligations.HbmAddressesDecodeOneToOne : Prop :=
  (∀ a b, a < 0xC000000000 → b < 0xC000000000 → decodeHbm a = decodeHbm b → a = b) ∧
  (∀ a < 0xC000000000, (decodeHbm a).stack < 12 ∧ (decodeHbm a).pc < 32 ∧ (decodeHbm a).bank < 32 ∧ (decodeHbm a).row < 65536 ∧
    (decodeHbm a).col < 1024) ∧
  (∀ stack < 12, ∀ pc < 32, ∀ bank < 32, ∀ row < 65536, ∀ col < 1024, ∃ a < 0xC000000000, decodeHbm a = ⟨stack, pc, bank, row, col⟩)

/-- A WRITE, or a READ_DATA (which is not matched to a READ outstanding, the model's choice, log entry 126), that is the next of its
flow, comes from another module, unicast or as a copy of a multicast, and finds its target (R288, R289), while nothing else waits, no
step is in progress, no write is held, no copy before a write is active and no Sextant run has the memory to itself (R231), and where no
stored error lies: the bytes from the target's local address on take the payload, every other byte of memory stays as it is, and all
other state but the flow's own, and data being sent that the write disturbs (R313), stays too (its acknowledgement is not yet due). -/
def Obligations.DataFramesStoreTheirPayload : Prop :=
  ∀ (s : State) (f : Frame) (c : Instr) (op : Nat), (c = .write f ∧ op = 1 ∨ c = .readData f ∧ op = 3) →
    s.Quiet → s.Accepts f op → 0 < f.len → f.len ≤ 4096 → f.payload.length = f.len → f.srcDev ≠ s.selfId →
    s.frameTarget f (frameAddr f) f.len = 0 → (s.stepSt < 2 ∨ 7 < s.stepSt) → s.obj Obj.CBW_ACTIVE ≠ 1 → s.sextant = none → s.held = [] →
    s.errorsIn (s.home (frameAddr f)) f.len = [] → (s.rxFlow (recvKey f)).uncovered < 15 →
    ∃ t, exec c s = .next t ∧ (∀ i, (h : i < f.payload.length) → t.byte (s.home (frameAddr f) + i) = f.payload[i]) ∧
      (∀ x, x < s.home (frameAddr f) ∨ s.home (frameAddr f) + f.len ≤ x → t.byte x = s.byte x) ∧
      (let d := s.disturb false (s.home (frameAddr f)) f.len
       t = { s with mem := t.mem, rxFlows := t.rxFlows, ctxs := d.ctxs, txFlows := d.txFlows, free := d.free })

/-- R156, R167: a RESET of the same cycle takes effect before an ARM, a LYR_START or a write of a launch object of its core, whatever
their order of arrival: the other command, of whatever form, changes nothing and is answered 0x0805, or the code of the object's own
refusal where that refuses it (R424). A command that switches a power domain off in the cycle of the domain’s wake gives way alike
(R407). That two messages fall into one cycle is an operand of the command (the model's choice, log 57). -/
def Obligations.ResetWinsItsCycle : Prop :=
  ∀ (s : State) (core : Nat), core < 104 →
    (∀ (c : Instr) (h : Hdr) (key v : Nat),
      (c = .arm ⟨h, true⟩ core ∧ key = Obj.CORE_CTRL core ∧ v = 1 ∨ c = .lyrStart ⟨h, true⟩ core ∧ key = Obj.LYR_START core ∧ v = 1 ∨
        c = .progGen ⟨h, true⟩ core v ∧ key = Obj.PROG_GEN core ∧ v < 2 ^ 32 ∨
        (∃ d < 128, c = .pdOff ⟨h, true⟩ d ∧ key = Obj.PD_CTRL ∧ v = d ∧ (s.heardWrite h key v).pd d = 1)) →
      s.GrantsWrite h key v →
      let own := ((s.heardWrite h key v).performWrite key (leBytes (objRow key).size v)).2
      exec c s = .next ((s.heardWrite h key v).declined (writeReq h key v) (if own = 0 then 0x0805 else own)).after) ∧
    (∀ q : HdpReq, q.typ = 1 → reqKey q ∈ launchObjects core → s.Asks (.objectWrite ⟨q, true, none, false⟩) q →
      (s.heard q).objectCode (reqKey q) q.hdr.role true (askKind q) = 0 →
      let own := ((s.heard q).performWrite (reqKey q) q.payload).2
      exec (.objectWrite ⟨q, true, none, false⟩) s = .next ((s.heard q).declined q (if own = 0 then 0x0805 else own)).after)

/-- R165: a fault or a watchdog that parks a core in the cycle of a RESET stands, in a state where nothing else waits: the core ends
PARKED_FAULT, its record of the fault is unchanged, and the counter of the fault's cause has counted it, after the RESET's clearing.
Every other object reads as the RESET by itself leaves it. -/
def Obligations.FaultStandsAgainstItsReset : Prop :=
  ∀ (s : State) (h : Hdr) (core : Nat), core < 104 → s.Quiet → s.GrantsWrite h (Obj.CORE_CTRL core) 2 → s.justParked core = true →
    let cause := bits (s.obj (Obj.FAULT_RECORD core)) 135 128
    ∃ t r, exec (.reset ⟨h, true⟩ core) s = .next t ∧ exec (.reset ⟨h, false⟩ core) s = .next r ∧ t.coreSt core = .parkedFault ∧
      t.obj (Obj.FAULT_RECORD core) = s.obj (Obj.FAULT_RECORD core) ∧ t.obj (causeCounter core cause) = max 1 (r.obj (causeCounter core cause)) ∧
      (∀ k, k ≠ Obj.CORE_STATE core → k ≠ causeCounter core cause → t.obj k = r.obj k) ∧ t = { r with dict := t.dict }

/-- R252, R256: the Chronometer's count never steps but where it may. An idle nanosecond takes it on by at most two and never back, short
of its wrap. After the first lock an exchange of time leaves it alone, as a failed exchange and the loss of the parent do, and a start-up
without a loss of power; before the first lock an exchange that steps it counts the step and locks. A write of CHR_SET steps it in ROOT
while no slice holds cores, and counts the step; otherwise it is refused with 0x0805 and leaves it alone. -/
def Obligations.ChronometerStepsOnlyWhereItMay : Prop :=
  ∀ s : State,
    (s.pending = [] → s.chr + 2 < 2 ^ 64 → ∃ t, step s = .next t ∧ s.chr ≤ t.chr ∧ t.chr ≤ s.chr + 2) ∧
    (∀ th, s.chrU.locked = true → (s.chrExchange th).chr = s.chr) ∧
    (∀ th, (s.chrExchange th).chr ≠ s.chr → s.chrU.locked = false ∧ (s.chrExchange th).chrU.locked = true ∧
      (s.chrExchange th).obj Obj.CHR_STATE = 2 ∧ (s.chrExchange th).obj Obj.CHR_STEPS = satInc 32 (s.obj Obj.CHR_STEPS) 1) ∧
    s.chrFailed.chr = s.chr ∧ s.chrAlone.chr = s.chr ∧ (s.coldStart false).chr = s.chr ∧
    (∀ v, (s.chrState = 4 ∧ s.noSliceHoldsCores = true →
        (s.writeChrSet v).2 = 0 ∧ (s.writeChrSet v).1.chr = v % 2 ^ 64 ∧ (s.writeChrSet v).1.obj Obj.CHR_STEPS = satInc 32 (s.obj Obj.CHR_STEPS) 1) ∧
      (¬ (s.chrState = 4 ∧ s.noSliceHoldsCores = true) → s.writeChrSet v = (s, 0x0805)))

/-- R284, R286: at most one Chart is ACTIVE. In a state with no more, where nothing is under way in the fabric, nothing else waits and no
step is in progress, no write of CHART_CTRL makes two ACTIVE; a switch whose time has come makes its Chart the ACTIVE one and
CHART_ACTIVE name it, and leaves a Chart that was ACTIVE DRAINING, or CLOSED by SWITCH_CLOSE; and the end of a drain closes its Chart. -/
def Obligations.AtMostOneChartIsActive : Prop :=
  ∀ s : State, ¬ (s.chartState 0 = 3 ∧ s.chartState 1 = 3) → s.Quiet → s.stepSt < 2 → s.chartSel < 2 → s.txFlows = [] → s.routerQ = [] →
    (∀ p < 16, (s.port p).queue = []) →
    (∀ v, ¬ ((s.writeChartCtrl v).1.chartState 0 = 3 ∧ (s.writeChartCtrl v).1.chartState 1 = 3)) ∧
    (∀ w, s.switchAt = some w → w.chart < 2 → w.time ≤ s.chr →
      ∃ t, exec .chartSwitchTime s = .next t ∧ t.chartState w.chart = 3 ∧ t.chartState (1 - w.chart) ≠ 3 ∧
        t.obj Obj.CHART_ACTIVE = w.chart ∧ (s.chartState (1 - w.chart) = 3 → t.chartState (1 - w.chart) = if w.close then 0 else 4)) ∧
    (∀ e < 2, s.chartState e = 4 → (s.chart e).drainAt + 4000000 ≤ s.chr →
      ∃ t, exec (.chartDrainClose e) s = .next t ∧ t.chartState e = 0 ∧ t.chartState (1 - e) = s.chartState (1 - e))
end

