-- ==== Sys2Proof/Laws/Arrivals.lean ====
section
/-! SUPPORT. What one thing set going within a command comes to, and what the arrival of a frame comes to that is accepted. -/

namespace Sys2Proof.Machine

theorem settled_next (s : State) : settled (.next s) = .next s.after := rfl

theorem settle_first {s : State} (h : s.posts = []) (p : Post) : (s.post p).after = (s.perform p).afterFirst := by
  show (s.post p).settle (65535 + 1) = _
  rw [State.settle]
  simp only [State.post, h, List.nil_append]
  have : ({ s with posts := [] } : State) = s := by cases s; simp_all
  rw [this]; rfl

/-- An operation of one of the module's own units on a Waypoint of its slice. -/
theorem perform_own {s : State} {slice wp : Nat} {k : WpKind} {a : Asker} (ha : a = .unit ∨ a = .timed) (h : s.wpCode slice wp = 0) :
    s.perform (.wp { asker := a, slice, wp, kind := k }) = (s.performWp wp k).watchers wp := by
  rcases ha with rfl | rfl <;> cases k <;> simp [State.perform, State.performReq, State.wpRefused, State.wpDiscard, h]

theorem deliver_accepted {s : State} {f : Frame} {op : Nat} (g : s.Accepts f op) (hs : sequenced op = true) (port : Option Nat)
    {t : State} (e : State.takeFrame f (s.expecting f) = (t, 0)) : s.deliver port f = t.noteAccepted (recvKey f) := by
  obtain ⟨⟨-, rfl, h1, h2, h3, h4, h5⟩, h6, h7⟩ := g
  have hl : linkFrame f.opcode = false := by
    unfold sequenced at hs; unfold linkFrame
    simp only [Bool.or_eq_true, Bool.and_eq_true, decide_eq_true_eq] at hs
    simp only [Bool.or_eq_false_iff, beq_eq_false_iff_ne]
    omega
  have h8 : (!f.mcast && f.dstDev != (s.chart f.epoch).self) = false := by rcases h5 with h | h <;> simp [h]
  rw [hs, Bool.and_true] at h3
  simp only [State.deliver, h1, hl, h3, h4, h8, hs, Bool.true_or]
  simp only [Bool.not_true, Bool.false_eq_true, if_false, if_true, State.sequenceCheck, h2, h6, State.acceptFrame, h7]
  rw [show s.setRxFlow { s.rxFlow (recvKey f) with expected := nextSeq f.seq, slice := f.slice } = s.expecting f from rfl, e]
  simp

/-- The arrival of a sequenced frame completes where its opcode's operation takes the frame. -/
theorem FrameCompletes.of {c : Instr} {s : State} {f : Frame} {op : Nat} {ok : State → Prop} {effect : State → State}
    (hx : exec c s = settled (s.arrive op f)) (hs : sequenced op = true) (he : ∀ u, ok u → f.opcode = op → State.takeFrame f u = (effect u, 0)) :
    FrameCompletes c s f op ok effect := by
  intro g k
  rw [hx]
  simp only [State.arrive, g.receives.opcode, if_true, settled]
  rw [← deliver_accepted g hs none (he _ k g.receives.opcode)]
  show Host.Outcome.next (s.post (.frame none f)).after = _
  rw [settle_first g.receives.alone]; rfl

/-- The arrival of an unsequenced frame of the module's own flows. -/
theorem arrive_unsequenced {c : Instr} {s : State} {f : Frame} {op : Nat} (hx : exec c s = settled (s.arrive op f))
    (hop : op = 5 ∨ op = 6 ∨ op = 7) (g : s.Receives f op) : exec c s = .next (s.unsequenced none f).afterFirst := by
  obtain ⟨h0, rfl, h1, h2, h3, h4, h5⟩ := g
  have hl : linkFrame f.opcode = false := by rcases hop with h | h | h <;> rw [h] <;> rfl
  have hs : sequenced f.opcode = false := by rcases hop with h | h | h <;> rw [h] <;> rfl
  have hk : knownOpcode f.opcode = true := by rcases hop with h | h | h <;> rw [h] <;> rfl
  have h8 : (!f.mcast && f.dstDev != (s.chart f.epoch).self) = false := by rcases h5 with h | h <;> simp [h]
  rw [hx]
  simp only [State.arrive, if_true, settled]
  have e : s.deliver none f = s.unsequenced none f := by
    simp [State.deliver, h1, hl, h4, h8, hs, hk]
  rw [← e]
  show Host.Outcome.next (s.post (.frame none f)).after = _
  rw [settle_first h0]; rfl

end Sys2Proof.Machine
end

