-- ==== Sys2Proof/Laws/Sparse.lean ====
section
/-! SUPPORT. The sparse maps: a read after a write, the canonical form kept by every operation, and equal maps from equal reads. -/

namespace Sys2Proof.Machine.Sparse

variable {α : Type}

theorem get_put (d : Nat → α) (m : Sparse α) (k j : Nat) (v : α) : (put m k v).get d j = if j = k then v else m.get d j := by
  induction m with
  | nil => simp [put, get]
  | cons e r ih =>
    obtain ⟨k', v'⟩ := e
    simp only [put]
    split
    · simp [get]
    · split
      · subst_vars; by_cases h : j = k' <;> simp [get, h]
      · simp only [get, ih]
        by_cases h : j = k' <;> by_cases h' : j = k <;> simp_all

theorem get_filter (d : Nat → α) (m : Sparse α) (p : Nat → Bool) (j : Nat) :
    get d (m.filter (fun e => p e.1)) j = if p j then m.get d j else d j := by
  induction m with
  | nil => simp [get]
  | cons e r ih =>
    obtain ⟨k', v'⟩ := e
    by_cases hp : p k' = true
    · rw [List.filter_cons_of_pos (by simpa using hp)]
      simp only [get, ih]
      by_cases h : j = k' <;> simp [h, hp]
    · rw [List.filter_cons_of_neg (by simpa using hp)]
      rw [ih]
      by_cases h : j = k'
      · subst h; simp [hp]
      · simp [get, h]

theorem get_erase (d : Nat → α) (m : Sparse α) (k j : Nat) : (erase m k).get d j = if j = k then d j else m.get d j := by
  have := get_filter d m (fun i => i != k) j
  simp only [erase, this]
  by_cases h : j = k <;> simp [h]

/-- A read after a write. -/
@[simp] theorem get_set [DecidableEq α] (d : Nat → α) (m : Sparse α) (k j : Nat) (v : α) :
    (set d m k v).get d j = if j = k then v else m.get d j := by
  unfold set
  split
  · rw [get_erase]; by_cases h : j = k <;> simp_all
  · exact get_put d m k j v

theorem get_set_self [DecidableEq α] (d : Nat → α) (m : Sparse α) (k : Nat) (v : α) : (set d m k v).get d k = v := by simp

theorem get_set_other [DecidableEq α] (d : Nat → α) (m : Sparse α) (k j : Nat) (v : α) (h : j ≠ k) :
    (set d m k v).get d j = m.get d j := by simp [h]

@[simp] theorem get_eraseRange (d : Nat → α) (m : Sparse α) (lo n j : Nat) :
    (eraseRange m lo n).get d j = if lo ≤ j ∧ j < lo + n then d j else m.get d j := by
  unfold eraseRange
  rw [get_filter d m (fun i => !(decide (lo ≤ i) && decide (i < lo + n)))]
  by_cases h : lo ≤ j ∧ j < lo + n <;> simp [h]

@[simp] theorem get_nil (d : Nat → α) (j : Nat) : get d [] j = d j := rfl

/-! ### The canonical form -/

variable [DecidableEq α]

theorem wfFrom_le (d : Nat → α) {lo lo' : Nat} (h : lo' ≤ lo) {m : Sparse α} : wfFrom d lo m = true → wfFrom d lo' m = true := by
  cases m with
  | nil => simp [wfFrom]
  | cons e r => obtain ⟨k, v⟩ := e; simp only [wfFrom, Bool.and_eq_true, decide_eq_true_eq]; rintro ⟨⟨h1, h2⟩, h3⟩; exact ⟨⟨by omega, h2⟩, h3⟩

theorem wfFrom_filter (d : Nat → α) (p : Nat × α → Bool) {lo : Nat} {m : Sparse α} :
    wfFrom d lo m = true → wfFrom d lo (m.filter p) = true := by
  induction m generalizing lo with
  | nil => simp [wfFrom]
  | cons e r ih =>
    obtain ⟨k, v⟩ := e
    simp only [wfFrom, Bool.and_eq_true, decide_eq_true_eq]
    rintro ⟨⟨h1, h2⟩, h3⟩
    by_cases hp : p (k, v) = true
    · rw [List.filter_cons_of_pos hp]; simp [wfFrom, h1, h2, ih h3]
    · rw [List.filter_cons_of_neg hp]; exact wfFrom_le d (by omega) (ih h3)

theorem wfFrom_put (d : Nat → α) {lo k : Nat} {v : α} (hk : lo ≤ k) (hv : v ≠ d k) {m : Sparse α} :
    wfFrom d lo m = true → wfFrom d lo (put m k v) = true := by
  induction m generalizing lo with
  | nil => simp [put, wfFrom, hk, hv]
  | cons e r ih =>
    obtain ⟨k', v'⟩ := e
    simp only [wfFrom, Bool.and_eq_true, decide_eq_true_eq]
    rintro ⟨⟨h1, h2⟩, h3⟩
    simp only [put]
    split
    · simp only [wfFrom, Bool.and_eq_true, decide_eq_true_eq]; exact ⟨⟨hk, hv⟩, ⟨by omega, h2⟩, h3⟩
    · split
      · subst_vars; simp [wfFrom, hk, hv, h3]
      · simp only [wfFrom, Bool.and_eq_true, decide_eq_true_eq]; exact ⟨⟨h1, h2⟩, ih (by omega) h3⟩

/-- Every write keeps the canonical form. -/
theorem wf_set (d : Nat → α) {m : Sparse α} (k : Nat) (v : α) (h : wf d m = true) : wf d (set d m k v) = true := by
  unfold set
  split
  · exact wfFrom_filter d _ h
  · exact wfFrom_put d (by omega) (by assumption) h

theorem wf_filter (d : Nat → α) {m : Sparse α} (p : Nat × α → Bool) (h : wf d m = true) : wf d (m.filter p) = true := wfFrom_filter d p h

theorem wf_eraseRange (d : Nat → α) {m : Sparse α} (lo n : Nat) (h : wf d m = true) : wf d (eraseRange m lo n) = true :=
  wfFrom_filter d _ h

theorem wf_setMany (d : Nat → α) (l : List (Nat × α)) {m : Sparse α} (h : wf d m = true) : wf d (setMany d m l) = true := by
  induction l generalizing m with
  | nil => exact h
  | cons e r ih => exact ih (wf_set d _ _ h)

theorem wf_setRun (d : Nat → α) (l : List α) {m : Sparse α} (k : Nat) (h : wf d m = true) : wf d (setRun d m k l) = true := by
  induction l generalizing m k with
  | nil => exact h
  | cons v r ih => exact ih _ (wf_set d _ _ h)

@[simp] theorem wf_nil (d : Nat → α) : wf d [] = true := rfl

/-- A read after a run of writes. -/
theorem get_setRun (d : Nat → α) (l : List α) (m : Sparse α) (k j : Nat) :
    (setRun d m k l).get d j = if h : k ≤ j ∧ j < k + l.length then l[j - k] else m.get d j := by
  induction l generalizing m k with
  | nil => simp only [setRun, List.length_nil, Nat.add_zero]; rw [dif_neg (by omega)]
  | cons v r ih =>
    simp only [setRun, ih, get_set, List.length_cons]
    by_cases h : j = k
    · subst h; rw [dif_neg (by omega), if_pos rfl, dif_pos (by omega)]; simp
    · by_cases h' : k + 1 ≤ j ∧ j < k + 1 + r.length
      · rw [dif_pos h', dif_pos (by omega)]
        obtain ⟨i, rfl⟩ : ∃ i, j = k + 1 + i := ⟨j - (k + 1), by omega⟩
        have h1 : k + 1 + i - (k + 1) = i := by omega
        have h2 : k + 1 + i - k = i + 1 := by omega
        simp [h1, h2]
      · rw [dif_neg h', if_neg h, dif_neg (by omega)]

/-- A key below a rising map's first reads as its default. -/
theorem get_below (d : Nat → α) {lo j : Nat} {m : Sparse α} (h : wfFrom d lo m = true) (hj : j < lo) : m.get d j = d j := by
  induction m generalizing lo with
  | nil => rfl
  | cons e r ih =>
    obtain ⟨k, v⟩ := e
    simp only [wfFrom, Bool.and_eq_true, decide_eq_true_eq] at h
    have hne : j ≠ k := by omega
    simp only [get, hne, if_false]
    exact ih h.2 (by omega)

/-- Equal reads make equal maps: the canonical form is one list for each content. -/
theorem ext_wfFrom (d : Nat → α) {lo : Nat} {m n : Sparse α} (hm : wfFrom d lo m = true) (hn : wfFrom d lo n = true)
    (h : ∀ j, m.get d j = n.get d j) : m = n := by
  induction m generalizing lo n with
  | nil =>
    cases n with
    | nil => rfl
    | cons e r =>
      obtain ⟨k, v⟩ := e
      simp only [wfFrom, Bool.and_eq_true, decide_eq_true_eq] at hn
      have := h k
      simp [get] at this
      exact absurd this.symm hn.1.2
  | cons e r ih =>
    obtain ⟨k, v⟩ := e
    have hm' := hm
    simp only [wfFrom, Bool.and_eq_true, decide_eq_true_eq] at hm
    cases n with
    | nil =>
      have := h k
      simp [get] at this
      exact absurd this hm.1.2
    | cons e' r' =>
      obtain ⟨k', v'⟩ := e'
      have hn' := hn
      simp only [wfFrom, Bool.and_eq_true, decide_eq_true_eq] at hn
      rcases Nat.lt_trichotomy k k' with hk | hk | hk
      · have h1 := h k
        have h2 : wfFrom d k' ((k', v') :: r') = true := by simp [wfFrom, hn.1.2, hn.2]
        have h3 := get_below d h2 hk
        rw [h3] at h1
        simp [get] at h1
        exact absurd h1 hm.1.2
      · subst hk
        have hv : v = v' := by simpa [get] using h k
        subst hv
        congr 1
        refine ih hm.2 hn.2 (fun j => ?_)
        by_cases hj : j = k
        · subst hj; rw [get_below d hm.2 (by omega), get_below d hn.2 (by omega)]
        · simpa [get, hj] using h j
      · have h1 := h k'
        have h2 : wfFrom d k ((k, v) :: r) = true := by simp [wfFrom, hm.1.2, hm.2]
        have h3 := get_below d h2 hk
        rw [h3] at h1
        simp [get] at h1
        exact absurd h1.symm hn.1.2

theorem ext_wf (d : Nat → α) {m n : Sparse α} (hm : wf d m = true) (hn : wf d n = true) (h : ∀ j, m.get d j = n.get d j) : m = n :=
  ext_wfFrom d hm hn h

end Sys2Proof.Machine.Sparse
end

