-- ==== Sys2Proof/Laws/Keeps.lean ====
section
/-! SUPPORT. What a command cannot disturb: the lemmas from which `State.Keeps` is built up, function by function, in Laws/Keeps/. -/

namespace Sys2Proof.Machine

theorem State.Keeps.refl (s : State) : s.Keeps s := ⟨rfl, rfl, le_refl _, id, id⟩

theorem State.Keeps.trans {s t u : State} (h : s.Keeps t) (k : t.Keeps u) : s.Keeps u :=
  ⟨k.pending.trans h.pending, k.now.trans h.now, h.free.trans k.free, k.mem ∘ h.mem, k.dict ∘ h.dict⟩

theorem State.Keeps.same {s t u : State} (h : s.Keeps t) (h1 : u.pending = t.pending) (h2 : u.now = t.now) (h3 : u.free = t.free)
    (h4 : u.mem = t.mem) (h5 : u.dict = t.dict) : s.Keeps u :=
  ⟨h1.trans h.pending, h2.trans h.now, h3 ▸ h.free, h4 ▸ h.mem, h5 ▸ h.dict⟩

theorem State.setObj_keeps {s₀ s : State} (h : s₀.Keeps s) (k v : Nat) : s₀.Keeps (s.setObj k v) :=
  ⟨h.pending, h.now, h.free, h.mem, fun w => Sparse.wf_set _ _ _ (h.dict w)⟩

/-- An outcome whose next state keeps. -/
def OutKeeps (s₀ : State) (o : Out) : Prop := ∀ t, o = .next t → s₀.Keeps t

theorem outKeeps_next {s₀ t : State} (h : s₀.Keeps t) : OutKeeps s₀ (.next t) := by rintro _ ⟨⟩; exact h

theorem outKeeps_fault {s₀ : State} (f : Fault) : OutKeeps s₀ (.fault f) := by rintro _ ⟨⟩

theorem outKeeps_refused {s₀ : State} (f : Refusal) : OutKeeps s₀ (.refused f) := by rintro _ ⟨⟩

theorem foldl_keeps {α : Type} {s₀ : State} {f : State → α → State} {l : List α} {s : State} (h : s₀.Keeps s) (hf : ∀ u a, s₀.Keeps u →
    s₀.Keeps (f u a)) :
    s₀.Keeps (l.foldl f s) := by
  induction l generalizing s with
  | nil => exact h
  | cons a r ih => exact ih (hf s a h)

theorem keeps_suff {s₀ : State} {P : Prop} (x : State) (a : s₀.Keeps x) (b : s₀.Keeps x → P) : P := b a

theorem opt_keeps {s₀ t : State} {o : Option State} (e : o = some t) (h : ∀ t, o = some t → s₀.Keeps t) : s₀.Keeps t := h t e

theorem snd_keeps {s₀ t : State} {α : Type} {p : α × State} {a : α} (e : p = (a, t)) (h : s₀.Keeps p.2) : s₀.Keeps t := by
  subst e; exact h

theorem ite_keeps {s₀ a b : State} {c : Prop} {i : Decidable c} (ha : s₀.Keeps a) (hb : s₀.Keeps b) : s₀.Keeps (if c then a else b) := by
  split <;> assumption

theorem ite_out {s₀ : State} {a b : Out} {c : Prop} {i : Decidable c} (ha : OutKeeps s₀ a) (hb : OutKeeps s₀ b) : OutKeeps s₀ (if c
    then a else b) := by
  split <;> assumption

theorem ite_fst {α : Type} {s₀ : State} {a b : State × α} {c : Prop} {i : Decidable c} (ha : s₀.Keeps a.1) (hb : s₀.Keeps b.1) :
    s₀.Keeps (if c then a else b).1 := by
  split <;> assumption

theorem ite_snd {α : Type} {s₀ : State} {a b : α × State} {c : Prop} {i : Decidable c} (ha : s₀.Keeps a.2) (hb : s₀.Keeps b.2) :
    s₀.Keeps (if c then a else b).2 := by
  split <;> assumption

theorem some_keeps {s₀ t : State} (h : s₀.Keeps t) : ∀ u, some t = some u → s₀.Keeps u := by rintro _ ⟨⟩; exact h

theorem foldl_snd_keeps {α β : Type} {s₀ : State} {f : β × State → α → β × State} {l : List α} {s : β × State} (h : s₀.Keeps s.2) (hf :
    ∀ u a, s₀.Keeps u.2 → s₀.Keeps (f u a).2) :
    s₀.Keeps (l.foldl f s).2 := by
  induction l generalizing s with
  | nil => exact h
  | cons a r ih => exact ih (hf s a h)

theorem foldl_snd2_keeps {α β γ : Type} {s₀ : State} {f : β × γ × State → α → β × γ × State} {l : List α} {s : β × γ × State} (h :
    s₀.Keeps s.2.2) (hf : ∀ u a, s₀.Keeps u.2.2 → s₀.Keeps (f u a).2.2) :
    s₀.Keeps (l.foldl f s).2.2 := by
  induction l generalizing s with
  | nil => exact h
  | cons a r ih => exact ih (hf s a h)

theorem State.keeps_mk5 {s₀ s : State} (h : s₀.Keeps s) {f : Nat} {m : Sparse Byte} {d : Sparse Nat} {x3} {x6} {x7} {x8} {x9} {x10}
    {x11} {x12} {x13} {x14} {x15} {x16} {x17} {x18} {x19} {x20} {x21} {x22} {x23} {x24} {x25} {x26} {x27} {x28} {x29} {x30} {x31} {x32}
        {x33} {x34} {x35} {x36} {x37} {x38} {x39} {x40} {x41} {x42} {x43} {x44} {x45} (hf : s.free ≤ f) (hm : Memory.wf s.mem = true →
        Memory.wf m = true) (hd : Dict.wf s.dict = true → Dict.wf d = true) :
    s₀.Keeps (State.mk s.pending s.now f x3 d m x6 x7 x8 x9 x10 x11 x12 x13 x14 x15 x16 x17 x18 x19 x20 x21 x22 x23 x24 x25 x26 x27 x28
    x29 x30 x31 x32 x33 x34 x35 x36 x37 x38 x39 x40 x41 x42 x43 x44 x45) :=
  ⟨h.pending, h.now, le_trans h.free hf, hm ∘ h.mem, hd ∘ h.dict⟩

theorem foldl_fst_keeps {α β : Type} {s₀ : State} {f : State × β → α → State × β} {l : List α} {s : State × β} (h : s₀.Keeps s.1) (hf :
    ∀ u a, s₀.Keeps u.1 → s₀.Keeps (f u a).1) :
    s₀.Keeps (l.foldl f s).1 := by
  induction l generalizing s with
  | nil => exact h
  | cons a r ih => exact ih (hf s a h)

theorem State.keeps_mk {s₀ s : State} (h : s₀.Keeps s) {x3} {x6} {x7} {x8} {x9} {x10} {x11} {x12} {x13} {x14} {x15} {x16} {x17} {x18}
    {x19} {x20} {x21} {x22} {x23} {x24} {x25} {x26} {x27} {x28} {x29} {x30} {x31} {x32} {x33} {x34} {x35} {x36} {x37} {x38} {x39} {x40}
        {x41} {x42} {x43} {x44} {x45} :
    s₀.Keeps (State.mk s.pending s.now s.free x3 s.dict s.mem x6 x7 x8 x9 x10 x11 x12 x13 x14 x15 x16 x17 x18 x19 x20 x21 x22 x23 x24
    x25 x26 x27 x28 x29 x30 x31 x32 x33 x34 x35 x36 x37 x38 x39 x40 x41 x42 x43 x44 x45) :=
  h.same rfl rfl rfl rfl rfl

theorem elim_keeps {s₀ a : State} {o : Option State} {f : State → State} (ha : s₀.Keeps a) (hf : ∀ u, o = some u → s₀.Keeps (f u)) :
    s₀.Keeps (o.elim a f) := by
  cases o with
  | none => exact ha
  | some u => exact hf u rfl

theorem getD_keeps {s₀ a : State} {o : Option State} (ha : s₀.Keeps a) (ho : ∀ u, o = some u → s₀.Keeps u) : s₀.Keeps (o.getD a) := by
  cases o with
  | none => exact ha
  | some u => exact ho u rfl

theorem optsnd_keeps {α : Type} {s₀ t : State} {o : Option (α × State)} {a : α} (e : o = some (a, t)) (h : ∀ t, o = some t → s₀.Keeps
    t.2) : s₀.Keeps t := h _ e

theorem somesnd_keeps {α : Type} {s₀ : State} {t : α × State} (h : s₀.Keeps t.2) : ∀ u, some t = some u → s₀.Keeps u.2 := by
  rintro _ ⟨⟩; exact h

theorem nonesnd_keeps {α : Type} {s₀ : State} : ∀ u, (none : Option (α × State)) = some u → s₀.Keeps u.2 := by rintro _ ⟨⟩

theorem wf_eraseRanges {m : Sparse Nat} (l : List (Nat × Nat)) (w : Dict.wf m = true) : Dict.wf (l.foldl (fun d r => Sparse.eraseRange
    d r.1 r.2) m) = true := by
  induction l generalizing m with
  | nil => exact w
  | cons a r ih => exact ih (Sparse.wf_eraseRange _ _ _ w)

theorem wf_sets {m : Sparse Byte} (l : List (Nat × Byte)) (g : Nat × Byte → Nat) (v : Nat × Byte → Byte) (w : Memory.wf m = true) :
    Memory.wf (l.foldl (fun m e => Sparse.set memDefault m (g e) (v e)) m) = true := by
  induction l generalizing m with
  | nil => exact w
  | cons a r ih => exact ih (Sparse.wf_set _ _ _ w)

/-- The work keeps. -/
def LayerKeeps (w : LayerWork) : Prop := ∀ s₀ t : State, s₀.Keeps t → s₀.Keeps (w.run t)

theorem foldl_pass_keeps {α : Type} {s₀ : State} {f : Pass → α → Pass} {l : List α} {s : Pass} (h : s₀.Keeps s.s) (hf : ∀ u a, s₀.Keeps
    u.s → s₀.Keeps (f u a).s) :
    s₀.Keeps (l.foldl f s).s := by
  induction l generalizing s with
  | nil => exact h
  | cons a r ih => exact ih (hf s a h)

end Sys2Proof.Machine
end

