-- ==== Sys2Proof/Laws/Keeps/Ops.lean ====
section
/-! SUPPORT. What the functions of Machine/Ops.lean keep (`State.Keeps`): one lemma for each, cited by those of its callers. -/

namespace Sys2Proof.Machine

theorem State.setCore_keeps {s₀ s : State} (n : ℕ) (c : Core) (h : s₀.Keeps s) : s₀.Keeps (State.setCore s n c) := by
  unfold State.setCore
  grind only [State.keeps_mk, outKeeps_next, outKeeps_fault, outKeeps_refused]

theorem State.count_keeps {s₀ s : State} (w : ℕ) (key : ℕ) (n : ℕ) (h : s₀.Keeps s) : s₀.Keeps (State.count s w key n) := by
  unfold State.count
  grind only [State.keeps_mk, outKeeps_next, outKeeps_fault, outKeeps_refused, State.setObj_keeps]

theorem State.raise_keeps {s₀ s : State} (key : ℕ) (mask : ℕ) (h : s₀.Keeps s) : s₀.Keeps (State.raise s key mask) := by
  unfold State.raise
  grind only [State.keeps_mk, outKeeps_next, outKeeps_fault, outKeeps_refused, State.setObj_keeps]

theorem State.raiseCounted_keeps {s₀ s : State} (key : ℕ) (mask : ℕ) (counter : ℕ) (h : s₀.Keeps s) : s₀.Keeps (State.raiseCounted s
    key mask counter) := by
  unfold State.raiseCounted
  grind only [State.keeps_mk, outKeeps_next, outKeeps_fault, outKeeps_refused, State.raise_keeps, State.count_keeps]

theorem State.mgmtStatus_keeps {s₀ s : State} (mask : ℕ) (h : s₀.Keeps s) : s₀.Keeps (State.mgmtStatus s mask) := by
  unfold State.mgmtStatus
  grind only [State.keeps_mk, outKeeps_next, outKeeps_fault, outKeeps_refused, State.raiseCounted_keeps]

theorem State.logEvent_keeps {s₀ s : State} (ev : Ev) (code : ℕ) (source : ℕ) (slice : ℕ) (data : ℕ) (h : s₀.Keeps s) : s₀.Keeps
    (State.logEvent s ev code source slice data) := by
  unfold State.logEvent
  grind only [State.keeps_mk, outKeeps_next, outKeeps_fault, outKeeps_refused, State.mgmtStatus_keeps, State.count_keeps]

theorem State.post_keeps {s₀ s : State} (p : Post) (h : s₀.Keeps s) : s₀.Keeps (State.post s p) := by
  unfold State.post
  grind only [State.keeps_mk, outKeeps_next, outKeeps_fault, outKeeps_refused]

theorem State.fresh_keeps {s₀ s : State} (h : s₀.Keeps s) : s₀.Keeps (State.fresh s).2 := State.keeps_mk5 h (Nat.le_succ _) id id

theorem State.alert_keeps {s₀ s : State} (mask : ℕ) (h : s₀.Keeps s) : s₀.Keeps (State.alert s mask) := by
  unfold State.alert
  grind only [State.keeps_mk, outKeeps_next, outKeeps_fault, outKeeps_refused, State.raise_keeps]

theorem State.moduleHealth_keeps {s₀ s : State} (mask : ℕ) (h : s₀.Keeps s) : s₀.Keeps (State.moduleHealth s mask) := by
  unfold State.moduleHealth
  grind only [State.keeps_mk, outKeeps_next, outKeeps_fault, outKeeps_refused, State.raiseCounted_keeps]

theorem State.blockFailed_keeps {s₀ s : State} (h : s₀.Keeps s) : s₀.Keeps (State.blockFailed s) := by
  unfold State.blockFailed
  grind only [State.keeps_mk, outKeeps_next, outKeeps_fault, outKeeps_refused, State.alert_keeps, State.moduleHealth_keeps]

theorem State.flashWrite_keeps {s₀ s : State} (h : s₀.Keeps s) : s₀.Keeps (State.flashWrite s) := by
  unfold State.flashWrite
  have k : s₀.Keeps { s with free := s.free + 1 } := State.keeps_mk5 h (Nat.le_succ _) id id
  exact ite_keeps (State.blockFailed_keeps k) k

theorem State.setBytes_keeps {s₀ s : State} (a : ℕ) (l : List Byte) (h : s₀.Keeps s) : s₀.Keeps (State.setBytes s a l) :=
    State.keeps_mk5 h (le_refl _) (fun w => Sparse.wf_setRun _ _ _ w) id

theorem State.countFree_keeps {s₀ s : State} (w : ℕ) (key : ℕ) (least : ℕ) (h : s₀.Keeps s) : s₀.Keeps (State.countFree s w key least)
    := by
  unfold State.countFree
  grind only [State.keeps_mk, outKeeps_next, outKeeps_fault, outKeeps_refused, State.fresh_keeps, State.count_keeps]

theorem State.logViolation_keeps {s₀ s : State} (code : ℕ) (source : ℕ) (slice : ℕ) (args : ℕ) (h : s₀.Keeps s) : s₀.Keeps
    (State.logViolation s code source slice args) := by
  unfold State.logViolation
  grind only [State.keeps_mk, outKeeps_next, outKeeps_fault, outKeeps_refused, State.mgmtStatus_keeps, State.count_keeps]

theorem State.setCoreSt_keeps {s₀ s : State} (n : ℕ) (c : CoreSt) (h : s₀.Keeps s) : s₀.Keeps (State.setCoreSt s n c) := by
  unfold State.setCoreSt
  grind only [State.keeps_mk, outKeeps_next, outKeeps_fault, outKeeps_refused, State.setObj_keeps]

theorem State.setObjs_keeps {s₀ s : State} (a1 : List (ℕ × ℕ)) (h : s₀.Keeps s) : s₀.Keeps (State.setObjs s a1) := by
  induction a1 generalizing s with
  | nil => exact h
  | cons a r ih => exact ih (State.setObj_keeps h _ _)

theorem State.setPort_keeps {s₀ s : State} (n : ℕ) (p : Port) (h : s₀.Keeps s) : s₀.Keeps (State.setPort s n p) := by
  unfold State.setPort
  grind only [State.keeps_mk, outKeeps_next, outKeeps_fault, outKeeps_refused]

theorem State.send_keeps {s₀ s : State} (m : OutMsg) (h : s₀.Keeps s) : s₀.Keeps (State.send s m) := by
  unfold State.send
  grind only [State.keeps_mk, outKeeps_next, outKeeps_fault, outKeeps_refused]

theorem State.journalled_keeps {s₀ s : State} (h : s₀.Keeps s) : s₀.Keeps (State.journalled s) := by
  unfold State.journalled
  grind only [State.keeps_mk, outKeeps_next, outKeeps_fault, outKeeps_refused, State.flashWrite_keeps, State.count_keeps]

theorem State.persist_keeps {s₀ s : State} (key : ℕ) (v : ℕ) (h : s₀.Keeps s) : s₀.Keeps (State.persist s key v) := by
  unfold State.persist
  grind only [State.keeps_mk, outKeeps_next, outKeeps_fault, outKeeps_refused, State.journalled_keeps, State.setObj_keeps]

theorem State.setChart_keeps {s₀ s : State} (n : ℕ) (c : Chart) (h : s₀.Keeps s) : s₀.Keeps (State.setChart s n c) := by
  unfold State.setChart
  grind only [State.keeps_mk, outKeeps_next, outKeeps_fault, outKeeps_refused]

theorem State.setWp_keeps {s₀ s : State} (i : ℕ) (w : Wp) (h : s₀.Keeps s) : s₀.Keeps (State.setWp s i w) := by
  unfold State.setWp
  grind only [State.keeps_mk, outKeeps_next, outKeeps_fault, outKeeps_refused]

theorem State.coreViolation_keeps {s₀ s : State} (core : ℕ) (addr : ℕ) (h : s₀.Keeps s) : s₀.Keeps (State.coreViolation s core addr) := by
  unfold State.coreViolation
  grind only [State.keeps_mk, outKeeps_next, outKeeps_fault, outKeeps_refused, State.logViolation_keeps]

theorem State.setTileBytes_keeps {s₀ s : State} (core : ℕ) (buf : ℕ) (off : ℕ) (l : List Byte) (h : s₀.Keeps s) : s₀.Keeps
    (State.setTileBytes s core buf off l) := by
  unfold State.setTileBytes
  grind only [State.keeps_mk, outKeeps_next, outKeeps_fault, outKeeps_refused]

end Sys2Proof.Machine
end

