-- ==== Sys2Proof/Laws/Keeps/Alerts.lean ====
section
/-! SUPPORT. What the functions of Machine/Alerts.lean keep (`State.Keeps`): one lemma for each, cited by those of its callers. -/

namespace Sys2Proof.Machine

theorem State.setPd_keeps {s₀ s : State} (d : ℕ) (v : ℕ) (h : s₀.Keeps s) : s₀.Keeps (State.setPd s d v) := by
  unfold State.setPd
  grind only [State.keeps_mk, outKeeps_next, outKeeps_fault, outKeeps_refused, State.setObj_keeps]

theorem State.clearAlert_keeps {s₀ s : State} (mask : ℕ) (h : s₀.Keeps s) : s₀.Keeps (State.clearAlert s mask) := by
  unfold State.clearAlert
  grind only [State.keeps_mk, outKeeps_next, outKeeps_fault, outKeeps_refused, State.setObj_keeps]

theorem State.hmuWork_keeps {s₀ s : State} (h : s₀.Keeps s) : s₀.Keeps (State.hmuWork s) := by
  unfold State.hmuWork
  grind only [State.keeps_mk, outKeeps_next, outKeeps_fault, outKeeps_refused]

theorem State.pwrStatus_keeps {s₀ s : State} (mask : ℕ) (h : s₀.Keeps s) : s₀.Keeps (State.pwrStatus s mask) := by
  unfold State.pwrStatus
  grind only [State.keeps_mk, outKeeps_next, outKeeps_fault, outKeeps_refused, State.raiseCounted_keeps]

end Sys2Proof.Machine
end

