-- ==== Sys2Proof/Laws/Keeps/Memory.lean ====
section
/-! SUPPORT. What the functions of Machine/Memory.lean keep (`State.Keeps`): one lemma for each, cited by those of its callers. -/

namespace Sys2Proof.Machine

set_option linter.tactic.unusedName false

theorem State.flagEvent_keeps {s₀ s : State} (core : ℕ) (f : AFlags) (h : s₀.Keeps s) : s₀.Keeps (State.flagEvent s core f) := by
  unfold State.flagEvent
  grind only [State.keeps_mk, outKeeps_next, outKeeps_fault, outKeeps_refused, State.count_keeps]

theorem State.setFlags_keeps {s₀ s : State} (core : ℕ) (f : AFlags) (h : s₀.Keeps s) : s₀.Keeps (State.setFlags s core f) := by
  unfold State.setFlags
  grind only [State.keeps_mk, outKeeps_next, outKeeps_fault, outKeeps_refused, State.raise_keeps]

theorem State.reportNonFinite_keeps {s₀ s : State} (core : ℕ) (source : ℕ) (h : s₀.Keeps s) : s₀.Keeps (State.reportNonFinite s core
    source) := by
  unfold State.reportNonFinite
  grind only [State.keeps_mk, outKeeps_next, outKeeps_fault, outKeeps_refused, State.count_keeps, State.setObj_keeps,
      State.logEvent_keeps, State.raise_keeps, State.post_keeps]

theorem State.driftEvent_keeps {s₀ s : State} (input : ℕ) (unit : ℕ) (n : ℕ) (h : s₀.Keeps s) : s₀.Keeps (State.driftEvent s input unit
    n) := by
  unfold State.driftEvent
  grind only [State.keeps_mk, outKeeps_next, outKeeps_fault, outKeeps_refused]

theorem State.blurFrames_keeps {s₀ s : State} (p : OpRef → Frame → Bool) (h : s₀.Keeps s) : s₀.Keeps (State.blurFrames s p) := by
  unfold State.blurFrames
  grind only [State.keeps_mk, outKeeps_next, outKeeps_fault, outKeeps_refused, State.fresh_keeps]

theorem State.disturb_keeps {s₀ s : State} (engine : Bool) (a : ℕ) (len : ℕ) (h : s₀.Keeps s) : s₀.Keeps (State.disturb s engine a len)
    := by
  unfold State.disturb
  grind only [State.keeps_mk, outKeeps_next, outKeeps_fault, outKeeps_refused, State.blurFrames_keeps]

theorem State.stackHealth_keeps {s₀ s : State} (stack : ℕ) (mask : ℕ) (h : s₀.Keeps s) : s₀.Keeps (State.stackHealth s stack mask) := by
  unfold State.stackHealth
  grind only [State.keeps_mk, outKeeps_next, outKeeps_fault, outKeeps_refused, State.raise_keeps]

theorem State.markGroup_keeps {s₀ s : State} (g : ℕ) (h : s₀.Keeps s) : s₀.Keeps (State.markGroup s g) := by
  unfold State.markGroup
  grind only [State.keeps_mk, outKeeps_next, outKeeps_fault, outKeeps_refused, State.driftEvent_keeps, State.stackHealth_keeps,
      State.count_keeps]

theorem State.lanePend_keeps {s₀ s : State} (lane : ℕ) (h : s₀.Keeps s) : s₀.Keeps (State.lanePend s lane) := by
  unfold State.lanePend
  grind only [State.keeps_mk, outKeeps_next, outKeeps_fault, outKeeps_refused, State.stackHealth_keeps, State.count_keeps,
      State.flashWrite_keeps]

theorem State.noteCorrected_keeps {s₀ s : State} (burst : ℕ) (pin : ℕ) (h : s₀.Keeps s) : s₀.Keeps (State.noteCorrected s burst pin) := by
  unfold State.noteCorrected
  grind only [State.keeps_mk, outKeeps_next, outKeeps_fault, outKeeps_refused, State.driftEvent_keeps, State.stackHealth_keeps,
      State.count_keeps, State.markGroup_keeps, State.lanePend_keeps]

theorem State.noteUncorrected_keeps {s₀ s : State} (burst : ℕ) (cls : ℕ) (h : s₀.Keeps s) : s₀.Keeps (State.noteUncorrected s burst
    cls) := by
  unfold State.noteUncorrected
  grind only [State.keeps_mk, outKeeps_next, outKeeps_fault, outKeeps_refused, State.driftEvent_keeps, State.stackHealth_keeps,
      State.count_keeps, State.setObj_keeps, State.logEvent_keeps, State.post_keeps, State.markGroup_keeps]

theorem State.bankTrigger_keeps {s₀ s : State} (core : ℕ) (bank : ℕ) (h : s₀.Keeps s) : s₀.Keeps (State.bankTrigger s core bank) := by
  unfold State.bankTrigger
  grind only [State.keeps_mk, outKeeps_next, outKeeps_fault, outKeeps_refused, State.driftEvent_keeps, State.post_keeps]

theorem State.bankCorrected_keeps {s₀ s : State} (core : ℕ) (bank : ℕ) (h : s₀.Keeps s) : s₀.Keeps (State.bankCorrected s core bank) := by
  unfold State.bankCorrected
  grind only [State.keeps_mk, outKeeps_next, outKeeps_fault, outKeeps_refused, State.bankTrigger_keeps]

theorem State.noteError_keeps {s₀ s : State} (cls : ℕ) (u : ℕ) (h : s₀.Keeps s) : s₀.Keeps (State.noteError s cls u) := by
  unfold State.noteError
  (repeat' (
    first
    | with_reducible assumption
    | (extract_lets +onlyGivenNames x; refine keeps_suff (s₀ := s₀) x ?_ (fun _ => ?_); (on_goal 1 => subst x); (on_goal 2 => try
        clear_value x))
    | extract_lets +onlyGivenNames _
    | with_reducible apply State.noteCorrected_keeps
    | with_reducible apply State.noteUncorrected_keeps
    | with_reducible apply State.bankCorrected_keeps
    | with_reducible apply State.driftEvent_keeps
    | with_reducible apply State.count_keeps
    | with_reducible apply State.bankTrigger_keeps
    | with_reducible apply State.post_keeps
    | with_reducible apply State.logEvent_keeps
    | with_reducible apply ite_keeps
    | split))

theorem State.noteRead_keeps {s₀ s : State} (cls : ℕ) (lo : ℕ) (len : ℕ) (h : s₀.Keeps s) : s₀.Keeps (State.noteRead s cls lo len) := by
  unfold State.noteRead
  (repeat' (
    first
    | with_reducible assumption
    | with_reducible (refine foldl_keeps ?_ (fun _ _ _ => ?_) <;> try beta_reduce)
    | with_reducible apply State.noteError_keeps))

theorem State.checkMark_keeps {s₀ s : State} (page : ℕ) (h : s₀.Keeps s) : s₀.Keeps (State.checkMark s page) := by
  unfold State.checkMark
  grind only [State.keeps_mk, outKeeps_next, outKeeps_fault, outKeeps_refused, State.fresh_keeps, State.noteRead_keeps]

theorem State.setErr_keeps {s₀ s : State} (unitNo : ℕ) (e : MemErr) (h : s₀.Keeps s) : s₀.Keeps (State.setErr s unitNo e) := by
  unfold State.setErr
  grind only [State.keeps_mk, outKeeps_next, outKeeps_fault, outKeeps_refused]

theorem State.writeError_keeps {s₀ s : State} (lo : ℕ) (len : ℕ) (u : ℕ) (h : s₀.Keeps s) : s₀.Keeps (State.writeError s lo len u) := by
  unfold State.writeError
  grind only [State.keeps_mk, outKeeps_next, outKeeps_fault, outKeeps_refused, State.setErr_keeps, State.noteError_keeps]

theorem State.writeNow_keeps {s₀ s : State} (lo : ℕ) (l : List Byte) (h : s₀.Keeps s) : s₀.Keeps (State.writeNow s lo l) := by
  unfold State.writeNow
  (repeat' (
    first
    | with_reducible assumption
    | extract_lets +onlyGivenNames _
    | with_reducible (refine foldl_keeps ?_ (fun _ _ _ => ?_) <;> try beta_reduce)
    | with_reducible apply State.setBytes_keeps
    | with_reducible apply State.writeError_keeps))

theorem State.writePiece_keeps {s₀ s : State} (who : WriteBy) (pc : ℕ × List Byte) (h : s₀.Keeps s) : s₀.Keeps (State.writePiece who s
    pc) := by
  unfold State.writePiece
  grind only [State.keeps_mk, outKeeps_next, outKeeps_fault, outKeeps_refused, State.writeNow_keeps]

theorem State.write_keeps {s₀ s : State} (who : WriteBy) (a : ℕ) (l : List Byte) (h : s₀.Keeps s) : s₀.Keeps (State.write s who a l) := by
  unfold State.write
  (repeat' (
    first
    | with_reducible assumption
    | (extract_lets +onlyGivenNames x; refine keeps_suff (s₀ := s₀) x ?_ (fun _ => ?_); (on_goal 1 => subst x); (on_goal 2 => try
        clear_value x))
    | extract_lets +onlyGivenNames _
    | with_reducible (refine foldl_keeps ?_ (fun _ _ _ => ?_) <;> try beta_reduce)
    | with_reducible apply State.disturb_keeps
    | with_reducible apply State.checkMark_keeps
    | with_reducible apply State.count_keeps
    | with_reducible apply State.writePiece_keeps
    | with_reducible apply ite_keeps))

theorem State.noteSpans_keeps {s₀ s : State} (cls : ℕ) (l : List (ℕ × ℕ)) (h : s₀.Keeps s) : s₀.Keeps (State.noteSpans s cls l) := by
  unfold State.noteSpans
  (repeat' (
    first
    | with_reducible assumption
    | extract_lets +onlyGivenNames _
    | with_reducible (refine foldl_keeps ?_ (fun _ _ _ => ?_) <;> try beta_reduce)
    | with_reducible apply State.noteError_keeps))

theorem State.setMark_keeps {s₀ s : State} (page : ℕ) (b : Bool) (h : s₀.Keeps s) : s₀.Keeps (State.setMark s page b) := by
  unfold State.setMark
  grind only [State.keeps_mk, outKeeps_next, outKeeps_fault, outKeeps_refused, State.writeNow_keeps]

theorem State.resubmit_keeps {s₀ s : State} (a_h : HeldWrite) (h : s₀.Keeps s) : s₀.Keeps (State.resubmit s a_h) := by
  unfold State.resubmit
  grind only [State.keeps_mk, outKeeps_next, outKeeps_fault, outKeeps_refused, State.writeNow_keeps, State.setObj_keeps, State.post_keeps]

theorem State.releaseHeld_keeps {s₀ s : State} (h : s₀.Keeps s) : s₀.Keeps (State.releaseHeld s) := by
  unfold State.releaseHeld
  (repeat' (
    first
    | with_reducible assumption
    | with_reducible (refine foldl_keeps ?_ (fun _ _ _ => ?_) <;> try beta_reduce)
    | with_reducible apply State.resubmit_keeps
    | with_reducible (fail_if_no_progress apply State.keeps_mk)))

theorem State.strikeOut_keeps {s₀ s : State} (u : ℕ) (h : s₀.Keeps s) : s₀.Keeps (State.strikeOut s u) := by
  unfold State.strikeOut
  grind only [State.keeps_mk, outKeeps_next, outKeeps_fault, outKeeps_refused, State.fresh_keeps, State.setErr_keeps,
      State.setBytes_keeps]

theorem State.strike_keeps {s₀ s : State} (e : StoredError) (h : s₀.Keeps s) : s₀.Keeps (State.strike s e) := by
  unfold State.strike
  grind only [State.keeps_mk, outKeeps_next, outKeeps_fault, outKeeps_refused, State.setErr_keeps, State.strikeOut_keeps]

theorem State.strikes_keeps {s₀ s : State} (l : List StoredError) (h : s₀.Keeps s) : s₀.Keeps (State.strikes s l) := by
  unfold State.strikes
  (repeat' (
    first
    | with_reducible assumption
    | with_reducible (refine foldl_keeps ?_ (fun _ _ _ => ?_) <;> try beta_reduce)
    | with_reducible apply State.strike_keeps))

theorem State.writes_keeps {s₀ s : State} (who : WriteBy) (l : List (ℕ × List Byte)) (h : s₀.Keeps s) : s₀.Keeps (State.writes s who l)
    := by
  unfold State.writes
  (repeat' (
    first
    | with_reducible assumption
    | with_reducible (refine foldl_keeps ?_ (fun _ _ _ => ?_) <;> try beta_reduce)
    | with_reducible apply State.write_keeps))

end Sys2Proof.Machine
end

