-- ==== Sys2Proof/Laws/Keeps/CoreFault.lean ====
section
/-! SUPPORT. What the functions of Machine/CoreFault.lean keep (`State.Keeps`): one lemma for each, cited by those of its callers. -/

namespace Sys2Proof.Machine

set_option linter.tactic.unusedName false

theorem State.dropWaits_keeps {s₀ s : State} (core : ℕ) (h : s₀.Keeps s) : s₀.Keeps (State.dropWaits s core) := by
  unfold State.dropWaits
  grind only [State.keeps_mk, outKeeps_next, outKeeps_fault, outKeeps_refused]

theorem State.tilesFree_keeps {s₀ s : State} (core : ℕ) (h : s₀.Keeps s) : s₀.Keeps (State.tilesFree s core) := by
  unfold State.tilesFree
  exact State.keeps_mk5 (State.setCore_keeps _ _ h) (Nat.le_succ _) id id

theorem State.postCoreWp_keeps {s₀ s : State} (core : ℕ) (wp : ℕ) (k : WpKind) (h : s₀.Keeps s) : s₀.Keeps (State.postCoreWp s core wp
    k) := by
  unfold State.postCoreWp
  grind only [State.keeps_mk, outKeeps_next, outKeeps_fault, outKeeps_refused, State.post_keeps]

theorem State.faultPark_keeps {s₀ s : State} (core : ℕ) (cause : ℕ) (code : ℕ) (slot : ℕ) (addr : ℕ) (gen : ℕ) (h : s₀.Keeps s) :
    s₀.Keeps (State.faultPark s core cause code slot addr gen) := by
  unfold State.faultPark
  (repeat' (
    first
    | with_reducible assumption
    | (extract_lets +onlyGivenNames x; refine keeps_suff (s₀ := s₀) x ?_ (fun _ => ?_); (on_goal 1 => subst x); (on_goal 2 => try
        clear_value x))
    | extract_lets +onlyGivenNames _
    | with_reducible apply State.dropWaits_keeps
    | with_reducible apply State.setCore_keeps
    | with_reducible apply State.setObj_keeps
    | with_reducible apply State.setCoreSt_keeps
    | with_reducible apply State.logEvent_keeps
    | with_reducible apply State.count_keeps
    | with_reducible apply State.postCoreWp_keeps))

theorem State.outOfSlice_keeps {s₀ s : State} (core : ℕ) (slot : ℕ) (addr : ℕ) (h : s₀.Keeps s) : s₀.Keeps (State.outOfSlice s core
    slot addr) := by
  unfold State.outOfSlice
  grind only [State.keeps_mk, outKeeps_next, outKeeps_fault, outKeeps_refused, State.faultPark_keeps, State.coreViolation_keeps]

theorem undefWrite_keeps {s₀ s : State} (slice : ℕ) (w : ℕ × Byte) (h : s₀.Keeps s) : s₀.Keeps (undefWrite slice s w) := by
  unfold undefWrite
  grind only [State.keeps_mk, outKeeps_next, outKeeps_fault, outKeeps_refused, State.write_keeps]

theorem undefAdd_keeps {s₀ s : State} (core : ℕ) (slice : ℕ) (w : ℕ × ℕ) (h : s₀.Keeps s) : s₀.Keeps (undefAdd core slice s w) := by
  unfold undefAdd
  grind only [State.keeps_mk, outKeeps_next, outKeeps_fault, outKeeps_refused, State.postCoreWp_keeps]

theorem State.undefinedResult_keeps {s₀ s : State} (core : ℕ) (h : s₀.Keeps s) : s₀.Keeps (State.undefinedResult s core) := by
  unfold State.undefinedResult
  (repeat' (
    first
    | with_reducible assumption
    | (extract_lets +onlyGivenNames x; refine keeps_suff (s₀ := s₀) x ?_ (fun _ => ?_); (on_goal 1 => subst x); (on_goal 2 => try
        clear_value x))
    | extract_lets +onlyGivenNames _
    | with_reducible (refine foldl_keeps ?_ (fun _ _ _ => ?_) <;> try beta_reduce)
    | with_reducible apply State.tilesFree_keeps
    | with_reducible apply State.fresh_keeps
    | with_reducible apply undefWrite_keeps
    | with_reducible apply undefAdd_keeps
    | with_reducible apply State.raise_keeps
    | with_reducible apply State.outOfSlice_keeps
    | with_reducible apply ite_keeps
    | with_reducible dsimp -zeta only
    | split))

theorem State.progressed_keeps {s₀ s : State} (core : ℕ) (h : s₀.Keeps s) : s₀.Keeps (State.progressed s core) := by
  unfold State.progressed
  grind only [State.keeps_mk, outKeeps_next, outKeeps_fault, outKeeps_refused, State.setCore_keeps]

end Sys2Proof.Machine
end

