-- ==== Sys2Proof/Laws/Keeps/Lanes.lean ====
section
/-! SUPPORT. What the functions of Machine/Lanes.lean keep (`State.Keeps`): one lemma for each, cited by those of its callers. -/

namespace Sys2Proof.Machine

theorem State.draw_keeps {s₀ s : State} (core : ℕ) (i : ℕ) (h : s₀.Keeps s) : s₀.Keeps (State.draw s core i).2 := by
  unfold State.draw
  grind only [State.keeps_mk, outKeeps_next, outKeeps_fault, outKeeps_refused, State.setCore_keeps, State.fresh_keeps]

theorem State.loadLanes_keeps {s₀ s : State} (core : ℕ) (h : s₀.Keeps s) : s₀.Keeps (State.loadLanes s core) := by
  unfold State.loadLanes
  grind only [State.keeps_mk, outKeeps_next, outKeeps_fault, outKeeps_refused, State.setCore_keeps]

theorem State.stepLanes_keeps {s₀ s : State} (core : ℕ) (h : s₀.Keeps s) : s₀.Keeps (State.stepLanes s core) := by
  unfold State.stepLanes
  grind only [State.keeps_mk, outKeeps_next, outKeeps_fault, outKeeps_refused, State.setCore_keeps, State.loadLanes_keeps]

end Sys2Proof.Machine
end

