-- ==== Sys2Proof/Laws/Keeps/Array.lean ====
section
/-! SUPPORT. What the functions of Machine/Array.lean keep (`State.Keeps`): one lemma for each, cited by those of its callers. -/

namespace Sys2Proof.Machine

set_option linter.tactic.unusedName false

theorem State.recordCheck_keeps {s₀ s : State} (core : ℕ) (c : MatCfg) (a_t : Tile) (arr : ℕ) (g : ℕ) (r : Chk × Option (ℕ × FVal ×
    FVal)) (h : s₀.Keeps s) : s₀.Keeps (State.recordCheck s core c a_t arr g r) := by
  unfold State.recordCheck
  grind only [State.keeps_mk, outKeeps_next, outKeeps_fault, outKeeps_refused, State.count_keeps, State.raise_keeps,
      State.setObj_keeps, State.logEvent_keeps, State.driftEvent_keeps, State.post_keeps]

theorem drainRow_keeps {s₀ s : State} (core : ℕ) (c : MatCfg) (s0 : State) (l : List Acc) (j : ℕ) (h : s₀.Keeps s) : s₀.Keeps (drainRow
    core c s0 l j s).2.2.2 := by
  induction l generalizing j s with
  | nil => exact h
  | cons a r ih =>
  unfold drainRow
  (repeat' (
    first
    | with_reducible assumption
    | extract_lets +onlyGivenNames _
    | with_reducible apply ih
    | with_reducible apply State.draw_keeps
    | with_reducible apply ite_snd))

theorem drainRows_keeps {s₀ s : State} (core : ℕ) (c : MatCfg) (off : ℕ) (a3 : List (List Acc)) (a4 : ℕ) (h : s₀.Keeps s) : s₀.Keeps
    (drainRows core c off a3 a4 s).2.2 := by
  induction a3 generalizing a4 s with
  | nil => exact h
  | cons a r ih =>
  unfold drainRows
  (repeat' (
    first
    | with_reducible assumption
    | extract_lets +onlyGivenNames _
    | with_reducible apply ih
    | with_reducible apply State.write_keeps
    | with_reducible apply drainRow_keeps))

theorem State.drainTile_keeps {s₀ s : State} (core : ℕ) (d : Closed) (h : s₀.Keeps s) : s₀.Keeps (State.drainTile s core d) := by
  unfold State.drainTile
  (repeat' (
    first
    | with_reducible assumption
    | (extract_lets +onlyGivenNames x; refine keeps_suff (s₀ := s₀) x ?_ (fun _ => ?_); (on_goal 1 => subst x); (on_goal 2 => try
        clear_value x))
    | extract_lets +onlyGivenNames _
    | with_reducible (refine foldl_keeps ?_ (fun _ _ _ => ?_) <;> try beta_reduce)
    | with_reducible apply State.noteRead_keeps
    | with_reducible apply drainRows_keeps
    | with_reducible apply State.flagEvent_keeps
    | with_reducible apply State.setFlags_keeps
    | with_reducible apply State.reportNonFinite_keeps
    | with_reducible apply State.recordCheck_keeps
    | with_reducible apply State.count_keeps
    | with_reducible apply State.raise_keeps
    | with_reducible apply ite_keeps))

theorem State.streamStep_keeps {s₀ s : State} (core : ℕ) (op : MatOp) (a : ArrayUnit) (a_t : Tile) (h : s₀.Keeps s) : s₀.Keeps
    (State.streamStep s core op a a_t) := by
  unfold State.streamStep
  grind only [State.keeps_mk, outKeeps_next, outKeeps_fault, outKeeps_refused, State.noteRead_keeps, State.setCore_keeps,
      State.count_keeps, State.setFlags_keeps, State.countFree_keeps, State.progressed_keeps]

theorem withCore_keeps {s₀ s : State} (core : ℕ) (o : Out) (h : s₀.Keeps s) (h_o : OutKeeps s₀ o) : OutKeeps s₀ (withCore s core o) := by
  unfold withCore
  grind only [State.keeps_mk, outKeeps_next, outKeeps_fault, outKeeps_refused]

theorem doDrain_keeps {s₀ s : State} (core : ℕ) (errors : List StoredError) (h : s₀.Keeps s) : OutKeeps s₀ (doDrain core errors s) := by
  unfold doDrain
  grind only [State.keeps_mk, outKeeps_next, outKeeps_fault, outKeeps_refused, withCore_keeps, State.strikes_keeps,
      State.progressed_keeps, State.setCore_keeps, State.drainTile_keeps, State.undefinedResult_keeps]

theorem doMcfg_keeps {s₀ s : State} (core : ℕ) (h : s₀.Keeps s) : OutKeeps s₀ (doMcfg core s) := by
  unfold doMcfg
  grind only [State.keeps_mk, outKeeps_next, outKeeps_fault, outKeeps_refused, withCore_keeps, State.undefinedResult_keeps,
      State.progressed_keeps, State.setCore_keeps, State.noteRead_keeps]

theorem doMstr_keeps {s₀ s : State} (core : ℕ) (h : s₀.Keeps s) : OutKeeps s₀ (doMstr core s) := by
  unfold doMstr
  grind only [State.keeps_mk, outKeeps_next, outKeeps_fault, outKeeps_refused, withCore_keeps, State.countFree_keeps,
      State.streamStep_keeps, State.setCore_keeps, State.undefinedResult_keeps, State.progressed_keeps]

theorem doMwld_keeps {s₀ s : State} (core : ℕ) (h : s₀.Keeps s) : OutKeeps s₀ (doMwld core s) := by
  unfold doMwld
  grind only [State.keeps_mk, outKeeps_next, outKeeps_fault, outKeeps_refused, withCore_keeps, State.noteSpans_keeps,
      State.setCore_keeps, State.progressed_keeps, State.undefinedResult_keeps]

theorem execChecksumWeightsReady_keeps {s₀ s : State} (core : ℕ) (h : s₀.Keeps s) : OutKeeps s₀ (execChecksumWeightsReady core s) := by
  unfold execChecksumWeightsReady
  grind only [State.keeps_mk, outKeeps_next, outKeeps_fault, outKeeps_refused, withCore_keeps, State.progressed_keeps,
      State.setCore_keeps]

theorem execMcls_keeps {s₀ s : State} (core : ℕ) (h : s₀.Keeps s) : OutKeeps s₀ (execMcls core s) := by
  unfold execMcls
  grind only [State.keeps_mk, outKeeps_next, outKeeps_fault, outKeeps_refused, withCore_keeps, State.progressed_keeps,
      State.setCore_keeps]

theorem execPortStarvationOverride_keeps {s₀ s : State} (core : ℕ) (r : SpRequester) (h : s₀.Keeps s) : OutKeeps s₀
    (execPortStarvationOverride core r s) := by
  unfold execPortStarvationOverride
  grind only [State.keeps_mk, outKeeps_next, outKeeps_fault, outKeeps_refused, withCore_keeps, State.count_keeps, State.fresh_keeps]

end Sys2Proof.Machine
end

