-- ==== Sys2Proof/Laws/Keeps/Waypoint.lean ====
section
/-! SUPPORT. What the functions of Machine/Waypoint.lean keep (`State.Keeps`): one lemma for each, cited by those of its callers. -/

namespace Sys2Proof.Machine

set_option linter.tactic.unusedName false

theorem State.logWpRefusal_keeps {s₀ s : State} (a : Asker) (slice : ℕ) (wp : ℕ) (code : ℕ) (h : s₀.Keeps s) : s₀.Keeps
    (State.logWpRefusal s a slice wp code) := by
  unfold State.logWpRefusal
  grind only [State.keeps_mk, outKeeps_next, outKeeps_fault, outKeeps_refused, State.logViolation_keeps, State.logEvent_keeps]

theorem State.account_keeps {s₀ s : State} (k : ℕ) (h : s₀.Keeps s) : s₀.Keeps (State.account s k) := by
  unfold State.account
  grind only [State.keeps_mk, outKeeps_next, outKeeps_fault, outKeeps_refused, State.setObjs_keeps, State.raise_keeps,
      State.logEvent_keeps, State.count_keeps]

theorem State.accounts_keeps {s₀ s : State} (wp : ℕ) (h : s₀.Keeps s) : s₀.Keeps (State.accounts s wp) := by
  unfold State.accounts
  (repeat' (
    first
    | with_reducible assumption
    | with_reducible (refine foldl_keeps ?_ (fun _ _ _ => ?_) <;> try beta_reduce)
    | with_reducible apply State.account_keeps))

theorem State.addWaiter_keeps {s₀ s : State} (core : ℕ) (wp : ℕ) (threshold : ℕ) (k : WaitKind) (h : s₀.Keeps s) : s₀.Keeps
    (State.addWaiter s core wp threshold k) := by
  unfold State.addWaiter
  grind only [State.keeps_mk, outKeeps_next, outKeeps_fault, outKeeps_refused]

theorem State.registerTimed_keeps {s₀ s : State} (a_t : Timed) (h : s₀.Keeps s) : s₀.Keeps (State.registerTimed s a_t) := by
  unfold State.registerTimed
  grind only [State.keeps_mk, outKeeps_next, outKeeps_fault, outKeeps_refused, State.post_keeps]

theorem State.admitEach_keeps {s₀ s : State} (a0 : List Timed) (h : s₀.Keeps s) : s₀.Keeps (State.admitEach a0 s) := by
  induction a0 generalizing s with
  | nil => exact h
  | cons t r ih => exact ite_keeps (ih (State.registerTimed_keeps _ h)) (State.keeps_mk h)

theorem State.admitTimed_keeps {s₀ s : State} (h : s₀.Keeps s) : s₀.Keeps (State.admitTimed s) := by
  unfold State.admitTimed
  grind only [State.keeps_mk, outKeeps_next, outKeeps_fault, outKeeps_refused, State.admitEach_keeps]

theorem State.prefetchLine_keeps {s₀ s : State} (core : ℕ) (line : ℕ) (h : s₀.Keeps s) : s₀.Keeps (State.prefetchLine s core line) := by
  unfold State.prefetchLine
  grind only [State.keeps_mk, outKeeps_next, outKeeps_fault, outKeeps_refused, State.setCore_keeps]

theorem State.enterLine_keeps {s₀ s : State} (core : ℕ) (pc : ℕ) (h : s₀.Keeps s) : s₀.Keeps (State.enterLine s core pc) := by
  unfold State.enterLine
  grind only [State.keeps_mk, outKeeps_next, outKeeps_fault, outKeeps_refused, State.prefetchLine_keeps]

theorem State.launchCore_keeps {s₀ s : State} (core : ℕ) (h : s₀.Keeps s) : s₀.Keeps (State.launchCore s core) := by
  unfold State.launchCore
  grind only [State.keeps_mk, outKeeps_next, outKeeps_fault, outKeeps_refused, State.setCoreSt_keeps, State.enterLine_keeps,
      State.setCore_keeps, State.setObj_keeps]

theorem State.tookWait_keeps {s₀ s : State} (wp : ℕ) (h : s₀.Keeps s) : s₀.Keeps (State.tookWait s wp) := by
  unfold State.tookWait
  grind only [State.keeps_mk, outKeeps_next, outKeeps_fault, outKeeps_refused, State.accounts_keeps, State.setWp_keeps, State.count_keeps]

theorem State.failWait_keeps {s₀ s : State} (core : ℕ) (wp : ℕ) (k : WaitKind) (ans : WaitAns) (h : s₀.Keeps s) : s₀.Keeps
    (State.failWait s core wp k ans) := by
  unfold State.failWait
  grind only [State.keeps_mk, outKeeps_next, outKeeps_fault, outKeeps_refused, State.faultPark_keeps, State.logWpRefusal_keeps,
      State.tookWait_keeps]

theorem State.dropTimed_keeps {s₀ s : State} (p : Timed → Bool) (h : s₀.Keeps s) : s₀.Keeps (State.dropTimed s p) := by
  unfold State.dropTimed
  grind only [State.keeps_mk, outKeeps_next, outKeeps_fault, outKeeps_refused, State.admitTimed_keeps, State.count_keeps]

theorem State.clearGroup_keeps {s₀ s : State} (g : ℕ) (h : s₀.Keeps s) : s₀.Keeps (State.clearGroup s g) := by
  unfold State.clearGroup
  grind only [State.keeps_mk, outKeeps_next, outKeeps_fault, outKeeps_refused, State.dropTimed_keeps]

theorem State.countWp_keeps {s₀ s : State} (k : WpKind) (w : Wp) (h : s₀.Keeps s) : s₀.Keeps (State.countWp s k w) := by
  unfold State.countWp
  grind only [State.keeps_mk, outKeeps_next, outKeeps_fault, outKeeps_refused, State.count_keeps]

theorem State.applyWp_keeps {s₀ s : State} (wp : ℕ) (k : WpKind) (h : s₀.Keeps s) : s₀.Keeps (State.applyWp s wp k) := by
  unfold State.applyWp
  grind only [State.keeps_mk, outKeeps_next, outKeeps_fault, outKeeps_refused, State.setWp_keeps, State.countWp_keeps]

theorem State.askWp_keeps {s₀ s : State} (a : Asker) (slice : ℕ) (wp : ℕ) (k : WpKind) (h : s₀.Keeps s) : s₀.Keeps (State.askWp s a
    slice wp k) := by
  unfold State.askWp
  grind only [State.keeps_mk, outKeeps_next, outKeeps_fault, outKeeps_refused, State.post_keeps]

theorem State.faultWaiters_keeps {s₀ s : State} (wp : ℕ) (h : s₀.Keeps s) : s₀.Keeps (State.faultWaiters s wp) := by
  unfold State.faultWaiters
  (repeat' (
    first
    | with_reducible assumption
    | extract_lets +onlyGivenNames _
    | with_reducible (refine foldl_keeps ?_ (fun _ _ _ => ?_) <;> try beta_reduce)
    | with_reducible apply State.faultPark_keeps
    | with_reducible apply ite_keeps))

theorem State.refuseWp_keeps {s₀ s : State} (r : WpReq) (code : ℕ) (h : s₀.Keeps s) : s₀.Keeps (State.refuseWp s r code) := by
  unfold State.refuseWp
  grind only [State.keeps_mk, outKeeps_next, outKeeps_fault, outKeeps_refused, State.logWpRefusal_keeps, State.faultPark_keeps]

theorem State.wake_keeps {s₀ s : State} (w : Waiter) (h : s₀.Keeps s) : s₀.Keeps (State.wake s w) := by
  unfold State.wake
  grind only [State.keeps_mk, outKeeps_next, outKeeps_fault, outKeeps_refused, State.launchCore_keeps, State.setCore_keeps,
      State.setCoreSt_keeps, State.post_keeps]

theorem State.testWaiters_keeps {s₀ s : State} (wp : ℕ) (h : s₀.Keeps s) : s₀.Keeps (State.testWaiters s wp) := by
  unfold State.testWaiters
  (repeat' (
    first
    | with_reducible assumption
    | (extract_lets +onlyGivenNames x; refine keeps_suff (s₀ := s₀) x ?_ (fun _ => ?_); (on_goal 1 => subst x); (on_goal 2 => try
        clear_value x))
    | extract_lets +onlyGivenNames _
    | with_reducible (refine foldl_keeps ?_ (fun _ _ _ => ?_) <;> try beta_reduce)
    | with_reducible apply State.wake_keeps
    | with_reducible (fail_if_no_progress apply State.keeps_mk)))

theorem State.performWp_keeps {s₀ s : State} (wp : ℕ) (k : WpKind) (h : s₀.Keeps s) : s₀.Keeps (State.performWp s wp k) := by
  unfold State.performWp
  grind only [State.keeps_mk, outKeeps_next, outKeeps_fault, outKeeps_refused, State.applyWp_keeps, State.faultWaiters_keeps,
      State.testWaiters_keeps]

theorem withWp_keeps {s₀ s : State} (wp : ℕ) (k : Out) (h : s₀.Keeps s) (h_k : OutKeeps s₀ k) : OutKeeps s₀ (withWp s wp k) := by
  unfold withWp
  grind only [State.keeps_mk, outKeeps_next, outKeeps_fault, outKeeps_refused]

theorem doErrorCompletion_keeps {s₀ s : State} (slice : ℕ) (wp : ℕ) (code : ℕ) (h : s₀.Keeps s) : OutKeeps s₀ (doErrorCompletion slice
    wp code s) := by
  unfold doErrorCompletion
  grind only [State.keeps_mk, outKeeps_next, outKeeps_fault, outKeeps_refused, withWp_keeps, State.askWp_keeps]

theorem doTimedAdd_keeps {s₀ s : State} (slice : ℕ) (wp : ℕ) (value : ℕ) (time : ℕ) (h : s₀.Keeps s) : OutKeeps s₀ (doTimedAdd slice wp
    value time s) := by
  unfold doTimedAdd
  grind only [State.keeps_mk, outKeeps_next, outKeeps_fault, outKeeps_refused, withWp_keeps, State.logWpRefusal_keeps,
      State.count_keeps, State.registerTimed_keeps]

theorem doTimedAddDue_keeps {s₀ s : State} (h : s₀.Keeps s) : OutKeeps s₀ (doTimedAddDue s) := by
  unfold doTimedAddDue
  grind only [State.keeps_mk, outKeeps_next, outKeeps_fault, outKeeps_refused, State.admitTimed_keeps, State.askWp_keeps]

theorem doWaypointAdd_keeps {s₀ s : State} (slice : ℕ) (wp : ℕ) (value : ℕ) (h : s₀.Keeps s) : OutKeeps s₀ (doWaypointAdd slice wp
    value s) := by
  unfold doWaypointAdd
  grind only [State.keeps_mk, outKeeps_next, outKeeps_fault, outKeeps_refused, withWp_keeps, State.askWp_keeps]

theorem doWaypointSet_keeps {s₀ s : State} (slice : ℕ) (wp : ℕ) (value : ℕ) (h : s₀.Keeps s) : OutKeeps s₀ (doWaypointSet slice wp
    value s) := by
  unfold doWaypointSet
  grind only [State.keeps_mk, outKeeps_next, outKeeps_fault, outKeeps_refused, withWp_keeps, State.askWp_keeps]

theorem doWaypointWait_keeps {s₀ s : State} (core : ℕ) (wp : ℕ) (threshold : ℕ) (h : s₀.Keeps s) : OutKeeps s₀ (doWaypointWait core wp
    threshold s) := by
  unfold doWaypointWait
  (repeat' (
    first
    | with_reducible assumption
    | (extract_lets +onlyGivenNames x; refine keeps_suff (s₀ := s₀) x ?_ (fun _ => ?_); (on_goal 1 => subst x); (on_goal 2 => try
        clear_value x))
    | extract_lets +onlyGivenNames _
    | with_reducible apply withWp_keeps
    | with_reducible apply State.tookWait_keeps
    | with_reducible apply State.setCore_keeps
    | with_reducible apply State.setCoreSt_keeps
    | with_reducible apply State.addWaiter_keeps
    | with_reducible apply State.failWait_keeps
    | with_reducible apply outKeeps_next
    | with_reducible apply ite_out
    | split))

end Sys2Proof.Machine
end

