-- ==== Sys2Proof/Laws/Keeps/Issue.lean ====
section
/-! SUPPORT. What the functions of Machine/Issue.lean keep (`State.Keeps`): one lemma for each, cited by those of its callers. -/

namespace Sys2Proof.Machine

set_option linter.tactic.unusedName false

theorem State.faultNoAddr_keeps {s₀ s : State} (core : ℕ) (cause : ℕ) (code : ℕ) (slot : ℕ) (h : s₀.Keeps s) : s₀.Keeps
    (State.faultNoAddr s core cause code slot) := by
  unfold State.faultNoAddr
  grind only [State.keeps_mk, outKeeps_next, outKeeps_fault, outKeeps_refused, State.fresh_keeps, State.faultPark_keeps]

theorem State.notePage_keeps {s₀ s : State} (core : ℕ) (line : ℕ) (gen : ℕ) (h : s₀.Keeps s) : s₀.Keeps (State.notePage s core line
    gen) := by
  unfold State.notePage
  grind only [State.keeps_mk, outKeeps_next, outKeeps_fault, outKeeps_refused, State.setCore_keeps]

theorem State.fillLine_keeps {s₀ s : State} (core : ℕ) (line : ℕ) (gen : ℕ) (h : s₀.Keeps s) : s₀.Keeps (State.fillLine s core line
    gen) := by
  unfold State.fillLine
  grind only [State.keeps_mk, outKeeps_next, outKeeps_fault, outKeeps_refused, State.notePage_keeps, State.fresh_keeps,
      State.setCore_keeps]

theorem State.goTo_keeps {s₀ s : State} (core : ℕ) (c : Core) (pc : ℕ) (h : s₀.Keeps s) : s₀.Keeps (State.goTo s core c pc) := by
  unfold State.goTo
  grind only [State.keeps_mk, outKeeps_next, outKeeps_fault, outKeeps_refused, State.setCore_keeps, State.enterLine_keeps]

theorem State.issueLoad_keeps {s₀ s : State} (core : ℕ) (c : Core) (w : ℕ) (tag : ℕ) (h : s₀.Keeps s) : s₀.Keeps (State.issueLoad s
    core c w tag) := by
  unfold State.issueLoad
  grind only [State.keeps_mk, outKeeps_next, outKeeps_fault, outKeeps_refused, State.noteRead_keeps, State.setCore_keeps,
      State.prefetchLine_keeps]

theorem State.issueVector_keeps {s₀ s : State} (core : ℕ) (c : Core) (w : ℕ) (tag : ℕ) (h : s₀.Keeps s) : s₀.Keeps (State.issueVector s
    core c w tag) := by
  unfold State.issueVector
  grind only [State.keeps_mk, outKeeps_next, outKeeps_fault, outKeeps_refused, State.noteRead_keeps, State.setCore_keeps]

theorem State.issueStore_keeps {s₀ s : State} (core : ℕ) (c : Core) (w : ℕ) (tag : ℕ) (h : s₀.Keeps s) : s₀.Keeps (State.issueStore s
    core c w tag) := by
  unfold State.issueStore
  grind only [State.keeps_mk, outKeeps_next, outKeeps_fault, outKeeps_refused, State.writeNow_keeps, State.disturb_keeps,
      State.noteRead_keeps, State.setCore_keeps]

theorem State.issueMatrix_keeps {s₀ s : State} (core : ℕ) (c : Core) (w : ℕ) (tag : ℕ) (h : s₀.Keeps s) : s₀.Keeps (State.issueMatrix s
    core c w tag) := by
  unfold State.issueMatrix
  grind only [State.keeps_mk, outKeeps_next, outKeeps_fault, outKeeps_refused, State.setCore_keeps]

theorem State.issueSync_keeps {s₀ s : State} (core : ℕ) (c : Core) (w : ℕ) (tag : ℕ) (h : s₀.Keeps s) : s₀.Keeps (State.issueSync s
    core c w tag) := by
  unfold State.issueSync
  grind only [State.keeps_mk, outKeeps_next, outKeeps_fault, outKeeps_refused, State.setCore_keeps]

theorem State.issueBundle_keeps {s₀ s : State} (core : ℕ) (b : Slots) (h : s₀.Keeps s) : s₀.Keeps (State.issueBundle s core b) := by
  unfold State.issueBundle
  (repeat' (
    first
    | with_reducible assumption
    | (extract_lets +onlyGivenNames x; refine keeps_suff (s₀ := s₀) x ?_ (fun _ => ?_); (on_goal 1 => subst x); (on_goal 2 => try
        clear_value x))
    | extract_lets +onlyGivenNames _
    | with_reducible apply State.setCore_keeps
    | with_reducible apply State.issueLoad_keeps
    | with_reducible apply State.issueStore_keeps
    | with_reducible apply State.issueMatrix_keeps
    | with_reducible apply State.issueVector_keeps
    | with_reducible apply State.issueSync_keeps
    | with_reducible apply State.count_keeps
    | with_reducible apply State.setCoreSt_keeps
    | with_reducible apply State.goTo_keeps
    | with_reducible apply ite_keeps))

theorem State.issueTorn_keeps {s₀ s : State} (core : ℕ) (h : s₀.Keeps s) : s₀.Keeps (State.issueTorn s core) := by
  unfold State.issueTorn
  grind only [State.keeps_mk, outKeeps_next, outKeeps_fault, outKeeps_refused, State.fresh_keeps, State.setCore_keeps,
      State.undefinedResult_keeps, State.count_keeps, State.setCoreSt_keeps]

theorem State.missLine_keeps {s₀ s : State} (core : ℕ) (line : ℕ) (h : s₀.Keeps s) : s₀.Keeps (State.missLine s core line) := by
  unfold State.missLine
  grind only [State.keeps_mk, outKeeps_next, outKeeps_fault, outKeeps_refused, State.setCore_keeps, State.count_keeps,
      State.outOfSlice_keeps, State.faultPark_keeps]

theorem State.stall_keeps {s₀ s : State} (core : ℕ) (h : s₀.Keeps s) : s₀.Keeps (State.stall s core) := by
  unfold State.stall
  grind only [State.keeps_mk, outKeeps_next, outKeeps_fault, outKeeps_refused, State.count_keeps]

theorem State.syncWait_keeps {s₀ s : State} (core : ℕ) (w : ℕ) (h : s₀.Keeps s) : ∀ t, State.syncWait s core w = some t → s₀.Keeps t := by
  intro t e
  unfold State.syncWait at e
  extract_lets c wp x at e
  split at e
  · cases e
  · split at e
    · cases e
    · cases e
      exact State.setCore_keeps _ _ (State.stall_keeps _ (State.setCoreSt_keeps _ _ (State.addWaiter_keeps _ _ _ _
          (State.tookWait_keeps _ h))))
    · cases e
      exact State.failWait_keeps _ _ _ _ h

theorem State.tookSync_keeps {s₀ s : State} (core : ℕ) (w : ℕ) (h : s₀.Keeps s) : s₀.Keeps (State.tookSync s core w) := by
  unfold State.tookSync
  grind only [State.keeps_mk, outKeeps_next, outKeeps_fault, outKeeps_refused, State.tookWait_keeps]

theorem State.tryBundle_keeps {s₀ s : State} (core : ℕ) (b : ℕ) (h : s₀.Keeps s) : s₀.Keeps (State.tryBundle s core b) := by
  unfold State.tryBundle
  grind only [State.keeps_mk, outKeeps_next, outKeeps_fault, outKeeps_refused, State.faultNoAddr_keeps, State.stall_keeps,
      State.setCore_keeps, State.setCoreSt_keeps, State.faultPark_keeps, State.syncWait_keeps, State.issueBundle_keeps,
          State.tookSync_keeps]

theorem doBundleIssue_keeps {s₀ s : State} (core : ℕ) (h : s₀.Keeps s) : OutKeeps s₀ (doBundleIssue core s) := by
  unfold doBundleIssue
  grind only [State.keeps_mk, outKeeps_next, outKeeps_fault, outKeeps_refused, withCore_keeps, State.stall_keeps,
      State.issueTorn_keeps, State.tryBundle_keeps, State.missLine_keeps]

theorem doLineFill_keeps {s₀ s : State} (core : ℕ) (h : s₀.Keeps s) : OutKeeps s₀ (doLineFill core s) := by
  unfold doLineFill
  grind only [State.keeps_mk, outKeeps_next, outKeeps_fault, outKeeps_refused, withCore_keeps, State.noteRead_keeps,
      State.fillLine_keeps, State.setCore_keeps, State.faultPark_keeps]

theorem execLdaWriteback_keeps {s₀ s : State} (core : ℕ) (h : s₀.Keeps s) : OutKeeps s₀ (execLdaWriteback core s) := by
  unfold execLdaWriteback
  grind only [State.keeps_mk, outKeeps_next, outKeeps_fault, outKeeps_refused, withCore_keeps, State.setCore_keeps]

end Sys2Proof.Machine
end

