-- ==== Sys2Proof/Laws/Keeps/Dma.lean ====
section
/-! SUPPORT. What the functions of Machine/Dma.lean keep (`State.Keeps`): one lemma for each, cited by those of its callers. -/

namespace Sys2Proof.Machine

set_option linter.tactic.unusedName false

theorem State.dmaWrite_keeps {s₀ s : State} (core : ℕ) (who : WriteBy) (w : ℕ × ℕ × List Byte) (h : s₀.Keeps s) : s₀.Keeps
    (State.dmaWrite s core who w) := by
  unfold State.dmaWrite
  grind only [State.keeps_mk, outKeeps_next, outKeeps_fault, outKeeps_refused, State.write_keeps]

theorem State.noteRanges_keeps {s₀ s : State} (core : ℕ) (cls : ℕ) (l : List DmaRange) (h : s₀.Keeps s) : s₀.Keeps (State.noteRanges s
    core cls l) := by
  unfold State.noteRanges
  grind only [State.keeps_mk, outKeeps_next, outKeeps_fault, outKeeps_refused, State.noteSpans_keeps]

theorem State.touch_keeps {s₀ s : State} (core : ℕ) (who : WriteBy) (space : ℕ) (base : ℕ) (v : ℕ) (h : s₀.Keeps s) : s₀.Keeps
    (State.touch s core who space base v) := by
  unfold State.touch
  grind only [State.keeps_mk, outKeeps_next, outKeeps_fault, outKeeps_refused, State.noteRead_keeps, State.dmaWrite_keeps]

theorem State.dmaError_keeps {s₀ s : State} (core : ℕ) (engine : ℕ) (op : ℕ) (code : ℕ) (h : s₀.Keeps s) : s₀.Keeps (State.dmaError s
    core engine op code) := by
  unfold State.dmaError
  grind only [State.keeps_mk, outKeeps_next, outKeeps_fault, outKeeps_refused, State.setObj_keeps, State.count_keeps]

theorem scatterRows_keeps {s₀ s : State} (core : ℕ) (who : WriteBy) (d : DmaDesc) (a3 : List ℕ) (a4 : ℕ) (h : s₀.Keeps s) : s₀.Keeps
    (scatterRows core who d a3 a4 s).1 := by
  induction a3 generalizing a4 s with
  | nil => exact h
  | cons a r ih =>
  unfold scatterRows
  (repeat' (
    first
    | with_reducible assumption
    | (extract_lets +onlyGivenNames x; refine keeps_suff (s₀ := s₀) x ?_ (fun _ => ?_); (on_goal 1 => subst x); (on_goal 2 => try
        clear_value x))
    | extract_lets +onlyGivenNames _
    | with_reducible apply ih
    | with_reducible apply State.noteRead_keeps
    | with_reducible apply State.dmaWrite_keeps
    | with_reducible apply State.touch_keeps
    | with_reducible apply ite_keeps
    | with_reducible apply ite_fst))

theorem State.doDma_keeps {s₀ s : State} (core : ℕ) (who : WriteBy) (d : DmaDesc) (h : s₀.Keeps s) : s₀.Keeps (State.doDma s core who
    d).1 := by
  unfold State.doDma
  (repeat' (
    first
    | with_reducible assumption
    | (extract_lets +onlyGivenNames x; refine keeps_suff (s₀ := s₀) x ?_ (fun _ => ?_); (on_goal 1 => subst x); (on_goal 2 => try
        clear_value x))
    | extract_lets +onlyGivenNames _
    | with_reducible (refine foldl_keeps ?_ (fun _ _ _ => ?_) <;> try beta_reduce)
    | with_reducible apply State.noteRanges_keeps
    | with_reducible apply scatterRows_keeps
    | with_reducible apply State.dmaWrite_keeps
    | with_reducible apply State.setFlags_keeps
    | with_reducible apply State.count_keeps
    | with_reducible apply ite_fst))

theorem State.failDma_keeps {s₀ s : State} (core : ℕ) (engine : ℕ) (d : DmaDesc) (code : ℕ) (addr : ℕ) (h : s₀.Keeps s) : s₀.Keeps
    (State.failDma s core engine d code addr) := by
  unfold State.failDma
  grind only [State.keeps_mk, outKeeps_next, outKeeps_fault, outKeeps_refused, State.dmaError_keeps, State.postCoreWp_keeps,
      State.outOfSlice_keeps]

theorem doDmaComplete_keeps {s₀ s : State} (core : ℕ) (engine : ℕ) (h : s₀.Keeps s) : OutKeeps s₀ (doDmaComplete core engine s) := by
  unfold doDmaComplete
  (repeat' (
    first
    | with_reducible assumption
    | (extract_lets +onlyGivenNames x; refine keeps_suff (s₀ := s₀) x ?_ (fun _ => ?_); (on_goal 1 => subst x); (on_goal 2 => try
        clear_value x))
    | extract_lets +onlyGivenNames _
    | with_reducible apply withCore_keeps
    | with_reducible apply State.progressed_keeps
    | with_reducible apply State.setCore_keeps
    | with_reducible apply State.count_keeps
    | with_reducible apply State.flagEvent_keeps
    | with_reducible apply State.postCoreWp_keeps
    | with_reducible apply outKeeps_next
    | with_reducible apply ite_keeps
    | with_reducible apply ite_out
    | split))

theorem doDmaDescriptorStart_keeps {s₀ s : State} (core : ℕ) (engine : ℕ) (errors : List StoredError) (h : s₀.Keeps s) : OutKeeps s₀
    (doDmaDescriptorStart core engine errors s) := by
  unfold doDmaDescriptorStart
  (repeat' (
    first
    | with_reducible assumption
    | (extract_lets +onlyGivenNames x; refine keeps_suff (s₀ := s₀) x ?_ (fun _ => ?_); (on_goal 1 => subst x); (on_goal 2 => try
        clear_value x))
    | extract_lets +onlyGivenNames _
    | with_reducible apply withCore_keeps
    | with_reducible apply State.strikes_keeps
    | with_reducible apply State.progressed_keeps
    | with_reducible apply State.setCore_keeps
    | with_reducible apply State.undefinedResult_keeps
    | with_reducible apply State.count_keeps
    | with_reducible apply State.failDma_keeps
    | with_reducible apply State.doDma_keeps
    | with_reducible apply outKeeps_next
    | with_reducible apply ite_keeps
    | with_reducible apply ite_out
    | with_reducible dsimp -zeta only
    | split))

end Sys2Proof.Machine
end

