-- ==== Sys2Proof/Laws/Keeps/Vector.lean ====
section
/-! SUPPORT. What the functions of Machine/Vector.lean keep (`State.Keeps`): one lemma for each, cited by those of its callers. -/

namespace Sys2Proof.Machine

set_option linter.tactic.unusedName false

theorem State.stepStatus_keeps {s₀ s : State} (mask : ℕ) (h : s₀.Keeps s) : s₀.Keeps (State.stepStatus s mask) := by
  unfold State.stepStatus
  grind only [State.keeps_mk, outKeeps_next, outKeeps_fault, outKeeps_refused, State.count_keeps, State.raise_keeps]

theorem State.noteReads_keeps {s₀ s : State} (core : ℕ) (l : List VRange) (h : s₀.Keeps s) : s₀.Keeps (State.noteReads s core l) := by
  unfold State.noteReads
  (repeat' (
    first
    | with_reducible assumption
    | extract_lets +onlyGivenNames _
    | with_reducible (refine foldl_keeps ?_ (fun _ _ _ => ?_) <;> try beta_reduce)
    | with_reducible apply State.noteRead_keeps
    | with_reducible apply ite_keeps))

theorem runStages_keeps {s₀ s : State} (core : ℕ) (p : ℕ) (d : ChainDesc) (scale : FVal) (ins : List Num) (a5 : List Stage) (a6 : List
    Num) (h : s₀.Keeps s) : s₀.Keeps (runStages core p d scale ins a5 a6 s).2.2.2.2 := by
  induction a5 generalizing a6 s with
  | nil => exact h
  | cons a r ih =>
  unfold runStages
  (repeat' (
    first
    | with_reducible assumption
    | extract_lets +onlyGivenNames _
    | with_reducible apply ih
    | with_reducible apply State.draw_keeps
    | with_reducible apply ite_snd))

theorem unitDraws_keeps {s₀ s : State} (core : ℕ) (p : ℕ) (d : ChainDesc) (h : s₀.Keeps s) : s₀.Keeps (unitDraws core p d s).2 := by
  unfold unitDraws
  (repeat' (
    first
    | with_reducible assumption
    | extract_lets +onlyGivenNames _
    | with_reducible (refine foldl_snd_keeps ?_ (fun _ _ _ => ?_) <;> try beta_reduce)
    | with_reducible apply State.draw_keeps
    | with_reducible apply ite_snd))

theorem State.setSpace_keeps {s₀ s : State} (core : ℕ) (loc : ℕ) (off : ℕ) (l : List Byte) (h : s₀.Keeps s) : s₀.Keeps (State.setSpace
    s core loc off l) := by
  unfold State.setSpace
  grind only [State.keeps_mk, outKeeps_next, outKeeps_fault, outKeeps_refused, State.setTileBytes_keeps, State.write_keeps]

theorem State.putElem_keeps {s₀ s : State} (core : ℕ) (x : Stream) (f : Fmt) (i : ℕ) (code : ℕ) (h : s₀.Keeps s) : s₀.Keeps
    (State.putElem s core x f i code) := by
  unfold State.putElem
  grind only [State.keeps_mk, outKeeps_next, outKeeps_fault, outKeeps_refused, State.setSpace_keeps]

theorem putConverted_keeps {s₀ s : State} (core : ℕ) (d : ChainDesc) (x : Stream) (i : ℕ) (a4 : List (FVal × ℕ)) (h : s₀.Keeps s) :
    s₀.Keeps (putConverted core d x i a4 s).2 := by
  induction a4 generalizing i s with
  | nil => exact h
  | cons a r ih =>
  unfold putConverted
  (repeat' (
    first
    | with_reducible assumption
    | extract_lets +onlyGivenNames _
    | with_reducible apply ih
    | with_reducible apply State.putElem_keeps))

theorem topkBlock_keeps {s₀ s : State} (core : ℕ) (d : ChainDesc) (st : Stage) (j : ℕ) (b : List (FVal × List ℕ)) (h : s₀.Keeps s) :
    s₀.Keeps (topkBlock core d st j b s).2 := by
  unfold topkBlock
  grind only [State.keeps_mk, outKeeps_next, outKeeps_fault, outKeeps_refused, putConverted_keeps, State.setSpace_keeps]

theorem signBlock_keeps {s₀ s : State} (core : ℕ) (d : ChainDesc) (j : ℕ) (b : List (FVal × List ℕ)) (h : s₀.Keeps s) : s₀.Keeps
    (signBlock core d j b s).2 := by
  unfold signBlock
  grind only [State.keeps_mk, outKeeps_next, outKeeps_fault, outKeeps_refused, State.setSpace_keeps, putConverted_keeps]

theorem runOutputs_keeps {s₀ s : State} (core : ℕ) (p : ℕ) (d : ChainDesc) (ends : Bool) (vals : List Num) (stats : List Num) (a6 :
    List Stream) (h : s₀.Keeps s) : s₀.Keeps (runOutputs core p d ends vals stats a6 s).2 := by
  induction a6 generalizing s with
  | nil => exact h
  | cons a r ih =>
  unfold runOutputs
  (repeat' (
    first
    | with_reducible assumption
    | extract_lets +onlyGivenNames _
    | with_reducible apply ih
    | with_reducible apply State.draw_keeps
    | with_reducible apply State.putElem_keeps
    | with_reducible apply ite_snd))

theorem stepPosition_keeps {s₀ : State} (core : ℕ) (d : ChainDesc) (scale : FVal) (w : Pass) (p : ℕ) (h : s₀.Keeps w.s) : s₀.Keeps
    (stepPosition core d scale w p).s := by
  unfold stepPosition
  (repeat' (
    first
    | with_reducible assumption
    | (extract_lets +onlyGivenNames x; refine keeps_suff (s₀ := s₀) x ?_ (fun _ => ?_); (on_goal 1 => subst x); (on_goal 2 => try
        clear_value x))
    | extract_lets +onlyGivenNames _
    | with_reducible apply runStages_keeps
    | with_reducible apply unitDraws_keeps
    | with_reducible apply topkBlock_keeps
    | with_reducible apply signBlock_keeps
    | with_reducible apply runOutputs_keeps
    | with_reducible apply ite_snd
    | with_reducible dsimp -zeta only
    | split))

theorem runPass_keeps {s₀ s : State} (core : ℕ) (d : ChainDesc) (h : s₀.Keeps s) : s₀.Keeps (runPass s core d).1 := foldl_pass_keeps h
    (fun u a hu => stepPosition_keeps core d _ u a hu)

theorem State.passChain_keeps {s₀ s : State} (core : ℕ) (d : ChainDesc) (h : s₀.Keeps s) : s₀.Keeps (State.passChain s core d).1 := by
  unfold State.passChain
  (repeat' (
    first
    | with_reducible assumption
    | (extract_lets +onlyGivenNames x; refine keeps_suff (s₀ := s₀) x ?_ (fun _ => ?_); (on_goal 1 => subst x); (on_goal 2 => try
        clear_value x))
    | extract_lets +onlyGivenNames _
    | with_reducible (refine foldl_keeps ?_ (fun _ _ _ => ?_) <;> try beta_reduce)
    | with_reducible apply State.noteReads_keeps
    | with_reducible apply runPass_keeps
    | with_reducible apply State.setFlags_keeps
    | with_reducible apply State.reportNonFinite_keeps))

theorem State.updateLossScale_keeps {s₀ s : State} (core : ℕ) (off : ℕ) (h : s₀.Keeps s) : s₀.Keeps (State.updateLossScale s core off)
    := by
  unfold State.updateLossScale
  grind only [State.keeps_mk, outKeeps_next, outKeeps_fault, outKeeps_refused, State.write_keeps]

theorem State.noteUpdated_keeps {s₀ s : State} (core : ℕ) (h : s₀.Keeps s) : s₀.Keeps (State.noteUpdated s core) := by
  unfold State.noteUpdated
  grind only [State.keeps_mk, outKeeps_next, outKeeps_fault, outKeeps_refused, State.stepStatus_keeps]

theorem State.readLink_keeps {s₀ s : State} (core : ℕ) (ch : Chain) (d : ChainDesc) (h : s₀.Keeps s) : s₀.Keeps (State.readLink s core
    ch d) := by
  unfold State.readLink
  grind only [State.keeps_mk, outKeeps_next, outKeeps_fault, outKeeps_refused, State.noteRead_keeps]

theorem State.refuseGated_keeps {s₀ s : State} (core : ℕ) (ch : Chain) (d : ChainDesc) (h : s₀.Keeps s) : s₀.Keeps (State.refuseGated s
    core ch d) := by
  unfold State.refuseGated
  grind only [State.keeps_mk, outKeeps_next, outKeeps_fault, outKeeps_refused, State.readLink_keeps, State.progressed_keeps,
      State.setCore_keeps, State.logEvent_keeps, State.postCoreWp_keeps]

theorem State.runChain_keeps {s₀ s : State} (core : ℕ) (ch : Chain) (h : s₀.Keeps s) : s₀.Keeps (State.runChain s core ch) := by
  unfold State.runChain
  grind only [State.keeps_mk, outKeeps_next, outKeeps_fault, outKeeps_refused, State.readLink_keeps, State.undefinedResult_keeps,
      State.progressed_keeps, State.setCore_keeps, State.count_keeps, State.updateLossScale_keeps, State.noteReads_keeps,
          State.noteUpdated_keeps, State.passChain_keeps]

theorem doChainComplete_keeps {s₀ s : State} (core : ℕ) (h : s₀.Keeps s) : OutKeeps s₀ (doChainComplete core s) := by
  unfold doChainComplete
  (repeat' (
    first
    | with_reducible assumption
    | (extract_lets +onlyGivenNames x; refine keeps_suff (s₀ := s₀) x ?_ (fun _ => ?_); (on_goal 1 => subst x); (on_goal 2 => try
        clear_value x))
    | extract_lets +onlyGivenNames _
    | with_reducible apply withCore_keeps
    | with_reducible apply State.progressed_keeps
    | with_reducible apply State.setCore_keeps
    | with_reducible apply State.count_keeps
    | with_reducible apply State.countFree_keeps
    | with_reducible apply State.flagEvent_keeps
    | with_reducible apply State.postCoreWp_keeps
    | with_reducible apply outKeeps_next
    | with_reducible apply ite_keeps
    | split))

theorem doChainStart_keeps {s₀ s : State} (core : ℕ) (h : s₀.Keeps s) : OutKeeps s₀ (doChainStart core s) := by
  unfold doChainStart
  grind only [State.keeps_mk, outKeeps_next, outKeeps_fault, outKeeps_refused, withCore_keeps, State.countFree_keeps,
      State.refuseGated_keeps, State.setCore_keeps, State.runChain_keeps]

end Sys2Proof.Machine
end

