-- ==== Sys2Proof/Laws/Keeps/Layers.lean ====
section
/-! SUPPORT. What the functions of Machine/Layers.lean keep (`State.Keeps`): one lemma for each, cited by those of its callers. -/

namespace Sys2Proof.Machine

set_option linter.tactic.unusedName false

theorem State.tileDrained_keeps {s₀ s : State} (core : ℕ) (p : Product) (c : MatCfg) (b : Block) (f : AFlags) (nf : Bool) (h : s₀.Keeps
    s) : s₀.Keeps (State.tileDrained s core p c b f nf) := by
  unfold State.tileDrained
  (repeat' (
    first
    | with_reducible assumption
    | (extract_lets +onlyGivenNames x; refine keeps_suff (s₀ := s₀) x ?_ (fun _ => ?_); (on_goal 1 => subst x); (on_goal 2 => try
        clear_value x))
    | extract_lets +onlyGivenNames _
    | with_reducible (refine foldl_keeps ?_ (fun _ _ _ => ?_) <;> try beta_reduce)
    | with_reducible apply State.setCore_keeps
    | with_reducible apply State.flagEvent_keeps
    | with_reducible apply State.setFlags_keeps
    | with_reducible apply State.reportNonFinite_keeps
    | with_reducible apply State.recordCheck_keeps
    | with_reducible apply State.count_keeps
    | with_reducible apply State.raise_keeps
    | with_reducible apply ite_keeps))

theorem Product.toFp32_keeps {s₀ s : State} (p : Product) (core : ℕ) (c : MatCfg) (scale : FVal) (h : s₀.Keeps s) : s₀.Keeps
    (Product.toFp32 p core c scale s).2 := by
  unfold Product.toFp32
  (repeat' (
    first
    | with_reducible assumption
    | extract_lets +onlyGivenNames _
    | with_reducible (refine foldl_keeps ?_ (fun _ _ _ => ?_) <;> try beta_reduce)
    | with_reducible apply State.tileDrained_keeps))

theorem Attention.block_keeps {s₀ : State} (x : Attention) (s0 : State) (core : ℕ) (c : MatCfg) (hd : ℕ) (is : List ℕ) (w : List Soft ×
    AFlags × State) (j0 nk : ℕ) (h : s₀.Keeps w.2.2) : s₀.Keeps (x.block s0 core c hd is w j0 nk).2.2 := Product.toFp32_keeps _ _ _ _
        (Product.toFp32_keeps _ _ _ _ h)

theorem State.layerWrite_keeps {s₀ s : State} (core : ℕ) (space : ℕ) (a : ℕ) (l : List Byte) (h : s₀.Keeps s) : s₀.Keeps
    (State.layerWrite s core space a l) := by
  unfold State.layerWrite
  grind only [State.keeps_mk, outKeeps_next, outKeeps_fault, outKeeps_refused, State.dmaWrite_keeps]

theorem State.putCodes_keeps {s₀ s : State} (core : ℕ) (a_t : Tref) (bitOff : ℕ) (codes : List ℕ) (h : s₀.Keeps s) : s₀.Keeps
    (State.putCodes s core a_t bitOff codes) := by
  unfold State.putCodes
  grind only [State.keeps_mk, outKeeps_next, outKeeps_fault, outKeeps_refused, State.layerWrite_keeps]

theorem softOut_keeps {s₀ s : State} (core : ℕ) (c : MatCfg) (r : FVal) (a3 : List FVal) (a4 : ℕ) (h : s₀.Keeps s) : s₀.Keeps (softOut
    core c r a3 a4 s).2.2 := by
  induction a3 generalizing a4 s with
  | nil => exact h
  | cons a r ih =>
  exact ih _ (ite_snd (State.draw_keeps _ _ h) h)

theorem Attention.rows_keeps {s₀ : State} (x : Attention) (s0 : State) (core : ℕ) (c : MatCfg) (hd : ℕ) (is : List ℕ) (w : AFlags ×
    State) (h : s₀.Keeps w.2) : s₀.Keeps (x.rows s0 core c hd is w).2 := foldl_snd_keeps (foldl_snd2_keeps h (fun _ _ k =>
        Attention.block_keeps _ _ _ _ _ _ _ _ _ k))
    (fun _ _ k => State.putCodes_keeps _ _ _ _ (softOut_keeps _ _ _ _ _ k))

theorem Attention.head_keeps {s₀ : State} (x : Attention) (s0 : State) (core : ℕ) (c : MatCfg) (w : AFlags × State) (hd : ℕ) (h :
    s₀.Keeps w.2) : s₀.Keeps (x.head s0 core c w hd).2 := foldl_snd_keeps (foldl_keeps h (fun _ _ k => State.putCodes_keeps _ _ _ _ k))
    (fun _ _ k => Attention.rows_keeps _ _ _ _ _ _ _ k)

theorem Product.drainBlock_keeps {s₀ s : State} (p : Product) (core : ℕ) (c : MatCfg) (put : State → ℕ → ℕ → List ℕ → State) (b :
    Block) (hp : ∀ t i j l, s₀.Keeps t → s₀.Keeps (put t i j l)) (h : s₀.Keeps s) : s₀.Keeps (p.drainBlock core c put s b) := by
  unfold Product.drainBlock
  refine State.tileDrained_keeps _ _ _ _ _ _ (foldl_fst_keeps h (fun _ _ k => hp _ _ _ _ (drainRow_keeps _ _ _ _ _ k)))

theorem State.flagEventsFree_keeps {s₀ s : State} (core : ℕ) (f : AFlags) (h : s₀.Keeps s) : s₀.Keeps (State.flagEventsFree s core f)
    := by
  unfold State.flagEventsFree
  grind only [State.keeps_mk, outKeeps_next, outKeeps_fault, outKeeps_refused, State.countFree_keeps]

theorem State.layerFlags_keeps {s₀ s : State} (core : ℕ) (f : AFlags) (h : s₀.Keeps s) : s₀.Keeps (State.layerFlags s core f) := by
  unfold State.layerFlags
  grind only [State.keeps_mk, outKeeps_next, outKeeps_fault, outKeeps_refused, State.flagEventsFree_keeps, State.setFlags_keeps]

theorem State.scribble_keeps {s₀ s : State} (core : ℕ) (w : ℕ) (h : s₀.Keeps s) : s₀.Keeps (State.scribble s core w) := State.keeps_mk5
    h (Nat.le_succ _) (fun w => wf_sets _ _ _ w) id

theorem State.banksUsed_keeps {s₀ s : State} (core : ℕ) (h : s₀.Keeps s) : s₀.Keeps (State.banksUsed s core) := by
  unfold State.banksUsed
  grind only [State.keeps_mk, outKeeps_next, outKeeps_fault, outKeeps_refused, State.setCore_keeps]

theorem Product.run_keeps {s₀ s : State} (p : Product) (core : ℕ) (c : MatCfg) (put : State → ℕ → ℕ → List ℕ → State) (work : ℕ) (hp :
    ∀ t i j l, s₀.Keeps t → s₀.Keeps (put t i j l)) (h : s₀.Keeps s) : s₀.Keeps (p.run core c put work s) := by
  refine State.scribble_keeps _ _ (State.banksUsed_keeps _ (foldl_keeps ?_ (fun _ _ k => Product.drainBlock_keeps _ _ _ _ _ hp k)))
  exact ite_keeps (State.layerFlags_keeps _ _ h) h

theorem State.layerWaits_keeps {s₀ s : State} (core : ℕ) (a1 : List (ℕ × ℕ)) (h : s₀.Keeps s) : s₀.Keeps (State.layerWaits core a1 s)
    := by
  induction a1 generalizing s with
  | nil => exact h
  | cons a r ih =>
  unfold State.layerWaits
  (repeat' (
    first
    | with_reducible assumption
    | extract_lets +onlyGivenNames _
    | with_reducible apply ih
    | with_reducible apply State.tookWait_keeps
    | with_reducible apply State.setCoreSt_keeps
    | with_reducible apply State.addWaiter_keeps
    | with_reducible apply State.failWait_keeps
    | with_reducible apply ite_keeps
    | split))

theorem State.startLayer_keeps {s₀ s : State} (core : ℕ) (h : s₀.Keeps s) : s₀.Keeps (State.startLayer s core) := by
  unfold State.startLayer
  grind only [State.keeps_mk, outKeeps_next, outKeeps_fault, outKeeps_refused, State.setCore_keeps, State.setCoreSt_keeps,
      State.faultNoAddr_keeps, State.faultPark_keeps, State.logWpRefusal_keeps, State.layerWaits_keeps, State.post_keeps]

theorem State.setLyr_keeps {s₀ s : State} (core : ℕ) (i : ℕ) (v : ℕ) (h : s₀.Keeps s) : s₀.Keeps (State.setLyr s core i v) := by
  unfold State.setLyr
  grind only [State.keeps_mk, outKeeps_next, outKeeps_fault, outKeeps_refused, State.setObj_keeps]

theorem State.setLayer_keeps {s₀ s : State} (core : ℕ) (l : LayerSt) (h : s₀.Keeps s) : s₀.Keeps (State.setLayer s core l) := by
  unfold State.setLayer
  grind only [State.keeps_mk, outKeeps_next, outKeeps_fault, outKeeps_refused, State.setCore_keeps]

theorem State.stagingCounts_keeps {s₀ s : State} (core : ℕ) (h : s₀.Keeps s) : s₀.Keeps (State.stagingCounts s core) := by
  unfold State.stagingCounts
  (repeat' (
    first
    | with_reducible assumption
    | with_reducible (refine foldl_keeps ?_ (fun _ _ _ => ?_) <;> try beta_reduce)
    | with_reducible apply State.countFree_keeps))

theorem State.layerChain_keeps {s₀ s : State} (core : ℕ) (d : ChainDesc) (h : s₀.Keeps s) : s₀.Keeps (State.layerChain s core d) := by
  unfold State.layerChain
  grind only [State.keeps_mk, outKeeps_next, outKeeps_fault, outKeeps_refused, State.passChain_keeps, State.countFree_keeps,
      State.count_keeps, State.flagEvent_keeps]

theorem State.chainLayer_keeps {s₀ s : State} (core : ℕ) (d : ChainDesc) (h : s₀.Keeps s) : s₀.Keeps (State.chainLayer s core d) := by
  unfold State.chainLayer
  grind only [State.keeps_mk, outKeeps_next, outKeeps_fault, outKeeps_refused, State.count_keeps, State.updateLossScale_keeps,
      State.noteUpdated_keeps, State.layerChain_keeps]

theorem convertRowTo_keeps {s₀ s : State} (core : ℕ) (cvt : ℕ) (a_t : Tref) (a3 : List FVal) (a4 : ℕ) (h : s₀.Keeps s) : s₀.Keeps
    (convertRowTo core cvt a_t a3 a4 s).2.2 := by
  induction a3 generalizing a4 s with
  | nil => exact h
  | cons a r ih =>
  unfold convertRowTo
  (repeat' (
    first
    | with_reducible assumption
    | extract_lets +onlyGivenNames _
    | with_reducible apply ih
    | with_reducible apply State.draw_keeps
    | with_reducible apply ite_snd))

theorem State.scatterRow_keeps {s₀ : State} (core cvt dim rows : ℕ) (table data touch : Tref) (touchEn : Bool) (w : AFlags × State) (iv
    : ℕ × ℕ) (h : s₀.Keeps w.2) : s₀.Keeps (State.scatterRow core cvt dim rows table data touch touchEn w iv).2 := by
  unfold State.scatterRow
  extract_lets s
  have k : s₀.Keeps s := h
  clear_value s
  split
  · exact State.count_keeps _ _ _ k
  · dsimp only
    refine ite_keeps (State.touch_keeps _ _ _ _ _ ?_) ?_ <;>
      exact State.putCodes_keeps _ _ _ _ (convertRowTo_keeps _ _ _ _ _ (State.noteRead_keeps _ _ _ k))

theorem State.storeAt_keeps {s₀ : State} (core cvt : ℕ) (a_t : Tref) (i : ℕ) (v : FVal × AFlags) (w : AFlags × State) (h : s₀.Keeps
    w.2) : s₀.Keeps (State.storeAt core cvt a_t i v w).2 := State.putCodes_keeps _ _ _ _ (convertRowTo_keeps core cvt a_t [v.1] i h)

theorem State.chainsFree_keeps {s₀ s : State} (core : ℕ) (h : s₀.Keeps s) : s₀.Keeps (State.chainsFree s core) := by
  unfold State.chainsFree
  grind only [State.keeps_mk, outKeeps_next, outKeeps_fault, outKeeps_refused, State.countFree_keeps]

theorem State.chainsSkipped_keeps {s₀ s : State} (core : ℕ) (h : s₀.Keeps s) : s₀.Keeps (State.chainsSkipped s core) := by
  unfold State.chainsSkipped
  grind only [State.keeps_mk, outKeeps_next, outKeeps_fault, outKeeps_refused, State.fresh_keeps, State.count_keeps]

theorem LayerWork.idle_keeps : LayerKeeps LayerWork.idle := fun _ _ h => h

theorem State.matmulWork_keeps (s : State) (core : ℕ) : LayerKeeps (State.matmulWork s core) := by
  intro s₀ t h
  unfold State.matmulWork
  extract_lets
  split
  · exact h
  · exact Product.run_keeps _ _ _ _ _ (fun _ _ _ _ k => State.putCodes_keeps _ _ _ _ k) h

theorem State.convWork_keeps (s : State) (core : ℕ) : LayerKeeps (State.convWork s core) := by
  intro s₀ t h
  unfold State.convWork
  extract_lets
  split
  · exact h
  · split
    · exact h
    · exact Product.run_keeps _ _ _ _ _ (fun _ _ _ _ k => State.putCodes_keeps _ _ _ _ k) h

theorem State.attentionWork_keeps (s : State) (core : ℕ) : LayerKeeps (State.attentionWork s core) := by
  intro s₀ t h
  unfold State.attentionWork
  extract_lets x c work reads
  have k : s₀.Keeps ((List.range x.heads).foldl (x.head s core c) (AFlags.none, t)).2 :=
    foldl_snd_keeps h (fun w hd k => Attention.head_keeps x s core c w hd k)
  exact State.scribble_keeps _ _ (ite_keeps k (State.banksUsed_keeps _ (State.chainsFree_keeps _ (State.layerFlags_keeps _ _ k))))

theorem State.normWork_keeps (s : State) (core : ℕ) : LayerKeeps (State.normWork s core) := by
  intro s₀ t h
  unfold State.normWork
  extract_lets L x o ga be rows cols cvt chains groups
  have k := State.setTileBytes_keeps core 2 0 (t.spBytes core ga.addr (4 * cols)) (State.tilesFree_keeps core h)
  exact foldl_keeps (ite_keeps (State.setTileBytes_keeps _ _ _ _ k) k)
    (fun _ _ k => State.layerChain_keeps _ _ (State.layerChain_keeps _ _ k))

theorem State.chainWork_keeps (s : State) (core : ℕ) : LayerKeeps (State.chainWork s core) := fun _ _ h => State.chainLayer_keeps _ _ h

theorem State.embedWork_keeps (s : State) (core : ℕ) : LayerKeeps (State.embedWork s core) := by
  intro s₀ t h
  unfold State.embedWork
  extract_lets L table idx data touch rows dim scatter pool touchEn count bag cvt iw ind zeros gather indices row n
  have g : ∀ w j, s₀.Keeps w.2 → s₀.Keeps (gather w j).2 := fun _ _ k =>
    State.putCodes_keeps _ _ _ _ (convertRowTo_keeps _ _ _ _ _ (State.count_keeps _ _ _ k))
  refine ite_keeps h (State.scribble_keeps _ _ (State.layerFlags_keeps _ _ (ite_snd ?_ ?_)))
  · exact foldl_snd_keeps h (fun _ _ k => State.scatterRow_keeps _ _ _ _ _ _ _ _ _ _ k)
  · exact foldl_snd_keeps h (fun w j k => g w j k)

theorem State.optimizerWork_keeps (s : State) (core : ℕ) : LayerKeeps (State.optimizerWork s core) := by
  intro s₀ t h
  unfold State.optimizerWork
  extract_lets L p g m v count alg upd f32 hy lsOff cvt one tensors
  have o : ∀ x w i, s₀.Keeps w.2 → s₀.Keeps (one x w i).2 := by
    intro x w i k
    refine State.storeAt_keeps _ _ _ _ _ _ (ite_snd ?_ ?_)
    · exact State.storeAt_keeps _ _ _ _ _ _ (State.storeAt_keeps _ _ _ _ _ _ k)
    · exact State.storeAt_keeps _ _ _ _ _ _ k
  have c := ite_keeps (c := count = 0) (i := inferInstance) h (State.chainsSkipped_keeps core h)
  refine ite_keeps (ite_keeps (State.updateLossScale_keeps _ _ c) c) ?_
  have f := foldl_snd_keeps (f := one (val32 (leNat ((t.noteUpdated core).spBytes core lsOff 4)))) (l := List.range count)
    (s := (AFlags.none, t.noteUpdated core)) (State.noteUpdated_keeps _ h) (fun w i k => o _ w i k)
  have k := fun a => State.layerFlags_keeps core a f
  have u := fun a => ite_keeps (c := upd = true) (i := inferInstance) (State.updateLossScale_keeps core lsOff (k a)) (k a)
  exact ite_keeps (u _) (State.scribble_keeps _ _ (State.chainsFree_keeps _ (u _)))

theorem State.layerWork_keeps (s : State) (core : ℕ) : LayerKeeps (s.layerWork core) := by
  unfold State.layerWork
  split
  · exact State.matmulWork_keeps _ _
  · exact State.convWork_keeps _ _
  · exact State.attentionWork_keeps _ _
  · exact State.normWork_keeps _ _
  · exact State.chainWork_keeps _ _
  · exact State.embedWork_keeps _ _
  · exact State.optimizerWork_keeps _ _

theorem State.performLayer_keeps {s₀ s : State} (core : ℕ) (h : s₀.Keeps s) : s₀.Keeps (State.performLayer s core) := by
  unfold State.performLayer
  extract_lets w done
  have hd : ∀ t n, s₀.Keeps t → s₀.Keeps (done t n) := fun _ _ k => ite_keeps (State.setLayer_keeps _ _ k) k
  refine ite_keeps (hd _ _ (State.undefinedResult_keeps _ h)) ?_
  split
  · exact State.outOfSlice_keeps _ _ _ h
  · exact hd _ _ (State.count_keeps _ _ _ h)
  · exact hd _ _ (State.undefinedResult_keeps _ h)
  · have k := State.layerWork_keeps s core _ _ (State.noteRanges_keeps core 1 w.reads h)
    exact hd _ _ (ite_keeps (State.stagingCounts_keeps _ k) k)

theorem State.runLayer_keeps {s₀ s : State} (core : ℕ) (h : s₀.Keeps s) : s₀.Keeps (State.runLayer s core) := by
  unfold State.runLayer
  grind only [State.keeps_mk, outKeeps_next, outKeeps_fault, outKeeps_refused, State.setCoreSt_keeps, State.logEvent_keeps,
      State.setLayer_keeps, State.performLayer_keeps]

theorem State.layerNext_keeps {s₀ s : State} (core : ℕ) (h : s₀.Keeps s) : s₀.Keeps (State.layerNext s core) := by
  unfold State.layerNext
  grind only [State.keeps_mk, outKeeps_next, outKeeps_fault, outKeeps_refused, State.count_keeps, State.setLayer_keeps,
      State.setCoreSt_keeps]

theorem State.setRecord_keeps {s₀ s : State} (core : ℕ) (l : List Byte) (h : s₀.Keeps s) : s₀.Keeps (State.setRecord s core l) := by
  unfold State.setRecord
  (repeat' (
    first
    | with_reducible assumption
    | with_reducible (refine foldl_keeps ?_ (fun _ _ _ => ?_) <;> try beta_reduce)
    | with_reducible apply State.setLyr_keeps))

theorem doGatedUpdate_keeps {s₀ s : State} (core : ℕ) (h : s₀.Keeps s) : OutKeeps s₀ (doGatedUpdate core s) := by
  unfold doGatedUpdate
  grind only [State.keeps_mk, outKeeps_next, outKeeps_fault, outKeeps_refused, withCore_keeps, State.countFree_keeps,
      State.runChain_keeps, State.performLayer_keeps]

theorem doLayerComplete_keeps {s₀ s : State} (core : ℕ) (h : s₀.Keeps s) : OutKeeps s₀ (doLayerComplete core s) := by
  unfold doLayerComplete
  grind only [State.keeps_mk, outKeeps_next, outKeeps_fault, outKeeps_refused, withCore_keeps, State.setCoreSt_keeps,
      State.setLayer_keeps, State.postCoreWp_keeps, State.post_keeps]

theorem doRecordLoad_keeps {s₀ s : State} (core : ℕ) (h : s₀.Keeps s) : OutKeeps s₀ (doRecordLoad core s) := by
  unfold doRecordLoad
  (repeat' (
    first
    | with_reducible assumption
    | (extract_lets +onlyGivenNames x; refine keeps_suff (s₀ := s₀) x ?_ (fun _ => ?_); (on_goal 1 => subst x); (on_goal 2 => try
        clear_value x))
    | extract_lets +onlyGivenNames _
    | with_reducible apply withCore_keeps
    | with_reducible apply State.faultPark_keeps
    | with_reducible apply State.outOfSlice_keeps
    | with_reducible apply State.noteRead_keeps
    | with_reducible apply State.setObj_keeps
    | with_reducible apply State.setRecord_keeps
    | with_reducible apply State.startLayer_keeps
    | with_reducible apply State.setCore_keeps
    | with_reducible apply outKeeps_next
    | with_reducible apply ite_out
    | split))

end Sys2Proof.Machine
end

