-- ==== Sys2Proof/Laws/Keeps/CoreControl.lean ====
section
/-! SUPPORT. What the functions of Machine/CoreControl.lean keep (`State.Keeps`): one lemma for each, cited by those of its callers. -/

namespace Sys2Proof.Machine

set_option linter.tactic.unusedName false

theorem State.clearObjs_keeps {s₀ s : State} (l : List (ℕ × ℕ)) (h : s₀.Keeps s) : s₀.Keeps (State.clearObjs s l) := State.keeps_mk5 h
    (le_refl _) id (fun w => wf_eraseRanges _ w)

theorem State.coreReset_keeps {s₀ s : State} (core : ℕ) (h : s₀.Keeps s) : s₀.Keeps (State.coreReset s core) := by
  unfold State.coreReset
  grind only [State.keeps_mk, outKeeps_next, outKeeps_fault, outKeeps_refused, State.clearObjs_keeps, State.dropWaits_keeps,
      State.loadLanes_keeps, State.tilesFree_keeps, State.setCore_keeps]

theorem State.no_keeps {s₀ s : State} (code : ℕ) (h : s₀.Keeps s) : s₀.Keeps (State.no s code).1 := by
  unfold State.no
  grind only [State.keeps_mk, outKeeps_next, outKeeps_fault, outKeeps_refused]

theorem State.ok_keeps {s₀ s : State} (h : s₀.Keeps s) : s₀.Keeps (State.ok s).1 := by
  unfold State.ok
  grind only [State.keeps_mk, outKeeps_next, outKeeps_fault, outKeeps_refused]

theorem State.arm_keeps {s₀ s : State} (core : ℕ) (h : s₀.Keeps s) : s₀.Keeps (State.arm s core).1 := by
  unfold State.arm
  (repeat' (
    first
    | with_reducible assumption
    | (extract_lets +onlyGivenNames x; refine keeps_suff (s₀ := s₀) x ?_ (fun _ => ?_); (on_goal 1 => subst x); (on_goal 2 => try
        clear_value x))
    | extract_lets +onlyGivenNames _
    | with_reducible apply State.no_keeps
    | with_reducible apply State.setCore_keeps
    | with_reducible apply State.setCoreSt_keeps
    | with_reducible apply State.ok_keeps
    | with_reducible apply State.launchCore_keeps
    | with_reducible apply State.tookWait_keeps
    | with_reducible apply State.addWaiter_keeps
    | with_reducible apply State.failWait_keeps
    | with_reducible apply ite_fst
    | split))

theorem State.resetCore_keeps {s₀ s : State} (core : ℕ) (h : s₀.Keeps s) : s₀.Keeps (State.resetCore s core).1 := by
  unfold State.resetCore
  grind only [State.keeps_mk, outKeeps_next, outKeeps_fault, outKeeps_refused, State.no_keeps, State.ok_keeps, State.setCoreSt_keeps,
      State.coreReset_keeps]

theorem State.writeCoreCtrl_keeps {s₀ s : State} (core : ℕ) (v : ℕ) (h : s₀.Keeps s) : s₀.Keeps (State.writeCoreCtrl s core v).1 := by
  unfold State.writeCoreCtrl
  grind only [State.keeps_mk, outKeeps_next, outKeeps_fault, outKeeps_refused, State.arm_keeps, State.resetCore_keeps, State.no_keeps]

theorem State.writeProgGen_keeps {s₀ s : State} (core : ℕ) (v : ℕ) (h : s₀.Keeps s) : s₀.Keeps (State.writeProgGen s core v).1 := by
  unfold State.writeProgGen
  grind only [State.keeps_mk, outKeeps_next, outKeeps_fault, outKeeps_refused, State.no_keeps, State.setObj_keeps, State.ok_keeps,
      State.setCore_keeps]

theorem State.writeLaunch_keeps {s₀ s : State} (core : ℕ) (key : ℕ) (v : ℕ) (h : s₀.Keeps s) : s₀.Keeps (State.writeLaunch s core key
    v).1 := by
  unfold State.writeLaunch
  grind only [State.keeps_mk, outKeeps_next, outKeeps_fault, outKeeps_refused, State.no_keeps, State.ok_keeps, State.setObj_keeps]

theorem State.writeLyrStart_keeps {s₀ s : State} (core : ℕ) (v : ℕ) (h : s₀.Keeps s) : s₀.Keeps (State.writeLyrStart s core v).1 := by
  unfold State.writeLyrStart
  grind only [State.keeps_mk, outKeeps_next, outKeeps_fault, outKeeps_refused, State.no_keeps, State.ok_keeps, State.startLayer_keeps]

theorem State.writeLyr_keeps {s₀ s : State} (core : ℕ) (i : ℕ) (v : ℕ) (h : s₀.Keeps s) : s₀.Keeps (State.writeLyr s core i v).1 := by
  unfold State.writeLyr
  grind only [State.keeps_mk, outKeeps_next, outKeeps_fault, outKeeps_refused, State.ok_keeps, State.setLyr_keeps, State.no_keeps]

theorem State.watchdogTick_keeps {s₀ s : State} (core : ℕ) (h : s₀.Keeps s) : s₀.Keeps (State.watchdogTick s core) := by
  unfold State.watchdogTick
  grind only [State.keeps_mk, outKeeps_next, outKeeps_fault, outKeeps_refused, State.setCore_keeps]

theorem State.faultStands_keeps {s₀ s : State} (core : ℕ) (h : s₀.Keeps s) : s₀.Keeps (State.faultStands s core) := by
  unfold State.faultStands
  grind only [State.keeps_mk, outKeeps_next, outKeeps_fault, outKeeps_refused, State.setCoreSt_keeps, State.setObj_keeps]

theorem doProgressWatchdog_keeps {s₀ s : State} (core : ℕ) (h : s₀.Keeps s) : OutKeeps s₀ (doProgressWatchdog core s) := by
  unfold doProgressWatchdog
  grind only [State.keeps_mk, outKeeps_next, outKeeps_fault, outKeeps_refused, withCore_keeps, State.faultNoAddr_keeps]

theorem doRunWatchdog_keeps {s₀ s : State} (core : ℕ) (h : s₀.Keeps s) : OutKeeps s₀ (doRunWatchdog core s) := by
  unfold doRunWatchdog
  grind only [State.keeps_mk, outKeeps_next, outKeeps_fault, outKeeps_refused, withCore_keeps, State.faultNoAddr_keeps]

end Sys2Proof.Machine
end

