-- ==== Sys2Proof/Laws/Keeps/Router.lean ====
section
/-! SUPPORT. What the functions of Machine/Router.lean keep (`State.Keeps`): one lemma for each, cited by those of its callers. -/

namespace Sys2Proof.Machine

set_option linter.tactic.unusedName false

theorem State.sliceViolation_keeps {s₀ s : State} (f : Frame) (h : s₀.Keeps s) : s₀.Keeps (State.sliceViolation s f) := by
  unfold State.sliceViolation
  grind only [State.keeps_mk, outKeeps_next, outKeeps_fault, outKeeps_refused, State.logViolation_keeps, State.count_keeps]

theorem State.setTxFlow_keeps {s₀ s : State} (x : TxFlow) (h : s₀.Keeps s) : s₀.Keeps (State.setTxFlow s x) := by
  unfold State.setTxFlow
  grind only [State.keeps_mk, outKeeps_next, outKeeps_fault, outKeeps_refused]

theorem State.owe_keeps {s₀ s : State} (arrival : Option ℕ) (f : Frame) (h : s₀.Keeps s) : s₀.Keeps (State.owe s arrival f) := by
  unfold State.owe
  grind only [State.keeps_mk, outKeeps_next, outKeeps_fault, outKeeps_refused, State.setPort_keeps]

theorem State.pump_keeps {s₀ s : State} (a0 : ℕ) (a2 : ℕ) (h : s₀.Keeps s) : s₀.Keeps (State.pump a0 s a2) := by
  induction a0 generalizing s a2 with
  | zero => exact h
  | succ n ih =>
  unfold State.pump
  (repeat' (
    first
    | with_reducible assumption
    | (extract_lets +onlyGivenNames x; refine keeps_suff (s₀ := s₀) x ?_ (fun _ => ?_); (on_goal 1 => subst x); (on_goal 2 => try
        clear_value x))
    | extract_lets +onlyGivenNames _
    | with_reducible apply ih
    | with_reducible apply State.owe_keeps
    | with_reducible apply State.send_keeps
    | with_reducible apply State.setPort_keeps
    | with_reducible apply State.count_keeps
    | with_reducible apply ite_keeps
    | split))

theorem State.toPort_keeps {s₀ s : State} (p : ℕ) (since : ℕ) (arrival : Option ℕ) (f : Frame) (h : s₀.Keeps s) : s₀.Keeps
    (State.toPort s p since arrival f) := by
  unfold State.toPort
  grind only [State.keeps_mk, outKeeps_next, outKeeps_fault, outKeeps_refused, State.setObj_keeps, State.setPort_keeps, State.pump_keeps]

theorem State.egress_keeps {s₀ s : State} (p : ℕ) (since : ℕ) (arrival : Option ℕ) (f : Frame) (h : s₀.Keeps s) : s₀.Keeps
    (State.egress s p since arrival f) := by
  unfold State.egress
  grind only [State.keeps_mk, outKeeps_next, outKeeps_fault, outKeeps_refused, State.owe_keeps, State.toPort_keeps]

theorem State.hopDrop_keeps {s₀ s : State} (f : Frame) (port : ℕ) (h : s₀.Keeps s) : s₀.Keeps (State.hopDrop s f port) := by
  unfold State.hopDrop
  grind only [State.keeps_mk, outKeeps_next, outKeeps_fault, outKeeps_refused, State.logEvent_keeps, State.count_keeps]

theorem State.sendControl_keeps {s₀ s : State} (f : Frame) (h : s₀.Keeps s) : s₀.Keeps (State.sendControl s f) := by
  unfold State.sendControl
  grind only [State.keeps_mk, outKeeps_next, outKeeps_fault, outKeeps_refused, State.hopDrop_keeps, State.count_keeps,
      State.post_keeps, State.sliceViolation_keeps, State.egress_keeps]

theorem State.replicate_keeps {s₀ s : State} (since : ℕ) (arrival : Option ℕ) (f : Frame) (h : s₀.Keeps s) : s₀.Keeps (State.replicate
    s since arrival f) := by
  unfold State.replicate
  (repeat' (
    first
    | with_reducible assumption
    | (extract_lets +onlyGivenNames x; refine keeps_suff (s₀ := s₀) x ?_ (fun _ => ?_); (on_goal 1 => subst x); (on_goal 2 => try
        clear_value x))
    | extract_lets +onlyGivenNames _
    | with_reducible (refine foldl_keeps ?_ (fun _ _ _ => ?_) <;> try beta_reduce)
    | with_reducible apply State.owe_keeps
    | with_reducible apply State.egress_keeps
    | with_reducible apply State.count_keeps
    | with_reducible apply State.sendControl_keeps
    | with_reducible apply ite_keeps))

theorem State.portFor_keeps {s₀ s : State} (e : ℕ) (f : Frame) (h : s₀.Keeps s) : s₀.Keeps (State.portFor s e f).2 := by
  unfold State.portFor
  grind only [State.keeps_mk, outKeeps_next, outKeeps_fault, outKeeps_refused, State.setTxFlow_keeps]

theorem State.errResp_keeps {s₀ s : State} (f : Frame) (code : ℕ) (h : s₀.Keeps s) : s₀.Keeps (State.errResp s f code) := by
  unfold State.errResp
  grind only [State.keeps_mk, outKeeps_next, outKeeps_fault, outKeeps_refused, State.hopDrop_keeps, State.sliceViolation_keeps,
      State.sendControl_keeps]

theorem State.sendOut_keeps {s₀ s : State} (e : ℕ) (since : ℕ) (arrival : Option ℕ) (f : Frame) (h : s₀.Keeps s) : s₀.Keeps
    (State.sendOut s e since arrival f) := by
  unfold State.sendOut
  grind only [State.keeps_mk, outKeeps_next, outKeeps_fault, outKeeps_refused, State.portFor_keeps, State.post_keeps, State.owe_keeps,
      State.errResp_keeps, State.egress_keeps]

theorem State.emitFlow_keeps {s₀ s : State} (k : FlowKey) (f : Frame) (h : s₀.Keeps s) : s₀.Keeps (State.emitFlow s k f) := by
  unfold State.emitFlow
  grind only [State.keeps_mk, outKeeps_next, outKeeps_fault, outKeeps_refused, State.replicate_keeps, State.sendOut_keeps]

theorem State.transmit_keeps {s₀ s : State} (k : FlowKey) (op : OpRef) (source : Option ℕ) (f : Frame) (h : s₀.Keeps s) : s₀.Keeps
    (State.transmit s k op source f) := by
  unfold State.transmit
  grind only [State.keeps_mk, outKeeps_next, outKeeps_fault, outKeeps_refused, State.setTxFlow_keeps, State.emitFlow_keeps]

theorem State.refill_keeps {s₀ s : State} (a0 : ℕ) (a2 : FlowKey) (h : s₀.Keeps s) : s₀.Keeps (State.refill a0 s a2) := by
  induction a0 generalizing s a2 with
  | zero => exact h
  | succ n ih =>
  unfold State.refill
  (repeat' (
    first
    | with_reducible assumption
    | extract_lets +onlyGivenNames _
    | with_reducible apply ih
    | with_reducible apply State.transmit_keeps
    | with_reducible apply State.setTxFlow_keeps
    | with_reducible apply ite_keeps
    | split))

theorem State.refillAll_keeps {s₀ s : State} (h : s₀.Keeps s) : s₀.Keeps (State.refillAll s) := by
  unfold State.refillAll
  (repeat' (
    first
    | with_reducible assumption
    | with_reducible (refine foldl_keeps ?_ (fun _ _ _ => ?_) <;> try beta_reduce)
    | with_reducible apply State.refill_keeps))

theorem State.flowDone_keeps {s₀ s : State} (k : FlowKey) (gone : List TxFrame) (h : s₀.Keeps s) : s₀.Keeps (State.flowDone s k gone)
    := by
  unfold State.flowDone
  (repeat' (
    first
    | with_reducible assumption
    | (extract_lets +onlyGivenNames x; refine keeps_suff (s₀ := s₀) x ?_ (fun _ => ?_); (on_goal 1 => subst x); (on_goal 2 => try
        clear_value x))
    | extract_lets +onlyGivenNames _
    | with_reducible (refine foldl_keeps ?_ (fun _ _ _ => ?_) <;> try beta_reduce)
    | with_reducible apply State.setTxFlow_keeps
    | with_reducible apply State.post_keeps
    | with_reducible apply State.refillAll_keeps))

theorem State.multicastDone_keeps {s₀ s : State} (k : FlowKey) (changed : Bool) (h : s₀.Keeps s) : s₀.Keeps (State.multicastDone s k
    changed) := by
  unfold State.multicastDone
  grind only [State.keeps_mk, outKeeps_next, outKeeps_fault, outKeeps_refused, State.flowDone_keeps]

theorem State.toFlow_keeps {s₀ s : State} (op : OpRef) (source : Option ℕ) (f : Frame) (h : s₀.Keeps s) : s₀.Keeps (State.toFlow s op
    source f) := by
  unfold State.toFlow
  grind only [State.keeps_mk, outKeeps_next, outKeeps_fault, outKeeps_refused, State.post_keeps, State.transmit_keeps,
      State.setTxFlow_keeps]

theorem State.inject_keeps {s₀ s : State} (op : OpRef) (source : Option ℕ) (f : Frame) (h : s₀.Keeps s) : s₀.Keeps (State.inject s op
    source f) := by
  unfold State.inject
  (repeat' (
    first
    | with_reducible assumption
    | (extract_lets +onlyGivenNames x; refine keeps_suff (s₀ := s₀) x ?_ (fun _ => ?_); (on_goal 1 => subst x); (on_goal 2 => try
        clear_value x))
    | extract_lets +onlyGivenNames _
    | with_reducible apply State.post_keeps
    | with_reducible apply State.count_keeps
    | with_reducible apply State.sliceViolation_keeps
    | with_reducible apply State.multicastDone_keeps
    | with_reducible apply State.toFlow_keeps
    | with_reducible apply State.replicate_keeps
    | with_reducible apply State.egress_keeps
    | with_reducible (fail_if_no_progress apply State.keeps_mk)
    | with_reducible apply ite_keeps
    | split))

theorem State.setRxFlow_keeps {s₀ s : State} (x : RxFlow) (h : s₀.Keeps s) : s₀.Keeps (State.setRxFlow s x) := by
  unfold State.setRxFlow
  grind only [State.keeps_mk, outKeeps_next, outKeeps_fault, outKeeps_refused]

theorem State.sendAck_keeps {s₀ s : State} (k : FlowKey) (h : s₀.Keeps s) : s₀.Keeps (State.sendAck s k) := by
  unfold State.sendAck
  grind only [State.keeps_mk, outKeeps_next, outKeeps_fault, outKeeps_refused, State.setRxFlow_keeps, State.sendControl_keeps]

theorem State.noteAccepted_keeps {s₀ s : State} (k : FlowKey) (h : s₀.Keeps s) : s₀.Keeps (State.noteAccepted s k) := by
  unfold State.noteAccepted
  grind only [State.keeps_mk, outKeeps_next, outKeeps_fault, outKeeps_refused, State.setRxFlow_keeps, State.sendAck_keeps]

theorem State.stale_keeps {s₀ s : State} (f : Frame) (h : s₀.Keeps s) : s₀.Keeps (State.stale s f) := by
  unfold State.stale
  grind only [State.keeps_mk, outKeeps_next, outKeeps_fault, outKeeps_refused, State.errResp_keeps, State.count_keeps]

theorem State.routeUnicast_keeps {s₀ s : State} (since : ℕ) (arrival : Option ℕ) (f : Frame) (h : s₀.Keeps s) : s₀.Keeps
    (State.routeUnicast s since arrival f) := by
  unfold State.routeUnicast
  grind only [State.keeps_mk, outKeeps_next, outKeeps_fault, outKeeps_refused, State.errResp_keeps, State.owe_keeps, State.sendOut_keeps]

theorem State.route_keeps {s₀ s : State} (since : ℕ) (arrival : Option ℕ) (f : Frame) (h : s₀.Keeps s) : s₀.Keeps (State.route s since
    arrival f) := by
  unfold State.route
  grind only [State.keeps_mk, outKeeps_next, outKeeps_fault, outKeeps_refused, State.sendControl_keeps, State.stale_keeps,
      State.owe_keeps, State.errResp_keeps, State.replicate_keeps, State.post_keeps, State.routeUnicast_keeps]

theorem State.ackMulticast_keeps {s₀ s : State} (f : Frame) (h : s₀.Keeps s) : s₀.Keeps (State.ackMulticast s f) := by
  unfold State.ackMulticast
  (repeat' (
    first
    | with_reducible assumption
    | extract_lets +onlyGivenNames _
    | with_reducible (refine foldl_keeps ?_ (fun _ _ _ => ?_) <;> try beta_reduce)
    | with_reducible apply State.multicastDone_keeps
    | with_reducible apply State.setTxFlow_keeps))

theorem State.ackUnicast_keeps {s₀ s : State} (f : Frame) (h : s₀.Keeps s) : s₀.Keeps (State.ackUnicast s f) := by
  unfold State.ackUnicast
  (repeat' (
    first
    | with_reducible assumption
    | extract_lets +onlyGivenNames _
    | with_reducible (refine foldl_keeps ?_ (fun _ _ _ => ?_) <;> try beta_reduce)
    | with_reducible apply State.flowDone_keeps
    | with_reducible apply State.setTxFlow_keeps))

theorem State.setChartState_keeps {s₀ s : State} (e : ℕ) (v : ℕ) (h : s₀.Keeps s) : s₀.Keeps (State.setChartState s e v) := by
  unfold State.setChartState
  grind only [State.keeps_mk, outKeeps_next, outKeeps_fault, outKeeps_refused, State.setObj_keeps]

theorem State.reinject_keeps {s₀ s : State} (h : s₀.Keeps s) : s₀.Keeps (State.reinject s) := by
  unfold State.reinject
  (repeat' (
    first
    | with_reducible assumption
    | extract_lets +onlyGivenNames _
    | with_reducible (refine foldl_keeps ?_ (fun _ _ _ => ?_) <;> try beta_reduce)
    | with_reducible apply State.inject_keeps
    | with_reducible (fail_if_no_progress apply State.keeps_mk)))

theorem State.losePath_keeps {s₀ s : State} (x : TxFlow) (h : s₀.Keeps s) : s₀.Keeps (State.losePath s x) := by
  unfold State.losePath
  (repeat' (
    first
    | with_reducible assumption
    | (extract_lets +onlyGivenNames x; refine keeps_suff (s₀ := s₀) x ?_ (fun _ => ?_); (on_goal 1 => subst x); (on_goal 2 => try
        clear_value x))
    | extract_lets +onlyGivenNames _
    | with_reducible (refine foldl_keeps ?_ (fun _ _ _ => ?_) <;> try beta_reduce)
    | with_reducible apply State.setTxFlow_keeps
    | with_reducible apply State.count_keeps
    | with_reducible apply State.logEvent_keeps
    | with_reducible apply State.setObj_keeps
    | with_reducible apply State.post_keeps
    | with_reducible apply State.refillAll_keeps
    | with_reducible apply ite_keeps))

theorem State.retryRouter_keeps {s₀ s : State} (h : s₀.Keeps s) : s₀.Keeps (State.retryRouter s) := by
  unfold State.retryRouter
  (repeat' (
    first
    | with_reducible assumption
    | with_reducible (refine foldl_keeps ?_ (fun _ _ _ => ?_) <;> try beta_reduce)
    | with_reducible apply State.route_keeps
    | with_reducible (fail_if_no_progress apply State.keeps_mk)))

theorem State.fencePort_keeps {s₀ s : State} (p : ℕ) (h : s₀.Keeps s) : s₀.Keeps (State.fencePort s p) := by
  unfold State.fencePort
  (repeat' (
    first
    | with_reducible assumption
    | extract_lets +onlyGivenNames _
    | with_reducible (refine foldl_keeps ?_ (fun _ _ _ => ?_) <;> try beta_reduce)
    | with_reducible apply State.owe_keeps
    | with_reducible apply State.setPort_keeps))

theorem State.noteErrResp_keeps {s₀ s : State} (f : Frame) (h : s₀.Keeps s) : s₀.Keeps (State.noteErrResp s f) := by
  unfold State.noteErrResp
  grind only [State.keeps_mk, outKeeps_next, outKeeps_fault, outKeeps_refused, State.multicastDone_keeps, State.post_keeps,
      State.setTxFlow_keeps, State.refillAll_keeps]

theorem State.notePartial_keeps {s₀ s : State} (f : Frame) (h : s₀.Keeps s) : s₀.Keeps (State.notePartial s f) := by
  unfold State.notePartial
  (repeat' (
    first
    | with_reducible assumption
    | (extract_lets +onlyGivenNames x; refine keeps_suff (s₀ := s₀) x ?_ (fun _ => ?_); (on_goal 1 => subst x); (on_goal 2 => try
        clear_value x))
    | extract_lets +onlyGivenNames _
    | with_reducible (refine foldl_keeps ?_ (fun _ _ _ => ?_) <;> try beta_reduce)
    | with_reducible apply State.count_keeps
    | with_reducible apply State.multicastDone_keeps
    | with_reducible apply State.setTxFlow_keeps))

end Sys2Proof.Machine
end

