-- ==== Sys2Proof/Laws/Keeps/Charts.lean ====
section
/-! SUPPORT. What the functions of Machine/Charts.lean keep (`State.Keeps`): one lemma for each, cited by those of its callers. -/

namespace Sys2Proof.Machine

set_option linter.tactic.unusedName false

theorem State.writeChartLoad_keeps {s₀ s : State} (first : ℕ) (words : List ℕ) (h : s₀.Keeps s) : s₀.Keeps (State.writeChartLoad s
    first words).1 := by
  unfold State.writeChartLoad
  grind only [State.keeps_mk, outKeeps_next, outKeeps_fault, outKeeps_refused, State.no_keeps, State.ok_keeps, State.setChart_keeps]

theorem State.writeChartLoadBytes_keeps {s₀ s : State} (l : List Byte) (h : s₀.Keeps s) : s₀.Keeps (State.writeChartLoadBytes s l).1 := by
  unfold State.writeChartLoadBytes
  grind only [State.keeps_mk, outKeeps_next, outKeeps_fault, outKeeps_refused, State.no_keeps, State.writeChartLoad_keeps]

theorem State.chartBegin_keeps {s₀ s : State} (h : s₀.Keeps s) : s₀.Keeps (State.chartBegin s).1 := by
  unfold State.chartBegin
  grind only [State.keeps_mk, outKeeps_next, outKeeps_fault, outKeeps_refused, State.no_keeps, State.ok_keeps,
      State.setChartState_keeps, State.setChart_keeps]

theorem State.chartSeal_keeps {s₀ s : State} (h : s₀.Keeps s) : s₀.Keeps (State.chartSeal s).1 := by
  unfold State.chartSeal
  grind only [State.keeps_mk, outKeeps_next, outKeeps_fault, outKeeps_refused, State.no_keeps, State.ok_keeps,
      State.setChartState_keeps, State.setObj_keeps]

theorem State.closeChart_keeps {s₀ s : State} (e : ℕ) (h : s₀.Keeps s) : s₀.Keeps (State.closeChart s e) := by
  unfold State.closeChart
  (repeat' (
    first
    | with_reducible assumption
    | (extract_lets +onlyGivenNames x; refine keeps_suff (s₀ := s₀) x ?_ (fun _ => ?_); (on_goal 1 => subst x); (on_goal 2 => try
        clear_value x))
    | extract_lets +onlyGivenNames _
    | with_reducible (refine foldl_keeps ?_ (fun _ _ _ => ?_) <;> try beta_reduce)
    | with_reducible apply State.setChartState_keeps
    | with_reducible apply State.losePath_keeps
    | with_reducible apply State.stale_keeps
    | with_reducible apply State.owe_keeps
    | with_reducible apply State.setPort_keeps
    | with_reducible (fail_if_no_progress apply State.keeps_mk)
    | with_reducible apply ite_keeps))

theorem State.performSwitch_keeps {s₀ s : State} (w : PendSwitch) (h : s₀.Keeps s) : s₀.Keeps (State.performSwitch s w) := by
  unfold State.performSwitch
  (repeat' (
    first
    | with_reducible assumption
    | (extract_lets +onlyGivenNames x; refine keeps_suff (s₀ := s₀) x ?_ (fun _ => ?_); (on_goal 1 => subst x); (on_goal 2 => try
        clear_value x))
    | extract_lets +onlyGivenNames _
    | with_reducible apply State.setObj_keeps
    | with_reducible apply State.setChartState_keeps
    | with_reducible apply State.reinject_keeps
    | with_reducible apply State.closeChart_keeps
    | with_reducible apply State.setChart_keeps
    | with_reducible apply State.post_keeps
    | with_reducible apply State.retryRouter_keeps
    | with_reducible (fail_if_no_progress apply State.keeps_mk)
    | with_reducible apply ite_keeps))

theorem State.chartSwitch_keeps {s₀ s : State} (close : Bool) (h : s₀.Keeps s) : s₀.Keeps (State.chartSwitch s close).1 := by
  unfold State.chartSwitch
  grind only [State.keeps_mk, outKeeps_next, outKeeps_fault, outKeeps_refused, State.no_keeps, State.ok_keeps, State.performSwitch_keeps]

theorem State.chartAbort_keeps {s₀ s : State} (h : s₀.Keeps s) : s₀.Keeps (State.chartAbort s).1 := by
  unfold State.chartAbort
  grind only [State.keeps_mk, outKeeps_next, outKeeps_fault, outKeeps_refused, State.ok_keeps, State.setChartState_keeps, State.no_keeps]

theorem State.writeChartCtrl_keeps {s₀ s : State} (v : ℕ) (h : s₀.Keeps s) : s₀.Keeps (State.writeChartCtrl s v).1 := by
  unfold State.writeChartCtrl
  grind only [State.keeps_mk, outKeeps_next, outKeeps_fault, outKeeps_refused, State.chartBegin_keeps, State.chartSeal_keeps,
      State.chartSwitch_keeps, State.chartAbort_keeps, State.no_keeps]

theorem State.writeChartSelf_keeps {s₀ s : State} (v : ℕ) (h : s₀.Keeps s) : s₀.Keeps (State.writeChartSelf s v).1 := by
  unfold State.writeChartSelf
  grind only [State.keeps_mk, outKeeps_next, outKeeps_fault, outKeeps_refused, State.no_keeps, State.ok_keeps, State.setChart_keeps]

theorem State.writeFanEntry_keeps {s₀ s : State} (v : ℕ) (h : s₀.Keeps s) : s₀.Keeps (State.writeFanEntry s v).1 := by
  unfold State.writeFanEntry
  grind only [State.keeps_mk, outKeeps_next, outKeeps_fault, outKeeps_refused, State.no_keeps, State.ok_keeps]

theorem doChartDrainClose_keeps {s₀ s : State} (chart : ℕ) (h : s₀.Keeps s) : OutKeeps s₀ (doChartDrainClose chart s) := by
  unfold doChartDrainClose
  grind only [State.keeps_mk, outKeeps_next, outKeeps_fault, outKeeps_refused, State.closeChart_keeps]

theorem doChartSwitchTime_keeps {s₀ s : State} (h : s₀.Keeps s) : OutKeeps s₀ (doChartSwitchTime s) := by
  unfold doChartSwitchTime
  grind only [State.keeps_mk, outKeeps_next, outKeeps_fault, outKeeps_refused, State.performSwitch_keeps]

end Sys2Proof.Machine
end

