-- ==== Sys2Proof/Laws/Keeps/Ports.lean ====
section
/-! SUPPORT. What the functions of Machine/Ports.lean keep (`State.Keeps`): one lemma for each, cited by those of its callers. -/

namespace Sys2Proof.Machine

set_option linter.tactic.unusedName false

theorem State.setPortState_keeps {s₀ s : State} (p : ℕ) (v : ℕ) (h : s₀.Keeps s) : s₀.Keeps (State.setPortState s p v) := by
  unfold State.setPortState
  grind only [State.keeps_mk, outKeeps_next, outKeeps_fault, outKeeps_refused, State.setObj_keeps]

theorem State.leavePort_keeps {s₀ s : State} (p : ℕ) (h : s₀.Keeps s) : s₀.Keeps (State.leavePort s p) := by
  unfold State.leavePort
  (repeat' (
    first
    | with_reducible assumption
    | (extract_lets +onlyGivenNames x; refine keeps_suff (s₀ := s₀) x ?_ (fun _ => ?_); (on_goal 1 => subst x); (on_goal 2 => try
        clear_value x))
    | extract_lets +onlyGivenNames _
    | with_reducible (refine foldl_keeps ?_ (fun _ _ _ => ?_) <;> try beta_reduce)
    | with_reducible apply State.setObj_keeps
    | with_reducible apply State.setPort_keeps
    | with_reducible apply State.owe_keeps
    | with_reducible apply State.route_keeps
    | with_reducible (fail_if_no_progress apply State.keeps_mk)))

theorem State.portOut_keeps {s₀ s : State} (p : ℕ) (v : ℕ) (h : s₀.Keeps s) : s₀.Keeps (State.portOut s p v) := by
  unfold State.portOut
  grind only [State.keeps_mk, outKeeps_next, outKeeps_fault, outKeeps_refused, State.setPortState_keeps, State.leavePort_keeps]

theorem State.portHealth_keeps {s₀ s : State} (p : ℕ) (mask : ℕ) (h : s₀.Keeps s) : s₀.Keeps (State.portHealth s p mask) := by
  unfold State.portHealth
  grind only [State.keeps_mk, outKeeps_next, outKeeps_fault, outKeeps_refused, State.raise_keeps]

theorem State.takeSpare_keeps {s₀ s : State} (p : ℕ) (lane : ℕ) (h : s₀.Keeps s) : s₀.Keeps (State.takeSpare s p lane) := by
  unfold State.takeSpare
  grind only [State.keeps_mk, outKeeps_next, outKeeps_fault, outKeeps_refused, State.portHealth_keeps, State.setObj_keeps]

theorem State.writePortCtrl_keeps {s₀ s : State} (p : ℕ) (v : ℕ) (h : s₀.Keeps s) : s₀.Keeps (State.writePortCtrl s p v).1 := by
  unfold State.writePortCtrl
  grind only [State.keeps_mk, outKeeps_next, outKeeps_fault, outKeeps_refused, State.setObj_keeps, State.ok_keeps, State.portOut_keeps,
      State.setPort_keeps, State.setPortState_keeps, State.no_keeps, State.takeSpare_keeps]

theorem State.accepted_keeps {s₀ s : State} (p : ℕ) (f : Frame) (h : s₀.Keeps s) : s₀.Keeps (State.accepted s p f) := by
  unfold State.accepted
  grind only [State.keeps_mk, outKeeps_next, outKeeps_fault, outKeeps_refused, State.post_keeps, State.owe_keeps, State.hopDrop_keeps,
      State.errResp_keeps, State.route_keeps]

theorem State.agePort_keeps {s₀ s : State} (p : ℕ) (h : s₀.Keeps s) : s₀.Keeps (State.agePort s p) := by
  unfold State.agePort
  (repeat' (
    first
    | with_reducible assumption
    | extract_lets +onlyGivenNames _
    | with_reducible (refine foldl_keeps ?_ (fun _ _ _ => ?_) <;> try beta_reduce)
    | with_reducible apply State.hopDrop_keeps
    | with_reducible apply State.owe_keeps
    | with_reducible apply State.setPort_keeps))

theorem State.ageRouter_keeps {s₀ s : State} (h : s₀.Keeps s) : s₀.Keeps (State.ageRouter s) := by
  unfold State.ageRouter
  (repeat' (
    first
    | with_reducible assumption
    | extract_lets +onlyGivenNames _
    | with_reducible (refine foldl_keeps ?_ (fun _ _ _ => ?_) <;> try beta_reduce)
    | with_reducible apply State.hopDrop_keeps
    | with_reducible apply State.owe_keeps
    | with_reducible (fail_if_no_progress apply State.keeps_mk)))

theorem State.writeFenceVec_keeps {s₀ s : State} (v : ℕ) (h : s₀.Keeps s) : s₀.Keeps (State.writeFenceVec s v).1 := by
  unfold State.writeFenceVec
  (repeat' (
    first
    | with_reducible assumption
    | (extract_lets +onlyGivenNames x; refine keeps_suff (s₀ := s₀) x ?_ (fun _ => ?_); (on_goal 1 => subst x); (on_goal 2 => try
        clear_value x))
    | extract_lets +onlyGivenNames _
    | with_reducible (refine foldl_keeps ?_ (fun _ _ _ => ?_) <;> try beta_reduce)
    | with_reducible apply State.setObj_keeps
    | with_reducible apply State.ok_keeps
    | with_reducible apply State.errResp_keeps
    | with_reducible apply State.owe_keeps
    | with_reducible apply State.setPort_keeps
    | with_reducible apply ite_keeps))

theorem State.portIn_keeps {s₀ s : State} (p : ℕ) (h : s₀.Keeps s) : s₀.Keeps (State.portIn s p) := by
  unfold State.portIn
  grind only [State.keeps_mk, outKeeps_next, outKeeps_fault, outKeeps_refused, State.setPortState_keeps, State.pump_keeps,
      State.setPort_keeps, State.retryRouter_keeps]

theorem State.trainFail_keeps {s₀ s : State} (port : ℕ) (h : s₀.Keeps s) : s₀.Keeps (State.trainFail s port) := by
  unfold State.trainFail
  grind only [State.keeps_mk, outKeeps_next, outKeeps_fault, outKeeps_refused, State.setPort_keeps, State.setPortState_keeps]

theorem State.trained_keeps {s₀ s : State} (port : ℕ) (o : TrainOutcome) (h : s₀.Keeps s) : s₀.Keeps (State.trained s port o) := by
  unfold State.trained
  grind only [State.keeps_mk, outKeeps_next, outKeeps_fault, outKeeps_refused, State.setObj_keeps, State.portIn_keeps,
      State.driftEvent_keeps, State.count_keeps, State.trainFail_keeps, State.setPortState_keeps, State.takeSpare_keeps,
          State.portHealth_keeps]

theorem State.closeWindow_keeps {s₀ s : State} (h : s₀.Keeps s) : s₀.Keeps (State.closeWindow s) := by
  unfold State.closeWindow
  grind only [State.keeps_mk, outKeeps_next, outKeeps_fault, outKeeps_refused]

theorem State.laneSymbols_keeps {s₀ s : State} (p : ℕ) (l : List ℕ) (h : s₀.Keeps s) : s₀.Keeps (State.laneSymbols s p l) := by
  unfold State.laneSymbols
  (repeat' (
    first
    | with_reducible assumption
    | extract_lets +onlyGivenNames _
    | with_reducible (refine foldl_keeps ?_ (fun _ _ _ => ?_) <;> try beta_reduce)
    | with_reducible apply State.closeWindow_keeps
    | with_reducible (fail_if_no_progress apply State.keeps_mk)))

theorem State.linkReceive_keeps {s₀ s : State} (a : Arrival) (f : Frame) (h : s₀.Keeps s) : s₀.Keeps (State.linkReceive s a f).2 := by
  unfold State.linkReceive
  (repeat' (
    first
    | with_reducible assumption
    | (extract_lets +onlyGivenNames x; refine keeps_suff (s₀ := s₀) x ?_ (fun _ => ?_); (on_goal 1 => subst x); (on_goal 2 => try
        clear_value x))
    | extract_lets +onlyGivenNames _
    | with_reducible apply State.count_keeps
    | with_reducible apply State.laneSymbols_keeps
    | with_reducible apply State.send_keeps
    | with_reducible apply State.setPort_keeps
    | with_reducible apply ite_snd))

theorem State.remoteLanded_keeps {s₀ s : State} (core : ℕ) (resets : ℕ) (h : s₀.Keeps s) : s₀.Keeps (State.remoteLanded s core resets)
    := by
  unfold State.remoteLanded
  grind only [State.keeps_mk, outKeeps_next, outKeeps_fault, outKeeps_refused, State.setCore_keeps]

theorem State.remoteFailed_keeps {s₀ s : State} (core : ℕ) (resets : ℕ) (f : Frame) (code : ℕ) (h : s₀.Keeps s) : s₀.Keeps
    (State.remoteFailed s core resets f code) := by
  unfold State.remoteFailed
  grind only [State.keeps_mk, outKeeps_next, outKeeps_fault, outKeeps_refused, State.logEvent_keeps, State.count_keeps,
      State.remoteLanded_keeps]

theorem State.portTick_keeps {s₀ s : State} (p : ℕ) (h : s₀.Keeps s) : s₀.Keeps (State.portTick s p) := by
  unfold State.portTick
  (repeat' (
    first
    | with_reducible assumption
    | extract_lets +onlyGivenNames _
    | with_reducible apply State.count_keeps
    | with_reducible apply State.setPort_keeps
    | with_reducible apply State.trainFail_keeps
    | with_reducible apply ite_keeps
    | split))

theorem State.replayFrom_keeps {s₀ s : State} (port : ℕ) (from_ : ℕ) (h : s₀.Keeps s) : s₀.Keeps (State.replayFrom s port from_) := by
  unfold State.replayFrom
  (repeat' (
    first
    | with_reducible assumption
    | (extract_lets +onlyGivenNames x; refine keeps_suff (s₀ := s₀) x ?_ (fun _ => ?_); (on_goal 1 => subst x); (on_goal 2 => try
        clear_value x))
    | extract_lets +onlyGivenNames _
    | with_reducible (refine foldl_keeps ?_ (fun _ _ _ => ?_) <;> try beta_reduce)
    | with_reducible apply State.count_keeps
    | with_reducible apply State.setPort_keeps
    | with_reducible apply State.send_keeps))

theorem State.sendFrame_keeps {s₀ s : State} (f : Frame) (h : s₀.Keeps s) : s₀.Keeps (State.sendFrame s f) := by
  unfold State.sendFrame
  grind only [State.keeps_mk, outKeeps_next, outKeeps_fault, outKeeps_refused, State.inject_keeps, State.setCore_keeps]

theorem withPort_keeps {s₀ s : State} (p : ℕ) (k : Out) (h : s₀.Keeps s) (h_k : OutKeeps s₀ k) : OutKeeps s₀ (withPort s p k) := by
  unfold withPort
  grind only [State.keeps_mk, outKeeps_next, outKeeps_fault, outKeeps_refused]

theorem doAckTimer_keeps {s₀ s : State} (k : FlowKey) (h : s₀.Keeps s) : OutKeeps s₀ (doAckTimer k s) := by
  unfold doAckTimer
  grind only [State.keeps_mk, outKeeps_next, outKeeps_fault, outKeeps_refused, State.sendAck_keeps]

theorem doE2eResend_keeps {s₀ s : State} (k : FlowKey) (h : s₀.Keeps s) : OutKeeps s₀ (doE2eResend k s) := by
  unfold doE2eResend
  (repeat' (
    first
    | with_reducible assumption
    | (extract_lets +onlyGivenNames x; refine keeps_suff (s₀ := s₀) x ?_ (fun _ => ?_); (on_goal 1 => subst x); (on_goal 2 => try
        clear_value x))
    | extract_lets +onlyGivenNames _
    | with_reducible (refine foldl_keeps ?_ (fun _ _ _ => ?_) <;> try beta_reduce)
    | with_reducible apply State.count_keeps
    | with_reducible apply State.setTxFlow_keeps
    | with_reducible apply State.emitFlow_keeps
    | with_reducible apply outKeeps_next
    | with_reducible apply ite_out))

theorem doFrameAgeDrop_keeps {s₀ s : State} (h : s₀.Keeps s) : OutKeeps s₀ (doFrameAgeDrop s) := by
  unfold doFrameAgeDrop
  (repeat' (
    first
    | with_reducible assumption
    | extract_lets +onlyGivenNames _
    | with_reducible (refine foldl_keeps ?_ (fun _ _ _ => ?_) <;> try beta_reduce)
    | with_reducible apply State.agePort_keeps
    | with_reducible apply State.ageRouter_keeps
    | with_reducible apply outKeeps_next))

theorem doFrameRoute_keeps {s₀ s : State} (arrival : Option Arrival) (f : Frame) (h : s₀.Keeps s) : OutKeeps s₀ (doFrameRoute arrival f
    s) := by
  unfold doFrameRoute
  grind only [State.keeps_mk, outKeeps_next, outKeeps_fault, outKeeps_refused, State.sendFrame_keeps, withPort_keeps,
      State.linkReceive_keeps, State.accepted_keeps]

theorem doLinkControlBlock_keeps {s₀ s : State} (port : ℕ) (h : s₀.Keeps s) : OutKeeps s₀ (doLinkControlBlock port s) := by
  unfold doLinkControlBlock
  grind only [State.keeps_mk, outKeeps_next, outKeeps_fault, outKeeps_refused, withPort_keeps, State.send_keeps, State.setPort_keeps]

theorem doLinkControlBlockReceived_keeps {s₀ s : State} (port : ℕ) (acked : ℕ) (credits : List (ℕ × ℕ)) (h : s₀.Keeps s) : OutKeeps s₀
    (doLinkControlBlockReceived port acked credits s) := by
  unfold doLinkControlBlockReceived
  grind only [State.keeps_mk, outKeeps_next, outKeeps_fault, outKeeps_refused, withPort_keeps, State.pump_keeps, State.setPort_keeps]

theorem doLinkReplayTimeout_keeps {s₀ s : State} (port : ℕ) (h : s₀.Keeps s) : OutKeeps s₀ (doLinkReplayTimeout port s) := by
  unfold doLinkReplayTimeout
  grind only [State.keeps_mk, outKeeps_next, outKeeps_fault, outKeeps_refused, withPort_keeps, State.replayFrom_keeps]

theorem doNak_keeps {s₀ s : State} (port : ℕ) (seqNo : ℕ) (h : s₀.Keeps s) : OutKeeps s₀ (doNak port seqNo s) := by
  unfold doNak
  grind only [State.keeps_mk, outKeeps_next, outKeeps_fault, outKeeps_refused, withPort_keeps, State.replayFrom_keeps]

theorem doPathLost_keeps {s₀ s : State} (k : FlowKey) (h : s₀.Keeps s) : OutKeeps s₀ (doPathLost k s) := by
  unfold doPathLost
  grind only [State.keeps_mk, outKeeps_next, outKeeps_fault, outKeeps_refused, State.losePath_keeps]

theorem doPortRetrain_keeps {s₀ s : State} (port : ℕ) (lost : Bool) (h : s₀.Keeps s) : OutKeeps s₀ (doPortRetrain port lost s) := by
  unfold doPortRetrain
  grind only [State.keeps_mk, outKeeps_next, outKeeps_fault, outKeeps_refused, withPort_keeps, State.portHealth_keeps,
      State.count_keeps, State.portOut_keeps]

theorem doPortRetry_keeps {s₀ s : State} (port : ℕ) (h : s₀.Keeps s) : OutKeeps s₀ (doPortRetry port s) := by
  unfold doPortRetry
  grind only [State.keeps_mk, outKeeps_next, outKeeps_fault, outKeeps_refused, withPort_keeps, State.setPort_keeps,
      State.setPortState_keeps]

theorem doReleaseBufferPerform_keeps {s₀ s : State} (core : ℕ) (h : s₀.Keeps s) : OutKeeps s₀ (doReleaseBufferPerform core s) := by
  unfold doReleaseBufferPerform
  (repeat' (
    first
    | with_reducible assumption
    | (extract_lets +onlyGivenNames x; refine keeps_suff (s₀ := s₀) x ?_ (fun _ => ?_); (on_goal 1 => subst x); (on_goal 2 => try
        clear_value x))
    | extract_lets +onlyGivenNames _
    | with_reducible apply withCore_keeps
    | with_reducible apply State.setCore_keeps
    | with_reducible apply State.post_keeps
    | with_reducible apply State.inject_keeps
    | with_reducible apply State.refuseWp_keeps
    | with_reducible apply State.count_keeps
    | with_reducible apply State.registerTimed_keeps
    | with_reducible apply State.setCoreSt_keeps
    | with_reducible apply outKeeps_next
    | with_reducible apply ite_out
    | split))

theorem doRetrainDone_keeps {s₀ s : State} (port : ℕ) (o : TrainOutcome) (h : s₀.Keeps s) : OutKeeps s₀ (doRetrainDone port o s) := by
  unfold doRetrainDone
  grind only [State.keeps_mk, outKeeps_next, outKeeps_fault, outKeeps_refused, withPort_keeps, State.trained_keeps]

end Sys2Proof.Machine
end

