-- ==== Sys2Proof/Laws/Keeps/Chrono.lean ====
section
/-! SUPPORT. What the functions of Machine/Chrono.lean keep (`State.Keeps`): one lemma for each, cited by those of its callers. -/

namespace Sys2Proof.Machine

set_option linter.tactic.unusedName false

theorem State.chrMove_keeps {s₀ s : State} (v : ℕ) (h : s₀.Keeps s) : s₀.Keeps (State.chrMove s v) := by
  unfold State.chrMove
  grind only [State.keeps_mk, outKeeps_next, outKeeps_fault, outKeeps_refused, State.setObj_keeps]

theorem State.chrAlone_keeps {s₀ s : State} (h : s₀.Keeps s) : s₀.Keeps (State.chrAlone s) := by
  unfold State.chrAlone
  grind only [State.keeps_mk, outKeeps_next, outKeeps_fault, outKeeps_refused, State.count_keeps, State.chrMove_keeps]

theorem State.writeGroupSlice_keeps {s₀ s : State} (g : ℕ) (v : ℕ) (h : s₀.Keeps s) : s₀.Keeps (State.writeGroupSlice s g v).1 := by
  unfold State.writeGroupSlice
  grind only [State.keeps_mk, outKeeps_next, outKeeps_fault, outKeeps_refused, State.no_keeps, State.ok_keeps, State.clearGroup_keeps,
      State.setObj_keeps]

theorem State.writeChrParent_keeps {s₀ s : State} (v : ℕ) (h : s₀.Keeps s) : s₀.Keeps (State.writeChrParent s v).1 := by
  unfold State.writeChrParent
  grind only [State.keeps_mk, outKeeps_next, outKeeps_fault, outKeeps_refused, State.no_keeps, State.setObj_keeps, State.ok_keeps,
      State.chrMove_keeps]

theorem State.writeChrAlt_keeps {s₀ s : State} (v : ℕ) (h : s₀.Keeps s) : s₀.Keeps (State.writeChrAlt s v).1 := by
  unfold State.writeChrAlt
  grind only [State.keeps_mk, outKeeps_next, outKeeps_fault, outKeeps_refused, State.ok_keeps, State.setObj_keeps, State.no_keeps]

theorem State.writeChrSet_keeps {s₀ s : State} (v : ℕ) (h : s₀.Keeps s) : s₀.Keeps (State.writeChrSet s v).1 := by
  unfold State.writeChrSet
  grind only [State.keeps_mk, outKeeps_next, outKeeps_fault, outKeeps_refused, State.ok_keeps, State.count_keeps, State.no_keeps]

theorem State.startChrono_keeps {s₀ s : State} (h : s₀.Keeps s) : s₀.Keeps (State.startChrono s) := by
  unfold State.startChrono
  grind only [State.keeps_mk, outKeeps_next, outKeeps_fault, outKeeps_refused, State.chrMove_keeps]

theorem State.chrExchange_keeps {s₀ s : State} (th : ℤ) (h : s₀.Keeps s) : s₀.Keeps (State.chrExchange s th) := by
  unfold State.chrExchange
  (repeat' (
    first
    | with_reducible assumption
    | (extract_lets +onlyGivenNames x; refine keeps_suff (s₀ := s₀) x ?_ (fun _ => ?_); (on_goal 1 => subst x); (on_goal 2 => try
        clear_value x))
    | extract_lets +onlyGivenNames _
    | with_reducible apply State.setObj_keeps
    | with_reducible apply State.chrMove_keeps
    | with_reducible apply State.count_keeps
    | with_reducible (fail_if_no_progress apply State.keeps_mk)
    | with_reducible apply ite_keeps))

theorem State.chrFailed_keeps {s₀ s : State} (h : s₀.Keeps s) : s₀.Keeps (State.chrFailed s) := by
  unfold State.chrFailed
  grind only [State.keeps_mk, outKeeps_next, outKeeps_fault, outKeeps_refused, State.chrMove_keeps, State.count_keeps]

theorem State.chrTick_keeps {s₀ s : State} (h : s₀.Keeps s) : s₀.Keeps (State.chrTick s) := by
  unfold State.chrTick
  grind only [State.keeps_mk, outKeeps_next, outKeeps_fault, outKeeps_refused]

theorem State.timeReq_keeps {s₀ s : State} (port : ℕ) (f : Frame) (h : s₀.Keeps s) : s₀.Keeps (State.timeReq s port f) := by
  unfold State.timeReq
  grind only [State.keeps_mk, outKeeps_next, outKeeps_fault, outKeeps_refused, State.toPort_keeps]

theorem State.timeRsp_keeps {s₀ s : State} (port : ℕ) (f : Frame) (t4 : ℕ) (h : s₀.Keeps s) : s₀.Keeps (State.timeRsp s port f t4) := by
  unfold State.timeRsp
  grind only [State.keeps_mk, outKeeps_next, outKeeps_fault, outKeeps_refused, State.chrExchange_keeps]

theorem State.timeTaken_keeps {s₀ s : State} (port : ℕ) (f : Frame) (t4 : ℕ) (h : s₀.Keeps s) : s₀.Keeps (State.timeTaken s port f t4)
    := by
  unfold State.timeTaken
  grind only [State.keeps_mk, outKeeps_next, outKeeps_fault, outKeeps_refused, State.errResp_keeps, State.timeReq_keeps,
      State.timeRsp_keeps]

theorem State.timeArrives_keeps {s₀ s : State} (opcode : ℕ) (a : Arrival) (f : Frame) (t4 : ℕ) (h : s₀.Keeps s) : OutKeeps s₀
    (State.timeArrives s opcode a f t4) := by
  unfold State.timeArrives
  grind only [State.keeps_mk, outKeeps_next, outKeeps_fault, outKeeps_refused, withPort_keeps, State.linkReceive_keeps,
      State.timeTaken_keeps, State.owe_keeps]

theorem doChronometerExchange_keeps {s₀ s : State} (h : s₀.Keeps s) : OutKeeps s₀ (doChronometerExchange s) := by
  unfold doChronometerExchange
  grind only [State.keeps_mk, outKeeps_next, outKeeps_fault, outKeeps_refused, State.chrFailed_keeps, State.toPort_keeps]

theorem doTimeReq_keeps {s₀ s : State} (a : Arrival) (f : Frame) (h : s₀.Keeps s) : OutKeeps s₀ (doTimeReq a f s) := by
  unfold doTimeReq
  grind only [State.keeps_mk, outKeeps_next, outKeeps_fault, outKeeps_refused, State.timeArrives_keeps]

theorem doTimeRsp_keeps {s₀ s : State} (a : Arrival) (f : Frame) (t4 : ℕ) (h : s₀.Keeps s) : OutKeeps s₀ (doTimeRsp a f t4 s) := by
  unfold doTimeRsp
  grind only [State.keeps_mk, outKeeps_next, outKeeps_fault, outKeeps_refused, State.timeArrives_keeps]

end Sys2Proof.Machine
end

