-- ==== Sys2Proof/Laws/Keeps/Collectives.lean ====
section
/-! SUPPORT. What the functions of Machine/Collectives.lean keep (`State.Keeps`): one lemma for each, cited by those of its callers. -/

namespace Sys2Proof.Machine

set_option linter.tactic.unusedName false

theorem State.disown_keeps {s₀ s : State} (n : ℕ) (h : s₀.Keeps s) : s₀.Keeps (State.disown s n) := by
  unfold State.disown
  grind only [State.keeps_mk, outKeeps_next, outKeeps_fault, outKeeps_refused]

theorem State.dropQueued_keeps {s₀ s : State} (n : ℕ) (p : Frame → Bool) (h : s₀.Keeps s) : s₀.Keeps (State.dropQueued s n p).2 := by
  unfold State.dropQueued
  grind only [State.keeps_mk, outKeeps_next, outKeeps_fault, outKeeps_refused]

theorem State.setCtxState_keeps {s₀ s : State} (n : ℕ) (v : ℕ) (h : s₀.Keeps s) : s₀.Keeps (State.setCtxState s n v) := by
  unfold State.setCtxState
  grind only [State.keeps_mk, outKeeps_next, outKeeps_fault, outKeeps_refused, State.setObj_keeps]

theorem State.setCtx_keeps {s₀ s : State} (n : ℕ) (c : Ctx) (h : s₀.Keeps s) : s₀.Keeps (State.setCtx s n c) := by
  unfold State.setCtx
  grind only [State.keeps_mk, outKeeps_next, outKeeps_fault, outKeeps_refused]

theorem State.ctxIdle_keeps {s₀ s : State} (n : ℕ) (h : s₀.Keeps s) : s₀.Keeps (State.ctxIdle s n) := by
  unfold State.ctxIdle
  (repeat' (
    first
    | with_reducible assumption
    | (extract_lets +onlyGivenNames x; refine keeps_suff (s₀ := s₀) x ?_ (fun _ => ?_); (on_goal 1 => subst x); (on_goal 2 => try
        clear_value x))
    | extract_lets +onlyGivenNames _
    | with_reducible (refine foldl_keeps ?_ (fun _ _ _ => ?_) <;> try beta_reduce)
    | with_reducible apply State.disown_keeps
    | with_reducible apply State.dropQueued_keeps
    | with_reducible apply State.setObj_keeps
    | with_reducible apply State.setCtxState_keeps
    | with_reducible apply State.setCtx_keeps
    | with_reducible apply State.post_keeps))

theorem State.ctxAbandon_keeps {s₀ s : State} (n : ℕ) (h : s₀.Keeps s) : s₀.Keeps (State.ctxAbandon s n) := by
  unfold State.ctxAbandon
  grind only [State.keeps_mk, outKeeps_next, outKeeps_fault, outKeeps_refused, State.ctxIdle_keeps]

theorem State.refuseContrib_keeps {s₀ s : State} (h : s₀.Keeps s) : s₀.Keeps (State.refuseContrib s).1 := by
  unfold State.refuseContrib
  grind only [State.keeps_mk, outKeeps_next, outKeeps_fault, outKeeps_refused, State.no_keeps, State.count_keeps]

theorem State.disagree_keeps {s₀ s : State} (n : ℕ) (h : s₀.Keeps s) : s₀.Keeps (State.disagree s n).1 := by
  unfold State.disagree
  grind only [State.keeps_mk, outKeeps_next, outKeeps_fault, outKeeps_refused, State.fresh_keeps, State.setCtx_keeps, State.ok_keeps,
      State.no_keeps]

theorem State.ctxWrite_keeps {s₀ s : State} (n : ℕ) (a : ℕ) (l : List Byte) (h : s₀.Keeps s) : s₀.Keeps (State.ctxWrite s n a l) := by
  unfold State.ctxWrite
  grind only [State.keeps_mk, outKeeps_next, outKeeps_fault, outKeeps_refused, State.count_keeps, State.write_keeps]

theorem State.addWord_keeps {s₀ s : State} (n : ℕ) (base : ℕ) (e : ℕ × FVal) (h : s₀.Keeps s) : s₀.Keeps (State.addWord n base s e) := by
  unfold State.addWord
  grind only [State.keeps_mk, outKeeps_next, outKeeps_fault, outKeeps_refused, State.ctxWrite_keeps]

theorem State.addValues_keeps {s₀ s : State} (n : ℕ) (base : ℕ) (v : List (ℕ × FVal) × ℕ) (h : s₀.Keeps s) : s₀.Keeps (State.addValues
    s n base v) := by
  unfold State.addValues
  (repeat' (
    first
    | with_reducible assumption
    | extract_lets +onlyGivenNames _
    | with_reducible (refine foldl_keeps ?_ (fun _ _ _ => ?_) <;> try beta_reduce)
    | with_reducible apply State.count_keeps
    | with_reducible apply State.addWord_keeps))

theorem State.accumulate_keeps {s₀ s : State} (n : ℕ) (inst : ℕ) (v : List (ℕ × FVal) × ℕ) (h : s₀.Keeps s) : s₀.Keeps
    (State.accumulate s n inst v) := by
  unfold State.accumulate
  grind only [State.keeps_mk, outKeeps_next, outKeeps_fault, outKeeps_refused, State.addValues_keeps]

theorem State.setMember_keeps {s₀ s : State} (n : ℕ) (r : ℕ) (f : CtxMember → CtxMember) (h : s₀.Keeps s) : s₀.Keeps (State.setMember s
    n r f) := by
  unfold State.setMember
  grind only [State.keeps_mk, outKeeps_next, outKeeps_fault, outKeeps_refused, State.setCtx_keeps]

theorem State.takeContrib_keeps {s₀ s : State} (f : Frame) (h : s₀.Keeps s) : s₀.Keeps (State.takeContrib f s).1 := by
  unfold State.takeContrib
  grind only [State.keeps_mk, outKeeps_next, outKeeps_fault, outKeeps_refused, State.refuseContrib_keeps, State.no_keeps,
      State.disagree_keeps, State.accumulate_keeps, State.setMember_keeps, State.ok_keeps, State.post_keeps]

theorem State.takeResult_keeps {s₀ s : State} (f : Frame) (h : s₀.Keeps s) : s₀.Keeps (State.takeResult f s).1 := by
  unfold State.takeResult
  grind only [State.keeps_mk, outKeeps_next, outKeeps_fault, outKeeps_refused, State.no_keeps, State.disagree_keeps, State.ok_keeps,
      State.ctxWrite_keeps, State.setMember_keeps, State.post_keeps]

theorem State.staleLate_keeps {s₀ s : State} (h : s₀.Keeps s) : s₀.Keeps (State.staleLate s).1 := by
  unfold State.staleLate
  grind only [State.keeps_mk, outKeeps_next, outKeeps_fault, outKeeps_refused, State.ok_keeps, State.count_keeps]

theorem State.noteChunk_keeps {s₀ s : State} (n : ℕ) (j : ℕ) (lo : ℕ) (hi : ℕ) (h : s₀.Keeps s) : s₀.Keeps (State.noteChunk s n j lo
    hi) := by
  unfold State.noteChunk
  grind only [State.keeps_mk, outKeeps_next, outKeeps_fault, outKeeps_refused, State.noteRead_keeps, State.noteSpans_keeps]

theorem State.foldRange_keeps {s₀ s : State} (n : ℕ) (r : ℕ) (lo : ℕ) (hi : ℕ) (h : s₀.Keeps s) : s₀.Keeps (State.foldRange s n r lo
    hi) := by
  unfold State.foldRange
  (repeat' (
    first
    | with_reducible assumption
    | (extract_lets +onlyGivenNames x; refine keeps_suff (s₀ := s₀) x ?_ (fun _ => ?_); (on_goal 1 => subst x); (on_goal 2 => try
        clear_value x))
    | extract_lets +onlyGivenNames _
    | with_reducible (refine foldl_keeps ?_ (fun _ _ _ => ?_) <;> try beta_reduce)
    | with_reducible apply State.setMember_keeps
    | with_reducible apply State.count_keeps
    | with_reducible apply State.addValues_keeps
    | with_reducible apply State.noteChunk_keeps
    | with_reducible apply ite_keeps))

theorem State.stopSending_keeps {s₀ s : State} (n : ℕ) (r : ℕ) (h : s₀.Keeps s) : s₀.Keeps (State.stopSending s n r) := by
  unfold State.stopSending
  (repeat' (
    first
    | with_reducible assumption
    | extract_lets +onlyGivenNames _
    | with_reducible (refine foldl_keeps ?_ (fun _ _ _ => ?_) <;> try beta_reduce)
    | with_reducible apply State.dropQueued_keeps
    | with_reducible apply State.foldRange_keeps))

theorem State.takeLate_keeps {s₀ s : State} (f : Frame) (h : s₀.Keeps s) : s₀.Keeps (State.takeLate f s).1 := by
  unfold State.takeLate
  (repeat' (
    first
    | with_reducible assumption
    | (extract_lets +onlyGivenNames x; refine keeps_suff (s₀ := s₀) x ?_ (fun _ => ?_); (on_goal 1 => subst x); (on_goal 2 => try
        clear_value x))
    | extract_lets +onlyGivenNames _
    | with_reducible apply State.no_keeps
    | with_reducible apply State.staleLate_keeps
    | with_reducible apply State.disagree_keeps
    | with_reducible apply State.count_keeps
    | with_reducible apply State.ok_keeps
    | with_reducible apply State.setMember_keeps
    | with_reducible apply State.post_keeps
    | with_reducible apply State.foldRange_keeps
    | with_reducible apply State.stopSending_keeps
    | with_reducible apply ite_fst
    | split))

theorem State.ctxLayerEnd_keeps {s₀ s : State} (n : ℕ) (code : ℕ) (h : s₀.Keeps s) : s₀.Keeps (State.ctxLayerEnd s n code) := by
  unfold State.ctxLayerEnd
  grind only [State.keeps_mk, outKeeps_next, outKeeps_fault, outKeeps_refused, State.setLayer_keeps]

theorem State.ctxRecord_keeps {s₀ s : State} (n : ℕ) (missing : ℕ) (code : ℕ) (h : s₀.Keeps s) : s₀.Keeps (State.ctxRecord s n missing
    code) := by
  unfold State.ctxRecord
  grind only [State.keeps_mk, outKeeps_next, outKeeps_fault, outKeeps_refused, State.setObj_keeps]

theorem State.ctxWp_keeps {s₀ s : State} (n : ℕ) (wp : ℕ) (k : WpKind) (h : s₀.Keeps s) : s₀.Keeps (State.ctxWp s n wp k) := by
  unfold State.ctxWp
  grind only [State.keeps_mk, outKeeps_next, outKeeps_fault, outKeeps_refused, State.post_keeps]

theorem State.ctxError_keeps {s₀ s : State} (n : ℕ) (code : ℕ) (h : s₀.Keeps s) : s₀.Keeps (State.ctxError s n code) := by
  unfold State.ctxError
  (repeat' (
    first
    | with_reducible assumption
    | (extract_lets +onlyGivenNames x; refine keeps_suff (s₀ := s₀) x ?_ (fun _ => ?_); (on_goal 1 => subst x); (on_goal 2 => try
        clear_value x))
    | extract_lets +onlyGivenNames _
    | with_reducible apply State.disown_keeps
    | with_reducible apply State.dropQueued_keeps
    | with_reducible apply State.ctxLayerEnd_keeps
    | with_reducible apply State.ctxRecord_keeps
    | with_reducible apply State.setCtxState_keeps
    | with_reducible apply State.ctxWp_keeps
    | with_reducible apply State.post_keeps
    | with_reducible apply ite_keeps))

theorem State.clearStage_keeps {s₀ s : State} (n : ℕ) (h : s₀.Keeps s) : s₀.Keeps (State.clearStage s n) := by
  unfold State.clearStage
  grind only [State.keeps_mk, outKeeps_next, outKeeps_fault, outKeeps_refused, State.ctxWrite_keeps]

theorem State.ctxArm_keeps {s₀ s : State} (n : ℕ) (addr : ℕ) (slice : ℕ) (layer : Option ℕ) (h : s₀.Keeps s) : s₀.Keeps (State.ctxArm s
    n addr slice layer) := by
  unfold State.ctxArm
  (repeat' (
    first
    | with_reducible assumption
    | (extract_lets +onlyGivenNames x; refine keeps_suff (s₀ := s₀) x ?_ (fun _ => ?_); (on_goal 1 => subst x); (on_goal 2 => try
        clear_value x))
    | extract_lets +onlyGivenNames _
    | with_reducible apply State.noteRead_keeps
    | with_reducible apply State.setObj_keeps
    | with_reducible apply State.ctxError_keeps
    | with_reducible apply State.setCtx_keeps
    | with_reducible apply State.clearStage_keeps
    | with_reducible apply State.setCtxState_keeps
    | with_reducible apply State.logWpRefusal_keeps
    | with_reducible apply State.post_keeps
    | with_reducible apply ite_keeps))

theorem State.writeCtxArm_keeps {s₀ s : State} (n : ℕ) (v : ℕ) (h : s₀.Keeps s) : s₀.Keeps (State.writeCtxArm s n v).1 := by
  unfold State.writeCtxArm
  grind only [State.keeps_mk, outKeeps_next, outKeeps_fault, outKeeps_refused, State.no_keeps, State.ok_keeps, State.ctxArm_keeps]

theorem State.writeCtxCtrl_keeps {s₀ s : State} (n : ℕ) (v : ℕ) (h : s₀.Keeps s) : s₀.Keeps (State.writeCtxCtrl s n v).1 := by
  unfold State.writeCtxCtrl
  grind only [State.keeps_mk, outKeeps_next, outKeeps_fault, outKeeps_refused, State.no_keeps, State.ok_keeps, State.ctxIdle_keeps]

theorem State.collectiveLayer_keeps {s₀ s : State} (core : ℕ) (h : s₀.Keeps s) : s₀.Keeps (State.collectiveLayer s core) := by
  unfold State.collectiveLayer
  grind only [State.keeps_mk, outKeeps_next, outKeeps_fault, outKeeps_refused, State.setCoreSt_keeps, State.setLayer_keeps,
      State.outOfSlice_keeps, State.ctxArm_keeps]

theorem State.ctxSend_keeps {s₀ s : State} (n : ℕ) (src : Option ℕ) (f : Frame) (h : s₀.Keeps s) : s₀.Keeps (State.ctxSend s n src f)
    := by
  unfold State.ctxSend
  grind only [State.keeps_mk, outKeeps_next, outKeeps_fault, outKeeps_refused, State.inject_keeps]

theorem State.sendChunk_keeps {s₀ s : State} (n : ℕ) (op : ℕ) (j : ℕ) (base : ℕ) (dev : ℕ) (h : s₀.Keeps s) : s₀.Keeps (State.sendChunk
    s n op j base dev) := by
  unfold State.sendChunk
  (repeat' (
    first
    | with_reducible assumption
    | with_reducible (refine foldl_keeps ?_ (fun _ _ _ => ?_) <;> try beta_reduce)
    | with_reducible apply State.ctxSend_keeps))

theorem State.contribute_keeps {s₀ s : State} (n : ℕ) (j : ℕ) (h : s₀.Keeps s) : s₀.Keeps (State.contribute s n j) := by
  unfold State.contribute
  grind only [State.keeps_mk, outKeeps_next, outKeeps_fault, outKeeps_refused, State.foldRange_keeps, State.sendChunk_keeps]

theorem State.copyOwn_keeps {s₀ s : State} (n : ℕ) (srcOff : ℕ) (h : s₀.Keeps s) : s₀.Keeps (State.copyOwn s n srcOff) := by
  unfold State.copyOwn
  grind only [State.keeps_mk, outKeeps_next, outKeeps_fault, outKeeps_refused, State.setMember_keeps, State.ctxWrite_keeps]

theorem State.ctxUndefined_keeps {s₀ s : State} (n : ℕ) (h : s₀.Keeps s) : s₀.Keeps (State.ctxUndefined s n) := by
  unfold State.ctxUndefined
  (repeat' (
    first
    | with_reducible assumption
    | extract_lets +onlyGivenNames _
    | with_reducible (refine foldl_keeps ?_ (fun _ _ _ => ?_) <;> try beta_reduce)
    | with_reducible apply State.fresh_keeps
    | with_reducible apply undefWrite_keeps
    | with_reducible apply ite_keeps))

theorem State.multicastResult_keeps {s₀ s : State} (n : ℕ) (fan : ℕ) (addr : ℕ) (base : ℕ) (f : Fmt) (h : s₀.Keeps s) : s₀.Keeps
    (State.multicastResult s n fan addr base f) := by
  unfold State.multicastResult
  (repeat' (
    first
    | with_reducible assumption
    | extract_lets +onlyGivenNames _
    | with_reducible (refine foldl_keeps ?_ (fun _ _ _ => ?_) <;> try beta_reduce)
    | with_reducible apply State.ctxSend_keeps))

theorem State.ctxClose_keeps {s₀ s : State} (n : ℕ) (h : s₀.Keeps s) : s₀.Keeps (State.ctxClose s n) := by
  unfold State.ctxClose
  (repeat' (
    first
    | with_reducible assumption
    | (extract_lets +onlyGivenNames x; refine keeps_suff (s₀ := s₀) x ?_ (fun _ => ?_); (on_goal 1 => subst x); (on_goal 2 => try
        clear_value x))
    | extract_lets +onlyGivenNames _
    | with_reducible apply State.noteRead_keeps
    | with_reducible apply State.ctxWrite_keeps
    | with_reducible apply State.ctxUndefined_keeps
    | with_reducible apply State.setCtxState_keeps
    | with_reducible apply State.setMember_keeps
    | with_reducible apply State.setCtx_keeps
    | with_reducible apply State.multicastResult_keeps
    | with_reducible apply ite_keeps))

theorem State.ctxComplete_keeps {s₀ s : State} (n : ℕ) (h : s₀.Keeps s) : s₀.Keeps (State.ctxComplete s n) := by
  unfold State.ctxComplete
  (repeat' (
    first
    | with_reducible assumption
    | (extract_lets +onlyGivenNames x; refine keeps_suff (s₀ := s₀) x ?_ (fun _ => ?_); (on_goal 1 => subst x); (on_goal 2 => try
        clear_value x))
    | extract_lets +onlyGivenNames _
    | with_reducible apply State.ctxUndefined_keeps
    | with_reducible apply State.count_keeps
    | with_reducible apply State.ctxRecord_keeps
    | with_reducible apply State.post_keeps
    | with_reducible apply State.ctxWp_keeps
    | with_reducible apply State.ctxLayerEnd_keeps
    | with_reducible apply State.setCtxState_keeps
    | with_reducible apply State.setCtx_keeps
    | with_reducible apply State.setObj_keeps
    | with_reducible apply State.ctxIdle_keeps
    | with_reducible apply ite_keeps))

theorem State.discardDue_keeps {s₀ s : State} (n : ℕ) (f : Frame) (h : s₀.Keeps s) : s₀.Keeps (State.discardDue n s f) := by
  unfold State.discardDue
  grind only [State.keeps_mk, outKeeps_next, outKeeps_fault, outKeeps_refused, State.count_keeps]

theorem State.takeBack_keeps {s₀ s : State} (n : ℕ) (dev : ℕ) (h : s₀.Keeps s) : s₀.Keeps (State.takeBack s n dev).2 := by
  unfold State.takeBack
  grind only [State.keeps_mk, outKeeps_next, outKeeps_fault, outKeeps_refused, State.dropQueued_keeps]

theorem State.markAbsent_keeps {s₀ s : State} (n : ℕ) (dev : ℕ) (h : s₀.Keeps s) : s₀.Keeps (State.markAbsent s n dev) := by
  unfold State.markAbsent
  (repeat' (
    first
    | with_reducible assumption
    | extract_lets +onlyGivenNames _
    | with_reducible (refine foldl_keeps ?_ (fun _ _ _ => ?_) <;> try beta_reduce)
    | with_reducible apply State.takeBack_keeps
    | with_reducible apply State.count_keeps
    | with_reducible apply State.setMember_keeps
    | with_reducible apply State.post_keeps
    | with_reducible apply State.discardDue_keeps
    | with_reducible apply ite_keeps))

theorem State.ctxFailed_keeps {s₀ s : State} (n : ℕ) (f : Frame) (code : ℕ) (h : s₀.Keeps s) : s₀.Keeps (State.ctxFailed s n f code) := by
  unfold State.ctxFailed
  (repeat' (
    first
    | with_reducible assumption
    | (extract_lets +onlyGivenNames x; refine keeps_suff (s₀ := s₀) x ?_ (fun _ => ?_); (on_goal 1 => subst x); (on_goal 2 => try
        clear_value x))
    | extract_lets +onlyGivenNames _
    | with_reducible (refine foldl_keeps ?_ (fun _ _ _ => ?_) <;> try beta_reduce)
    | with_reducible apply State.discardDue_keeps
    | with_reducible apply State.markAbsent_keeps
    | with_reducible apply State.stopSending_keeps
    | with_reducible apply State.foldRange_keeps
    | with_reducible apply State.ctxError_keeps
    | with_reducible apply State.post_keeps
    | with_reducible apply ite_keeps))

theorem State.ctxGo_keeps {s₀ s : State} (n : ℕ) (h : s₀.Keeps s) : s₀.Keeps (State.ctxGo s n) := by
  unfold State.ctxGo
  (repeat' (
    first
    | with_reducible assumption
    | (extract_lets +onlyGivenNames x; refine keeps_suff (s₀ := s₀) x ?_ (fun _ => ?_); (on_goal 1 => subst x); (on_goal 2 => try
        clear_value x))
    | extract_lets +onlyGivenNames _
    | with_reducible (refine foldl_keeps ?_ (fun _ _ _ => ?_) <;> try beta_reduce)
    | with_reducible apply State.setCtxState_keeps
    | with_reducible apply State.setCtx_keeps
    | with_reducible apply State.noteSpans_keeps
    | with_reducible apply State.accumulate_keeps
    | with_reducible apply State.setMember_keeps
    | with_reducible apply State.contribute_keeps
    | with_reducible apply State.multicastResult_keeps
    | with_reducible apply State.copyOwn_keeps
    | with_reducible apply State.sendChunk_keeps
    | with_reducible apply ite_keeps
    | split))

theorem State.ctxLost_keeps {s₀ s : State} (n : ℕ) (f : Frame) (h : s₀.Keeps s) : s₀.Keeps (State.ctxLost s n f) := by
  unfold State.ctxLost
  grind only [State.keeps_mk, outKeeps_next, outKeeps_fault, outKeeps_refused, State.setCtx_keeps, State.discardDue_keeps,
      State.markAbsent_keeps, State.post_keeps]

theorem State.ctxPartial_keeps {s₀ s : State} (f : Frame) (h : s₀.Keeps s) : s₀.Keeps (State.ctxPartial s f) := by
  unfold State.ctxPartial
  (repeat' (
    first
    | with_reducible assumption
    | extract_lets +onlyGivenNames _
    | with_reducible (refine foldl_keeps ?_ (fun _ _ _ => ?_) <;> try beta_reduce)
    | with_reducible apply State.markAbsent_keeps
    | with_reducible apply ite_keeps))

theorem State.ctxTest_keeps {s₀ s : State} (n : ℕ) (h : s₀.Keeps s) : s₀.Keeps (State.ctxTest s n) := by
  unfold State.ctxTest
  grind only [State.keeps_mk, outKeeps_next, outKeeps_fault, outKeeps_refused, State.post_keeps, State.ctxGo_keeps,
      State.setCtxState_keeps, State.ctxClose_keeps, State.ctxComplete_keeps]

theorem State.declareLate_keeps {s₀ s : State} (n : ℕ) (c : Ctx) (r : ℕ) (h : s₀.Keeps s) : s₀.Keeps (State.declareLate n c s r) := by
  unfold State.declareLate
  grind only [State.keeps_mk, outKeeps_next, outKeeps_fault, outKeeps_refused, State.count_keeps, State.setMember_keeps,
      State.ctxSend_keeps]

theorem doDeadline_keeps {s₀ s : State} (n : ℕ) (h : s₀.Keeps s) : OutKeeps s₀ (doDeadline n s) := by
  unfold doDeadline
  (repeat' (
    first
    | with_reducible assumption
    | extract_lets +onlyGivenNames _
    | with_reducible (refine foldl_keeps ?_ (fun _ _ _ => ?_) <;> try beta_reduce)
    | with_reducible apply State.post_keeps
    | with_reducible apply State.declareLate_keeps
    | with_reducible apply outKeeps_next
    | with_reducible apply ite_out))

end Sys2Proof.Machine
end

