-- ==== Sys2Proof/Laws/Keeps/Power.lean ====
section
/-! SUPPORT. What the functions of Machine/Power.lean keep (`State.Keeps`): one lemma for each, cited by those of its callers. -/

namespace Sys2Proof.Machine

set_option linter.tactic.unusedName false

theorem State.setPll_keeps {s₀ s : State} (die : ℕ) (p : Pll) (h : s₀.Keeps s) : s₀.Keeps (State.setPll s die p) := by
  unfold State.setPll
  grind only [State.keeps_mk, outKeeps_next, outKeeps_fault, outKeeps_refused]

theorem State.noteCause_keeps {s₀ s : State} (die : ℕ) (h : s₀.Keeps s) : s₀.Keeps (State.noteCause s die) := by
  unfold State.noteCause
  grind only [State.keeps_mk, outKeeps_next, outKeeps_fault, outKeeps_refused, State.setObj_keeps]

theorem State.switchStep_keeps {s₀ s : State} (die : ℕ) (step : ℕ) (h : s₀.Keeps s) : s₀.Keeps (State.switchStep s die step) := by
  unfold State.switchStep
  grind only [State.keeps_mk, outKeeps_next, outKeeps_fault, outKeeps_refused, State.setPll_keeps, State.count_keeps,
      State.setObj_keeps, State.noteCause_keeps]

theorem State.toStep_keeps {s₀ s : State} (die : ℕ) (step : ℕ) (h : s₀.Keeps s) : s₀.Keeps (State.toStep s die step) := by
  unfold State.toStep
  grind only [State.keeps_mk, outKeeps_next, outKeeps_fault, outKeeps_refused, State.switchStep_keeps, State.setPll_keeps]

theorem State.retarget_keeps {s₀ s : State} (die : ℕ) (h : s₀.Keeps s) : s₀.Keeps (State.retarget s die) := by
  unfold State.retarget
  grind only [State.keeps_mk, outKeeps_next, outKeeps_fault, outKeeps_refused, State.setPll_keeps, State.toStep_keeps,
      State.noteCause_keeps]

theorem State.setRequest_keeps {s₀ s : State} (die : ℕ) (src : ℕ) (step : ℕ) (h : s₀.Keeps s) : s₀.Keeps (State.setRequest s die src
    step) := by
  unfold State.setRequest
  grind only [State.keeps_mk, outKeeps_next, outKeeps_fault, outKeeps_refused, State.retarget_keeps]

theorem State.tempRequest_keeps {s₀ s : State} (die : ℕ) (src : ℕ) (rows : List (ℤ × ℕ)) (a_t : ℤ) (h : s₀.Keeps s) : s₀.Keeps
    (State.tempRequest s die src rows a_t) := by
  unfold State.tempRequest
  grind only [State.keeps_mk, outKeeps_next, outKeeps_fault, outKeeps_refused, State.setRequest_keeps]

theorem State.actDie_keeps {s₀ s : State} (d : ℕ) (h : s₀.Keeps s) : s₀.Keeps (State.actDie s d) := by
  unfold State.actDie
  grind only [State.keeps_mk, outKeeps_next, outKeeps_fault, outKeeps_refused, State.tempRequest_keeps, State.setObj_keeps,
      State.post_keeps]

theorem State.actXd_keeps {s₀ s : State} (h : s₀.Keeps s) : s₀.Keeps (State.actXd s) := by
  unfold State.actXd
  grind only [State.keeps_mk, outKeeps_next, outKeeps_fault, outKeeps_refused, State.tempRequest_keeps, State.post_keeps]

theorem State.coreOff_keeps {s₀ s : State} (core : ℕ) (h : s₀.Keeps s) : s₀.Keeps (State.coreOff s core) := by
  unfold State.coreOff
  (repeat' (
    first
    | with_reducible assumption
    | (extract_lets +onlyGivenNames x; refine keeps_suff (s₀ := s₀) x ?_ (fun _ => ?_); (on_goal 1 => subst x); (on_goal 2 => try
        clear_value x))
    | extract_lets +onlyGivenNames _
    | with_reducible apply State.tilesFree_keeps
    | with_reducible apply State.setCore_keeps
    | with_reducible apply State.dropWaits_keeps
    | with_reducible apply State.setCoreSt_keeps
    | (refine State.keeps_mk5 ?_ (le_refl _) (fun w => Sparse.wf_eraseRange _ _ _ w) id)))

theorem State.stackOff_keeps {s₀ s : State} (n : ℕ) (h : s₀.Keeps s) : s₀.Keeps (State.stackOff s n) := by
  unfold State.stackOff
  exact State.keeps_mk5 (State.setObj_keeps h _ _) (le_refl _) (fun w => Sparse.wf_filter _ _ w) id

theorem State.loseDomain_keeps {s₀ s : State} (d : ℕ) (h : s₀.Keeps s) : s₀.Keeps (State.loseDomain s d) := by
  unfold State.loseDomain
  (repeat' (
    first
    | with_reducible assumption
    | (extract_lets +onlyGivenNames x; refine keeps_suff (s₀ := s₀) x ?_ (fun _ => ?_); (on_goal 1 => subst x); (on_goal 2 => try
        clear_value x))
    | extract_lets +onlyGivenNames _
    | with_reducible (refine foldl_keeps ?_ (fun _ _ _ => ?_) <;> try beta_reduce)
    | with_reducible apply State.coreOff_keeps
    | with_reducible apply State.stackOff_keeps
    | with_reducible apply State.setPortState_keeps
    | with_reducible apply State.setObj_keeps
    | with_reducible apply State.chrAlone_keeps
    | with_reducible apply State.setObjs_keeps
    | with_reducible (fail_if_no_progress apply State.keeps_mk)
    | with_reducible apply ite_keeps
    | (refine State.keeps_mk5 ?_ (le_refl _) id (fun w => Sparse.wf_eraseRange _ _ _ w))))

theorem State.ramp_keeps {s₀ s : State} (d : ℕ) (selfRefresh : Bool) (h : s₀.Keeps s) : s₀.Keeps (State.ramp s d selfRefresh) := by
  unfold State.ramp
  grind only [State.keeps_mk, outKeeps_next, outKeeps_fault, outKeeps_refused, State.setPd_keeps]

theorem State.rampIf_keeps {s₀ s : State} (d : ℕ) (h : s₀.Keeps s) : s₀.Keeps (State.rampIf s d) := by
  unfold State.rampIf
  grind only [State.keeps_mk, outKeeps_next, outKeeps_fault, outKeeps_refused, State.ramp_keeps]

theorem State.nextRamps_keeps {s₀ s : State} (h : s₀.Keeps s) : s₀.Keeps (State.nextRamps s) := by
  unfold State.nextRamps
  (repeat' (
    first
    | with_reducible assumption
    | with_reducible (refine foldl_keeps ?_ (fun _ _ _ => ?_) <;> try beta_reduce)
    | with_reducible apply State.rampIf_keeps))

theorem State.domainOff_keeps {s₀ s : State} (d : ℕ) (h : s₀.Keeps s) : s₀.Keeps (State.domainOff s d) := by
  unfold State.domainOff
  grind only [State.keeps_mk, outKeeps_next, outKeeps_fault, outKeeps_refused, State.loseDomain_keeps, State.nextRamps_keeps,
      State.setPd_keeps]

theorem State.allOff_keeps {s₀ s : State} (h : s₀.Keeps s) : s₀.Keeps (State.allOff s) := by
  unfold State.allOff
  (repeat' (
    first
    | with_reducible assumption
    | (extract_lets +onlyGivenNames x; refine keeps_suff (s₀ := s₀) x ?_ (fun _ => ?_); (on_goal 1 => subst x); (on_goal 2 => try
        clear_value x))
    | extract_lets +onlyGivenNames _
    | with_reducible (refine foldl_keeps ?_ (fun _ _ _ => ?_) <;> try beta_reduce)
    | with_reducible apply State.setPd_keeps
    | with_reducible apply State.domainOff_keeps
    | with_reducible apply State.setObj_keeps
    | with_reducible (fail_if_no_progress apply State.keeps_mk)))

theorem State.writePwrLimit_keeps {s₀ s : State} (v : ℕ) (h : s₀.Keeps s) : s₀.Keeps (State.writePwrLimit s v).1 := by
  unfold State.writePwrLimit
  grind only [State.keeps_mk, outKeeps_next, outKeeps_fault, outKeeps_refused, State.no_keeps, State.ok_keeps, State.setObj_keeps]

theorem State.writePowerCtrl_keeps {s₀ s : State} (v : ℕ) (h : s₀.Keeps s) : s₀.Keeps (State.writePowerCtrl s v).1 := by
  unfold State.writePowerCtrl
  grind only [State.keeps_mk, outKeeps_next, outKeeps_fault, outKeeps_refused, State.no_keeps, State.ok_keeps, State.post_keeps]

theorem State.setRequests_keeps {s₀ s : State} (src : ℕ) (step : ℕ) (h : s₀.Keeps s) : s₀.Keeps (State.setRequests s src step) := by
  unfold State.setRequests
  grind only [State.keeps_mk, outKeeps_next, outKeeps_fault, outKeeps_refused, State.setRequest_keeps]

theorem State.writeThrPinStep_keeps {s₀ s : State} (v : ℕ) (h : s₀.Keeps s) : s₀.Keeps (State.writeThrPinStep s v).1 := by
  unfold State.writeThrPinStep
  grind only [State.keeps_mk, outKeeps_next, outKeeps_fault, outKeeps_refused, State.no_keeps, State.setObj_keeps, State.setPll_keeps,
      State.ok_keeps, State.setRequests_keeps]

theorem State.wakeDomain_keeps {s₀ s : State} (d : ℕ) (h : s₀.Keeps s) : s₀.Keeps (State.wakeDomain s d) := by
  unfold State.wakeDomain
  grind only [State.keeps_mk, outKeeps_next, outKeeps_fault, outKeeps_refused, State.setPd_keeps]

theorem State.wakeAll_keeps {s₀ s : State} (d : ℕ) (h : s₀.Keeps s) : s₀.Keeps (State.wakeAll s d) := by
  unfold State.wakeAll
  (repeat' (
    first
    | with_reducible assumption
    | extract_lets +onlyGivenNames _
    | with_reducible (refine foldl_keeps ?_ (fun _ _ _ => ?_) <;> try beta_reduce)
    | with_reducible apply State.nextRamps_keeps
    | with_reducible apply State.wakeDomain_keeps
    | with_reducible apply ite_keeps))

theorem State.selfRefresh_keeps {s₀ s : State} (d : ℕ) (h : s₀.Keeps s) : s₀.Keeps (State.selfRefresh s d) := by
  unfold State.selfRefresh
  grind only [State.keeps_mk, outKeeps_next, outKeeps_fault, outKeeps_refused, State.setObj_keeps, State.setPd_keeps]

theorem State.writePdCtrl_keeps {s₀ s : State} (v : ℕ) (h : s₀.Keeps s) : s₀.Keeps (State.writePdCtrl s v).1 := by
  unfold State.writePdCtrl
  grind only [State.keeps_mk, outKeeps_next, outKeeps_fault, outKeeps_refused, State.no_keeps, State.ok_keeps, State.wakeAll_keeps,
      State.domainOff_keeps, State.selfRefresh_keeps]

theorem State.writeClkCap_keeps {s₀ s : State} (die : ℕ) (v : ℕ) (h : s₀.Keeps s) : s₀.Keeps (State.writeClkCap s die v).1 := by
  unfold State.writeClkCap
  grind only [State.keeps_mk, outKeeps_next, outKeeps_fault, outKeeps_refused, State.no_keeps, State.ok_keeps, State.setRequest_keeps,
      State.setObj_keeps]

theorem State.coreOn_keeps {s₀ s : State} (core : ℕ) (h : s₀.Keeps s) : s₀.Keeps (State.coreOn s core) := by
  unfold State.coreOn
  grind only [State.keeps_mk, outKeeps_next, outKeeps_fault, outKeeps_refused, State.setCoreSt_keeps, State.coreReset_keeps]

theorem State.domainOn_keeps {s₀ s : State} (d : ℕ) (h : s₀.Keeps s) : s₀.Keeps (State.domainOn s d) := by
  unfold State.domainOn
  (repeat' (
    first
    | with_reducible assumption
    | (extract_lets +onlyGivenNames x; refine keeps_suff (s₀ := s₀) x ?_ (fun _ => ?_); (on_goal 1 => subst x); (on_goal 2 => try
        clear_value x))
    | extract_lets +onlyGivenNames _
    | with_reducible (refine foldl_keeps ?_ (fun _ _ _ => ?_) <;> try beta_reduce)
    | with_reducible apply State.setPd_keeps
    | with_reducible apply State.coreOn_keeps
    | with_reducible apply State.setObj_keeps
    | with_reducible apply State.setPort_keeps
    | with_reducible apply State.setPortState_keeps
    | with_reducible apply State.startChrono_keeps
    | with_reducible apply ite_keeps))

theorem State.dropWaiting_keeps {s₀ s : State} (d : ℕ) (h : s₀.Keeps s) : s₀.Keeps (State.dropWaiting s d) := by
  unfold State.dropWaiting
  (repeat' (
    first
    | with_reducible assumption
    | (extract_lets +onlyGivenNames x; refine keeps_suff (s₀ := s₀) x ?_ (fun _ => ?_); (on_goal 1 => subst x); (on_goal 2 => try
        clear_value x))
    | extract_lets +onlyGivenNames _
    | with_reducible (refine foldl_keeps ?_ (fun _ _ _ => ?_) <;> try beta_reduce)
    | with_reducible apply State.setPd_keeps
    | with_reducible (fail_if_no_progress apply State.keeps_mk)))

theorem State.emergencyOff_keeps {s₀ s : State} (cause : ℕ) (h : s₀.Keeps s) : s₀.Keeps (State.emergencyOff s cause) := by
  unfold State.emergencyOff
  grind only [State.keeps_mk, outKeeps_next, outKeeps_fault, outKeeps_refused, State.setObj_keeps, State.allOff_keeps,
      State.alert_keeps, State.pwrStatus_keeps, State.logEvent_keeps]

theorem State.excursion_keeps {s₀ s : State} (core : ℕ) (h : s₀.Keeps s) : s₀.Keeps (State.excursion s core) := by
  unfold State.excursion
  grind only [State.keeps_mk, outKeeps_next, outKeeps_fault, outKeeps_refused, State.driftEvent_keeps]

theorem State.powerDown_keeps {s₀ s : State} (h : s₀.Keeps s) : s₀.Keeps (State.powerDown s) := by
  unfold State.powerDown
  grind only [State.keeps_mk, outKeeps_next, outKeeps_fault, outKeeps_refused, State.setRequest_keeps]

theorem State.powerLimit_keeps {s₀ s : State} (p : ℕ) (h : s₀.Keeps s) : s₀.Keeps (State.powerLimit s p) := by
  unfold State.powerLimit
  (repeat' (
    first
    | with_reducible assumption
    | (extract_lets +onlyGivenNames x; refine keeps_suff (s₀ := s₀) x ?_ (fun _ => ?_); (on_goal 1 => subst x); (on_goal 2 => try
        clear_value x))
    | extract_lets +onlyGivenNames _
    | with_reducible apply State.powerDown_keeps
    | with_reducible apply State.pwrStatus_keeps
    | with_reducible apply State.setRequest_keeps
    | with_reducible (fail_if_no_progress apply State.keeps_mk)
    | with_reducible apply ite_keeps))

theorem State.readSite_keeps {s₀ s : State} (site : ℕ) (r : Option ℤ × Option ℤ) (h : s₀.Keeps s) : s₀.Keeps (State.readSite s site r)
    := by
  unfold State.readSite
  grind only [State.keeps_mk, outKeeps_next, outKeeps_fault, outKeeps_refused, State.moduleHealth_keeps, State.setObj_keeps]

theorem State.recordSample_keeps {s₀ s : State} (mv : ℕ) (ma : ℕ) (h : s₀.Keeps s) : s₀.Keeps (State.recordSample s mv ma) := by
  unfold State.recordSample
  grind only [State.keeps_mk, outKeeps_next, outKeeps_fault, outKeeps_refused, State.setObjs_keeps, State.count_keeps]

theorem State.sensorRequest_keeps {s₀ s : State} (h : s₀.Keeps s) : s₀.Keeps (State.sensorRequest s) := by
  unfold State.sensorRequest
  grind only [State.keeps_mk, outKeeps_next, outKeeps_fault, outKeeps_refused, State.setRequest_keeps]

theorem State.voltage_keeps {s₀ s : State} (mv : ℕ) (h : s₀.Keeps s) : s₀.Keeps (State.voltage s mv) := by
  unfold State.voltage
  (repeat' (
    first
    | with_reducible assumption
    | (extract_lets +onlyGivenNames x; refine keeps_suff (s₀ := s₀) x ?_ (fun _ => ?_); (on_goal 1 => subst x); (on_goal 2 => try
        clear_value x))
    | extract_lets +onlyGivenNames _
    | with_reducible apply State.alert_keeps
    | with_reducible apply State.pwrStatus_keeps
    | with_reducible apply State.setRequests_keeps
    | with_reducible apply State.post_keeps
    | with_reducible (fail_if_no_progress apply State.keeps_mk)
    | with_reducible apply ite_keeps))

theorem State.wakeOn_keeps {s₀ s t : State} (h : s₀.Keeps t) : s₀.Keeps (State.wakeOn s t) := ite_keeps h (State.hmuWork_keeps h)

theorem withDomain_keeps {s₀ s : State} (d : ℕ) (k : Out) (h : s₀.Keeps s) (h_k : OutKeeps s₀ k) : OutKeeps s₀ (withDomain s d k) := by
  unfold withDomain
  grind only [State.keeps_mk, outKeeps_next, outKeeps_fault, outKeeps_refused]

theorem doDomainPowerGood_keeps {s₀ s : State} (d : ℕ) (h : s₀.Keeps s) : OutKeeps s₀ (doDomainPowerGood d s) := by
  unfold doDomainPowerGood
  grind only [State.keeps_mk, outKeeps_next, outKeeps_fault, outKeeps_refused, withDomain_keeps, State.nextRamps_keeps,
      State.domainOn_keeps]

theorem doDomainWakeFail_keeps {s₀ s : State} (d : ℕ) (h : s₀.Keeps s) : OutKeeps s₀ (doDomainWakeFail d s) := by
  unfold doDomainWakeFail
  (repeat' (
    first
    | with_reducible assumption
    | (extract_lets +onlyGivenNames x; refine keeps_suff (s₀ := s₀) x ?_ (fun _ => ?_); (on_goal 1 => subst x); (on_goal 2 => try
        clear_value x))
    | extract_lets +onlyGivenNames _
    | with_reducible apply withDomain_keeps
    | with_reducible apply State.setPd_keeps
    | with_reducible apply State.alert_keeps
    | with_reducible apply State.pwrStatus_keeps
    | with_reducible apply State.nextRamps_keeps
    | with_reducible apply State.dropWaiting_keeps
    | with_reducible apply State.logEvent_keeps
    | with_reducible (fail_if_no_progress apply State.keeps_mk)
    | with_reducible apply outKeeps_next
    | with_reducible apply ite_out))

theorem doEpoN_keeps {s₀ s : State} (h : s₀.Keeps s) : OutKeeps s₀ (doEpoN s) := by
  unfold doEpoN
  grind only [State.keeps_mk, outKeeps_next, outKeeps_fault, outKeeps_refused, State.hmuWork_keeps, State.emergencyOff_keeps]

theorem doEpoNRelease_keeps {s₀ s : State} (h : s₀.Keeps s) : OutKeeps s₀ (doEpoNRelease s) := by
  unfold doEpoNRelease
  grind only [State.keeps_mk, outKeeps_next, outKeeps_fault, outKeeps_refused, State.hmuWork_keeps]

theorem doInputSample_keeps {s₀ s : State} (mv : ℕ) (ma : ℕ) (h : s₀.Keeps s) : OutKeeps s₀ (doInputSample mv ma s) := by
  unfold doInputSample
  grind only [State.keeps_mk, outKeeps_next, outKeeps_fault, outKeeps_refused, State.wakeOn_keeps, State.powerLimit_keeps,
      State.voltage_keeps, State.recordSample_keeps]

theorem withDie_keeps {s₀ s : State} (die : ℕ) (k : Out) (h : s₀.Keeps s) (h_k : OutKeeps s₀ k) : OutKeeps s₀ (withDie s die k) := by
  unfold withDie
  grind only [State.keeps_mk, outKeeps_next, outKeeps_fault, outKeeps_refused]

theorem doPllLock_keeps {s₀ s : State} (die : ℕ) (h : s₀.Keeps s) : OutKeeps s₀ (doPllLock die s) := by
  unfold doPllLock
  grind only [State.keeps_mk, outKeeps_next, outKeeps_fault, outKeeps_refused, withDie_keeps, State.switchStep_keeps, State.setPll_keeps]

theorem doSiteTempSample_keeps {s₀ s : State} (readings : List (Option ℤ × Option ℤ)) (h : s₀.Keeps s) : OutKeeps s₀ (doSiteTempSample
    readings s) := by
  unfold doSiteTempSample
  (repeat' (
    first
    | with_reducible assumption
    | (extract_lets +onlyGivenNames x; refine keeps_suff (s₀ := s₀) x ?_ (fun _ => ?_); (on_goal 1 => subst x); (on_goal 2 => try
        clear_value x))
    | extract_lets +onlyGivenNames _
    | with_reducible (refine foldl_keeps ?_ (fun _ _ _ => ?_) <;> try beta_reduce)
    | with_reducible apply State.sensorRequest_keeps
    | with_reducible apply State.readSite_keeps
    | with_reducible apply State.wakeOn_keeps
    | with_reducible apply State.excursion_keeps
    | with_reducible apply State.actXd_keeps
    | with_reducible apply State.actDie_keeps
    | with_reducible apply outKeeps_next
    | with_reducible apply ite_out))

theorem doThrottleN_keeps {s₀ s : State} (h : s₀.Keeps s) : OutKeeps s₀ (doThrottleN s) := by
  unfold doThrottleN
  grind only [State.keeps_mk, outKeeps_next, outKeeps_fault, outKeeps_refused, State.hmuWork_keeps, State.setRequests_keeps,
      State.pwrStatus_keeps]

theorem doThrottleNRelease_keeps {s₀ s : State} (h : s₀.Keeps s) : OutKeeps s₀ (doThrottleNRelease s) := by
  unfold doThrottleNRelease
  grind only [State.keeps_mk, outKeeps_next, outKeeps_fault, outKeeps_refused, State.hmuWork_keeps, State.setRequests_keeps]

theorem doThrottleStepUp_keeps {s₀ s : State} (die : ℕ) (h : s₀.Keeps s) : OutKeeps s₀ (doThrottleStepUp die s) := by
  unfold doThrottleStepUp
  grind only [State.keeps_mk, outKeeps_next, outKeeps_fault, outKeeps_refused, withDie_keeps, State.toStep_keeps, State.setPll_keeps]

end Sys2Proof.Machine
end

