-- ==== Sys2Proof/Laws/Keeps/Reserves.lean ====
section
/-! SUPPORT. What the functions of Machine/Reserves.lean keep (`State.Keeps`): one lemma for each, cited by those of its callers. -/

namespace Sys2Proof.Machine

set_option linter.tactic.unusedName false

theorem State.swapLane_keeps {s₀ s : State} (x : ℕ) (h : s₀.Keeps s) : s₀.Keeps (State.swapLane s x) := by
  unfold State.swapLane
  grind only [State.keeps_mk, outKeeps_next, outKeeps_fault, outKeeps_refused, State.writePortCtrl_keeps, State.setObj_keeps]

theorem State.swapLanes_keeps {s₀ s : State} (h : s₀.Keeps s) : s₀.Keeps (State.swapLanes s) := by
  unfold State.swapLanes
  (repeat' (
    first
    | with_reducible assumption
    | with_reducible (refine foldl_keeps ?_ (fun _ _ _ => ?_) <;> try beta_reduce)
    | with_reducible apply State.swapLane_keeps))

theorem State.setSwaps_keeps {s₀ s : State} (l : List Swap) (h : s₀.Keeps s) : s₀.Keeps (State.setSwaps s l) := by
  unfold State.setSwaps
  grind only [State.keeps_mk, outKeeps_next, outKeeps_fault, outKeeps_refused]

theorem State.setIdleSince_keeps {s₀ s : State} (core : ℕ) (a_t : Option ℕ) (h : s₀.Keeps s) : s₀.Keeps (State.setIdleSince s core a_t)
    := by
  unfold State.setIdleSince
  grind only [State.keeps_mk, outKeeps_next, outKeeps_fault, outKeeps_refused]

theorem State.setRsv_keeps {s₀ s : State} (core : ℕ) (v : ℕ) (h : s₀.Keeps s) : s₀.Keeps (State.setRsv s core v) := by
  unfold State.setRsv
  grind only [State.keeps_mk, outKeeps_next, outKeeps_fault, outKeeps_refused, State.setObj_keeps]

theorem State.wakeReserve_keeps {s₀ s : State} (core : ℕ) (h : s₀.Keeps s) : s₀.Keeps (State.wakeReserve s core) := by
  unfold State.wakeReserve
  grind only [State.keeps_mk, outKeeps_next, outKeeps_fault, outKeeps_refused, State.wakeAll_keeps, State.setRsv_keeps]

theorem State.giveReserve_keeps {s₀ s : State} (core : ℕ) (reserve : ℕ) (h : s₀.Keeps s) : s₀.Keeps (State.giveReserve s core reserve)
    := by
  unfold State.giveReserve
  grind only [State.keeps_mk, outKeeps_next, outKeeps_fault, outKeeps_refused, State.setIdleSince_keeps, State.setSwaps_keeps,
      State.wakeReserve_keeps, State.post_keeps]

theorem State.findAgain_keeps {s₀ s : State} (h : s₀.Keeps s) : s₀.Keeps (State.findAgain s) := by
  unfold State.findAgain
  (repeat' (
    first
    | with_reducible assumption
    | extract_lets +onlyGivenNames _
    | with_reducible (refine foldl_keeps ?_ (fun _ _ _ => ?_) <;> try beta_reduce)
    | with_reducible apply State.giveReserve_keeps
    | split))

theorem State.cancelSwap_keeps {s₀ s : State} (core : ℕ) (h : s₀.Keeps s) : s₀.Keeps (State.cancelSwap s core) := by
  unfold State.cancelSwap
  (repeat' (
    first
    | with_reducible assumption
    | (extract_lets +onlyGivenNames x; refine keeps_suff (s₀ := s₀) x ?_ (fun _ => ?_); (on_goal 1 => subst x); (on_goal 2 => try
        clear_value x))
    | extract_lets +onlyGivenNames _
    | with_reducible (refine foldl_keeps ?_ (fun _ _ _ => ?_) <;> try beta_reduce)
    | with_reducible apply State.setSwaps_keeps
    | with_reducible apply State.findAgain_keeps
    | with_reducible apply State.setIdleSince_keeps
    | with_reducible apply ite_keeps))

theorem State.findReserve_keeps {s₀ s : State} (core : ℕ) (h : s₀.Keeps s) : s₀.Keeps (State.findReserve s core) := by
  unfold State.findReserve
  grind only [State.keeps_mk, outKeeps_next, outKeeps_fault, outKeeps_refused, State.giveReserve_keeps, State.moduleHealth_keeps]

theorem State.enterSwap_keeps {s₀ s : State} (core : ℕ) (h : s₀.Keeps s) : s₀.Keeps (State.enterSwap s core) := by
  unfold State.enterSwap
  grind only [State.keeps_mk, outKeeps_next, outKeeps_fault, outKeeps_refused, State.setSwaps_keeps]

theorem State.writeRsvSwap_keeps {s₀ s : State} (v : ℕ) (h : s₀.Keeps s) : s₀.Keeps (State.writeRsvSwap s v).1 := by
  unfold State.writeRsvSwap
  grind only [State.keeps_mk, outKeeps_next, outKeeps_fault, outKeeps_refused, State.no_keeps, State.ok_keeps, State.cancelSwap_keeps,
      State.findReserve_keeps, State.enterSwap_keeps, State.moduleHealth_keeps, State.giveReserve_keeps]

theorem State.writeBankThresh_keeps {s₀ s : State} (v : ℕ) (h : s₀.Keeps s) : s₀.Keeps (State.writeBankThresh s v).1 := by
  unfold State.writeBankThresh
  (repeat' (
    first
    | with_reducible assumption
    | extract_lets +onlyGivenNames _
    | with_reducible (refine foldl_keeps ?_ (fun _ _ _ => ?_) <;> try beta_reduce)
    | with_reducible apply State.ok_keeps
    | with_reducible apply State.bankTrigger_keeps
    | with_reducible apply State.setObj_keeps))

theorem State.freshReserve_keeps {s₀ s : State} (r : ℕ) (h : s₀.Keeps s) : s₀.Keeps (State.freshReserve s r) := by
  unfold State.freshReserve
  grind only [State.keeps_mk, outKeeps_next, outKeeps_fault, outKeeps_refused, State.setCore_keeps, State.setObjs_keeps]

theorem State.copyObjects_keeps {s₀ s : State} (src : ℕ) (dst : ℕ) (h : s₀.Keeps s) : s₀.Keeps (State.copyObjects s src dst) := by
  unfold State.copyObjects
  grind only [State.keeps_mk, outKeeps_next, outKeeps_fault, outKeeps_refused, State.setCore_keeps, State.stepLanes_keeps,
      State.setObjs_keeps]

theorem State.copyCore_keeps {s₀ s : State} (src : ℕ) (dst : ℕ) (h : s₀.Keeps s) : s₀.Keeps (State.copyCore s src dst) := by
  unfold State.copyCore
  extract_lets t g bytes bad tiles
  have k : s₀.Keeps t := foldl_keeps h (fun _ _ k => State.noteError_keeps _ _ k)
  clear_value t
  exact State.keeps_mk5 k (le_refl _) (fun w => Sparse.wf_setMany _ _ (Sparse.wf_eraseRange _ _ _ w)) id

theorem State.retire_keeps {s₀ s : State} (core : ℕ) (reserve : ℕ) (mark : Bool) (h : s₀.Keeps s) : s₀.Keeps (State.retire s core
    reserve mark) := by
  unfold State.retire
  grind only [State.keeps_mk, outKeeps_next, outKeeps_fault, outKeeps_refused, State.coreOff_keeps, State.persist_keeps,
      State.setObj_keeps]

theorem State.handState_keeps {s₀ s : State} (armed : Bool) (mode : ℕ) (reserve : ℕ) (h : s₀.Keeps s) : s₀.Keeps (State.handState s
    armed mode reserve) := by
  unfold State.handState
  grind only [State.keeps_mk, outKeeps_next, outKeeps_fault, outKeeps_refused, State.setCore_keeps, State.setCoreSt_keeps]

theorem State.moveSlice_keeps {s₀ s : State} (src : ℕ) (dst : ℕ) (h : s₀.Keeps s) : s₀.Keeps (State.moveSlice s src dst) := by
  unfold State.moveSlice
  (repeat' (
    first
    | with_reducible assumption
    | (extract_lets +onlyGivenNames x; refine keeps_suff (s₀ := s₀) x ?_ (fun _ => ?_); (on_goal 1 => subst x); (on_goal 2 => try
        clear_value x))
    | with_reducible (refine foldl_keeps ?_ (fun _ _ _ => ?_) <;> try beta_reduce)
    | with_reducible apply State.setObj_keeps
    | split))

theorem State.pairOff_keeps {s₀ s : State} (core : ℕ) (h : s₀.Keeps s) : s₀.Keeps (State.pairOff s core) := by
  unfold State.pairOff
  grind only [State.keeps_mk, outKeeps_next, outKeeps_fault, outKeeps_refused, State.domainOff_keeps]

theorem State.swapCores_keeps {s₀ s : State} (c : ℕ) (r : ℕ) (h : s₀.Keeps s) : s₀.Keeps (State.swapCores s c r) := by
  unfold State.swapCores
  (repeat' (
    first
    | with_reducible assumption
    | (extract_lets +onlyGivenNames x; refine keeps_suff (s₀ := s₀) x ?_ (fun _ => ?_); (on_goal 1 => subst x); (on_goal 2 => try
        clear_value x))
    | extract_lets +onlyGivenNames _
    | with_reducible apply State.freshReserve_keeps
    | with_reducible apply State.copyObjects_keeps
    | with_reducible apply State.copyCore_keeps
    | with_reducible apply State.retire_keeps
    | with_reducible apply State.handState_keeps
    | with_reducible apply State.setRsv_keeps
    | with_reducible apply State.moveSlice_keeps
    | with_reducible apply State.pairOff_keeps
    | with_reducible apply State.setSwaps_keeps
    | with_reducible apply State.logEvent_keeps
    | with_reducible apply State.moduleHealth_keeps
    | with_reducible (fail_if_no_progress apply State.keeps_mk)
    | with_reducible apply ite_keeps))

theorem State.performSwap_keeps {s₀ s : State} (w : Swap) (h : s₀.Keeps s) : s₀.Keeps (State.performSwap s w) := by
  unfold State.performSwap
  grind only [State.keeps_mk, outKeeps_next, outKeeps_fault, outKeeps_refused, State.swapCores_keeps]

theorem State.performSwaps_keeps {s₀ s : State} (h : s₀.Keeps s) : s₀.Keeps (State.performSwaps s) := by
  unfold State.performSwaps
  (repeat' (
    first
    | with_reducible assumption
    | with_reducible (refine foldl_keeps ?_ (fun _ _ _ => ?_) <;> try beta_reduce)
    | with_reducible apply State.performSwap_keeps))

theorem State.autoSwap_keeps {s₀ s : State} (core : ℕ) (h : s₀.Keeps s) : s₀.Keeps (State.autoSwap s core) := by
  unfold State.autoSwap
  grind only [State.keeps_mk, outKeeps_next, outKeeps_fault, outKeeps_refused, State.findReserve_keeps, State.enterSwap_keeps]

theorem State.spareBank_keeps {s₀ s : State} (w : ℕ × ℕ) (h : s₀.Keeps s) : s₀.Keeps (State.spareBank s w) := by
  unfold State.spareBank
  (repeat' (
    first
    | with_reducible assumption
    | (extract_lets +onlyGivenNames x; refine keeps_suff (s₀ := s₀) x ?_ (fun _ => ?_); (on_goal 1 => subst x); (on_goal 2 => try
        clear_value x))
    | extract_lets +onlyGivenNames _
    | with_reducible (refine foldl_keeps ?_ (fun _ _ _ => ?_) <;> try beta_reduce)
    | with_reducible apply State.noteError_keeps
    | with_reducible apply State.setObj_keeps
    | with_reducible apply State.moduleHealth_keeps
    | with_reducible (fail_if_no_progress apply State.keeps_mk)))

theorem State.spareBanks_keeps {s₀ s : State} (h : s₀.Keeps s) : s₀.Keeps (State.spareBanks s) := by
  unfold State.spareBanks
  (repeat' (
    first
    | with_reducible assumption
    | (extract_lets +onlyGivenNames x; refine keeps_suff (s₀ := s₀) x ?_ (fun _ => ?_); (on_goal 1 => subst x); (on_goal 2 => try
        clear_value x))
    | extract_lets +onlyGivenNames _
    | with_reducible (refine foldl_keeps ?_ (fun _ _ _ => ?_) <;> try beta_reduce)
    | with_reducible apply State.spareBank_keeps
    | with_reducible apply State.bankTrigger_keeps
    | with_reducible (fail_if_no_progress apply State.keeps_mk)
    | with_reducible apply ite_keeps))

theorem State.bringIn_keeps {s₀ s : State} (h : s₀.Keeps s) : s₀.Keeps (State.bringIn s) := by
  unfold State.bringIn
  grind only [State.keeps_mk, outKeeps_next, outKeeps_fault, outKeeps_refused, State.swapLanes_keeps, State.spareBanks_keeps,
      State.performSwaps_keeps]

theorem State.preloadRecord_keeps {s₀ s : State} (reserve : ℕ) (core : ℕ) (h : s₀.Keeps s) : s₀.Keeps (State.preloadRecord s reserve
    core) := by
  unfold State.preloadRecord
  grind only [State.keeps_mk, outKeeps_next, outKeeps_fault, outKeeps_refused, State.setRecord_keeps, State.noteRead_keeps]

theorem State.preload_keeps {s₀ s : State} (reserve : ℕ) (core : ℕ) (h : s₀.Keeps s) : s₀.Keeps (State.preload s reserve core) := by
  unfold State.preload
  (repeat' (
    first
    | with_reducible assumption
    | extract_lets +onlyGivenNames _
    | with_reducible (refine foldl_keeps ?_ (fun _ _ _ => ?_) <;> try beta_reduce)
    | with_reducible apply State.preloadRecord_keeps
    | with_reducible apply State.setCore_keeps
    | with_reducible apply ite_keeps))

theorem doLaneSwapRequest_keeps {s₀ s : State} (port : ℕ) (lane : ℕ) (h : s₀.Keeps s) : OutKeeps s₀ (doLaneSwapRequest port lane s) := by
  unfold doLaneSwapRequest
  grind only [State.keeps_mk, outKeeps_next, outKeeps_fault, outKeeps_refused, withPort_keeps, State.closeWindow_keeps, State.post_keeps]

theorem doPhaseShed_keeps {s₀ s : State} (rail : Rail) (h : s₀.Keeps s) : OutKeeps s₀ (doPhaseShed rail s) := by
  unfold doPhaseShed
  (repeat' (
    first
    | with_reducible assumption
    | (extract_lets +onlyGivenNames x; refine keeps_suff (s₀ := s₀) x ?_ (fun _ => ?_); (on_goal 1 => subst x); (on_goal 2 => try
        clear_value x))
    | extract_lets +onlyGivenNames _
    | with_reducible apply State.moduleHealth_keeps
    | with_reducible apply State.count_keeps
    | with_reducible apply State.setRequest_keeps
    | with_reducible apply State.setRequests_keeps
    | with_reducible (fail_if_no_progress apply State.keeps_mk)
    | with_reducible apply outKeeps_next
    | with_reducible apply ite_out
    | split))

theorem doReserveIdleTimeout_keeps {s₀ s : State} (core : ℕ) (h : s₀.Keeps s) : OutKeeps s₀ (doReserveIdleTimeout core s) := by
  unfold doReserveIdleTimeout
  grind only [State.keeps_mk, outKeeps_next, outKeeps_fault, outKeeps_refused, State.pairOff_keeps, State.coreOff_keeps,
      State.setIdleSince_keeps, State.setRsv_keeps]

theorem doReserveReady_keeps {s₀ s : State} (core : ℕ) (pass : Bool) (h : s₀.Keeps s) : OutKeeps s₀ (doReserveReady core pass s) := by
  unfold doReserveReady
  (repeat' (
    first
    | with_reducible assumption
    | (extract_lets +onlyGivenNames x; refine keeps_suff (s₀ := s₀) x ?_ (fun _ => ?_); (on_goal 1 => subst x); (on_goal 2 => try
        clear_value x))
    | extract_lets +onlyGivenNames _
    | with_reducible apply State.setRsv_keeps
    | with_reducible apply State.setCoreSt_keeps
    | with_reducible apply State.coreReset_keeps
    | with_reducible apply State.setObjs_keeps
    | with_reducible apply State.post_keeps
    | with_reducible apply State.preload_keeps
    | with_reducible apply State.findAgain_keeps
    | with_reducible apply State.setIdleSince_keeps
    | with_reducible apply State.driftEvent_keeps
    | with_reducible apply State.moduleHealth_keeps
    | with_reducible apply State.logEvent_keeps
    | with_reducible apply State.findReserve_keeps
    | with_reducible apply State.setSwaps_keeps
    | with_reducible apply outKeeps_next
    | with_reducible apply ite_out
    | split))

theorem doSensorLost_keeps {s₀ s : State} (site : ℕ) (sensor : ℕ) (h : s₀.Keeps s) : OutKeeps s₀ (doSensorLost site sensor s) := by
  unfold doSensorLost
  grind only [State.keeps_mk, outKeeps_next, outKeeps_fault, outKeeps_refused, State.sensorRequest_keeps, State.moduleHealth_keeps]

end Sys2Proof.Machine
end

