-- ==== Sys2Proof/Laws/Keeps/Drift.lean ====
section
/-! SUPPORT. What the functions of Machine/Drift.lean keep (`State.Keeps`): one lemma for each, cited by those of its callers. -/

namespace Sys2Proof.Machine

set_option linter.tactic.unusedName false

theorem State.writeDriftThresh_keeps {s₀ s : State} (key : ℕ) (v : ℕ) (h : s₀.Keeps s) : s₀.Keeps (State.writeDriftThresh s key v).1 := by
  unfold State.writeDriftThresh
  grind only [State.keeps_mk, outKeeps_next, outKeeps_fault, outKeeps_refused, State.ok_keeps, State.setObj_keeps, State.no_keeps]

theorem State.writeSparePressure_keeps {s₀ s : State} (v : ℕ) (h : s₀.Keeps s) : s₀.Keeps (State.writeSparePressure s v).1 := by
  unfold State.writeSparePressure
  grind only [State.keeps_mk, outKeeps_next, outKeeps_fault, outKeeps_refused, State.ok_keeps, State.setObjs_keeps]

theorem State.writeRetiredMap_keeps {s₀ s : State} (v : ℕ) (h : s₀.Keeps s) : s₀.Keeps (State.writeRetiredMap s v).1 := by
  unfold State.writeRetiredMap
  grind only [State.keeps_mk, outKeeps_next, outKeeps_fault, outKeeps_refused, State.no_keeps, State.ok_keeps, State.setObj_keeps]

theorem State.autoSwaps_keeps {s₀ s : State} (old : ℕ → ℕ) (h : s₀.Keeps s) : s₀.Keeps (State.autoSwaps s old) := by
  unfold State.autoSwaps
  (repeat' (
    first
    | with_reducible assumption
    | extract_lets +onlyGivenNames _
    | with_reducible (refine foldl_keeps ?_ (fun _ _ _ => ?_) <;> try beta_reduce)
    | with_reducible apply State.autoSwap_keeps
    | with_reducible apply ite_keeps))

theorem State.noteCalm_keeps {s₀ s : State} (unit : ℕ) (word : ℕ) (score : ℕ) (h : s₀.Keeps s) : s₀.Keeps (State.noteCalm s unit word
    score) := by
  unfold State.noteCalm
  (repeat' (
    first
    | with_reducible assumption
    | extract_lets +onlyGivenNames _
    | with_reducible (refine foldl_keeps ?_ (fun _ _ _ => ?_) <;> try beta_reduce)
    | with_reducible (fail_if_no_progress apply State.keeps_mk)))

theorem State.evalCore_keeps {s₀ s : State} (n : ℕ) (h : s₀.Keeps s) : s₀.Keeps (State.evalCore s n) := by
  unfold State.evalCore
  grind only [State.keeps_mk, outKeeps_next, outKeeps_fault, outKeeps_refused, State.noteCalm_keeps, State.setObjs_keeps]

theorem State.evalModule_keeps {s₀ s : State} (h : s₀.Keeps s) : s₀.Keeps (State.evalModule s) := by
  unfold State.evalModule
  grind only [State.keeps_mk, outKeeps_next, outKeeps_fault, outKeeps_refused, State.noteCalm_keeps, State.setObjs_keeps,
      State.moduleHealth_keeps]

theorem doDriftEvaluation_keeps {s₀ s : State} (canaries : List (ℕ × ℤ)) (xdLost : ℕ) (h : s₀.Keeps s) : OutKeeps s₀ (doDriftEvaluation
    canaries xdLost s) := by
  unfold doDriftEvaluation
  (repeat' (
    first
    | with_reducible assumption
    | (extract_lets +onlyGivenNames x; refine keeps_suff (s₀ := s₀) x ?_ (fun _ => ?_); (on_goal 1 => subst x); (on_goal 2 => try
        clear_value x))
    | extract_lets +onlyGivenNames _
    | with_reducible (refine foldl_keeps ?_ (fun _ _ _ => ?_) <;> try beta_reduce)
    | with_reducible apply State.hmuWork_keeps
    | with_reducible apply State.setObj_keeps
    | with_reducible apply State.evalModule_keeps
    | with_reducible apply State.findAgain_keeps
    | with_reducible apply State.autoSwaps_keeps
    | with_reducible apply State.evalCore_keeps
    | with_reducible (fail_if_no_progress apply State.keeps_mk)
    | with_reducible apply outKeeps_next
    | with_reducible apply ite_keeps
    | with_reducible apply ite_out))

theorem doDriftPersist_keeps {s₀ s : State} (h : s₀.Keeps s) : OutKeeps s₀ (doDriftPersist s) := by
  unfold doDriftPersist
  (repeat' (
    first
    | with_reducible assumption
    | extract_lets +onlyGivenNames _
    | with_reducible apply State.flashWrite_keeps
    | with_reducible (fail_if_no_progress apply State.keeps_mk)
    | with_reducible apply outKeeps_next
    | with_reducible apply ite_out))

end Sys2Proof.Machine
end

