-- ==== Sys2Proof/Laws/Keeps/Firmware.lean ====
section
/-! SUPPORT. What the functions of Machine/Firmware.lean keep (`State.Keeps`): one lemma for each, cited by those of its callers. -/

namespace Sys2Proof.Machine

set_option linter.tactic.unusedName false

theorem State.writeFwChunk_keeps {s₀ s : State} (l : List Byte) (h : s₀.Keeps s) : s₀.Keeps (State.writeFwChunk s l).1 := by
  unfold State.writeFwChunk
  grind only [State.keeps_mk, outKeeps_next, outKeeps_fault, outKeeps_refused, State.no_keeps, State.ok_keeps, State.setObj_keeps]

theorem State.writeCfgChunk_keeps {s₀ s : State} (l : List Byte) (h : s₀.Keeps s) : s₀.Keeps (State.writeCfgChunk s l).1 := by
  unfold State.writeCfgChunk
  grind only [State.keeps_mk, outKeeps_next, outKeeps_fault, outKeeps_refused, State.ok_keeps]

theorem State.writeAttNonce_keeps {s₀ s : State} (v : ℕ) (h : s₀.Keeps s) : s₀.Keeps (State.writeAttNonce s v).1 := by
  unfold State.writeAttNonce
  grind only [State.keeps_mk, outKeeps_next, outKeeps_fault, outKeeps_refused, State.no_keeps, State.ok_keeps, State.setObj_keeps]

theorem State.writeAttCtrl_keeps {s₀ s : State} (v : ℕ) (h : s₀.Keeps s) : s₀.Keeps (State.writeAttCtrl s v).1 := by
  unfold State.writeAttCtrl
  grind only [State.keeps_mk, outKeeps_next, outKeeps_fault, outKeeps_refused, State.no_keeps, State.ok_keeps, State.setObj_keeps]

theorem State.fwBegin_keeps {s₀ s : State} (h : s₀.Keeps s) : s₀.Keeps (State.fwBegin s).1 := by
  unfold State.fwBegin
  grind only [State.keeps_mk, outKeeps_next, outKeeps_fault, outKeeps_refused, State.ok_keeps, State.setObjs_keeps, State.no_keeps]

theorem State.fwVerify_keeps {s₀ s : State} (h : s₀.Keeps s) : s₀.Keeps (State.fwVerify s).1 := by
  unfold State.fwVerify
  grind only [State.keeps_mk, outKeeps_next, outKeeps_fault, outKeeps_refused, State.no_keeps, State.setObj_keeps, State.ok_keeps,
      State.setObjs_keeps]

theorem State.fwCommit_keeps {s₀ s : State} (h : s₀.Keeps s) : s₀.Keeps (State.fwCommit s).1 := by
  unfold State.fwCommit
  grind only [State.keeps_mk, outKeeps_next, outKeeps_fault, outKeeps_refused, State.no_keeps, State.ok_keeps, State.setObj_keeps]

theorem State.fwActivate_keeps {s₀ s : State} (h : s₀.Keeps s) : s₀.Keeps (State.fwActivate s).1 := by
  unfold State.fwActivate
  grind only [State.keeps_mk, outKeeps_next, outKeeps_fault, outKeeps_refused, State.ok_keeps, State.post_keeps, State.no_keeps]

theorem State.fwCancel_keeps {s₀ s : State} (h : s₀.Keeps s) : s₀.Keeps (State.fwCancel s).1 := by
  unfold State.fwCancel
  grind only [State.keeps_mk, outKeeps_next, outKeeps_fault, outKeeps_refused, State.ok_keeps, State.setObj_keeps, State.no_keeps]

theorem State.writeFwCtrl_keeps {s₀ s : State} (v : ℕ) (h : s₀.Keeps s) : s₀.Keeps (State.writeFwCtrl s v).1 := by
  unfold State.writeFwCtrl
  grind only [State.keeps_mk, outKeeps_next, outKeeps_fault, outKeeps_refused, State.fwBegin_keeps, State.fwVerify_keeps,
      State.fwCommit_keeps, State.fwActivate_keeps, State.fwCancel_keeps, State.no_keeps]

theorem State.writeFwOffset_keeps {s₀ s : State} (v : ℕ) (h : s₀.Keeps s) : s₀.Keeps (State.writeFwOffset s v).1 := by
  unfold State.writeFwOffset
  grind only [State.keeps_mk, outKeeps_next, outKeeps_fault, outKeeps_refused, State.no_keeps, State.ok_keeps, State.setObj_keeps]

theorem State.writeCfgOffset_keeps {s₀ s : State} (v : ℕ) (h : s₀.Keeps s) : s₀.Keeps (State.writeCfgOffset s v).1 := by
  unfold State.writeCfgOffset
  grind only [State.keeps_mk, outKeeps_next, outKeeps_fault, outKeeps_refused, State.ok_keeps, State.setObj_keeps, State.no_keeps]

theorem State.showRecord_keeps {s₀ s : State} (r : List Byte) (h : s₀.Keeps s) : s₀.Keeps (State.showRecord s r) := by
  unfold State.showRecord
  grind only [State.keeps_mk, outKeeps_next, outKeeps_fault, outKeeps_refused, State.setObjs_keeps]

theorem State.cfgApply_keeps {s₀ s : State} (h : s₀.Keeps s) : s₀.Keeps (State.cfgApply s).1 := by
  unfold State.cfgApply
  grind only [State.keeps_mk, outKeeps_next, outKeeps_fault, outKeeps_refused, State.no_keeps, State.ok_keeps, State.flashWrite_keeps,
      State.showRecord_keeps]

theorem State.writeCfgCtrl_keeps {s₀ s : State} (v : ℕ) (h : s₀.Keeps s) : s₀.Keeps (State.writeCfgCtrl s v).1 := by
  unfold State.writeCfgCtrl
  grind only [State.keeps_mk, outKeeps_next, outKeeps_fault, outKeeps_refused, State.ok_keeps, State.setObj_keeps,
      State.cfgApply_keeps, State.no_keeps]

theorem State.writeBistCtrl_keeps {s₀ s : State} (v : ℕ) (h : s₀.Keeps s) : s₀.Keeps (State.writeBistCtrl s v).1 := by
  unfold State.writeBistCtrl
  (repeat' (
    first
    | with_reducible assumption
    | (extract_lets +onlyGivenNames x; refine keeps_suff (s₀ := s₀) x ?_ (fun _ => ?_); (on_goal 1 => subst x); (on_goal 2 => try
        clear_value x))
    | extract_lets +onlyGivenNames _
    | with_reducible (refine foldl_keeps ?_ (fun _ _ _ => ?_) <;> try beta_reduce)
    | with_reducible apply State.no_keeps
    | with_reducible apply State.ok_keeps
    | with_reducible apply State.setObj_keeps
    | with_reducible apply State.setCoreSt_keeps
    | with_reducible (fail_if_no_progress apply State.keeps_mk)
    | with_reducible apply ite_fst))

theorem State.bistEnd_keeps {s₀ s : State} (x : ℕ × ℕ) (h : s₀.Keeps s) : s₀.Keeps (State.bistEnd s x) := by
  unfold State.bistEnd
  grind only [State.keeps_mk, outKeeps_next, outKeeps_fault, outKeeps_refused, State.coreOff_keeps, State.setCoreSt_keeps,
      State.coreReset_keeps]

theorem State.flashProgram_keeps {s₀ s : State} (bytes : ℕ) (h : s₀.Keeps s) : s₀.Keeps (State.flashProgram s bytes) := by
  unfold State.flashProgram
  (repeat' (
    first
    | with_reducible assumption
    | with_reducible (refine foldl_keeps ?_ (fun _ _ _ => ?_) <;> try beta_reduce)
    | with_reducible apply State.flashWrite_keeps))

theorem doAttDone_keeps {s₀ s : State} (h : s₀.Keeps s) : OutKeeps s₀ (doAttDone s) := by
  unfold doAttDone
  grind only [State.keeps_mk, outKeeps_next, outKeeps_fault, outKeeps_refused, State.setObjs_keeps]

theorem doBistDone_keeps {s₀ s : State} (failed : List ℕ) (h : s₀.Keeps s) : OutKeeps s₀ (doBistDone failed s) := by
  unfold doBistDone
  (repeat' (
    first
    | with_reducible assumption
    | (extract_lets +onlyGivenNames x; refine keeps_suff (s₀ := s₀) x ?_ (fun _ => ?_); (on_goal 1 => subst x); (on_goal 2 => try
        clear_value x))
    | extract_lets +onlyGivenNames _
    | with_reducible (refine foldl_keeps ?_ (fun _ _ _ => ?_) <;> try beta_reduce)
    | with_reducible apply State.bistEnd_keeps
    | with_reducible apply State.setObjs_keeps
    | with_reducible (fail_if_no_progress apply State.keeps_mk)
    | with_reducible apply outKeeps_next
    | with_reducible apply ite_out))

theorem doFwCommitDone_keeps {s₀ s : State} (h : s₀.Keeps s) : OutKeeps s₀ (doFwCommitDone s) := by
  unfold doFwCommitDone
  grind only [State.keeps_mk, outKeeps_next, outKeeps_fault, outKeeps_refused, State.setObjs_keeps, State.post_keeps,
      State.flashProgram_keeps]

end Sys2Proof.Machine
end

