-- ==== Sys2Proof/Laws/Keeps/Fix.lean ====
section
/-! SUPPORT. What the functions of Machine/Fix.lean keep (`State.Keeps`): one lemma for each, cited by those of its callers. -/

namespace Sys2Proof.Machine

set_option linter.tactic.unusedName false

theorem State.noteTouch_keeps {s₀ s : State} (h : s₀.Keeps s) : s₀.Keeps (State.noteTouch s) := by
  unfold State.noteTouch
  grind only [State.keeps_mk, outKeeps_next, outKeeps_fault, outKeeps_refused, State.noteSpans_keeps]

theorem State.zeroMaps_keeps {s₀ s : State} (h : s₀.Keeps s) : s₀.Keeps (State.zeroMaps s) := by
  unfold State.zeroMaps
  exact State.keeps_mk5 h (le_refl _) (fun w => Sparse.wf_eraseRange _ _ _ (Sparse.wf_eraseRange _ _ _ w)) id

theorem State.snapTouch_keeps {s₀ s : State} (h : s₀.Keeps s) : s₀.Keeps (State.snapTouch s) := by
  unfold State.snapTouch
  (repeat' (
    first
    | with_reducible assumption
    | extract_lets +onlyGivenNames _
    | with_reducible (refine foldl_keeps ?_ (fun _ _ _ => ?_) <;> try beta_reduce)
    | with_reducible apply State.writeNow_keeps
    | with_reducible apply State.noteRead_keeps
    | split))

theorem State.marksDone_keeps {s₀ s : State} (h : s₀.Keeps s) : s₀.Keeps (State.marksDone s) := by
  unfold State.marksDone
  grind only [State.keeps_mk, outKeeps_next, outKeeps_fault, outKeeps_refused, State.post_keeps, State.setObj_keeps]

theorem State.fixMark_keeps {s₀ s : State} (step : ℕ) (h : s₀.Keeps s) : s₀.Keeps (State.fixMark s step) := by
  unfold State.fixMark
  (repeat' (
    first
    | with_reducible assumption
    | (extract_lets +onlyGivenNames x; refine keeps_suff (s₀ := s₀) x ?_ (fun _ => ?_); (on_goal 1 => subst x); (on_goal 2 => try
        clear_value x))
    | extract_lets +onlyGivenNames _
    | with_reducible (refine foldl_keeps ?_ (fun _ _ _ => ?_) <;> try beta_reduce)
    | with_reducible apply State.noteTouch_keeps
    | with_reducible apply State.zeroMaps_keeps
    | with_reducible apply State.snapTouch_keeps
    | with_reducible apply State.setMark_keeps
    | with_reducible apply State.marksDone_keeps
    | with_reducible apply State.setObjs_keeps
    | with_reducible (fail_if_no_progress apply State.keeps_mk)
    | with_reducible apply ite_keeps))

theorem State.allocate_keeps {s₀ s : State} (h : s₀.Keeps s) : ∀ t, State.allocate s = some t → s₀.Keeps t.2 := by
  unfold State.allocate
  grind only [State.keeps_mk, outKeeps_next, outKeeps_fault, outKeeps_refused]

theorem State.setDir_keeps {s₀ s : State} (slot : ℕ) (e : ℕ) (h : s₀.Keeps s) : s₀.Keeps (State.setDir s slot e) := by
  unfold State.setDir
  grind only [State.keeps_mk, outKeeps_next, outKeeps_fault, outKeeps_refused, State.write_keeps]

theorem State.parityRow_keeps {s₀ s : State} (row : ℕ) (h : s₀.Keeps s) : ∀ t, State.parityRow s row = some t → s₀.Keeps t.2 := by
  unfold State.parityRow
  (repeat' (
    first
    | with_reducible assumption
    | (extract_lets +onlyGivenNames x; refine keeps_suff (s₀ := s₀) x ?_ (fun _ => ?_); (on_goal 1 => subst x); (on_goal 2 => try
        clear_value x))
    | extract_lets +onlyGivenNames _
    | with_reducible refine State.allocate_keeps ?_
    | with_reducible apply State.write_keeps
    | with_reducible apply State.setDir_keeps
    | with_reducible (fail_if_no_progress apply State.keeps_mk)
    | split
    | with_reducible (refine optsnd_keeps (by assumption) ?_)
    | with_reducible refine somesnd_keeps ?_
    | with_reducible exact nonesnd_keeps))

theorem State.closeRows_keeps {s₀ s : State} (h : s₀.Keeps s) : s₀.Keeps (State.closeRows s) := by
  unfold State.closeRows
  (repeat' (
    first
    | with_reducible assumption
    | (extract_lets +onlyGivenNames x; refine keeps_suff (s₀ := s₀) x ?_ (fun _ => ?_); (on_goal 1 => subst x); (on_goal 2 => try
        clear_value x))
    | extract_lets +onlyGivenNames _
    | with_reducible (refine foldl_keeps ?_ (fun _ _ _ => ?_) <;> try beta_reduce)
    | with_reducible apply State.setDir_keeps
    | with_reducible (fail_if_no_progress apply State.keeps_mk)))

theorem State.takeStripe_keeps {s₀ s : State} (f : Frame) (h : s₀.Keeps s) : s₀.Keeps (State.takeStripe f s).1 := by
  unfold State.takeStripe
  (repeat' (
    first
    | with_reducible assumption
    | (extract_lets +onlyGivenNames x; refine keeps_suff (s₀ := s₀) x ?_ (fun _ => ?_); (on_goal 1 => subst x); (on_goal 2 => try
        clear_value x))
    | extract_lets +onlyGivenNames _
    | with_reducible apply State.no_keeps
    | with_reducible refine State.parityRow_keeps _ ?_
    | with_reducible apply State.post_keeps
    | with_reducible apply State.write_keeps
    | with_reducible apply State.noteRead_keeps
    | with_reducible apply State.ok_keeps
    | with_reducible apply State.closeRows_keeps
    | with_reducible (fail_if_no_progress apply State.keeps_mk)
    | with_reducible apply ite_keeps
    | with_reducible apply ite_fst
    | split
    | with_reducible (refine optsnd_keeps (by assumption) ?_)))

theorem State.takeCount_keeps {s₀ s : State} (f : Frame) (h : s₀.Keeps s) : s₀.Keeps (State.takeCount f s).1 := by
  unfold State.takeCount
  grind only [State.keeps_mk, outKeeps_next, outKeeps_fault, outKeeps_refused, State.no_keeps, State.ok_keeps, State.post_keeps,
      State.closeRows_keeps]

theorem State.fixSend_keeps {s₀ s : State} (f : Frame) (h : s₀.Keeps s) : s₀.Keeps (State.fixSend s f) := by
  unfold State.fixSend
  grind only [State.keeps_mk, outKeeps_next, outKeeps_fault, outKeeps_refused, State.inject_keeps]

theorem State.fixDecide_keeps {s₀ s : State} (d : FixDecision) (h : s₀.Keeps s) : s₀.Keeps (State.fixDecide s d) := by
  unfold State.fixDecide
  grind only [State.keeps_mk, outKeeps_next, outKeeps_fault, outKeeps_refused, State.setObj_keeps, State.fixSend_keeps]

theorem State.takePrepared_keeps {s₀ s : State} (f : Frame) (h : s₀.Keeps s) : s₀.Keeps (State.takePrepared f s).1 := by
  unfold State.takePrepared
  grind only [State.keeps_mk, outKeeps_next, outKeeps_fault, outKeeps_refused, State.no_keeps, State.ok_keeps, State.fixSend_keeps,
      State.fixDecide_keeps]

theorem State.clearMarks_keeps {s₀ s : State} (h : s₀.Keeps s) : s₀.Keeps (State.clearMarks s) := by
  unfold State.clearMarks
  grind only [State.keeps_mk, outKeeps_next, outKeeps_fault, outKeeps_refused, State.releaseHeld_keeps, State.setObj_keeps,
      State.zeroMaps_keeps]

theorem State.setFixState_keeps {s₀ s : State} (v : ℕ) (h : s₀.Keeps s) : s₀.Keeps (State.setFixState s v) := by
  unfold State.setFixState
  grind only [State.keeps_mk, outKeeps_next, outKeeps_fault, outKeeps_refused, State.setObj_keeps]

theorem State.fixDiscard_keeps {s₀ s : State} (cause : ℕ) (h : s₀.Keeps s) : s₀.Keeps (State.fixDiscard s cause) := by
  unfold State.fixDiscard
  (repeat' (
    first
    | with_reducible assumption
    | (extract_lets +onlyGivenNames x; refine keeps_suff (s₀ := s₀) x ?_ (fun _ => ?_); (on_goal 1 => subst x); (on_goal 2 => try
        clear_value x))
    | extract_lets +onlyGivenNames _
    | with_reducible (refine foldl_keeps ?_ (fun _ _ _ => ?_) <;> try beta_reduce)
    | with_reducible apply State.clearMarks_keeps
    | with_reducible apply State.setDir_keeps
    | with_reducible apply State.count_keeps
    | with_reducible apply State.setFixState_keeps
    | with_reducible apply State.setObj_keeps
    | with_reducible apply State.logEvent_keeps
    | with_reducible (fail_if_no_progress apply State.keeps_mk)
    | with_reducible apply ite_keeps))

theorem State.fixCommit_keeps {s₀ s : State} (h : s₀.Keeps s) : s₀.Keeps (State.fixCommit s) := by
  unfold State.fixCommit
  (repeat' (
    first
    | with_reducible assumption
    | (extract_lets +onlyGivenNames x; refine keeps_suff (s₀ := s₀) x ?_ (fun _ => ?_); (on_goal 1 => subst x); (on_goal 2 => try
        clear_value x))
    | extract_lets +onlyGivenNames _
    | with_reducible refine State.allocate_keeps ?_
    | with_reducible apply State.setDir_keeps
    | with_reducible apply State.write_keeps
    | with_reducible apply State.persist_keeps
    | with_reducible apply State.count_keeps
    | with_reducible apply State.setFixState_keeps
    | with_reducible (fail_if_no_progress apply State.keeps_mk)
    | with_reducible apply ite_keeps
    | split
    | with_reducible (refine optsnd_keeps (by assumption) ?_)))

theorem State.takeDecide_keeps {s₀ s : State} (f : Frame) (h : s₀.Keeps s) : s₀.Keeps (State.takeDecide f s).1 := by
  unfold State.takeDecide
  grind only [State.keeps_mk, outKeeps_next, outKeeps_fault, outKeeps_refused, State.no_keeps, State.ok_keeps, State.fixDiscard_keeps,
      State.fixCommit_keeps, State.clearMarks_keeps, State.count_keeps]

theorem State.noteDir_keeps {s₀ s : State} (h : s₀.Keeps s) : s₀.Keeps (State.noteDir s) := by
  unfold State.noteDir
  grind only [State.keeps_mk, outKeeps_next, outKeeps_fault, outKeeps_refused, State.noteRead_keeps]

theorem State.takePull_keeps {s₀ s : State} (f : Frame) (h : s₀.Keeps s) : s₀.Keeps (State.takePull f s).1 := by
  unfold State.takePull
  (repeat' (
    first
    | with_reducible assumption
    | (extract_lets +onlyGivenNames x; refine keeps_suff (s₀ := s₀) x ?_ (fun _ => ?_); (on_goal 1 => subst x); (on_goal 2 => try
        clear_value x))
    | extract_lets +onlyGivenNames _
    | with_reducible (refine foldl_keeps ?_ (fun _ _ _ => ?_) <;> try beta_reduce)
    | with_reducible apply State.no_keeps
    | with_reducible apply State.noteDir_keeps
    | with_reducible apply State.ok_keeps
    | with_reducible apply State.fixSend_keeps
    | with_reducible apply State.noteRead_keeps
    | with_reducible apply ite_fst
    | split))

theorem State.takeChunk_keeps {s₀ s : State} (f : Frame) (h : s₀.Keeps s) : s₀.Keeps (State.takeChunk f s).1 := by
  unfold State.takeChunk
  grind only [State.keeps_mk, outKeeps_next, outKeeps_fault, outKeeps_refused, State.no_keeps, State.ok_keeps, State.post_keeps]

theorem State.closeChunk_keeps {s₀ s : State} (k : ℕ) (h : s₀.Keeps s) : s₀.Keeps (State.closeChunk s k) := by
  unfold State.closeChunk
  (repeat' (
    first
    | with_reducible assumption
    | (extract_lets +onlyGivenNames x; refine keeps_suff (s₀ := s₀) x ?_ (fun _ => ?_); (on_goal 1 => subst x); (on_goal 2 => try
        clear_value x))
    | extract_lets +onlyGivenNames _
    | with_reducible (refine foldl_keeps ?_ (fun _ _ _ => ?_) <;> try beta_reduce)
    | with_reducible apply State.setDir_keeps
    | with_reducible apply State.write_keeps
    | with_reducible apply State.fixSend_keeps
    | with_reducible (fail_if_no_progress apply State.keeps_mk)))

theorem State.closeTo_keeps {s₀ s : State} (n : ℕ) (h : s₀.Keeps s) : s₀.Keeps (State.closeTo s n) := by
  unfold State.closeTo
  (repeat' (
    first
    | with_reducible assumption
    | with_reducible (refine foldl_keeps ?_ (fun _ _ _ => ?_) <;> try beta_reduce)
    | with_reducible apply State.closeChunk_keeps))

theorem State.openChunks_keeps {s₀ s : State} (a0 : ℕ) (h : s₀.Keeps s) : ∀ t, State.openChunks a0 s = some t → s₀.Keeps t := by
  induction a0 generalizing s with
  | zero => exact some_keeps h
  | succ n ih =>
  intro t e
  rw [State.openChunks] at e
  split at e
  · cases e
  · rename_i slot u hu
    have k : s₀.Keeps u := optsnd_keeps hu (State.allocate_keeps h)
    refine ih ?_ t e
    exact State.keeps_mk (State.setDir_keeps _ _ k)

theorem State.appendStream_keeps {s₀ s : State} (l : List Byte) (h : s₀.Keeps s) : ∀ t, State.appendStream s l = some t → s₀.Keeps t := by
  intro t e
  obtain ⟨u, hu, rfl⟩ := Option.map_eq_some_iff.mp e
  exact State.closeTo_keeps _ (State.keeps_mk (State.openChunks_keeps _ h _ hu))

theorem State.xorBody_keeps {s₀ s : State} (a : ℕ) (zero : Bool) (body : List Byte) (h : s₀.Keeps s) : s₀.Keeps (State.xorBody s a zero
    body) := by
  unfold State.xorBody
  grind only [State.keeps_mk, outKeeps_next, outKeeps_fault, outKeeps_refused, State.noteRead_keeps, State.write_keeps]

theorem State.applyRecord_keeps {s₀ s : State} (a_h : ℕ) (body : List Byte) (h : s₀.Keeps s) : s₀.Keeps (State.applyRecord s a_h body)
    := by
  unfold State.applyRecord
  grind only [State.keeps_mk, outKeeps_next, outKeeps_fault, outKeeps_refused, State.xorBody_keeps, State.write_keeps]

theorem State.applyRecords_keeps {s₀ s : State} (a0 : ℕ) (a2 : List Byte) (h : s₀.Keeps s) : s₀.Keeps (State.applyRecords a0 s a2) := by
  induction a0 generalizing s a2 with
  | zero => exact h
  | succ n ih =>
  unfold State.applyRecords
  (repeat' (
    first
    | with_reducible assumption
    | extract_lets +onlyGivenNames _
    | with_reducible apply ih
    | with_reducible apply State.applyRecord_keeps
    | with_reducible apply ite_keeps))

theorem State.applyFix_keeps {s₀ s : State} (a : ℕ) (h : s₀.Keeps s) : s₀.Keeps (State.applyFix s a) := by
  unfold State.applyFix
  (repeat' (
    first
    | with_reducible assumption
    | (extract_lets +onlyGivenNames x; refine keeps_suff (s₀ := s₀) x ?_ (fun _ => ?_); (on_goal 1 => subst x); (on_goal 2 => try
        clear_value x))
    | extract_lets +onlyGivenNames _
    | with_reducible (refine foldl_keeps ?_ (fun _ _ _ => ?_) <;> try beta_reduce)
    | with_reducible apply State.noteRead_keeps
    | with_reducible apply State.write_keeps
    | with_reducible apply State.applyRecords_keeps
    | with_reducible apply State.persist_keeps
    | with_reducible apply State.setFixState_keeps
    | with_reducible (fail_if_no_progress apply State.keeps_mk)
    | with_reducible apply ite_keeps))

theorem State.armFix_keeps {s₀ s : State} (full : Bool) (h : s₀.Keeps s) : s₀.Keeps (State.armFix s full) := by
  unfold State.armFix
  grind only [State.keeps_mk, outKeeps_next, outKeeps_fault, outKeeps_refused, State.setFixState_keeps, State.setObj_keeps]

theorem State.fixArm_keeps {s₀ s : State} (h : s₀.Keeps s) : s₀.Keeps (State.fixArm s).1 := by
  unfold State.fixArm
  grind only [State.keeps_mk, outKeeps_next, outKeeps_fault, outKeeps_refused, State.ok_keeps, State.armFix_keeps, State.no_keeps]

theorem State.sendPrepared_keeps {s₀ s : State} (cause : ℕ) (h : s₀.Keeps s) : s₀.Keeps (State.sendPrepared s cause) := by
  unfold State.sendPrepared
  grind only [State.keeps_mk, outKeeps_next, outKeeps_fault, outKeeps_refused, State.fixSend_keeps]

theorem State.fixStop_keeps {s₀ s : State} (cause : ℕ) (h : s₀.Keeps s) : s₀.Keeps (State.fixStop s cause) := by
  unfold State.fixStop
  grind only [State.keeps_mk, outKeeps_next, outKeeps_fault, outKeeps_refused, State.sendPrepared_keeps, State.fixDiscard_keeps]

theorem State.fixAbandon_keeps {s₀ s : State} (h : s₀.Keeps s) : s₀.Keeps (State.fixAbandon s).1 := by
  unfold State.fixAbandon
  grind only [State.keeps_mk, outKeeps_next, outKeeps_fault, outKeeps_refused, State.ok_keeps, State.fixStop_keeps, State.no_keeps]

theorem State.writeFixCtrl_keeps {s₀ s : State} (v : ℕ) (h : s₀.Keeps s) : s₀.Keeps (State.writeFixCtrl s v).1 := by
  unfold State.writeFixCtrl
  grind only [State.keeps_mk, outKeeps_next, outKeeps_fault, outKeeps_refused, State.fixArm_keeps, State.fixAbandon_keeps, State.no_keeps]

theorem State.fixApply_keeps {s₀ s : State} (h : s₀.Keeps s) : s₀.Keeps (State.fixApply s).1 := by
  unfold State.fixApply
  grind only [State.keeps_mk, outKeeps_next, outKeeps_fault, outKeeps_refused, State.no_keeps, State.noteRead_keeps, State.ok_keeps,
      State.setFixState_keeps]

theorem State.rebuildFails_keeps {s₀ s : State} (h : s₀.Keeps s) : s₀.Keeps (State.rebuildFails s) := by
  unfold State.rebuildFails
  grind only [State.keeps_mk, outKeeps_next, outKeeps_fault, outKeeps_refused, State.setObj_keeps, State.setFixState_keeps]

theorem State.startRebuild_keeps {s₀ s : State} (last : FixLast) (pos : ℕ) (n : ℕ) (h : s₀.Keeps s) : s₀.Keeps (State.startRebuild s
    last pos n) := by
  unfold State.startRebuild
  (repeat' (
    first
    | with_reducible assumption
    | (extract_lets +onlyGivenNames x; refine keeps_suff (s₀ := s₀) x ?_ (fun _ => ?_); (on_goal 1 => subst x); (on_goal 2 => try
        clear_value x))
    | extract_lets +onlyGivenNames _
    | with_reducible (refine foldl_keeps ?_ (fun _ _ _ => ?_) <;> try beta_reduce)
    | with_reducible apply State.rebuildFails_keeps
    | with_reducible apply State.noteDir_keeps
    | with_reducible apply State.setFixState_keeps
    | with_reducible apply State.noteRead_keeps
    | with_reducible apply State.post_keeps
    | with_reducible apply State.fixSend_keeps
    | with_reducible (fail_if_no_progress apply State.keeps_mk)
    | with_reducible apply ite_keeps))

theorem State.fixRebuild_keeps {s₀ s : State} (h : s₀.Keeps s) : s₀.Keeps (State.fixRebuild s).1 := by
  unfold State.fixRebuild
  grind only [State.keeps_mk, outKeeps_next, outKeeps_fault, outKeeps_refused, State.no_keeps, State.ok_keeps,
      State.rebuildFails_keeps, State.startRebuild_keeps]

theorem State.writeFixSvc_keeps {s₀ s : State} (v : ℕ) (h : s₀.Keeps s) : s₀.Keeps (State.writeFixSvc s v).1 := by
  unfold State.writeFixSvc
  grind only [State.keeps_mk, outKeeps_next, outKeeps_fault, outKeeps_refused, State.fixApply_keeps, State.fixRebuild_keeps,
      State.ok_keeps, State.fixCommit_keeps, State.no_keeps, State.fixDiscard_keeps]

theorem State.writeDrained_keeps {s₀ s : State} (v : ℕ) (h : s₀.Keeps s) : s₀.Keeps (State.writeDrained s v).1 := by
  unfold State.writeDrained
  grind only [State.keeps_mk, outKeeps_next, outKeeps_fault, outKeeps_refused, State.no_keeps, State.setObj_keeps, State.ok_keeps,
      State.post_keeps, State.fixCommit_keeps]

theorem State.writeRegion_keeps {s₀ s : State} (key : ℕ) (v : ℕ) (h : s₀.Keeps s) : s₀.Keeps (State.writeRegion s key v).1 := by
  unfold State.writeRegion
  grind only [State.keeps_mk, outKeeps_next, outKeeps_fault, outKeeps_refused, State.no_keeps, State.ok_keeps, State.setObj_keeps]

theorem State.writeFix_keeps {s₀ s : State} (key : ℕ) (v : ℕ) (h : s₀.Keeps s) : s₀.Keeps (State.writeFix s key v).1 := by
  unfold State.writeFix
  grind only [State.keeps_mk, outKeeps_next, outKeeps_fault, outKeeps_refused, State.no_keeps, State.ok_keeps, State.setObj_keeps]

theorem State.fixEndJob_keeps {s₀ s : State} (h : s₀.Keeps s) : s₀.Keeps (State.fixEndJob s) := by
  unfold State.fixEndJob
  grind only [State.keeps_mk, outKeeps_next, outKeeps_fault, outKeeps_refused, State.fixStop_keeps]

theorem State.fixEnd_keeps {s₀ s : State} (cause : ℕ) (h : s₀.Keeps s) : s₀.Keeps (State.fixEnd s cause) := by
  unfold State.fixEnd
  grind only [State.keeps_mk, outKeeps_next, outKeeps_fault, outKeeps_refused, State.fixStop_keeps]

theorem State.closeStream_keeps {s₀ s : State} (h : s₀.Keeps s) : ∀ t, State.closeStream s = some t → s₀.Keeps t := by
  intro t e
  obtain ⟨u, hu, rfl⟩ := Option.map_eq_some_iff.mp e
  have k : s₀.Keeps u := State.appendStream_keeps _ h _ hu
  exact State.post_keeps _ (foldl_keeps (State.keeps_mk (State.closeTo_keeps _ (State.setObj_keeps k _ _))) (fun _ _ hu =>
      State.fixSend_keeps _ hu))

theorem State.setStaged_keeps {s₀ s : State} (die : ℕ) (l : List Staged) (h : s₀.Keeps s) : s₀.Keeps (State.setStaged s die l) := by
  unfold State.setStaged
  grind only [State.keeps_mk, outKeeps_next, outKeeps_fault, outKeeps_refused]

theorem State.copyPage_keeps {s₀ s : State} (cls : ℕ) (page : ℕ) (h : s₀.Keeps s) : ∀ t, State.copyPage s cls page = some t → s₀.Keeps
    t := by
  intro t e
  obtain ⟨slot, -, rfl⟩ := Option.map_eq_some_iff.mp e
  refine ite_keeps (State.post_keeps _ ?_) ?_
  all_goals exact State.releaseHeld_keeps (State.setMark_keeps _ _ (State.setStaged_keeps _ _ (State.writeNow_keeps _ _
      (State.noteRead_keeps _ _ _ h))))

theorem State.finishRebuild_keeps {s₀ s : State} (last : FixLast) (b : Rebuild) (h : s₀.Keeps s) : s₀.Keeps (State.finishRebuild s last
    b) := by
  unfold State.finishRebuild
  (repeat' (
    first
    | with_reducible assumption
    | (extract_lets +onlyGivenNames x; refine keeps_suff (s₀ := s₀) x ?_ (fun _ => ?_); (on_goal 1 => subst x); (on_goal 2 => try
        clear_value x))
    | extract_lets +onlyGivenNames _
    | with_reducible (refine foldl_keeps ?_ (fun _ _ _ => ?_) <;> try beta_reduce)
    | with_reducible refine State.allocate_keeps ?_
    | with_reducible apply State.setDir_keeps
    | with_reducible apply State.write_keeps
    | with_reducible apply State.setFixState_keeps
    | with_reducible (fail_if_no_progress apply State.keeps_mk)
    | split
    | with_reducible (refine optsnd_keeps (by assumption) ?_)))

theorem State.fixFailed_keeps {s₀ s : State} (f : Frame) (code : ℕ) (h : s₀.Keeps s) : s₀.Keeps (State.fixFailed s f code) := by
  unfold State.fixFailed
  grind only [State.keeps_mk, outKeeps_next, outKeeps_fault, outKeeps_refused, State.rebuildFails_keeps]

theorem State.fixLost_keeps {s₀ s : State} (h : s₀.Keeps s) : s₀.Keeps (State.fixLost s) := by
  unfold State.fixLost
  grind only [State.keeps_mk, outKeeps_next, outKeeps_fault, outKeeps_refused, State.post_keeps]

theorem State.fixTest_keeps {s₀ s : State} (h : s₀.Keeps s) : s₀.Keeps (State.fixTest s) := by
  unfold State.fixTest
  grind only [State.keeps_mk, outKeeps_next, outKeeps_fault, outKeeps_refused, State.sendPrepared_keeps, State.setFixState_keeps]

theorem State.flushRecords_keeps {s₀ s : State} (h : s₀.Keeps s) : ∀ t, State.flushRecords s = some t → s₀.Keeps t := by
  unfold State.flushRecords
  (repeat' (
    first
    | with_reducible assumption
    | extract_lets +onlyGivenNames _
    | with_reducible refine State.appendStream_keeps _ ?_
    | with_reducible (fail_if_no_progress apply State.keeps_mk)))

theorem State.tableRecords_keeps {s₀ s : State} (r : FixRegion) (page : ℕ) (data : List Byte) (h : s₀.Keeps s) : s₀.Keeps
    (State.tableRecords s r page data).2 := by
  unfold State.tableRecords
  (repeat' (
    first
    | with_reducible assumption
    | (extract_lets +onlyGivenNames x; refine keeps_suff (s₀ := s₀) x ?_ (fun _ => ?_); (on_goal 1 => subst x); (on_goal 2 => try
        clear_value x))
    | extract_lets +onlyGivenNames _
    | with_reducible (refine foldl_snd_keeps ?_ (fun _ _ _ => ?_) <;> try beta_reduce)
    | with_reducible (fail_if_no_progress apply State.keeps_mk)
    | with_reducible apply ite_snd))

theorem State.pageRecords_keeps {s₀ s : State} (page : ℕ) (data : List Byte) (h : s₀.Keeps s) : s₀.Keeps (State.pageRecords s page
    data).2 := by
  unfold State.pageRecords
  grind only [State.keeps_mk, outKeeps_next, outKeeps_fault, outKeeps_refused, State.noteRead_keeps, State.write_keeps,
      State.tableRecords_keeps, State.noteTouch_keeps]

theorem State.rebuildTest_keeps {s₀ s : State} (h : s₀.Keeps s) : s₀.Keeps (State.rebuildTest s) := by
  unfold State.rebuildTest
  grind only [State.keeps_mk, outKeeps_next, outKeeps_fault, outKeeps_refused, State.finishRebuild_keeps]

theorem doBackgroundCopy_keeps {s₀ s : State} (die : ℕ) (h : s₀.Keeps s) : OutKeeps s₀ (doBackgroundCopy die s) := by
  unfold doBackgroundCopy
  refine ite_out (outKeeps_next h) (ite_out (outKeeps_next h) ?_)
  split
  · exact outKeeps_next (State.marksDone_keeps h)
  · exact ite_out (outKeeps_next h) (outKeeps_next (elim_keeps h (fun u hu => State.marksDone_keeps (State.copyPage_keeps _ _ h u hu))))

theorem doCbwCopy_keeps {s₀ s : State} (page : ℕ) (h : s₀.Keeps s) : OutKeeps s₀ (doCbwCopy page s) := by
  unfold doCbwCopy
  exact ite_out (ite_out (outKeeps_next (getD_keeps (State.post_keeps _ h) (State.copyPage_keeps _ _ h)))
    (outKeeps_next (State.releaseHeld_keeps h))) (outKeeps_next h)

theorem doFixApplyDone_keeps {s₀ s : State} (h : s₀.Keeps s) : OutKeeps s₀ (doFixApplyDone s) := by
  unfold doFixApplyDone
  grind only [State.keeps_mk, outKeeps_next, outKeeps_fault, outKeeps_refused, State.applyFix_keeps]

theorem doFixEncode_keeps {s₀ s : State} (die : ℕ) (h : s₀.Keeps s) : OutKeeps s₀ (doFixEncode die s) := by
  unfold doFixEncode
  refine ite_out (outKeeps_next h) (ite_out (outKeeps_next h) ?_)
  split
  · exact outKeeps_next h
  · rename_i v hv
    have h := State.flushRecords_keeps h v hv
    split
    · refine ite_out (outKeeps_next (State.post_keeps _ (State.noteRead_keeps _ _ _ h))) ?_
      split
      rename_i l u e
      have k : s₀.Keeps u := snd_keeps e (State.pageRecords_keeps _ _ (State.noteRead_keeps _ _ _ h))
      have m := State.setStaged_keeps (s := { u with fixU := { u.fixU with records := l.foldl (fun r x => putRecord x r) u.fixU.records
          } }) die
        ‹_› (State.keeps_mk k)
      exact outKeeps_next (getD_keeps m (State.flushRecords_keeps m))
    · exact ite_out (outKeeps_next (getD_keeps h (State.closeStream_keeps h))) (outKeeps_next h)

theorem doFixPreparedResend_keeps {s₀ s : State} (h : s₀.Keeps s) : OutKeeps s₀ (doFixPreparedResend s) := by
  unfold doFixPreparedResend
  grind only [State.keeps_mk, outKeeps_next, outKeeps_fault, outKeeps_refused, State.sendPrepared_keeps]

theorem doFixStripeRetry_keeps {s₀ s : State} (h : s₀.Keeps s) : OutKeeps s₀ (doFixStripeRetry s) := by
  unfold doFixStripeRetry
  (repeat' (
    first
    | with_reducible assumption
    | (extract_lets +onlyGivenNames x; refine keeps_suff (s₀ := s₀) x ?_ (fun _ => ?_); (on_goal 1 => subst x); (on_goal 2 => try
        clear_value x))
    | extract_lets +onlyGivenNames _
    | with_reducible (refine foldl_keeps ?_ (fun _ _ _ => ?_) <;> try beta_reduce)
    | with_reducible apply State.fixSend_keeps
    | with_reducible (fail_if_no_progress apply State.keeps_mk)
    | with_reducible apply outKeeps_next
    | with_reducible apply ite_out))

theorem doFixTimeout_keeps {s₀ s : State} (h : s₀.Keeps s) : OutKeeps s₀ (doFixTimeout s) := by
  unfold doFixTimeout
  grind only [State.keeps_mk, outKeeps_next, outKeeps_fault, outKeeps_refused, State.post_keeps]

end Sys2Proof.Machine
end

