-- ==== Sys2Proof/Laws/Keeps/Hbm.lean ====
section
/-! SUPPORT. What the functions of Machine/Hbm.lean keep (`State.Keeps`): one lemma for each, cited by those of its callers. -/

namespace Sys2Proof.Machine

set_option linter.tactic.unusedName false

theorem State.remapGroup_keeps {s₀ s : State} (g : ℕ) (h : s₀.Keeps s) : s₀.Keeps (State.remapGroup s g) := by
  unfold State.remapGroup
  (repeat' (
    first
    | with_reducible assumption
    | (extract_lets +onlyGivenNames x; refine keeps_suff (s₀ := s₀) x ?_ (fun _ => ?_); (on_goal 1 => subst x); (on_goal 2 => try
        clear_value x))
    | extract_lets +onlyGivenNames _
    | with_reducible (refine foldl_keeps ?_ (fun _ _ _ => ?_) <;> try beta_reduce)
    | with_reducible apply State.noteError_keeps
    | with_reducible apply State.flashWrite_keeps
    | with_reducible apply State.stackHealth_keeps
    | with_reducible apply State.count_keeps
    | with_reducible (fail_if_no_progress apply State.keeps_mk)
    | with_reducible apply ite_keeps))

theorem State.remapMarked_keeps {s₀ s : State} (h : s₀.Keeps s) : s₀.Keeps (State.remapMarked s) := by
  unfold State.remapMarked
  (repeat' (
    first
    | with_reducible assumption
    | with_reducible (refine foldl_keeps ?_ (fun _ _ _ => ?_) <;> try beta_reduce)
    | with_reducible apply State.remapGroup_keeps))

theorem State.writeHbmRate_keeps {s₀ s : State} (v : ℕ) (h : s₀.Keeps s) : s₀.Keeps (State.writeHbmRate s v).1 := by
  unfold State.writeHbmRate
  grind only [State.keeps_mk, outKeeps_next, outKeeps_fault, outKeeps_refused, State.no_keeps, State.ok_keeps, State.setObj_keeps]

theorem State.writeScrubPeriod_keeps {s₀ s : State} (v : ℕ) (h : s₀.Keeps s) : s₀.Keeps (State.writeScrubPeriod s v).1 := by
  unfold State.writeScrubPeriod
  grind only [State.keeps_mk, outKeeps_next, outKeeps_fault, outKeeps_refused, State.no_keeps, State.ok_keeps, State.setObj_keeps]

theorem State.writeRowThresh_keeps {s₀ s : State} (v : ℕ) (h : s₀.Keeps s) : s₀.Keeps (State.writeRowThresh s v).1 := by
  unfold State.writeRowThresh
  (repeat' (
    first
    | with_reducible assumption
    | extract_lets +onlyGivenNames _
    | with_reducible (refine foldl_keeps ?_ (fun _ _ _ => ?_) <;> try beta_reduce)
    | with_reducible apply State.ok_keeps
    | with_reducible apply State.markGroup_keeps
    | with_reducible apply State.setObj_keeps))

theorem State.writeLaneThresh_keeps {s₀ s : State} (v : ℕ) (h : s₀.Keeps s) : s₀.Keeps (State.writeLaneThresh s v).1 := by
  unfold State.writeLaneThresh
  (repeat' (
    first
    | with_reducible assumption
    | extract_lets +onlyGivenNames _
    | with_reducible (refine foldl_keeps ?_ (fun _ _ _ => ?_) <;> try beta_reduce)
    | with_reducible apply State.ok_keeps
    | with_reducible apply State.lanePend_keeps
    | with_reducible apply State.setObj_keeps))

theorem State.writeMapBase_keeps {s₀ s : State} (key : ℕ) (v : ℕ) (h : s₀.Keeps s) : s₀.Keeps (State.writeMapBase s key v).1 := by
  unfold State.writeMapBase
  grind only [State.keeps_mk, outKeeps_next, outKeeps_fault, outKeeps_refused, State.no_keeps, State.ok_keeps, State.setObj_keeps]

theorem State.setStacks_keeps {s₀ s : State} (target : ℕ) (v : ℕ) (h : s₀.Keeps s) : s₀.Keeps (State.setStacks s target v) := by
  unfold State.setStacks
  (repeat' (
    first
    | with_reducible assumption
    | with_reducible (refine foldl_keeps ?_ (fun _ _ _ => ?_) <;> try beta_reduce)
    | with_reducible apply State.setObj_keeps))

theorem State.sextantRun_keeps {s₀ s : State} (h : s₀.Keeps s) : s₀.Keeps (State.sextantRun s).1 := by
  unfold State.sextantRun
  grind only [State.keeps_mk, outKeeps_next, outKeeps_fault, outKeeps_refused, State.no_keeps, State.ok_keeps, State.setObj_keeps,
      State.setStacks_keeps]

theorem State.sextantAbort_keeps {s₀ s : State} (h : s₀.Keeps s) : s₀.Keeps (State.sextantAbort s).1 := by
  unfold State.sextantAbort
  (repeat' (
    first
    | with_reducible assumption
    | extract_lets +onlyGivenNames _
    | with_reducible apply State.ok_keeps
    | with_reducible apply State.releaseHeld_keeps
    | with_reducible apply State.setObj_keeps
    | with_reducible apply State.setStacks_keeps
    | with_reducible apply State.no_keeps
    | with_reducible (fail_if_no_progress apply State.keeps_mk)
    | split))

theorem State.writeSxtCtrl_keeps {s₀ s : State} (v : ℕ) (h : s₀.Keeps s) : s₀.Keeps (State.writeSxtCtrl s v).1 := by
  unfold State.writeSxtCtrl
  grind only [State.keeps_mk, outKeeps_next, outKeeps_fault, outKeeps_refused, State.sextantRun_keeps, State.sextantAbort_keeps,
      State.no_keeps]

theorem State.writeSxtSetting_keeps {s₀ s : State} (key : ℕ) (v : ℕ) (h : s₀.Keeps s) : s₀.Keeps (State.writeSxtSetting s key v).1 := by
  unfold State.writeSxtSetting
  grind only [State.keeps_mk, outKeeps_next, outKeeps_fault, outKeeps_refused, State.no_keeps, State.ok_keeps, State.setObj_keeps]

theorem State.blocked_keeps {s₀ s : State} (stack : ℕ) (b : Blocking) (h : s₀.Keeps s) : s₀.Keeps (State.blocked stack s b) := by
  unfold State.blocked
  grind only [State.keeps_mk, outKeeps_next, outKeeps_fault, outKeeps_refused, State.setObj_keeps, State.logEvent_keeps]

theorem State.pendFailing_keeps {s₀ s : State} (full : Bool) (axis : ℕ) (l : List LaneMargin) (h : s₀.Keeps s) : s₀.Keeps
    (State.pendFailing s full axis l) := by
  unfold State.pendFailing
  (repeat' (
    first
    | with_reducible assumption
    | with_reducible (refine foldl_keeps ?_ (fun _ _ _ => ?_) <;> try beta_reduce)
    | with_reducible apply State.lanePend_keeps))

theorem State.setStack_keeps {s₀ s : State} (n : ℕ) (u : StackUnit) (h : s₀.Keeps s) : s₀.Keeps (State.setStack s n u) := by
  unfold State.setStack
  grind only [State.keeps_mk, outKeeps_next, outKeeps_fault, outKeeps_refused]

theorem State.refreshRate_keeps {s₀ s : State} (n : ℕ) (a_t : ℤ) (h : s₀.Keeps s) : s₀.Keeps (State.refreshRate s n a_t) := by
  unfold State.refreshRate
  grind only [State.keeps_mk, outKeeps_next, outKeeps_fault, outKeeps_refused, State.setObj_keeps, State.setStack_keeps]

theorem State.readStack_keeps {s₀ s : State} (n : ℕ) (r : Option ℤ × Option ℤ) (h : s₀.Keeps s) : s₀.Keeps (State.readStack s n r) := by
  unfold State.readStack
  (repeat' (
    first
    | with_reducible assumption
    | extract_lets +onlyGivenNames _
    | with_reducible apply State.refreshRate_keeps
    | with_reducible apply State.setObj_keeps
    | with_reducible apply State.setStack_keeps
    | with_reducible apply State.stackHealth_keeps
    | with_reducible apply ite_keeps
    | split))

theorem State.setActs_keeps {s₀ s : State} (bank : ℕ) (n : ℕ) (h : s₀.Keeps s) : s₀.Keeps (State.setActs s bank n) := by
  unfold State.setActs
  grind only [State.keeps_mk, outKeeps_next, outKeeps_fault, outKeeps_refused, State.setStack_keeps]

theorem doPowerGood_keeps {s₀ s : State} (g : PowerGood) (h : s₀.Keeps s) : OutKeeps s₀ (doPowerGood g s) := by
  unfold doPowerGood
  extract_lets stack runs
  have k := doDomainPowerGood_keeps g.domain h
  cases e : doDomainPowerGood g.domain s with
  | next t => exact outKeeps_next (ite_keeps (State.pendFailing_keeps _ _ _ (k t e)) (k t e))
  | fault f => exact outKeeps_fault _
  | refused r => exact outKeeps_refused _

theorem doRefresh_keeps {s₀ s : State} (u : Upkeep) (busy : Bool) (h : s₀.Keeps s) : OutKeeps s₀ (doRefresh u busy s) := by
  unfold doRefresh
  (repeat' (
    first
    | with_reducible assumption
    | (extract_lets +onlyGivenNames x; refine keeps_suff (s₀ := s₀) x ?_ (fun _ => ?_); (on_goal 1 => subst x); (on_goal 2 => try
        clear_value x))
    | extract_lets +onlyGivenNames _
    | with_reducible (refine foldl_keeps ?_ (fun _ _ _ => ?_) <;> try beta_reduce)
    | with_reducible apply State.blocked_keeps
    | with_reducible apply State.setActs_keeps
    | with_reducible (fail_if_no_progress apply State.keeps_mk)
    | with_reducible apply outKeeps_next
    | with_reducible apply ite_out))

theorem doRefreshManagement_keeps {s₀ s : State} (u : Upkeep) (h : s₀.Keeps s) : OutKeeps s₀ (doRefreshManagement u s) := by
  unfold doRefreshManagement
  (repeat' (
    first
    | with_reducible assumption
    | (extract_lets +onlyGivenNames x; refine keeps_suff (s₀ := s₀) x ?_ (fun _ => ?_); (on_goal 1 => subst x); (on_goal 2 => try
        clear_value x))
    | extract_lets +onlyGivenNames _
    | with_reducible (refine foldl_keeps ?_ (fun _ _ _ => ?_) <;> try beta_reduce)
    | with_reducible apply State.blocked_keeps
    | with_reducible apply State.setActs_keeps
    | with_reducible apply State.count_keeps
    | with_reducible apply outKeeps_next
    | with_reducible apply ite_out))

theorem doRowRemap_keeps {s₀ s : State} (group : ℕ) (h : s₀.Keeps s) : OutKeeps s₀ (doRowRemap group s) := by
  unfold doRowRemap
  grind only [State.keeps_mk, outKeeps_next, outKeeps_fault, outKeeps_refused, State.remapGroup_keeps]

theorem doScrubRead_keeps {s₀ s : State} (burst : ℕ) (errors : List StoredError) (h : s₀.Keeps s) : OutKeeps s₀ (doScrubRead burst
    errors s) := by
  unfold doScrubRead
  grind only [State.keeps_mk, outKeeps_next, outKeeps_fault, outKeeps_refused, State.strikes_keeps, State.noteError_keeps,
      State.setErr_keeps]

theorem doStackTempRead_keeps {s₀ s : State} (readings : List (Option ℤ × Option ℤ)) (h : s₀.Keeps s) : OutKeeps s₀ (doStackTempRead
    readings s) := by
  unfold doStackTempRead
  (repeat' (
    first
    | with_reducible assumption
    | (extract_lets +onlyGivenNames x; refine keeps_suff (s₀ := s₀) x ?_ (fun _ => ?_); (on_goal 1 => subst x); (on_goal 2 => try
        clear_value x))
    | extract_lets +onlyGivenNames _
    | with_reducible (refine foldl_keeps ?_ (fun _ _ _ => ?_) <;> try beta_reduce)
    | with_reducible apply State.readStack_keeps
    | with_reducible apply State.tempRequest_keeps
    | with_reducible apply State.post_keeps
    | with_reducible apply outKeeps_next
    | with_reducible apply ite_keeps))

theorem doSxtDone_keeps {s₀ s : State} (margins : List LaneMargin) (h : s₀.Keeps s) : OutKeeps s₀ (doSxtDone margins s) := by
  unfold doSxtDone
  split
  · exact outKeeps_next h
  · exact outKeeps_next (State.releaseHeld_keeps (State.pendFailing_keeps _ _ _ (State.setObjs_keeps _ (State.setStacks_keeps _ _
      (State.keeps_mk5 h (Nat.le_succ _) id id)))))

end Sys2Proof.Machine
end

