-- ==== Sys2Proof/Laws/Keeps/Slices.lean ====
section
/-! SUPPORT. What the functions of Machine/Slices.lean keep (`State.Keeps`): one lemma for each, cited by those of its callers. -/

namespace Sys2Proof.Machine

set_option linter.tactic.unusedName false

theorem State.writeDictDefaults_keeps {s₀ s : State} (v : ℕ) (h : s₀.Keeps s) : s₀.Keeps (State.writeDictDefaults s v).1 := by
  unfold State.writeDictDefaults
  grind only [State.keeps_mk, outKeeps_next, outKeeps_fault, outKeeps_refused, State.no_keeps, State.ok_keeps, State.setObj_keeps]

theorem State.assign_keeps {s₀ s : State} (slot : ℕ) (h : s₀.Keeps s) : s₀.Keeps (State.assign s slot).1 := by
  unfold State.assign
  grind only [State.keeps_mk, outKeeps_next, outKeeps_fault, outKeeps_refused, State.no_keeps, State.ok_keeps, State.setObj_keeps]

theorem State.stageOff_keeps {s₀ s : State} (mask : ℕ) (k : ℕ) (h : s₀.Keeps s) : s₀.Keeps (State.stageOff mask s k) := by
  unfold State.stageOff
  grind only [State.keeps_mk, outKeeps_next, outKeeps_fault, outKeeps_refused, State.setObj_keeps]

theorem State.freeGroup_keeps {s₀ s : State} (g : ℕ) (h : s₀.Keeps s) : s₀.Keeps (State.freeGroup s g) := by
  unfold State.freeGroup
  grind only [State.keeps_mk, outKeeps_next, outKeeps_fault, outKeeps_refused, State.clearGroup_keeps, State.setObj_keeps]

theorem State.setConn_keeps {s₀ s : State} (k : ℕ) (c : HostConn) (h : s₀.Keeps s) : s₀.Keeps (State.setConn s k c) := by
  unfold State.setConn
  grind only [State.keeps_mk, outKeeps_next, outKeeps_fault, outKeeps_refused]

theorem State.unbind_keeps {s₀ s : State} (k : ℕ) (h : s₀.Keeps s) : s₀.Keeps (State.unbind s k) := by
  unfold State.unbind
  grind only [State.keeps_mk, outKeeps_next, outKeeps_fault, outKeeps_refused, State.setObj_keeps, State.setConn_keeps]

theorem State.freeSlice_keeps {s₀ s : State} (slot : ℕ) (h : s₀.Keeps s) : s₀.Keeps (State.freeSlice s slot) := by
  unfold State.freeSlice
  (repeat' (
    first
    | with_reducible assumption
    | (extract_lets +onlyGivenNames x; refine keeps_suff (s₀ := s₀) x ?_ (fun _ => ?_); (on_goal 1 => subst x); (on_goal 2 => try
        clear_value x))
    | extract_lets +onlyGivenNames _
    | with_reducible (refine foldl_keeps ?_ (fun _ _ _ => ?_) <;> try beta_reduce)
    | with_reducible apply State.stageOff_keeps
    | with_reducible apply State.freeGroup_keeps
    | with_reducible apply State.setObjs_keeps
    | with_reducible apply State.unbind_keeps))

theorem State.releaseSlice_keeps {s₀ s : State} (slot : ℕ) (h : s₀.Keeps s) : s₀.Keeps (State.releaseSlice s slot).1 := by
  unfold State.releaseSlice
  grind only [State.keeps_mk, outKeeps_next, outKeeps_fault, outKeeps_refused, State.no_keeps, State.ok_keeps, State.freeSlice_keeps]

theorem State.writeSliceCtrl_keeps {s₀ s : State} (slot : ℕ) (v : ℕ) (h : s₀.Keeps s) : s₀.Keeps (State.writeSliceCtrl s slot v).1 := by
  unfold State.writeSliceCtrl
  grind only [State.keeps_mk, outKeeps_next, outKeeps_fault, outKeeps_refused, State.assign_keeps, State.releaseSlice_keeps,
      State.no_keeps]

theorem State.writeSlice_keeps {s₀ s : State} (slot : ℕ) (key : ℕ) (v : ℕ) (h : s₀.Keeps s) : s₀.Keeps (State.writeSlice s slot key
    v).1 := by
  unfold State.writeSlice
  grind only [State.keeps_mk, outKeeps_next, outKeeps_fault, outKeeps_refused, State.no_keeps, State.ok_keeps, State.setObj_keeps]

theorem State.hostTrained_keeps {s₀ s : State} (p : ℕ) (h : s₀.Keeps s) : s₀.Keeps (State.hostTrained s p) := by
  unfold State.hostTrained
  grind only [State.keeps_mk, outKeeps_next, outKeeps_fault, outKeeps_refused, State.setObj_keeps]

end Sys2Proof.Machine
end

