-- ==== Sys2Proof/Laws/Keeps/StepUnit.lean ====
section
/-! SUPPORT. What the functions of Machine/StepUnit.lean keep (`State.Keeps`): one lemma for each, cited by those of its callers. -/

namespace Sys2Proof.Machine

set_option linter.tactic.unusedName false

theorem State.abandonStream_keeps {s₀ s : State} (h : s₀.Keeps s) : s₀.Keeps (State.abandonStream s) := by
  unfold State.abandonStream
  grind only [State.keeps_mk, outKeeps_next, outKeeps_fault, outKeeps_refused, State.setObj_keeps]

theorem State.abortCore_keeps {s₀ s : State} (core : ℕ) (h : s₀.Keeps s) : s₀.Keeps (State.abortCore s core) := by
  unfold State.abortCore
  grind only [State.keeps_mk, outKeeps_next, outKeeps_fault, outKeeps_refused, State.setCoreSt_keeps, State.coreReset_keeps]

theorem State.abortActions_keeps {s₀ s : State} (h : s₀.Keeps s) : s₀.Keeps (State.abortActions s) := by
  unfold State.abortActions
  (repeat' (
    first
    | with_reducible assumption
    | (extract_lets +onlyGivenNames x; refine keeps_suff (s₀ := s₀) x ?_ (fun _ => ?_); (on_goal 1 => subst x); (on_goal 2 => try
        clear_value x))
    | extract_lets +onlyGivenNames _
    | with_reducible (refine foldl_keeps ?_ (fun _ _ _ => ?_) <;> try beta_reduce)
    | with_reducible apply State.ctxAbandon_keeps
    | with_reducible apply State.abortCore_keeps
    | with_reducible apply State.abandonStream_keeps
    | with_reducible (fail_if_no_progress apply State.keeps_mk)
    | with_reducible apply ite_keeps))

theorem State.mirrorDecide_keeps {s₀ s : State} (commit : Bool) (step : ℕ) (attempt : ℕ) (h : s₀.Keeps s) : s₀.Keeps
    (State.mirrorDecide s commit step attempt) := by
  unfold State.mirrorDecide
  grind only [State.keeps_mk, outKeeps_next, outKeeps_fault, outKeeps_refused, State.setObjs_keeps]

theorem State.setStepSt_keeps {s₀ s : State} (v : ℕ) (h : s₀.Keeps s) : s₀.Keeps (State.setStepSt s v) := by
  unfold State.setStepSt
  grind only [State.keeps_mk, outKeeps_next, outKeeps_fault, outKeeps_refused, State.setObj_keeps]

theorem State.stepSend_keeps {s₀ s : State} (f : Frame) (h : s₀.Keeps s) : s₀.Keeps (State.stepSend s f) := by
  unfold State.stepSend
  grind only [State.keeps_mk, outKeeps_next, outKeeps_fault, outKeeps_refused, State.inject_keeps]

theorem State.sendPull_keeps {s₀ s : State} (h : s₀.Keeps s) : s₀.Keeps (State.sendPull s) := by
  unfold State.sendPull
  grind only [State.keeps_mk, outKeeps_next, outKeeps_fault, outKeeps_refused, State.stepSend_keeps]

theorem State.startRestore_keeps {s₀ s : State} (h : s₀.Keeps s) : s₀.Keeps (State.startRestore s) := by
  unfold State.startRestore
  grind only [State.keeps_mk, outKeeps_next, outKeeps_fault, outKeeps_refused, State.sendPull_keeps, State.setObj_keeps,
      State.setStepSt_keeps]

theorem State.sendVote_keeps {s₀ s : State} (v : Vote) (h : s₀.Keeps s) : s₀.Keeps (State.sendVote s v) := by
  unfold State.sendVote
  grind only [State.keeps_mk, outKeeps_next, outKeeps_fault, outKeeps_refused, State.stepSend_keeps]

theorem State.vote_keeps {s₀ s : State} (kind : ℕ) (code : ℕ) (h : s₀.Keeps s) : s₀.Keeps (State.vote s kind code) := by
  unfold State.vote
  grind only [State.keeps_mk, outKeeps_next, outKeeps_fault, outKeeps_refused, State.sendVote_keeps]

theorem State.readyTest_keeps {s₀ s : State} (h : s₀.Keeps s) : s₀.Keeps (State.readyTest s) := by
  unfold State.readyTest
  grind only [State.keeps_mk, outKeeps_next, outKeeps_fault, outKeeps_refused, State.vote_keeps]

theorem State.replayWait_keeps {s₀ s : State} (h : s₀.Keeps s) : s₀.Keeps (State.replayWait s) := by
  unfold State.replayWait
  grind only [State.keeps_mk, outKeeps_next, outKeeps_fault, outKeeps_refused, State.setStepSt_keeps, State.startRestore_keeps,
      State.readyTest_keeps]

theorem State.keepWake_keeps {s₀ s : State} (h : s₀.Keeps s) : s₀.Keeps (State.keepWake s) := by
  unfold State.keepWake
  (repeat' (
    first
    | with_reducible assumption
    | (extract_lets +onlyGivenNames x; refine keeps_suff (s₀ := s₀) x ?_ (fun _ => ?_); (on_goal 1 => subst x); (on_goal 2 => try
        clear_value x))
    | extract_lets +onlyGivenNames _
    | with_reducible (refine foldl_keeps ?_ (fun _ _ _ => ?_) <;> try beta_reduce)
    | with_reducible apply State.setObj_keeps
    | with_reducible (fail_if_no_progress apply State.keeps_mk)
    | with_reducible apply ite_keeps))

theorem State.abortStep_keeps {s₀ s : State} (h : s₀.Keeps s) : s₀.Keeps (State.abortStep s) := by
  unfold State.abortStep
  grind only [State.keeps_mk, outKeeps_next, outKeeps_fault, outKeeps_refused, State.abortActions_keeps, State.stepStatus_keeps,
      State.setObj_keeps, State.mirrorDecide_keeps, State.replayWait_keeps, State.keepWake_keeps, State.count_keeps]

theorem State.wakeWrite_keeps {s₀ s : State} (a : ℕ) (len : ℕ) (h : s₀.Keeps s) : s₀.Keeps (State.wakeWrite s a len).2 := by
  unfold State.wakeWrite
  grind only [State.keeps_mk, outKeeps_next, outKeeps_fault, outKeeps_refused, State.count_keeps]

theorem State.takeConsortData_keeps {s₀ s : State} (f : Frame) (h : s₀.Keeps s) : s₀.Keeps (State.takeConsortData f s).1 := by
  unfold State.takeConsortData
  grind only [State.keeps_mk, outKeeps_next, outKeeps_fault, outKeeps_refused, State.no_keeps, State.write_keeps, State.ok_keeps]

theorem State.restoreEnd_keeps {s₀ s : State} (h : s₀.Keeps s) : s₀.Keeps (State.restoreEnd s) := by
  unfold State.restoreEnd
  (repeat' (
    first
    | with_reducible assumption
    | (extract_lets +onlyGivenNames x; refine keeps_suff (s₀ := s₀) x ?_ (fun _ => ?_); (on_goal 1 => subst x); (on_goal 2 => try
        clear_value x))
    | extract_lets +onlyGivenNames _
    | with_reducible apply State.count_keeps
    | with_reducible apply State.setObj_keeps
    | with_reducible apply State.readyTest_keeps
    | with_reducible apply State.setStepSt_keeps
    | with_reducible (fail_if_no_progress apply State.keeps_mk)))

theorem State.restoreFail_keeps {s₀ s : State} (h : s₀.Keeps s) : s₀.Keeps (State.restoreFail s) := by
  unfold State.restoreFail
  grind only [State.keeps_mk, outKeeps_next, outKeeps_fault, outKeeps_refused, State.setStepSt_keeps, State.setObj_keeps]

theorem State.streamDone_keeps {s₀ s : State} (f : Frame) (h : s₀.Keeps s) : s₀.Keeps (State.streamDone f s).1 := by
  unfold State.streamDone
  grind only [State.keeps_mk, outKeeps_next, outKeeps_fault, outKeeps_refused, State.no_keeps, State.ok_keeps, State.stepSend_keeps]

theorem State.takeConsortDone_keeps {s₀ s : State} (f : Frame) (h : s₀.Keeps s) : s₀.Keeps (State.takeConsortDone f s).1 := by
  unfold State.takeConsortDone
  grind only [State.keeps_mk, outKeeps_next, outKeeps_fault, outKeeps_refused, State.no_keeps, State.ok_keeps, State.restoreEnd_keeps,
      State.restoreFail_keeps, State.streamDone_keeps]

theorem State.notChecked_keeps {s₀ s : State} (mask : ℕ) (h : s₀.Keeps s) : s₀.Keeps (State.notChecked s mask) := by
  unfold State.notChecked
  grind only [State.keeps_mk, outKeeps_next, outKeeps_fault, outKeeps_refused, State.setStepSt_keeps, State.abortActions_keeps,
      State.vote_keeps]

theorem State.stepFail_keeps {s₀ s : State} (bit : ℕ) (arg : ℕ) (h : s₀.Keeps s) : s₀.Keeps (State.stepFail s bit arg) := by
  unfold State.stepFail
  grind only [State.keeps_mk, outKeeps_next, outKeeps_fault, outKeeps_refused, State.count_keeps, State.stepStatus_keeps,
      State.notChecked_keeps]

theorem State.consortFail_keeps {s₀ s : State} (h : s₀.Keeps s) : s₀.Keeps (State.consortFail s) := by
  unfold State.consortFail
  grind only [State.keeps_mk, outKeeps_next, outKeeps_fault, outKeeps_refused, State.stepFail_keeps, State.setObj_keeps,
      State.abandonStream_keeps]

theorem State.checkedTest_keeps {s₀ s : State} (h : s₀.Keeps s) : s₀.Keeps (State.checkedTest s) := by
  unfold State.checkedTest
  grind only [State.keeps_mk, outKeeps_next, outKeeps_fault, outKeeps_refused, State.vote_keeps, State.setStepSt_keeps]

theorem State.takeConsortAck_keeps {s₀ s : State} (f : Frame) (h : s₀.Keeps s) : s₀.Keeps (State.takeConsortAck f s).1 := by
  unfold State.takeConsortAck
  grind only [State.keeps_mk, outKeeps_next, outKeeps_fault, outKeeps_refused, State.no_keeps, State.ok_keeps, State.setObj_keeps,
      State.consortFail_keeps, State.checkedTest_keeps]

theorem State.openTally_keeps {s₀ s : State} (step : ℕ) (attempt : ℕ) (h : s₀.Keeps s) : s₀.Keeps (State.openTally s step attempt) := by
  unfold State.openTally
  grind only [State.keeps_mk, outKeeps_next, outKeeps_fault, outKeeps_refused]

theorem State.setTally_keeps {s₀ s : State} (step : ℕ) (attempt : ℕ) (a_t : Tally) (h : s₀.Keeps s) : s₀.Keeps (State.setTally s step
    attempt a_t) := by
  unfold State.setTally
  grind only [State.keeps_mk, outKeeps_next, outKeeps_fault, outKeeps_refused]

theorem State.tallyDecide_keeps {s₀ s : State} (a_t : Tally) (decision : ℕ) (dev : ℕ) (code : ℕ) (h : s₀.Keeps s) : s₀.Keeps
    (State.tallyDecide s a_t decision dev code) := by
  unfold State.tallyDecide
  grind only [State.keeps_mk, outKeeps_next, outKeeps_fault, outKeeps_refused, State.setObj_keeps, State.stepSend_keeps]

theorem State.takeStepVote_keeps {s₀ s : State} (f : Frame) (h : s₀.Keeps s) : s₀.Keeps (State.takeStepVote f s).1 := by
  unfold State.takeStepVote
  grind only [State.keeps_mk, outKeeps_next, outKeeps_fault, outKeeps_refused, State.no_keeps, State.openTally_keeps, State.ok_keeps,
      State.count_keeps, State.setTally_keeps, State.tallyDecide_keeps]

theorem State.freshWake_keeps {s₀ s : State} (h : s₀.Keeps s) : s₀.Keeps (State.freshWake s) := by
  unfold State.freshWake
  (repeat' (
    first
    | with_reducible assumption
    | (extract_lets +onlyGivenNames x; refine keeps_suff (s₀ := s₀) x ?_ (fun _ => ?_); (on_goal 1 => subst x); (on_goal 2 => try
        clear_value x))
    | extract_lets +onlyGivenNames _
    | with_reducible (refine foldl_keeps ?_ (fun _ _ _ => ?_) <;> try beta_reduce)
    | with_reducible apply State.setObj_keeps
    | with_reducible (fail_if_no_progress apply State.keeps_mk)))

theorem State.seal_keeps {s₀ s : State} (h : s₀.Keeps s) : s₀.Keeps (State.seal s) := by
  unfold State.seal
  grind only [State.keeps_mk, outKeeps_next, outKeeps_fault, outKeeps_refused, State.raise_keeps, State.count_keeps]

theorem State.sealTest_keeps {s₀ s : State} (h : s₀.Keeps s) : s₀.Keeps (State.sealTest s) := by
  unfold State.sealTest
  grind only [State.keeps_mk, outKeeps_next, outKeeps_fault, outKeeps_refused, State.seal_keeps]

theorem State.stepWp_keeps {s₀ s : State} (wp : ℕ) (k : WpKind) (h : s₀.Keeps s) : s₀.Keeps (State.stepWp s wp k) := by
  unfold State.stepWp
  grind only [State.keeps_mk, outKeeps_next, outKeeps_fault, outKeeps_refused, State.post_keeps]

theorem State.stepEntry_keeps {s₀ s : State} (carried : ℕ) (h : s₀.Keeps s) : s₀.Keeps (State.stepEntry s carried) := by
  unfold State.stepEntry
  (repeat' (
    first
    | with_reducible assumption
    | (extract_lets +onlyGivenNames x; refine keeps_suff (s₀ := s₀) x ?_ (fun _ => ?_); (on_goal 1 => subst x); (on_goal 2 => try
        clear_value x))
    | extract_lets +onlyGivenNames _
    | with_reducible (refine foldl_keeps ?_ (fun _ _ _ => ?_) <;> try beta_reduce)
    | with_reducible apply State.setObjs_keeps
    | with_reducible apply State.stepStatus_keeps
    | with_reducible apply State.stepLanes_keeps
    | with_reducible apply State.setStepSt_keeps
    | with_reducible apply State.setObj_keeps
    | with_reducible apply State.sealTest_keeps
    | with_reducible apply State.stepWp_keeps
    | with_reducible apply State.post_keeps
    | with_reducible apply State.notChecked_keeps
    | with_reducible (fail_if_no_progress apply State.keeps_mk)
    | with_reducible apply ite_keeps))

theorem State.commitStep_keeps {s₀ s : State} (h : s₀.Keeps s) : s₀.Keeps (State.commitStep s) := by
  unfold State.commitStep
  grind only [State.keeps_mk, outKeeps_next, outKeeps_fault, outKeeps_refused, State.setObjs_keeps, State.count_keeps,
      State.mirrorDecide_keeps, State.swapLanes_keeps, State.remapMarked_keeps, State.freshWake_keeps, State.stepEntry_keeps,
          State.fixMark_keeps]

theorem State.takeDecision_keeps {s₀ s : State} (f : Frame) (h : s₀.Keeps s) : s₀.Keeps (State.takeDecision f s).1 := by
  unfold State.takeDecision
  grind only [State.keeps_mk, outKeeps_next, outKeeps_fault, outKeeps_refused, State.no_keeps, State.ok_keeps, State.setObjs_keeps,
      State.count_keeps, State.commitStep_keeps, State.abortStep_keeps, State.stepEntry_keeps]

theorem State.sendImage_keeps {s₀ s : State} (opcode : ℕ) (cls : ℕ) (dev : ℕ) (step : ℕ) (attempt : ℕ) (image : List Byte) (h :
    s₀.Keeps s) : s₀.Keeps (State.sendImage s opcode cls dev step attempt image) := by
  unfold State.sendImage
  (repeat' (
    first
    | with_reducible assumption
    | (extract_lets +onlyGivenNames x; refine keeps_suff (s₀ := s₀) x ?_ (fun _ => ?_); (on_goal 1 => subst x); (on_goal 2 => try
        clear_value x))
    | extract_lets +onlyGivenNames _
    | with_reducible (refine foldl_keeps ?_ (fun _ _ _ => ?_) <;> try beta_reduce)
    | with_reducible apply State.stepSend_keeps))

theorem State.takeConsortPull_keeps {s₀ s : State} (f : Frame) (h : s₀.Keeps s) : s₀.Keeps (State.takeConsortPull f s).1 := by
  unfold State.takeConsortPull
  grind only [State.keeps_mk, outKeeps_next, outKeeps_fault, outKeeps_refused, State.no_keeps, State.ok_keeps, State.sendImage_keeps,
      State.noteRead_keeps]

theorem State.restoreBlock_keeps {s₀ s : State} (b : ℕ) (blk : List Byte) (h : s₀.Keeps s) : s₀.Keeps (State.restoreBlock s b blk) := by
  unfold State.restoreBlock
  grind only [State.keeps_mk, outKeeps_next, outKeeps_fault, outKeeps_refused, State.write_keeps]

theorem State.takeConsortLoad_keeps {s₀ s : State} (f : Frame) (h : s₀.Keeps s) : s₀.Keeps (State.takeConsortLoad f s).1 := by
  unfold State.takeConsortLoad
  (repeat' (
    first
    | with_reducible assumption
    | (extract_lets +onlyGivenNames x; refine keeps_suff (s₀ := s₀) x ?_ (fun _ => ?_); (on_goal 1 => subst x); (on_goal 2 => try
        clear_value x))
    | extract_lets +onlyGivenNames _
    | with_reducible (refine foldl_keeps ?_ (fun _ _ _ => ?_) <;> try beta_reduce)
    | with_reducible apply State.no_keeps
    | with_reducible apply State.restoreBlock_keeps
    | with_reducible apply State.ok_keeps
    | with_reducible (fail_if_no_progress apply State.keeps_mk)
    | with_reducible apply ite_keeps
    | with_reducible apply ite_fst
    | split))

theorem State.writeSeal_keeps {s₀ s : State} (key : ℕ) (v : ℕ) (h : s₀.Keeps s) : s₀.Keeps (State.writeSeal s key v).1 := by
  unfold State.writeSeal
  grind only [State.keeps_mk, outKeeps_next, outKeeps_fault, outKeeps_refused, State.no_keeps, State.ok_keeps, State.sealTest_keeps,
      State.setObj_keeps]

theorem State.stepBegin_keeps {s₀ s : State} (h : s₀.Keeps s) : s₀.Keeps (State.stepBegin s).1 := by
  unfold State.stepBegin
  grind only [State.keeps_mk, outKeeps_next, outKeeps_fault, outKeeps_refused, State.no_keeps, State.setObjs_keeps, State.ok_keeps,
      State.stepEntry_keeps, State.freshWake_keeps]

theorem State.leaveJob_keeps {s₀ s : State} (h : s₀.Keeps s) : s₀.Keeps (State.leaveJob s) := by
  unfold State.leaveJob
  grind only [State.keeps_mk, outKeeps_next, outKeeps_fault, outKeeps_refused, State.fixEndJob_keeps, State.abortActions_keeps,
      State.setObj_keeps, State.post_keeps, State.setStepSt_keeps]

theorem State.endJob_keeps {s₀ s : State} (h : s₀.Keeps s) : s₀.Keeps (State.endJob s).1 := by
  unfold State.endJob
  grind only [State.keeps_mk, outKeeps_next, outKeeps_fault, outKeeps_refused, State.no_keeps, State.ok_keeps, State.leaveJob_keeps]

theorem State.spareRestore_keeps {s₀ s : State} (h : s₀.Keeps s) : s₀.Keeps (State.spareRestore s).1 := by
  unfold State.spareRestore
  grind only [State.keeps_mk, outKeeps_next, outKeeps_fault, outKeeps_refused, State.no_keeps, State.ok_keeps,
      State.startRestore_keeps, State.setObj_keeps]

theorem State.writeStepCtrl_keeps {s₀ s : State} (v : ℕ) (h : s₀.Keeps s) : s₀.Keeps (State.writeStepCtrl s v).1 := by
  unfold State.writeStepCtrl
  grind only [State.keeps_mk, outKeeps_next, outKeeps_fault, outKeeps_refused, State.stepBegin_keeps, State.endJob_keeps,
      State.spareRestore_keeps, State.ok_keeps, State.setStepSt_keeps, State.no_keeps]

theorem State.writeWakeEntry_keeps {s₀ s : State} (key : ℕ) (v : ℕ) (h : s₀.Keeps s) : s₀.Keeps (State.writeWakeEntry s key v).1 := by
  unfold State.writeWakeEntry
  grind only [State.keeps_mk, outKeeps_next, outKeeps_fault, outKeeps_refused, State.no_keeps, State.ok_keeps, State.setObj_keeps]

theorem State.fenceCore_keeps {s₀ s : State} (core : ℕ) (h : s₀.Keeps s) : s₀.Keeps (State.fenceCore s core) := by
  unfold State.fenceCore
  grind only [State.keeps_mk, outKeeps_next, outKeeps_fault, outKeeps_refused, State.setCoreSt_keeps, State.dropWaits_keeps,
      State.setCore_keeps]

theorem State.fenceModule_keeps {s₀ s : State} (how : ℕ) (cause : ℕ) (h : s₀.Keeps s) : s₀.Keeps (State.fenceModule s how cause) := by
  unfold State.fenceModule
  (repeat' (
    first
    | with_reducible assumption
    | (extract_lets +onlyGivenNames x; refine keeps_suff (s₀ := s₀) x ?_ (fun _ => ?_); (on_goal 1 => subst x); (on_goal 2 => try
        clear_value x))
    | extract_lets +onlyGivenNames _
    | with_reducible (refine foldl_keeps ?_ (fun _ _ _ => ?_) <;> try beta_reduce)
    | with_reducible apply State.fenceCore_keeps
    | with_reducible apply State.ctxAbandon_keeps
    | with_reducible apply State.setObj_keeps
    | with_reducible apply State.abandonStream_keeps
    | with_reducible apply State.fencePort_keeps
    | with_reducible apply State.dropTimed_keeps
    | with_reducible apply State.fixEnd_keeps
    | with_reducible apply State.setObjs_keeps
    | with_reducible apply State.count_keeps
    | with_reducible apply State.logEvent_keeps
    | with_reducible (fail_if_no_progress apply State.keeps_mk)))

theorem State.liftFence_keeps {s₀ s : State} (h : s₀.Keeps s) : s₀.Keeps (State.liftFence s) := by
  unfold State.liftFence
  (repeat' (
    first
    | with_reducible assumption
    | (extract_lets +onlyGivenNames x; refine keeps_suff (s₀ := s₀) x ?_ (fun _ => ?_); (on_goal 1 => subst x); (on_goal 2 => try
        clear_value x))
    | extract_lets +onlyGivenNames _
    | with_reducible (refine foldl_keeps ?_ (fun _ _ _ => ?_) <;> try beta_reduce)
    | with_reducible apply State.setCoreSt_keeps
    | with_reducible apply State.setObjs_keeps
    | with_reducible apply State.post_keeps
    | with_reducible (fail_if_no_progress apply State.keeps_mk)
    | with_reducible apply ite_keeps))

theorem State.releaseFence_keeps {s₀ s : State} (h : s₀.Keeps s) : s₀.Keeps (State.releaseFence s).1 := by
  unfold State.releaseFence
  grind only [State.keeps_mk, outKeeps_next, outKeeps_fault, outKeeps_refused, State.no_keeps, State.ok_keeps, State.liftFence_keeps]

theorem State.writeFenceCtrl_keeps {s₀ s : State} (v : ℕ) (h : s₀.Keeps s) : s₀.Keeps (State.writeFenceCtrl s v).1 := by
  unfold State.writeFenceCtrl
  grind only [State.keeps_mk, outKeeps_next, outKeeps_fault, outKeeps_refused, State.no_keeps, State.ok_keeps, State.fenceModule_keeps,
      State.releaseFence_keeps]

theorem State.writeFenceReq_keeps {s₀ s : State} (v : ℕ) (h : s₀.Keeps s) : s₀.Keeps (State.writeFenceReq s v).1 := by
  unfold State.writeFenceReq
  grind only [State.keeps_mk, outKeeps_next, outKeeps_fault, outKeeps_refused, State.no_keeps, State.ok_keeps, State.logEvent_keeps,
      State.setObj_keeps]

theorem State.writeStepObj_keeps {s₀ s : State} (key : ℕ) (v : ℕ) (h : s₀.Keeps s) : s₀.Keeps (State.writeStepObj s key v).1 := by
  unfold State.writeStepObj
  grind only [State.keeps_mk, outKeeps_next, outKeeps_fault, outKeeps_refused, State.no_keeps, State.setObj_keeps, State.ok_keeps,
      State.readyTest_keeps]

theorem State.noteStreaming_keeps {s₀ s : State} (h : s₀.Keeps s) : s₀.Keeps (State.noteStreaming s) := by
  unfold State.noteStreaming
  grind only [State.keeps_mk, outKeeps_next, outKeeps_fault, outKeeps_refused, State.setObj_keeps]

theorem State.stepRefused_keeps {s₀ s : State} (f : Frame) (h : s₀.Keeps s) : s₀.Keeps (State.stepRefused s f) := by
  unfold State.stepRefused
  grind only [State.keeps_mk, outKeeps_next, outKeeps_fault, outKeeps_refused, State.restoreFail_keeps]

theorem State.stepLanded_keeps {s₀ s : State} (h : s₀.Keeps s) : s₀.Keeps (State.stepLanded s) := by
  unfold State.stepLanded
  grind only [State.keeps_mk, outKeeps_next, outKeeps_fault, outKeeps_refused, State.setObj_keeps]

theorem State.stepLost_keeps {s₀ s : State} (f : Frame) (h : s₀.Keeps s) : s₀.Keeps (State.stepLost s f) := by
  unfold State.stepLost
  grind only [State.keeps_mk, outKeeps_next, outKeeps_fault, outKeeps_refused, State.restoreFail_keeps, State.consortFail_keeps]

theorem State.readShard_keeps {s₀ s : State} (h : s₀.Keeps s) : s₀.Keeps (State.readShard s) := by
  unfold State.readShard
  grind only [State.keeps_mk, outKeeps_next, outKeeps_fault, outKeeps_refused, State.noteRead_keeps]

theorem State.openStream_keeps {s₀ s : State} (h : s₀.Keeps s) : s₀.Keeps (State.openStream s) := by
  unfold State.openStream
  grind only [State.keeps_mk, outKeeps_next, outKeeps_fault, outKeeps_refused, State.readShard_keeps, State.setObjs_keeps,
      State.sendImage_keeps, State.noteStreaming_keeps]

theorem State.wakeAdd_keeps {s₀ s : State} (wp : ℕ) (h : s₀.Keeps s) : s₀.Keeps (State.wakeAdd s wp).2 := by
  unfold State.wakeAdd
  (repeat' (
    first
    | with_reducible assumption
    | extract_lets +onlyGivenNames _
    | with_reducible (refine foldl_keeps ?_ (fun _ _ _ => ?_) <;> try beta_reduce)
    | with_reducible apply State.count_keeps
    | with_reducible (fail_if_no_progress apply State.keeps_mk)
    | with_reducible apply ite_snd))

theorem State.stepTest_keeps {s₀ s : State} (h : s₀.Keeps s) : s₀.Keeps (State.stepTest s) := by
  unfold State.stepTest
  grind only [State.keeps_mk, outKeeps_next, outKeeps_fault, outKeeps_refused, State.setObj_keeps, State.setStepSt_keeps,
      State.checkedTest_keeps, State.readyTest_keeps, State.sendPull_keeps]

theorem State.selfFence_keeps {s₀ s : State} (event : ℕ) (h : s₀.Keeps s) : s₀.Keeps (State.selfFence s event) := by
  unfold State.selfFence
  (repeat' (
    first
    | with_reducible assumption
    | (extract_lets +onlyGivenNames x; refine keeps_suff (s₀ := s₀) x ?_ (fun _ => ?_); (on_goal 1 => subst x); (on_goal 2 => try
        clear_value x))
    | extract_lets +onlyGivenNames _
    | with_reducible (refine foldl_keeps ?_ (fun _ _ _ => ?_) <;> try beta_reduce)
    | with_reducible apply State.alert_keeps
    | with_reducible apply State.fenceModule_keeps
    | with_reducible apply State.domainOff_keeps
    | with_reducible apply ite_keeps))

theorem doCheckTimeout_keeps {s₀ s : State} (h : s₀.Keeps s) : OutKeeps s₀ (doCheckTimeout s) := by
  unfold doCheckTimeout
  grind only [State.keeps_mk, outKeeps_next, outKeeps_fault, outKeeps_refused, State.stepFail_keeps]

theorem doConsortStream_keeps {s₀ s : State} (h : s₀.Keeps s) : OutKeeps s₀ (doConsortStream s) := by
  unfold doConsortStream
  grind only [State.keeps_mk, outKeeps_next, outKeeps_fault, outKeeps_refused, State.openStream_keeps]

theorem doConsortTimeout_keeps {s₀ s : State} (h : s₀.Keeps s) : OutKeeps s₀ (doConsortTimeout s) := by
  unfold doConsortTimeout
  grind only [State.keeps_mk, outKeeps_next, outKeeps_fault, outKeeps_refused, State.consortFail_keeps]

theorem doFenceN_keeps {s₀ s : State} (h : s₀.Keeps s) : OutKeeps s₀ (doFenceN s) := by
  unfold doFenceN
  (repeat' (
    first
    | with_reducible assumption
    | (extract_lets +onlyGivenNames x; refine keeps_suff (s₀ := s₀) x ?_ (fun _ => ?_); (on_goal 1 => subst x); (on_goal 2 => try
        clear_value x))
    | extract_lets +onlyGivenNames _
    | with_reducible apply State.hmuWork_keeps
    | with_reducible apply State.logEvent_keeps
    | with_reducible apply State.fenceModule_keeps
    | with_reducible apply State.setObj_keeps
    | with_reducible (fail_if_no_progress apply State.keeps_mk)
    | with_reducible apply outKeeps_next
    | with_reducible apply ite_out
    | split))

theorem doFenceNRelease_keeps {s₀ s : State} (h : s₀.Keeps s) : OutKeeps s₀ (doFenceNRelease s) := by
  unfold doFenceNRelease
  grind only [State.keeps_mk, outKeeps_next, outKeeps_fault, outKeeps_refused, State.hmuWork_keeps]

theorem doVoteResend_keeps {s₀ s : State} (h : s₀.Keeps s) : OutKeeps s₀ (doVoteResend s) := by
  unfold doVoteResend
  grind only [State.keeps_mk, outKeeps_next, outKeeps_fault, outKeeps_refused, State.sendVote_keeps]

end Sys2Proof.Machine
end

