-- ==== Sys2Proof/Laws/Keeps/Host.lean ====
section
/-! SUPPORT. What the functions of Machine/Host.lean keep (`State.Keeps`): one lemma for each, cited by those of its callers. -/

namespace Sys2Proof.Machine

set_option linter.tactic.unusedName false

theorem State.answerHost_keeps {s₀ s : State} (silent : Bool) (m : OutMsg) (h : s₀.Keeps s) : s₀.Keeps (State.answerHost s silent m) := by
  unfold State.answerHost
  grind only [State.keeps_mk, outKeeps_next, outKeeps_fault, outKeeps_refused, State.send_keeps]

theorem State.writeHostPortCtrl_keeps {s₀ s : State} (p : ℕ) (v : ℕ) (h : s₀.Keeps s) : s₀.Keeps (State.writeHostPortCtrl s p v).1 := by
  unfold State.writeHostPortCtrl
  grind only [State.keeps_mk, outKeeps_next, outKeeps_fault, outKeeps_refused, State.ok_keeps, State.setObjs_keeps, State.setObj_keeps,
      State.no_keeps]

theorem State.writeHostPort_keeps {s₀ s : State} (p : ℕ) (key : ℕ) (v : ℕ) (h : s₀.Keeps s) : s₀.Keeps (State.writeHostPort s p key
    v).1 := by
  unfold State.writeHostPort
  grind only [State.keeps_mk, outKeeps_next, outKeeps_fault, outKeeps_refused, State.no_keeps, State.ok_keeps, State.setObj_keeps]

theorem State.qpOpen_keeps {s₀ s : State} (k : ℕ) (h : s₀.Keeps s) : s₀.Keeps (State.qpOpen s k).1 := by
  unfold State.qpOpen
  grind only [State.keeps_mk, outKeeps_next, outKeeps_fault, outKeeps_refused, State.no_keeps, State.ok_keeps, State.setObj_keeps,
      State.setConn_keeps]

theorem State.hushConn_keeps {s₀ s : State} (k : ℕ) (h : s₀.Keeps s) : s₀.Keeps (State.hushConn s k) := by
  unfold State.hushConn
  grind only [State.keeps_mk, outKeeps_next, outKeeps_fault, outKeeps_refused, State.setConn_keeps]

theorem State.qpClose_keeps {s₀ s : State} (k : ℕ) (h : s₀.Keeps s) : s₀.Keeps (State.qpClose s k).1 := by
  unfold State.qpClose
  grind only [State.keeps_mk, outKeeps_next, outKeeps_fault, outKeeps_refused, State.ok_keeps, State.setObj_keeps, State.setConn_keeps,
      State.hushConn_keeps]

theorem State.writeQpCtrl_keeps {s₀ s : State} (k : ℕ) (v : ℕ) (h : s₀.Keeps s) : s₀.Keeps (State.writeQpCtrl s k v).1 := by
  unfold State.writeQpCtrl
  grind only [State.keeps_mk, outKeeps_next, outKeeps_fault, outKeeps_refused, State.qpOpen_keeps, State.qpClose_keeps, State.no_keeps]

theorem State.writeQp_keeps {s₀ s : State} (k : ℕ) (key : ℕ) (v : ℕ) (h : s₀.Keeps s) : s₀.Keeps (State.writeQp s k key v).1 := by
  unfold State.writeQp
  grind only [State.keeps_mk, outKeeps_next, outKeeps_fault, outKeeps_refused, State.no_keeps, State.ok_keeps, State.setObj_keeps]

theorem State.connAfter_keeps {s₀ s : State} (k : ℕ) (code : ℕ) (h : s₀.Keeps s) : s₀.Keeps (State.connAfter s k code) := by
  unfold State.connAfter
  grind only [State.keeps_mk, outKeeps_next, outKeeps_fault, outKeeps_refused, State.setObj_keeps, State.hushConn_keeps]

theorem State.hostWrite_keeps {s₀ s : State} (m : HostMsg) (together : Bool) (h : s₀.Keeps s) : s₀.Keeps (State.hostWrite s m together)
    := by
  unfold State.hostWrite
  grind only [State.keeps_mk, outKeeps_next, outKeeps_fault, outKeeps_refused, State.setConn_keeps, State.count_keeps,
      State.wakeWrite_keeps, State.write_keeps]

theorem State.hostAccept_keeps {s₀ s : State} (op : HostOp) (m : HostMsg) (together : Bool) (h : s₀.Keeps s) : s₀.Keeps
    (State.hostAccept s op m together) := by
  unfold State.hostAccept
  grind only [State.keeps_mk, outKeeps_next, outKeeps_fault, outKeeps_refused, State.setConn_keeps, State.hostWrite_keeps]

theorem State.hostData_keeps {s₀ s : State} (m : HostMsg) (h : s₀.Keeps s) : s₀.Keeps (State.hostData s m).2 := by
  unfold State.hostData
  grind only [State.keeps_mk, outKeeps_next, outKeeps_fault, outKeeps_refused, State.noteRead_keeps]

theorem State.settleUnbind_keeps {s₀ s : State} (k : ℕ) (h : s₀.Keeps s) : s₀.Keeps (State.settleUnbind s k) := by
  unfold State.settleUnbind
  grind only [State.keeps_mk, outKeeps_next, outKeeps_fault, outKeeps_refused, State.setObj_keeps, State.setConn_keeps]

theorem State.performWait_keeps {s₀ s : State} (k : ℕ) (w : HostWait) (h : s₀.Keeps s) : s₀.Keeps (State.performWait s k w) := by
  unfold State.performWait
  grind only [State.keeps_mk, outKeeps_next, outKeeps_fault, outKeeps_refused, State.count_keeps, State.answerHost_keeps,
      State.post_keeps, State.hostData_keeps, State.setConn_keeps]

theorem State.hostDrain_keeps {s₀ s : State} (h : s₀.Keeps s) : ∀ t, State.hostDrain s = some t → s₀.Keeps t := by
  unfold State.hostDrain
  intro t e
  obtain ⟨x, -, rfl⟩ := Option.map_eq_some_iff.mp e
  exact State.settleUnbind_keeps _ (State.performWait_keeps _ _ (State.setConn_keeps _ _ h))

theorem State.hostFec_keeps {s₀ s : State} (m : HostMsg) (h : s₀.Keeps s) : s₀.Keeps (State.hostFec s m) := by
  unfold State.hostFec
  grind only [State.keeps_mk, outKeeps_next, outKeeps_fault, outKeeps_refused, State.count_keeps]

theorem State.logHost_keeps {s₀ s : State} (m : HostMsg) (code : ℕ) (h : s₀.Keeps s) : s₀.Keeps (State.logHost s m code) := by
  unfold State.logHost
  grind only [State.keeps_mk, outKeeps_next, outKeeps_fault, outKeeps_refused, State.logViolation_keeps, State.logEvent_keeps]

theorem State.hostRefuse_keeps {s₀ s : State} (m : HostMsg) (code : ℕ) (h : s₀.Keeps s) : s₀.Keeps (State.hostRefuse s m code) := by
  unfold State.hostRefuse
  grind only [State.keeps_mk, outKeeps_next, outKeeps_fault, outKeeps_refused, State.setObj_keeps, State.send_keeps, State.count_keeps,
      State.connAfter_keeps, State.logHost_keeps]

theorem State.takePsn_keeps {s₀ s : State} (op : HostOp) (m : HostMsg) (h : s₀.Keeps s) : s₀.Keeps (State.takePsn s op m) := by
  unfold State.takePsn
  grind only [State.keeps_mk, outKeeps_next, outKeeps_fault, outKeeps_refused, State.setConn_keeps]

theorem State.hostFresh_keeps {s₀ s : State} (op : HostOp) (m : HostMsg) (together : Bool) (h : s₀.Keeps s) : s₀.Keeps (State.hostFresh
    s op m together) := by
  unfold State.hostFresh
  grind only [State.keeps_mk, outKeeps_next, outKeeps_fault, outKeeps_refused, State.hostRefuse_keeps, State.hostAccept_keeps,
      State.takePsn_keeps]

theorem State.hostRepeat_keeps {s₀ s : State} (op : HostOp) (m : HostMsg) (together : Bool) (h : s₀.Keeps s) : s₀.Keeps
    (State.hostRepeat s op m together) := by
  unfold State.hostRepeat
  grind only [State.keeps_mk, outKeeps_next, outKeeps_fault, outKeeps_refused, State.hostRefuse_keeps, State.send_keeps,
      State.hostAccept_keeps]

theorem State.sendCnp_keeps {s₀ s : State} (k : ℕ) (h : s₀.Keeps s) : s₀.Keeps (State.sendCnp s k) := by
  unfold State.sendCnp
  grind only [State.keeps_mk, outKeeps_next, outKeeps_fault, outKeeps_refused, State.send_keeps, State.setConn_keeps]

theorem State.hostRequest_keeps {s₀ s : State} (op : HostOp) (m : HostMsg) (together : Bool) (h : s₀.Keeps s) : s₀.Keeps
    (State.hostRequest s op m together) := by
  unfold State.hostRequest
  (repeat' (
    first
    | with_reducible assumption
    | (extract_lets +onlyGivenNames x; refine keeps_suff (s₀ := s₀) x ?_ (fun _ => ?_); (on_goal 1 => subst x); (on_goal 2 => try
        clear_value x))
    | extract_lets +onlyGivenNames _
    | with_reducible apply State.hostFec_keeps
    | with_reducible apply State.sendCnp_keeps
    | with_reducible apply State.hostFresh_keeps
    | with_reducible apply State.hostRepeat_keeps
    | with_reducible apply State.send_keeps
    | with_reducible apply ite_keeps))

theorem withConn_keeps {s₀ s : State} (k : ℕ) (o : Out) (h : s₀.Keeps s) (h_o : OutKeeps s₀ o) : OutKeeps s₀ (withConn s k o) := by
  unfold withConn
  grind only [State.keeps_mk, outKeeps_next, outKeeps_fault, outKeeps_refused]

theorem doAtomicFetchAdd_keeps {s₀ s : State} (m : HostMsg) (h : s₀.Keeps s) : OutKeeps s₀ (doAtomicFetchAdd m s) := by
  unfold doAtomicFetchAdd
  grind only [State.keeps_mk, outKeeps_next, outKeeps_fault, outKeeps_refused, withConn_keeps, State.hostRequest_keeps]

theorem doCnp_keeps {s₀ s : State} (k : ℕ) (h : s₀.Keeps s) : OutKeeps s₀ (doCnp k s) := by
  unfold doCnp
  grind only [State.keeps_mk, outKeeps_next, outKeeps_fault, outKeeps_refused, withConn_keeps, State.count_keeps, State.setConn_keeps]

theorem doCnpRateRestore_keeps {s₀ s : State} (k : ℕ) (h : s₀.Keeps s) : OutKeeps s₀ (doCnpRateRestore k s) := by
  unfold doCnpRateRestore
  grind only [State.keeps_mk, outKeeps_next, outKeeps_fault, outKeeps_refused, withConn_keeps, State.setConn_keeps]

theorem withHostPort_keeps {s₀ s : State} (p : ℕ) (o : Out) (h : s₀.Keeps s) (h_o : OutKeeps s₀ o) : OutKeeps s₀ (withHostPort s p o)
    := by
  unfold withHostPort
  grind only [State.keeps_mk, outKeeps_next, outKeeps_fault, outKeeps_refused]

theorem doHostLinkDown_keeps {s₀ s : State} (p : ℕ) (h : s₀.Keeps s) : OutKeeps s₀ (doHostLinkDown p s) := by
  unfold doHostLinkDown
  grind only [State.keeps_mk, outKeeps_next, outKeeps_fault, outKeeps_refused, withHostPort_keeps, State.setObj_keeps]

theorem doHostLinkUp_keeps {s₀ s : State} (p : ℕ) (h : s₀.Keeps s) : OutKeeps s₀ (doHostLinkUp p s) := by
  unfold doHostLinkUp
  grind only [State.keeps_mk, outKeeps_next, outKeeps_fault, outKeeps_refused, withHostPort_keeps, State.hostTrained_keeps]

theorem doRdmaRead_keeps {s₀ s : State} (m : HostMsg) (errors : List StoredError) (h : s₀.Keeps s) : OutKeeps s₀ (doRdmaRead m errors
    s) := by
  unfold doRdmaRead
  grind only [State.keeps_mk, outKeeps_next, outKeeps_fault, outKeeps_refused, withConn_keeps, State.hostRequest_keeps,
      State.strikes_keeps]

theorem doRdmaWrite_keeps {s₀ s : State} (m : HostMsg) (h : s₀.Keeps s) : OutKeeps s₀ (doRdmaWrite m s) := by
  unfold doRdmaWrite
  grind only [State.keeps_mk, outKeeps_next, outKeeps_fault, outKeeps_refused, withConn_keeps, State.hostRequest_keeps]

theorem doWaypointClear_keeps {s₀ s : State} (m : HostMsg) (together : Bool) (h : s₀.Keeps s) : OutKeeps s₀ (doWaypointClear m together
    s) := by
  unfold doWaypointClear
  grind only [State.keeps_mk, outKeeps_next, outKeeps_fault, outKeeps_refused, withConn_keeps, State.hostRequest_keeps]

theorem doWaypointMark_keeps {s₀ s : State} (m : HostMsg) (h : s₀.Keeps s) : OutKeeps s₀ (doWaypointMark m s) := by
  unfold doWaypointMark
  grind only [State.keeps_mk, outKeeps_next, outKeeps_fault, outKeeps_refused, withConn_keeps, State.hostRequest_keeps]

end Sys2Proof.Machine
end

