-- ==== Sys2Proof/Laws/Keeps/Stages.lean ====
section
/-! SUPPORT. What the functions of Machine/Stages.lean keep (`State.Keeps`): one lemma for each, cited by those of its callers. -/

namespace Sys2Proof.Machine

theorem State.writeStgCtrl_keeps {s₀ s : State} (k : ℕ) (v : ℕ) (h : s₀.Keeps s) : s₀.Keeps (State.writeStgCtrl s k v).1 := by
  unfold State.writeStgCtrl
  grind only [State.keeps_mk, outKeeps_next, outKeeps_fault, outKeeps_refused, State.no_keeps, State.ok_keeps, State.setObjs_keeps,
      State.setObj_keeps]

theorem State.writeStage_keeps {s₀ s : State} (k : ℕ) (key : ℕ) (v : ℕ) (h : s₀.Keeps s) : s₀.Keeps (State.writeStage s k key v).1 := by
  unfold State.writeStage
  grind only [State.keeps_mk, outKeeps_next, outKeeps_fault, outKeeps_refused, State.no_keeps, State.ok_keeps, State.setObj_keeps]

theorem State.idleTick_keeps {s₀ s : State} (n : ℕ) (core : ℕ) (h : s₀.Keeps s) : s₀.Keeps (State.idleTick n s core) := by
  unfold State.idleTick
  grind only [State.keeps_mk, outKeeps_next, outKeeps_fault, outKeeps_refused, State.setCore_keeps, State.count_keeps]

end Sys2Proof.Machine
end

