-- ==== Sys2Proof/Laws/Keeps/Mgmt.lean ====
section
/-! SUPPORT. What the functions of Machine/Mgmt.lean keep (`State.Keeps`): one lemma for each, cited by those of its callers. -/

namespace Sys2Proof.Machine

set_option linter.tactic.unusedName false

theorem State.writeKey_keeps {s₀ s : State} (role : ℕ) (l : List Byte) (h : s₀.Keeps s) : s₀.Keeps (State.writeKey s role l).1 := by
  unfold State.writeKey
  grind only [State.keeps_mk, outKeeps_next, outKeeps_fault, outKeeps_refused, State.no_keeps, State.count_keeps, State.ok_keeps]

theorem State.clearObj_keeps {s₀ s : State} (key : ℕ) (mask : ℕ) (h : s₀.Keeps s) : s₀.Keeps (State.clearObj s key mask).1 := by
  unfold State.clearObj
  grind only [State.keeps_mk, outKeeps_next, outKeeps_fault, outKeeps_refused, State.ok_keeps, State.setObj_keeps]

theorem State.storeIf_keeps {s₀ s : State} (key : ℕ) (v : ℕ) (fits : Bool) (h : s₀.Keeps s) : s₀.Keeps (State.storeIf s key v fits).1
    := by
  unfold State.storeIf
  grind only [State.keeps_mk, outKeeps_next, outKeeps_fault, outKeeps_refused, State.ok_keeps, State.setObj_keeps, State.no_keeps]

theorem State.writeCoreArea_keeps {s₀ s : State} (core : ℕ) (key : ℕ) (v : ℕ) (h : s₀.Keeps s) : s₀.Keeps (State.writeCoreArea s core
    key v).1 := by
  unfold State.writeCoreArea
  grind only [State.keeps_mk, outKeeps_next, outKeeps_fault, outKeeps_refused, State.clearObj_keeps, State.storeIf_keeps,
      State.writeCoreCtrl_keeps, State.writeProgGen_keeps, State.writeLaunch_keeps, State.writeLyrStart_keeps, State.writeLyr_keeps]

theorem State.writeServiceArea_keeps {s₀ s : State} (key : ℕ) (v : ℕ) (h : s₀.Keeps s) : s₀.Keeps (State.writeServiceArea s key v).1 := by
  unfold State.writeServiceArea
  grind only [State.keeps_mk, outKeeps_next, outKeeps_fault, outKeeps_refused, State.writeDictDefaults_keeps,
      State.writeAttNonce_keeps, State.writeAttCtrl_keeps, State.writeFwCtrl_keeps, State.writeFwOffset_keeps,
          State.writeCfgOffset_keeps, State.writeCfgCtrl_keeps, State.writeBistCtrl_keeps, State.ok_keeps, State.setObj_keeps,
              State.storeIf_keeps]

theorem State.writeMgmtArea_keeps {s₀ s : State} (key : ℕ) (v : ℕ) (h : s₀.Keeps s) : s₀.Keeps (State.writeMgmtArea s key v).1 := by
  unfold State.writeMgmtArea
  grind only [State.keeps_mk, outKeeps_next, outKeeps_fault, outKeeps_refused, State.clearObj_keeps, State.ok_keeps,
      State.clearAlert_keeps, State.storeIf_keeps, State.setObj_keeps]

theorem State.writePower_keeps {s₀ s : State} (key : ℕ) (v : ℕ) (h : s₀.Keeps s) : s₀.Keeps (State.writePower s key v).1 := by
  unfold State.writePower
  grind only [State.keeps_mk, outKeeps_next, outKeeps_fault, outKeeps_refused, State.writePwrLimit_keeps, State.clearObj_keeps,
      State.writePowerCtrl_keeps, State.writeThrPinStep_keeps, State.writePdCtrl_keeps, State.writeClkCap_keeps, State.no_keeps]

theorem State.writeHealth_keeps {s₀ s : State} (key : ℕ) (v : ℕ) (h : s₀.Keeps s) : s₀.Keeps (State.writeHealth s key v).1 := by
  unfold State.writeHealth
  grind only [State.keeps_mk, outKeeps_next, outKeeps_fault, outKeeps_refused, State.writeDriftThresh_keeps, State.clearObj_keeps,
      State.writeSparePressure_keeps, State.writeRsvSwap_keeps, State.writeRetiredMap_keeps, State.writeBankThresh_keeps,
          State.ok_keeps, State.setObj_keeps]

theorem State.writeFabric_keeps {s₀ s : State} (key : ℕ) (v : ℕ) (h : s₀.Keeps s) : s₀.Keeps (State.writeFabric s key v).1 := by
  unfold State.writeFabric
  grind only [State.keeps_mk, outKeeps_next, outKeeps_fault, outKeeps_refused, State.writeChartCtrl_keeps, State.storeIf_keeps,
      State.writeChartSelf_keeps, State.writeFenceVec_keeps, State.writeFanEntry_keeps, State.ok_keeps, State.setObj_keeps]

theorem State.writePort_keeps {s₀ s : State} (p : ℕ) (key : ℕ) (v : ℕ) (h : s₀.Keeps s) : s₀.Keeps (State.writePort s p key v).1 := by
  unfold State.writePort
  grind only [State.keeps_mk, outKeeps_next, outKeeps_fault, outKeeps_refused, State.writePortCtrl_keeps, State.storeIf_keeps,
      State.clearObj_keeps]

theorem State.writeCtx_keeps {s₀ s : State} (n : ℕ) (key : ℕ) (v : ℕ) (h : s₀.Keeps s) : s₀.Keeps (State.writeCtx s n key v).1 := by
  unfold State.writeCtx
  grind only [State.keeps_mk, outKeeps_next, outKeeps_fault, outKeeps_refused, State.writeCtxArm_keeps, State.writeCtxCtrl_keeps]

theorem State.writeHbm_keeps {s₀ s : State} (key : ℕ) (v : ℕ) (h : s₀.Keeps s) : s₀.Keeps (State.writeHbm s key v).1 := by
  unfold State.writeHbm
  grind only [State.keeps_mk, outKeeps_next, outKeeps_fault, outKeeps_refused, State.writeHbmRate_keeps, State.writeScrubPeriod_keeps,
      State.writeRowThresh_keeps, State.writeLaneThresh_keeps, State.writeMapBase_keeps, State.writeSxtCtrl_keeps,
          State.writeSxtSetting_keeps, State.clearObj_keeps, State.ok_keeps, State.setObj_keeps]

theorem State.writeFixArea_keeps {s₀ s : State} (key : ℕ) (v : ℕ) (h : s₀.Keeps s) : s₀.Keeps (State.writeFixArea s key v).1 := by
  unfold State.writeFixArea
  grind only [State.keeps_mk, outKeeps_next, outKeeps_fault, outKeeps_refused, State.writeFixCtrl_keeps, State.writeFixSvc_keeps,
      State.writeDrained_keeps, State.ok_keeps, State.setObj_keeps, State.writeRegion_keeps, State.writeFix_keeps]

theorem State.writeSlot_keeps {s₀ s : State} (k : ℕ) (key : ℕ) (v : ℕ) (h : s₀.Keeps s) : s₀.Keeps (State.writeSlot s k key v).1 := by
  unfold State.writeSlot
  grind only [State.keeps_mk, outKeeps_next, outKeeps_fault, outKeeps_refused, State.writeSliceCtrl_keeps, State.performSwaps_keeps,
      State.writeSlice_keeps]

theorem State.writeStageSlot_keeps {s₀ s : State} (k : ℕ) (key : ℕ) (v : ℕ) (h : s₀.Keeps s) : s₀.Keeps (State.writeStageSlot s k key
    v).1 := by
  unfold State.writeStageSlot
  grind only [State.keeps_mk, outKeeps_next, outKeeps_fault, outKeeps_refused, State.writeStgCtrl_keeps, State.clearObj_keeps,
      State.writeStage_keeps]

theorem State.writeStepArea_keeps {s₀ s : State} (key : ℕ) (v : ℕ) (h : s₀.Keeps s) : s₀.Keeps (State.writeStepArea s key v).1 := by
  unfold State.writeStepArea
  grind only [State.keeps_mk, outKeeps_next, outKeeps_fault, outKeeps_refused, State.writeSeal_keeps, State.writeStepCtrl_keeps,
      State.clearObj_keeps, State.writeWakeEntry_keeps, State.writeFenceCtrl_keeps, State.writeFenceReq_keeps, State.writeStepObj_keeps]

theorem State.writeChronoArea_keeps {s₀ s : State} (key : ℕ) (v : ℕ) (h : s₀.Keeps s) : s₀.Keeps (State.writeChronoArea s key v).1 := by
  unfold State.writeChronoArea
  grind only [State.keeps_mk, outKeeps_next, outKeeps_fault, outKeeps_refused, State.storeIf_keeps, State.writeChrParent_keeps,
      State.writeChrAlt_keeps, State.writeChrSet_keeps, State.ok_keeps, State.setObj_keeps]

theorem State.writeHostArea_keeps {s₀ s : State} (key : ℕ) (v : ℕ) (h : s₀.Keeps s) : s₀.Keeps (State.writeHostArea s key v).1 := by
  unfold State.writeHostArea
  grind only [State.keeps_mk, outKeeps_next, outKeeps_fault, outKeeps_refused, State.writeHostPortCtrl_keeps,
      State.writeHostPort_keeps, State.writeQpCtrl_keeps, State.writeQp_keeps]

theorem State.writeValue_keeps {s₀ s : State} (key : ℕ) (v : ℕ) (h : s₀.Keeps s) : s₀.Keeps (State.writeValue s key v).1 := by
  unfold State.writeValue
  (repeat' (
    first
    | with_reducible assumption
    | extract_lets +onlyGivenNames _
    | with_reducible apply State.writeCoreArea_keeps
    | with_reducible apply State.writeServiceArea_keeps
    | with_reducible apply State.writeMgmtArea_keeps
    | with_reducible apply State.writePower_keeps
    | with_reducible apply State.writeHealth_keeps
    | with_reducible apply State.writeFabric_keeps
    | with_reducible apply State.writePort_keeps
    | with_reducible apply State.writeCtx_keeps
    | with_reducible apply State.writeHbm_keeps
    | with_reducible apply State.writeFixArea_keeps
    | with_reducible apply State.writeSlot_keeps
    | with_reducible apply State.writeStageSlot_keeps
    | with_reducible apply State.writeStepArea_keeps
    | with_reducible apply State.writeGroupSlice_keeps
    | with_reducible apply State.writeChronoArea_keeps
    | with_reducible apply State.writeHostArea_keeps
    | with_reducible apply ite_fst
    | split))

theorem State.writeFitted_keeps {s₀ s : State} (key : ℕ) (l : List Byte) (h : s₀.Keeps s) : s₀.Keeps (State.writeFitted s key l).1 := by
  unfold State.writeFitted
  grind only [State.keeps_mk, outKeeps_next, outKeeps_fault, outKeeps_refused, State.writeKey_keeps, State.writeChartLoadBytes_keeps,
      State.writeFwChunk_keeps, State.writeCfgChunk_keeps, State.no_keeps, State.writeValue_keeps]

theorem State.performWrite_keeps {s₀ s : State} (key : ℕ) (l : List Byte) (h : s₀.Keeps s) : s₀.Keeps (State.performWrite s key l).1 := by
  unfold State.performWrite
  grind only [State.keeps_mk, outKeeps_next, outKeeps_fault, outKeeps_refused, State.no_keeps, State.writeFitted_keeps, State.ok_keeps,
      State.journalled_keeps, State.flashWrite_keeps]

end Sys2Proof.Machine
end

