-- ==== Sys2Proof/Laws/Keeps/Hdp.lean ====
section
/-! SUPPORT. What the functions of Machine/Hdp.lean keep (`State.Keeps`): one lemma for each, cited by those of its callers. -/

namespace Sys2Proof.Machine

set_option linter.tactic.unusedName false

theorem State.noteCode_keeps {s₀ s : State} (q : HdpReq) (code : ℕ) (h : s₀.Keeps s) : s₀.Keeps (State.noteCode s q code) := by
  unfold State.noteCode
  grind only [State.keeps_mk, outKeeps_next, outKeeps_fault, outKeeps_refused, State.logViolation_keeps, State.mgmtStatus_keeps,
      State.count_keeps, State.logEvent_keeps]

theorem Served.state_keeps {s₀ : State} (self : Served) (h_self : s₀.Keeps self.state) : s₀.Keeps (Served.state self) := by
  unfold Served.state
  grind only [State.keeps_mk, outKeeps_next, outKeeps_fault, outKeeps_refused]

theorem State.setRoleKey_keeps {s₀ s : State} (role : ℕ) (k : RoleKey) (h : s₀.Keeps s) : s₀.Keeps (State.setRoleKey s role k) := by
  unfold State.setRoleKey
  grind only [State.keeps_mk, outKeeps_next, outKeeps_fault, outKeeps_refused]

theorem State.cache_keeps {s₀ s : State} (q : HdpReq) (r : Option HdpReq) (h : s₀.Keeps s) : s₀.Keeps (State.cache s q r) := by
  unfold State.cache
  grind only [State.keeps_mk, outKeeps_next, outKeeps_fault, outKeeps_refused, State.setRoleKey_keeps]

theorem State.queueHdp_keeps {s₀ s : State} (o : HdpOut) (h : s₀.Keeps s) : s₀.Keeps (State.queueHdp s o) := by
  unfold State.queueHdp
  grind only [State.keeps_mk, outKeeps_next, outKeeps_fault, outKeeps_refused]

theorem State.answer_keeps {s₀ s : State} (m : HdpReq) (dup : Bool) (h : s₀.Keeps s) : s₀.Keeps (State.answer s m dup) := by
  unfold State.answer
  grind only [State.keeps_mk, outKeeps_next, outKeeps_fault, outKeeps_refused, State.queueHdp_keeps]

theorem Served.finish_keeps {s₀ : State} (w : Served) (q : HdpReq) (counts : Bool) (h_w : s₀.Keeps w.state) : s₀.Keeps (Served.finish w
    q counts) := by
  unfold Served.finish
  grind only [State.keeps_mk, outKeeps_next, outKeeps_fault, outKeeps_refused, State.noteCode_keeps, Served.state_keeps,
      State.count_keeps, State.cache_keeps, State.answer_keeps]

theorem State.refuse_keeps {s₀ s : State} (code : ℕ) (h : s₀.Keeps s) : s₀.Keeps (State.refuse s code).state := by
  unfold State.refuse
  grind only [State.keeps_mk, outKeeps_next, outKeeps_fault, outKeeps_refused]

theorem served_keeps {s₀ : State} (w : Wr) (h_w : s₀.Keeps w.1) : s₀.Keeps (served w).state := by
  unfold served
  grind only [State.keeps_mk, outKeeps_next, outKeeps_fault, outKeeps_refused]

theorem State.applyTransfer_keeps {s₀ s : State} (x : Transfer) (role : ℕ) (segno : ℕ) (h : s₀.Keeps s) : s₀.Keeps (State.applyTransfer
    s x role segno).state := by
  unfold State.applyTransfer
  grind only [State.keeps_mk, outKeeps_next, outKeeps_fault, outKeeps_refused, State.refuse_keeps, served_keeps,
      State.performWrite_keeps, Served.state_keeps]

theorem State.turnAway_keeps {s₀ s : State} (q : HdpReq) (h : s₀.Keeps s) : s₀.Keeps (State.turnAway s q) := by
  unfold State.turnAway
  grind only [State.keeps_mk, outKeeps_next, outKeeps_fault, outKeeps_refused, State.answer_keeps, State.noteCode_keeps,
      State.mgmtStatus_keeps]

theorem State.takeCounter_keeps {s₀ s : State} (q : HdpReq) (h : s₀.Keeps s) : s₀.Keeps (State.takeCounter s q) := by
  unfold State.takeCounter
  grind only [State.keeps_mk, outKeeps_next, outKeeps_fault, outKeeps_refused, State.setRoleKey_keeps]

theorem State.takeIn_keeps {s₀ s : State} (q : HdpReq) (counts : Bool) (work : State → Served) (h : s₀.Keeps s) (h_work : ∀ u, s₀.Keeps
    u → s₀.Keeps (work u).state) : s₀.Keeps (State.takeIn s q counts work) := by
  unfold State.takeIn
  grind only [State.keeps_mk, outKeeps_next, outKeeps_fault, outKeeps_refused, State.answer_keeps, State.count_keeps,
      State.noteCode_keeps, State.takeCounter_keeps, State.cache_keeps, Served.finish_keeps]

theorem State.hdpReceive_keeps {s₀ s : State} (q : HdpReq) (counts : Bool) (work : State → Served) (h : s₀.Keeps s) (h_work : ∀ u,
    s₀.Keeps u → s₀.Keeps (work u).state) : s₀.Keeps (State.hdpReceive s q counts work) := by
  unfold State.hdpReceive
  grind only [State.keeps_mk, outKeeps_next, outKeeps_fault, outKeeps_refused, State.hmuWork_keeps, State.count_keeps,
      State.turnAway_keeps, State.answer_keeps, State.noteCode_keeps, Served.finish_keeps, State.refuse_keeps, State.takeIn_keeps]

theorem blobWork_keeps {s₀ s : State} (q : HdpReq) (value : List Byte) (h : s₀.Keeps s) : s₀.Keeps (blobWork q value s).state := by
  unfold blobWork
  grind only [State.keeps_mk, outKeeps_next, outKeeps_fault, outKeeps_refused, State.refuse_keeps, State.answer_keeps, served_keeps,
      State.performWrite_keeps, Served.state_keeps]

theorem State.blobCommand_keeps {s₀ s : State} (a_h : Hdr) (key : ℕ) (value : List Byte) (h : s₀.Keeps s) : s₀.Keeps (State.blobCommand
    s a_h key value) := by
  unfold State.blobCommand
  grind only [State.keeps_mk, outKeeps_next, outKeeps_fault, outKeeps_refused, State.hdpReceive_keeps, blobWork_keeps]

theorem State.setTransfer_keeps {s₀ s : State} (a_t : ℕ) (x : Option Transfer) (h : s₀.Keeps s) : s₀.Keeps (State.setTransfer s a_t x)
    := by
  unfold State.setTransfer
  grind only [State.keeps_mk, outKeeps_next, outKeeps_fault, outKeeps_refused]

theorem State.dropTransfer_keeps {s₀ s : State} (q : HdpReq) (write : Bool) (h : s₀.Keeps s) : s₀.Keeps (State.dropTransfer s q write)
    := by
  unfold State.dropTransfer
  grind only [State.keeps_mk, outKeeps_next, outKeeps_fault, outKeeps_refused, State.setTransfer_keeps]

theorem State.emitHdp_keeps {s₀ s : State} (low : Bool) (m : HdpReq) (h : s₀.Keeps s) : s₀.Keeps (State.emitHdp s low m) := by
  unfold State.emitHdp
  grind only [State.keeps_mk, outKeeps_next, outKeeps_fault, outKeeps_refused, State.queueHdp_keeps, State.hmuWork_keeps]

theorem State.nextCounter_keeps {s₀ s : State} (h : s₀.Keeps s) : s₀.Keeps (State.nextCounter s).2 := by
  unfold State.nextCounter
  grind only [State.keeps_mk, outKeeps_next, outKeeps_fault, outKeeps_refused]

theorem State.setSub_keeps {s₀ s : State} (n : ℕ) (x : Option Subscription) (h : s₀.Keeps s) : s₀.Keeps (State.setSub s n x) := by
  unfold State.setSub
  grind only [State.keeps_mk, outKeeps_next, outKeeps_fault, outKeeps_refused]

theorem State.noteSub_keeps {s₀ s : State} (n : ℕ) (h : s₀.Keeps s) : s₀.Keeps (State.noteSub s n) := by
  unfold State.noteSub
  grind only [State.keeps_mk, outKeeps_next, outKeeps_fault, outKeeps_refused, State.setSub_keeps]

theorem State.noteSubs_keeps {s₀ s : State} (h : s₀.Keeps s) : s₀.Keeps (State.noteSubs s) := by
  unfold State.noteSubs
  (repeat' (
    first
    | with_reducible assumption
    | with_reducible (refine foldl_keeps ?_ (fun _ _ _ => ?_) <;> try beta_reduce)
    | with_reducible apply State.noteSub_keeps))

theorem State.sendSegments_keeps {s₀ s : State} (x : Transfer) (lo : ℕ) (hi : ℕ) (h : s₀.Keeps s) : s₀.Keeps (State.sendSegments s x lo
    hi) := by
  unfold State.sendSegments
  (repeat' (
    first
    | with_reducible assumption
    | with_reducible (refine foldl_keeps ?_ (fun _ _ _ => ?_) <;> try beta_reduce)
    | with_reducible apply State.queueHdp_keeps))

theorem State.pushRead_keeps {s₀ s : State} (a_t : ℕ) (x : Transfer) (h : s₀.Keeps s) : s₀.Keeps (State.pushRead s a_t x) := by
  unfold State.pushRead
  grind only [State.keeps_mk, outKeeps_next, outKeeps_fault, outKeeps_refused, State.setTransfer_keeps, State.sendSegments_keeps]

theorem writeExpWork_keeps {s₀ s : State} (q : HdpReq) (h : s₀.Keeps s) : s₀.Keeps (writeExpWork q s).state := by
  unfold writeExpWork
  grind only [State.keeps_mk, outKeeps_next, outKeeps_fault, outKeeps_refused, State.refuse_keeps, served_keeps, State.performWrite_keeps]

theorem writeExpWith_keeps {s₀ s : State} (q : HdpReq) (coincides : Bool) (h : s₀.Keeps s) : s₀.Keeps (writeExpWith q coincides
    s).state := by
  unfold writeExpWith
  grind only [State.keeps_mk, outKeeps_next, outKeeps_fault, outKeeps_refused, writeExpWork_keeps, State.refuse_keeps]

theorem State.receiveWrite_keeps {s₀ s : State} (q : HdpReq) (coincides : Bool) (h : s₀.Keeps s) : s₀.Keeps (State.receiveWrite s q
    coincides) := by
  unfold State.receiveWrite
  grind only [State.keeps_mk, outKeeps_next, outKeeps_fault, outKeeps_refused, State.hdpReceive_keeps, writeExpWith_keeps]

theorem State.receiveTwo_keeps {s₀ s : State} (q : HdpReq) (r : HdpReq) (coincides : Bool) (h : s₀.Keeps s) : s₀.Keeps
    (State.receiveTwo s q r coincides) := by
  unfold State.receiveTwo
  grind only [State.keeps_mk, outKeeps_next, outKeeps_fault, outKeeps_refused, State.receiveWrite_keeps, State.setObj_keeps]

theorem State.writeCommand_keeps {s₀ s : State} (a_h : Hdr) (key : ℕ) (v : ℕ) (h : s₀.Keeps s) : s₀.Keeps (State.writeCommand s a_h key
    v) := by
  unfold State.writeCommand
  grind only [State.keeps_mk, outKeeps_next, outKeeps_fault, outKeeps_refused, State.hdpReceive_keeps, writeExpWork_keeps]

theorem State.writeCommandWith_keeps {s₀ s : State} (a_h : Hdr) (key : ℕ) (v : ℕ) (coincides : Bool) (h : s₀.Keeps s) : s₀.Keeps
    (State.writeCommandWith s a_h key v coincides) := by
  unfold State.writeCommandWith
  grind only [State.keeps_mk, outKeeps_next, outKeeps_fault, outKeeps_refused, State.hdpReceive_keeps, writeExpWith_keeps]

theorem abortWork_keeps {s₀ s : State} (q : HdpReq) (h : s₀.Keeps s) : s₀.Keeps (abortWork q s).state := by
  unfold abortWork
  grind only [State.keeps_mk, outKeeps_next, outKeeps_fault, outKeeps_refused, served_keeps, State.ok_keeps, State.dropTransfer_keeps,
      Served.state_keeps]

theorem doHdpAbort_keeps {s₀ s : State} (q : HdpReq) (h : s₀.Keeps s) : OutKeeps s₀ (doHdpAbort q s) := by
  unfold doHdpAbort
  grind only [State.keeps_mk, outKeeps_next, outKeeps_fault, outKeeps_refused, State.hdpReceive_keeps, abortWork_keeps]

theorem withSub_keeps {s₀ s : State} (n : ℕ) (o : Out) (h : s₀.Keeps s) (h_o : OutKeeps s₀ o) : OutKeeps s₀ (withSub s n o) := by
  unfold withSub
  grind only [State.keeps_mk, outKeeps_next, outKeeps_fault, outKeeps_refused]

theorem doLeaseExpiry_keeps {s₀ s : State} (n : ℕ) (h : s₀.Keeps s) : OutKeeps s₀ (doLeaseExpiry n s) := by
  unfold doLeaseExpiry
  grind only [State.keeps_mk, outKeeps_next, outKeeps_fault, outKeeps_refused, withSub_keeps, State.setSub_keeps]

theorem doNotify_keeps {s₀ s : State} (n : ℕ) (h : s₀.Keeps s) : OutKeeps s₀ (doNotify n s) := by
  unfold doNotify
  grind only [State.keeps_mk, outKeeps_next, outKeeps_fault, outKeeps_refused, withSub_keeps, State.noteSub_keeps, State.setSub_keeps,
      State.nextCounter_keeps, State.emitHdp_keeps]

theorem doObjectWrite_keeps {s₀ s : State} (c : WriteCycle) (h : s₀.Keeps s) : OutKeeps s₀ (doObjectWrite c s) := by
  unfold doObjectWrite
  grind only [State.keeps_mk, outKeeps_next, outKeeps_fault, outKeeps_refused, State.post_keeps, State.receiveWrite_keeps,
      State.receiveTwo_keeps]

theorem readExpWork_keeps {s₀ s : State} (q : HdpReq) (h : s₀.Keeps s) : s₀.Keeps (readExpWork q s).state := by
  unfold readExpWork
  grind only [State.keeps_mk, outKeeps_next, outKeeps_fault, outKeeps_refused, State.refuse_keeps]

theorem doReadExp_keeps {s₀ s : State} (q : HdpReq) (h : s₀.Keeps s) : OutKeeps s₀ (doReadExp q s) := by
  unfold doReadExp
  grind only [State.keeps_mk, outKeeps_next, outKeeps_fault, outKeeps_refused, State.hdpReceive_keeps, readExpWork_keeps]

theorem readSegWork_keeps {s₀ s : State} (q : HdpReq) (h : s₀.Keeps s) : s₀.Keeps (readSegWork q s).state := by
  unfold readSegWork
  grind only [State.keeps_mk, outKeeps_next, outKeeps_fault, outKeeps_refused, State.refuse_keeps, State.setTransfer_keeps]

theorem doReadSeg_keeps {s₀ s : State} (q : HdpReq) (h : s₀.Keeps s) : OutKeeps s₀ (doReadSeg q s) := by
  unfold doReadSeg
  grind only [State.keeps_mk, outKeeps_next, outKeeps_fault, outKeeps_refused, State.hdpReceive_keeps, readSegWork_keeps,
      State.pushRead_keeps]

theorem responseWork_keeps {s₀ s : State} (q : HdpReq) (h : s₀.Keeps s) : s₀.Keeps (responseWork q s).state := by
  unfold responseWork
  grind only [State.keeps_mk, outKeeps_next, outKeeps_fault, outKeeps_refused, served_keeps, State.ok_keeps, Served.state_keeps,
      State.pushRead_keeps]

theorem doResponse_keeps {s₀ s : State} (q : HdpReq) (h : s₀.Keeps s) : OutKeeps s₀ (doResponse q s) := by
  unfold doResponse
  grind only [State.keeps_mk, outKeeps_next, outKeeps_fault, outKeeps_refused, State.hdpReceive_keeps, responseWork_keeps]

theorem segmentWork_keeps {s₀ s : State} (q : HdpReq) (h : s₀.Keeps s) : s₀.Keeps (segmentWork q s).state := by
  unfold segmentWork
  grind only [State.keeps_mk, outKeeps_next, outKeeps_fault, outKeeps_refused, State.refuse_keeps, served_keeps, State.ok_keeps,
      Served.state_keeps, State.applyTransfer_keeps, State.setTransfer_keeps]

theorem doSegment_keeps {s₀ s : State} (q : HdpReq) (h : s₀.Keeps s) : OutKeeps s₀ (doSegment q s) := by
  unfold doSegment
  grind only [State.keeps_mk, outKeeps_next, outKeeps_fault, outKeeps_refused, State.hdpReceive_keeps, segmentWork_keeps]

theorem withTransfer_keeps {s₀ s : State} (a_t : ℕ) (o : Out) (h : s₀.Keeps s) (h_o : OutKeeps s₀ o) : OutKeeps s₀ (withTransfer s a_t
    o) := by
  unfold withTransfer
  grind only [State.keeps_mk, outKeeps_next, outKeeps_fault, outKeeps_refused]

theorem doSegmentResend_keeps {s₀ s : State} (a_t : ℕ) (h : s₀.Keeps s) : OutKeeps s₀ (doSegmentResend a_t s) := by
  unfold doSegmentResend
  grind only [State.keeps_mk, outKeeps_next, outKeeps_fault, outKeeps_refused, withTransfer_keeps, State.setTransfer_keeps,
      State.sendSegments_keeps, State.hmuWork_keeps]

theorem subscribeWork_keeps {s₀ s : State} (q : HdpReq) (h : s₀.Keeps s) : s₀.Keeps (subscribeWork q s).state := by
  unfold subscribeWork
  grind only [State.keeps_mk, outKeeps_next, outKeeps_fault, outKeeps_refused, State.refuse_keeps, served_keeps, State.ok_keeps,
      State.setSub_keeps]

theorem doSubscribe_keeps {s₀ s : State} (q : HdpReq) (h : s₀.Keeps s) : OutKeeps s₀ (doSubscribe q s) := by
  unfold doSubscribe
  grind only [State.keeps_mk, outKeeps_next, outKeeps_fault, outKeeps_refused, State.hdpReceive_keeps, subscribeWork_keeps]

theorem doTransferTimeout_keeps {s₀ s : State} (a_t : ℕ) (h : s₀.Keeps s) : OutKeeps s₀ (doTransferTimeout a_t s) := by
  unfold doTransferTimeout
  (repeat' (
    first
    | with_reducible assumption
    | extract_lets +onlyGivenNames _
    | with_reducible apply withTransfer_keeps
    | with_reducible apply State.emitHdp_keeps
    | with_reducible apply State.count_keeps
    | with_reducible apply State.setTransfer_keeps
    | with_reducible apply outKeeps_next
    | with_reducible apply ite_out
    | split))

theorem unsubscribeWork_keeps {s₀ s : State} (q : HdpReq) (h : s₀.Keeps s) : s₀.Keeps (unsubscribeWork q s).state := by
  unfold unsubscribeWork
  grind only [State.keeps_mk, outKeeps_next, outKeeps_fault, outKeeps_refused, State.refuse_keeps, served_keeps, State.ok_keeps,
      State.setSub_keeps]

theorem doUnsubscribe_keeps {s₀ s : State} (q : HdpReq) (h : s₀.Keeps s) : OutKeeps s₀ (doUnsubscribe q s) := by
  unfold doUnsubscribe
  grind only [State.keeps_mk, outKeeps_next, outKeeps_fault, outKeeps_refused, State.hdpReceive_keeps, unsubscribeWork_keeps]

theorem writeSegWork_keeps {s₀ s : State} (q : HdpReq) (h : s₀.Keeps s) : s₀.Keeps (writeSegWork q s).state := by
  unfold writeSegWork
  grind only [State.keeps_mk, outKeeps_next, outKeeps_fault, outKeeps_refused, State.refuse_keeps, served_keeps, State.ok_keeps,
      State.setTransfer_keeps]

theorem doWriteSeg_keeps {s₀ s : State} (q : HdpReq) (h : s₀.Keeps s) : OutKeeps s₀ (doWriteSeg q s) := by
  unfold doWriteSeg
  grind only [State.keeps_mk, outKeeps_next, outKeeps_fault, outKeeps_refused, State.hdpReceive_keeps, writeSegWork_keeps]

end Sys2Proof.Machine
end

