-- ==== Sys2Proof/Laws/Keeps/Deliver.lean ====
section
/-! SUPPORT. What the functions of Machine/Deliver.lean keep (`State.Keeps`): one lemma for each, cited by those of its callers. -/

namespace Sys2Proof.Machine

set_option linter.tactic.unusedName false

theorem State.takeData_keeps {s₀ s : State} (f : Frame) (h : s₀.Keeps s) : s₀.Keeps (State.takeData f s).1 := by
  unfold State.takeData
  grind only [State.keeps_mk, outKeeps_next, outKeeps_fault, outKeeps_refused, State.no_keeps, State.count_keeps, State.ok_keeps,
      State.write_keeps, State.wakeWrite_keeps]

theorem State.takeRead_keeps {s₀ s : State} (f : Frame) (h : s₀.Keeps s) : s₀.Keeps (State.takeRead f s).1 := by
  unfold State.takeRead
  grind only [State.keeps_mk, outKeeps_next, outKeeps_fault, outKeeps_refused, State.no_keeps, State.ok_keeps, State.inject_keeps,
      State.noteRead_keeps]

theorem State.takeWpAdd_keeps {s₀ s : State} (f : Frame) (h : s₀.Keeps s) : s₀.Keeps (State.takeWpAdd f s).1 := by
  unfold State.takeWpAdd
  grind only [State.keeps_mk, outKeeps_next, outKeeps_fault, outKeeps_refused, State.no_keeps, State.logWpRefusal_keeps,
      State.ok_keeps, State.post_keeps]

theorem State.takeFrame_keeps {s₀ s : State} (f : Frame) (h : s₀.Keeps s) : s₀.Keeps (State.takeFrame f s).1 := by
  unfold State.takeFrame
  grind only [State.keeps_mk, outKeeps_next, outKeeps_fault, outKeeps_refused, State.takeData_keeps, State.takeRead_keeps,
      State.takeWpAdd_keeps, State.takeContrib_keeps, State.takeResult_keeps, State.takeLate_keeps, State.takeConsortData_keeps,
          State.takeConsortDone_keeps, State.takeConsortAck_keeps, State.takeStepVote_keeps, State.takeDecision_keeps,
              State.takeConsortPull_keeps, State.takeConsortLoad_keeps, State.takeStripe_keeps, State.takeCount_keeps,
                  State.takePrepared_keeps, State.takeDecide_keeps, State.takePull_keeps, State.takeChunk_keeps, State.no_keeps]

theorem State.logFrameRefusal_keeps {s₀ s : State} (f : Frame) (path : ℕ) (h : s₀.Keeps s) : s₀.Keeps (State.logFrameRefusal s f path)
    := by
  unfold State.logFrameRefusal
  grind only [State.keeps_mk, outKeeps_next, outKeeps_fault, outKeeps_refused, State.logEvent_keeps]

theorem State.acceptFrame_keeps {s₀ s : State} (f : Frame) (h : s₀.Keeps s) : s₀.Keeps (State.acceptFrame s f) := by
  unfold State.acceptFrame
  grind only [State.keeps_mk, outKeeps_next, outKeeps_fault, outKeeps_refused, State.setRxFlow_keeps, State.noteAccepted_keeps,
      State.errResp_keeps, State.takeFrame_keeps, State.logFrameRefusal_keeps]

theorem State.arrive_keeps {s₀ s : State} (op : ℕ) (f : Frame) (h : s₀.Keeps s) : OutKeeps s₀ (State.arrive s op f) := by
  unfold State.arrive
  grind only [State.keeps_mk, outKeeps_next, outKeeps_fault, outKeeps_refused, State.post_keeps]

theorem State.arriveFix_keeps {s₀ s : State} (decision : ℕ) (f : Frame) (h : s₀.Keeps s) : OutKeeps s₀ (State.arriveFix s decision f)
    := by
  unfold State.arriveFix
  grind only [State.keeps_mk, outKeeps_next, outKeeps_fault, outKeeps_refused, State.arrive_keeps]

theorem State.arriveStep_keeps {s₀ s : State} (decision : ℕ) (f : Frame) (h : s₀.Keeps s) : OutKeeps s₀ (State.arriveStep s decision f)
    := by
  unfold State.arriveStep
  grind only [State.keeps_mk, outKeeps_next, outKeeps_fault, outKeeps_refused, State.arrive_keeps]

theorem State.unsequenced_keeps {s₀ s : State} (port : Option ℕ) (f : Frame) (h : s₀.Keeps s) : s₀.Keeps (State.unsequenced s port f)
    := by
  unfold State.unsequenced
  grind only [State.keeps_mk, outKeeps_next, outKeeps_fault, outKeeps_refused, State.errResp_keeps, State.ackMulticast_keeps,
      State.ackUnicast_keeps, State.noteErrResp_keeps, State.ctxPartial_keeps, State.notePartial_keeps, State.timeTaken_keeps]

theorem State.sequenceCheck_keeps {s₀ s : State} (f : Frame) (h : s₀.Keeps s) : s₀.Keeps (State.sequenceCheck s f) := by
  unfold State.sequenceCheck
  grind only [State.keeps_mk, outKeeps_next, outKeeps_fault, outKeeps_refused, State.count_keeps, State.acceptFrame_keeps,
      State.sendAck_keeps]

theorem State.deliver_keeps {s₀ s : State} (port : Option ℕ) (f : Frame) (h : s₀.Keeps s) : s₀.Keeps (State.deliver s port f) := by
  unfold State.deliver
  grind only [State.keeps_mk, outKeeps_next, outKeeps_fault, outKeeps_refused, State.unsequenced_keeps, State.errResp_keeps,
      State.stale_keeps, State.sequenceCheck_keeps]

theorem State.membersLost_keeps {s₀ s : State} (dev : ℕ) (h : s₀.Keeps s) : s₀.Keeps (State.membersLost s dev) := by
  unfold State.membersLost
  (repeat' (
    first
    | with_reducible assumption
    | extract_lets +onlyGivenNames _
    | with_reducible (refine foldl_keeps ?_ (fun _ _ _ => ?_) <;> try beta_reduce)
    | with_reducible apply State.markAbsent_keeps
    | with_reducible apply ite_keeps))

theorem State.opFailed_keeps {s₀ s : State} (op : OpRef) (f : Frame) (code : ℕ) (h : s₀.Keeps s) : s₀.Keeps (State.opFailed s op f
    code) := by
  unfold State.opFailed
  grind only [State.keeps_mk, outKeeps_next, outKeeps_fault, outKeeps_refused, State.remoteFailed_keeps, State.ctxFailed_keeps,
      State.fixFailed_keeps, State.stepRefused_keeps, State.remoteLanded_keeps, State.outOfSlice_keeps]

theorem State.opLanded_keeps {s₀ s : State} (op : OpRef) (h : s₀.Keeps s) : s₀.Keeps (State.opLanded s op) := by
  unfold State.opLanded
  grind only [State.keeps_mk, outKeeps_next, outKeeps_fault, outKeeps_refused, State.remoteLanded_keeps, State.post_keeps,
      State.stepLanded_keeps]

theorem State.opLost_keeps {s₀ s : State} (op : OpRef) (f : Frame) (h : s₀.Keeps s) : s₀.Keeps (State.opLost s op f) := by
  unfold State.opLost
  grind only [State.keeps_mk, outKeeps_next, outKeeps_fault, outKeeps_refused, State.membersLost_keeps, State.ctxLost_keeps,
      State.fixLost_keeps, State.stepLost_keeps]

theorem State.selfFrame_keeps {s₀ s : State} (op : OpRef) (f : Frame) (h : s₀.Keeps s) : s₀.Keeps (State.selfFrame s op f) := by
  unfold State.selfFrame
  grind only [State.keeps_mk, outKeeps_next, outKeeps_fault, outKeeps_refused, State.hopDrop_keeps, State.post_keeps,
      State.unsequenced_keeps, State.takeFrame_keeps, State.logFrameRefusal_keeps, State.sliceViolation_keeps]

theorem doAck_keeps {s₀ s : State} (f : Frame) (h : s₀.Keeps s) : OutKeeps s₀ (doAck f s) := by
  unfold doAck
  grind only [State.keeps_mk, outKeeps_next, outKeeps_fault, outKeeps_refused, State.arrive_keeps]

theorem doConsortAck_keeps {s₀ s : State} (f : Frame) (h : s₀.Keeps s) : OutKeeps s₀ (doConsortAck f s) := by
  unfold doConsortAck
  grind only [State.keeps_mk, outKeeps_next, outKeeps_fault, outKeeps_refused, State.arrive_keeps]

theorem doConsortData_keeps {s₀ s : State} (f : Frame) (h : s₀.Keeps s) : OutKeeps s₀ (doConsortData f s) := by
  unfold doConsortData
  grind only [State.keeps_mk, outKeeps_next, outKeeps_fault, outKeeps_refused, State.arrive_keeps]

theorem doConsortDone_keeps {s₀ s : State} (f : Frame) (h : s₀.Keeps s) : OutKeeps s₀ (doConsortDone f s) := by
  unfold doConsortDone
  grind only [State.keeps_mk, outKeeps_next, outKeeps_fault, outKeeps_refused, State.arrive_keeps]

theorem doConsortLoad_keeps {s₀ s : State} (f : Frame) (h : s₀.Keeps s) : OutKeeps s₀ (doConsortLoad f s) := by
  unfold doConsortLoad
  grind only [State.keeps_mk, outKeeps_next, outKeeps_fault, outKeeps_refused, State.arrive_keeps]

theorem doConsortPull_keeps {s₀ s : State} (f : Frame) (h : s₀.Keeps s) : OutKeeps s₀ (doConsortPull f s) := by
  unfold doConsortPull
  grind only [State.keeps_mk, outKeeps_next, outKeeps_fault, outKeeps_refused, State.arrive_keeps]

theorem doContrib_keeps {s₀ s : State} (f : Frame) (h : s₀.Keeps s) : OutKeeps s₀ (doContrib f s) := by
  unfold doContrib
  grind only [State.keeps_mk, outKeeps_next, outKeeps_fault, outKeeps_refused, State.arrive_keeps]

theorem doErrResp_keeps {s₀ s : State} (f : Frame) (h : s₀.Keeps s) : OutKeeps s₀ (doErrResp f s) := by
  unfold doErrResp
  grind only [State.keeps_mk, outKeeps_next, outKeeps_fault, outKeeps_refused, State.arrive_keeps]

theorem doFixChunk_keeps {s₀ s : State} (f : Frame) (h : s₀.Keeps s) : OutKeeps s₀ (doFixChunk f s) := by
  unfold doFixChunk
  grind only [State.keeps_mk, outKeeps_next, outKeeps_fault, outKeeps_refused, State.arrive_keeps]

theorem doFixCommit_keeps {s₀ s : State} (f : Frame) (h : s₀.Keeps s) : OutKeeps s₀ (doFixCommit f s) := by
  unfold doFixCommit
  grind only [State.keeps_mk, outKeeps_next, outKeeps_fault, outKeeps_refused, State.arriveFix_keeps]

theorem doFixCount_keeps {s₀ s : State} (f : Frame) (h : s₀.Keeps s) : OutKeeps s₀ (doFixCount f s) := by
  unfold doFixCount
  grind only [State.keeps_mk, outKeeps_next, outKeeps_fault, outKeeps_refused, State.arrive_keeps]

theorem doFixDiscard_keeps {s₀ s : State} (f : Frame) (h : s₀.Keeps s) : OutKeeps s₀ (doFixDiscard f s) := by
  unfold doFixDiscard
  grind only [State.keeps_mk, outKeeps_next, outKeeps_fault, outKeeps_refused, State.arriveFix_keeps]

theorem doFixPrepared_keeps {s₀ s : State} (f : Frame) (h : s₀.Keeps s) : OutKeeps s₀ (doFixPrepared f s) := by
  unfold doFixPrepared
  grind only [State.keeps_mk, outKeeps_next, outKeeps_fault, outKeeps_refused, State.arrive_keeps]

theorem doFixPull_keeps {s₀ s : State} (f : Frame) (h : s₀.Keeps s) : OutKeeps s₀ (doFixPull f s) := by
  unfold doFixPull
  grind only [State.keeps_mk, outKeeps_next, outKeeps_fault, outKeeps_refused, State.arrive_keeps]

theorem doFixStripe_keeps {s₀ s : State} (f : Frame) (h : s₀.Keeps s) : OutKeeps s₀ (doFixStripe f s) := by
  unfold doFixStripe
  grind only [State.keeps_mk, outKeeps_next, outKeeps_fault, outKeeps_refused, State.arrive_keeps]

theorem doLate_keeps {s₀ s : State} (f : Frame) (h : s₀.Keeps s) : OutKeeps s₀ (doLate f s) := by
  unfold doLate
  grind only [State.keeps_mk, outKeeps_next, outKeeps_fault, outKeeps_refused, State.arrive_keeps]

theorem doPartialNotice_keeps {s₀ s : State} (f : Frame) (h : s₀.Keeps s) : OutKeeps s₀ (doPartialNotice f s) := by
  unfold doPartialNotice
  grind only [State.keeps_mk, outKeeps_next, outKeeps_fault, outKeeps_refused, State.arrive_keeps]

theorem doRead_keeps {s₀ s : State} (f : Frame) (h : s₀.Keeps s) : OutKeeps s₀ (doRead f s) := by
  unfold doRead
  grind only [State.keeps_mk, outKeeps_next, outKeeps_fault, outKeeps_refused, State.arrive_keeps]

theorem doReadData_keeps {s₀ s : State} (f : Frame) (h : s₀.Keeps s) : OutKeeps s₀ (doReadData f s) := by
  unfold doReadData
  grind only [State.keeps_mk, outKeeps_next, outKeeps_fault, outKeeps_refused, State.arrive_keeps]

theorem doResult_keeps {s₀ s : State} (f : Frame) (h : s₀.Keeps s) : OutKeeps s₀ (doResult f s) := by
  unfold doResult
  grind only [State.keeps_mk, outKeeps_next, outKeeps_fault, outKeeps_refused, State.arrive_keeps]

theorem doStepAbort_keeps {s₀ s : State} (f : Frame) (h : s₀.Keeps s) : OutKeeps s₀ (doStepAbort f s) := by
  unfold doStepAbort
  grind only [State.keeps_mk, outKeeps_next, outKeeps_fault, outKeeps_refused, State.arriveStep_keeps]

theorem doStepCommit_keeps {s₀ s : State} (f : Frame) (h : s₀.Keeps s) : OutKeeps s₀ (doStepCommit f s) := by
  unfold doStepCommit
  grind only [State.keeps_mk, outKeeps_next, outKeeps_fault, outKeeps_refused, State.arriveStep_keeps]

theorem doStepResume_keeps {s₀ s : State} (f : Frame) (h : s₀.Keeps s) : OutKeeps s₀ (doStepResume f s) := by
  unfold doStepResume
  grind only [State.keeps_mk, outKeeps_next, outKeeps_fault, outKeeps_refused, State.arriveStep_keeps]

theorem doStepVote_keeps {s₀ s : State} (f : Frame) (h : s₀.Keeps s) : OutKeeps s₀ (doStepVote f s) := by
  unfold doStepVote
  grind only [State.keeps_mk, outKeeps_next, outKeeps_fault, outKeeps_refused, State.arrive_keeps]

theorem doWpAdd_keeps {s₀ s : State} (f : Frame) (h : s₀.Keeps s) : OutKeeps s₀ (doWpAdd f s) := by
  unfold doWpAdd
  grind only [State.keeps_mk, outKeeps_next, outKeeps_fault, outKeeps_refused, State.arrive_keeps]

theorem doWrite_keeps {s₀ s : State} (f : Frame) (h : s₀.Keeps s) : OutKeeps s₀ (doWrite f s) := by
  unfold doWrite
  grind only [State.keeps_mk, outKeeps_next, outKeeps_fault, outKeeps_refused, State.arrive_keeps]

end Sys2Proof.Machine
end

