-- ==== Sys2Proof/Laws/Keeps/StartUp.lean ====
section
/-! SUPPORT. What the functions of Machine/StartUp.lean keep (`State.Keeps`): one lemma for each, cited by those of its callers. -/

namespace Sys2Proof.Machine

set_option linter.tactic.unusedName false

theorem State.applyMap_keeps {s₀ s : State} (h : s₀.Keeps s) : s₀.Keeps (State.applyMap s) := by
  unfold State.applyMap
  (repeat' (
    first
    | with_reducible assumption
    | (extract_lets +onlyGivenNames x; refine keeps_suff (s₀ := s₀) x ?_ (fun _ => ?_); (on_goal 1 => subst x); (on_goal 2 => try
        clear_value x))
    | extract_lets +onlyGivenNames _
    | with_reducible (refine foldl_keeps ?_ (fun _ _ _ => ?_) <;> try beta_reduce)
    | with_reducible apply State.setObj_keeps
    | with_reducible apply State.setCoreSt_keeps
    | with_reducible (fail_if_no_progress apply State.keeps_mk)
    | with_reducible apply ite_keeps))

theorem State.startIdentity_keeps {s₀ s : State} (errors : ℕ) (h : s₀.Keeps s) : s₀.Keeps (State.startIdentity s errors) := by
  unfold State.startIdentity
  grind only [State.keeps_mk, outKeeps_next, outKeeps_fault, outKeeps_refused, State.showRecord_keeps, State.setObj_keeps,
      State.logEvent_keeps, State.setObjs_keeps]

theorem State.watchAll_keeps {s₀ s : State} (h : s₀.Keeps s) : s₀.Keeps (State.watchAll s) := by
  unfold State.watchAll
  (repeat' (
    first
    | with_reducible assumption
    | extract_lets +onlyGivenNames _
    | with_reducible (refine foldl_keeps ?_ (fun _ _ _ => ?_) <;> try beta_reduce)
    | with_reducible apply State.setObj_keeps
    | with_reducible apply ite_keeps))

theorem State.loseValue_keeps {s₀ s : State} (key : ℕ) (h : s₀.Keeps s) : s₀.Keeps (State.loseValue s key) := by
  unfold State.loseValue
  (repeat' (
    first
    | with_reducible assumption
    | (extract_lets +onlyGivenNames x; refine keeps_suff (s₀ := s₀) x ?_ (fun _ => ?_); (on_goal 1 => subst x); (on_goal 2 => try
        clear_value x))
    | extract_lets +onlyGivenNames _
    | with_reducible apply State.count_keeps
    | with_reducible apply State.setObj_keeps
    | with_reducible apply State.logEvent_keeps
    | with_reducible (fail_if_no_progress apply State.keeps_mk)
    | with_reducible apply ite_keeps))

theorem State.restoreDefaults_keeps {s₀ s : State} (h : s₀.Keeps s) : s₀.Keeps (State.restoreDefaults s) := by
  unfold State.restoreDefaults
  refine ite_keeps h (State.flashWrite_keeps (State.count_keeps _ _ _ ?_))
  exact State.keeps_mk5 h (le_refl _) id (fun w => Sparse.wf_filter _ _ w)

theorem State.leaveMap_keeps {s₀ s : State} (d : ℕ) (h : s₀.Keeps s) : s₀.Keeps (State.leaveMap s d) := by
  unfold State.leaveMap
  grind only [State.keeps_mk, outKeeps_next, outKeeps_fault, outKeeps_refused, State.setCoreSt_keeps, State.setObj_keeps]

theorem State.startFailed_keeps {s₀ s : State} (d : ℕ) (h : s₀.Keeps s) : s₀.Keeps (State.startFailed s d) := by
  unfold State.startFailed
  grind only [State.keeps_mk, outKeeps_next, outKeeps_fault, outKeeps_refused, State.leaveMap_keeps, State.logEvent_keeps,
      State.alert_keeps, State.pwrStatus_keeps, State.setPd_keeps]

theorem State.startDomain_keeps {s₀ s : State} (r : StartReadings) (d : ℕ) (h : s₀.Keeps s) : s₀.Keeps (State.startDomain r s d) := by
  unfold State.startDomain
  grind only [State.keeps_mk, outKeeps_next, outKeeps_fault, outKeeps_refused, State.startFailed_keeps, State.leaveMap_keeps,
      State.domainOn_keeps]

theorem State.repairLane_keeps {s₀ s : State} (lane : ℕ) (h : s₀.Keeps s) : s₀.Keeps (State.repairLane s lane) := by
  unfold State.repairLane
  grind only [State.keeps_mk, outKeeps_next, outKeeps_fault, outKeeps_refused, State.flashWrite_keeps, State.stackHealth_keeps]

theorem State.showStack_keeps {s₀ s : State} (n : ℕ) (h : s₀.Keeps s) : s₀.Keeps (State.showStack s n) := by
  unfold State.showStack
  grind only [State.keeps_mk, outKeeps_next, outKeeps_fault, outKeeps_refused, State.setObjs_keeps]

theorem State.startHbm_keeps {s₀ s : State} (r : StartReadings) (h : s₀.Keeps s) : s₀.Keeps (State.startHbm s r) := by
  unfold State.startHbm
  (repeat' (
    first
    | with_reducible assumption
    | (extract_lets +onlyGivenNames x; refine keeps_suff (s₀ := s₀) x ?_ (fun _ => ?_); (on_goal 1 => subst x); (on_goal 2 => try
        clear_value x))
    | extract_lets +onlyGivenNames _
    | with_reducible (refine foldl_keeps ?_ (fun _ _ _ => ?_) <;> try beta_reduce)
    | with_reducible apply State.repairLane_keeps
    | with_reducible apply State.showStack_keeps
    | with_reducible apply State.setObj_keeps
    | with_reducible apply State.logEvent_keeps
    | with_reducible apply State.pendFailing_keeps
    | with_reducible apply ite_keeps))

theorem State.startCoreFailed_keeps {s₀ s : State} (n : ℕ) (h : s₀.Keeps s) : s₀.Keeps (State.startCoreFailed s n) := by
  unfold State.startCoreFailed
  grind only [State.keeps_mk, outKeeps_next, outKeeps_fault, outKeeps_refused, State.setObj_keeps, State.coreOff_keeps,
      State.autoSwap_keeps, State.logEvent_keeps]

theorem State.startPort_keeps {s₀ s : State} (r : StartReadings) (p : ℕ) (h : s₀.Keeps s) : s₀.Keeps (State.startPort r s p) := by
  unfold State.startPort
  grind only [State.keeps_mk, outKeeps_next, outKeeps_fault, outKeeps_refused, State.trained_keeps]

theorem State.startHost_keeps {s₀ s : State} (r : StartReadings) (p : ℕ) (h : s₀.Keeps s) : s₀.Keeps (State.startHost r s p) := by
  unfold State.startHost
  grind only [State.keeps_mk, outKeeps_next, outKeeps_fault, outKeeps_refused, State.hostTrained_keeps, State.setObj_keeps]

theorem State.bringUp_keeps {s₀ s : State} (r : StartReadings) (h : s₀.Keeps s) : s₀.Keeps (State.bringUp s r) := by
  unfold State.bringUp
  (repeat' (
    first
    | with_reducible assumption
    | (extract_lets +onlyGivenNames x; refine keeps_suff (s₀ := s₀) x ?_ (fun _ => ?_); (on_goal 1 => subst x); (on_goal 2 => try
        clear_value x))
    | extract_lets +onlyGivenNames _
    | with_reducible (refine foldl_keeps ?_ (fun _ _ _ => ?_) <;> try beta_reduce)
    | with_reducible apply State.startIdentity_keeps
    | with_reducible apply State.watchAll_keeps
    | with_reducible apply State.loseValue_keeps
    | with_reducible apply State.restoreDefaults_keeps
    | with_reducible apply State.setObj_keeps
    | with_reducible apply State.applyMap_keeps
    | with_reducible apply State.startDomain_keeps
    | with_reducible apply State.startHbm_keeps
    | with_reducible apply State.startCoreFailed_keeps
    | with_reducible apply State.startPort_keeps
    | with_reducible apply State.startHost_keeps
    | with_reducible apply ite_keeps))

theorem State.coldStart_keeps {s₀ s : State} (powerLost : Bool) (h : s₀.Keeps s) : s₀.Keeps (State.coldStart s powerLost) := by
  unfold State.coldStart
  exact ⟨h.pending, h.now, le_trans h.free (Nat.le_succ _), fun _ => rfl, fun w => Sparse.wf_filter _ _ (h.dict w)⟩

theorem State.queueNd_keeps {s₀ s : State} (g : Seg) (o : NdOut) (h : s₀.Keeps s) : s₀.Keeps (State.queueNd s g o) := by
  unfold State.queueNd
  grind only [State.keeps_mk, outKeeps_next, outKeeps_fault, outKeeps_refused]

theorem State.detect_keeps {s₀ s : State} (g : Seg) (slot : Bool) (mac : Bool) (h : s₀.Keeps s) : s₀.Keeps (State.detect s g slot mac)
    := by
  unfold State.detect
  (repeat' (
    first
    | with_reducible assumption
    | (extract_lets +onlyGivenNames x; refine keeps_suff (s₀ := s₀) x ?_ (fun _ => ?_); (on_goal 1 => subst x); (on_goal 2 => try
        clear_value x))
    | extract_lets +onlyGivenNames _
    | with_reducible (refine foldl_keeps ?_ (fun _ _ _ => ?_) <;> try beta_reduce)
    | with_reducible apply State.queueNd_keeps
    | with_reducible apply State.logEvent_keeps
    | with_reducible (fail_if_no_progress apply State.keeps_mk)))

theorem State.heedPins_keeps {s₀ s : State} (h : s₀.Keeps s) : s₀.Keeps (State.heedPins s) := by
  unfold State.heedPins
  grind only [State.keeps_mk, outKeeps_next, outKeeps_fault, outKeeps_refused, State.setRequests_keeps, State.pwrStatus_keeps,
      State.post_keeps, State.fenceModule_keeps]

theorem State.inputDark_keeps {s₀ s : State} (h : s₀.Keeps s) : s₀.Keeps (State.inputDark s) := by
  unfold State.inputDark
  grind only [State.keeps_mk, outKeeps_next, outKeeps_fault, outKeeps_refused, State.coldStart_keeps]

theorem State.inputOff_keeps {s₀ s : State} (h : s₀.Keeps s) : s₀.Keeps (State.inputOff s) := by
  unfold State.inputOff
  grind only [State.keeps_mk, outKeeps_next, outKeeps_fault, outKeeps_refused, State.coldStart_keeps]

theorem State.loadImage_keeps {s₀ s : State} (r : StartReadings) (h : s₀.Keeps s) : s₀.Keeps (State.loadImage s r) := by
  unfold State.loadImage
  grind only [State.keeps_mk, outKeeps_next, outKeeps_fault, outKeeps_refused, State.setObjs_keeps, State.setObj_keeps]

theorem State.load_keeps {s₀ s : State} (r : StartReadings) (h : s₀.Keeps s) : s₀.Keeps (State.load s r) := by
  unfold State.load
  (repeat' (
    first
    | with_reducible assumption
    | with_reducible (refine foldl_keeps ?_ (fun _ _ _ => ?_) <;> try beta_reduce)
    | with_reducible apply State.detect_keeps
    | with_reducible apply State.loadImage_keeps))

theorem doPowerOn_keeps {s₀ s : State} (r : StartReadings) (h : s₀.Keeps s) : OutKeeps s₀ (doPowerOn r s) := by
  unfold doPowerOn
  grind only [State.keeps_mk, outKeeps_next, outKeeps_fault, outKeeps_refused, State.load_keeps, State.coldStart_keeps,
      State.heedPins_keeps, State.bringUp_keeps]

end Sys2Proof.Machine
end

