-- ==== Sys2Proof/Laws/Keeps/Settle.lean ====
section
/-! SUPPORT. What the functions of Machine/Settle.lean keep (`State.Keeps`): one lemma for each, cited by those of its callers. -/

namespace Sys2Proof.Machine

set_option linter.tactic.unusedName false

theorem State.beginLayer_keeps {s₀ s : State} (core : ℕ) (h : s₀.Keeps s) : s₀.Keeps (State.beginLayer s core) := by
  unfold State.beginLayer
  grind only [State.keeps_mk, outKeeps_next, outKeeps_fault, outKeeps_refused, State.collectiveLayer_keeps, State.runLayer_keeps]

theorem State.wpDiscard_keeps {s₀ s : State} (r : WpReq) (h : s₀.Keeps s) : s₀.Keeps (State.wpDiscard s r).2 := by
  unfold State.wpDiscard
  grind only [State.keeps_mk, outKeeps_next, outKeeps_fault, outKeeps_refused, State.wakeAdd_keeps]

theorem State.watchers_keeps {s₀ s : State} (wp : ℕ) (h : s₀.Keeps s) : s₀.Keeps (State.watchers s wp) := by
  unfold State.watchers
  (repeat' (
    first
    | with_reducible assumption
    | (extract_lets +onlyGivenNames x; refine keeps_suff (s₀ := s₀) x ?_ (fun _ => ?_); (on_goal 1 => subst x); (on_goal 2 => try
        clear_value x))
    | extract_lets +onlyGivenNames _
    | with_reducible (refine foldl_keeps ?_ (fun _ _ _ => ?_) <;> try beta_reduce)
    | with_reducible apply State.sealTest_keeps
    | with_reducible apply State.post_keeps
    | with_reducible apply State.accounts_keeps
    | with_reducible apply ite_keeps))

theorem State.performReq_keeps {s₀ s : State} (r : WpReq) (h : s₀.Keeps s) : s₀.Keeps (State.performReq s r) := by
  unfold State.performReq
  grind only [State.keeps_mk, outKeeps_next, outKeeps_fault, outKeeps_refused, State.refuseWp_keeps, State.wpDiscard_keeps,
      State.watchers_keeps, State.performWp_keeps]

theorem State.perform_keeps {s₀ s : State} (p : Post) (h : s₀.Keeps s) : s₀.Keeps (State.perform s p) := by
  unfold State.perform
  grind only [State.keeps_mk, outKeeps_next, outKeeps_fault, outKeeps_refused, State.performReq_keeps, State.stepFail_keeps,
      State.beginLayer_keeps, State.layerNext_keeps, State.deliver_keeps, State.selfFrame_keeps, State.opLanded_keeps,
          State.opFailed_keeps, State.opLost_keeps, State.ctxTest_keeps, State.stepTest_keeps, State.rebuildTest_keeps,
              State.fixTest_keeps, State.fixEnd_keeps, State.spareBanks_keeps, State.performSwaps_keeps, State.selfFence_keeps,
                  State.emergencyOff_keeps, State.inputOff_keeps, State.inputDark_keeps, State.coldStart_keeps, State.bringIn_keeps]

theorem State.settle_keeps {s₀ s : State} (a0 : ℕ) (h : s₀.Keeps s) : s₀.Keeps (State.settle a0 s) := by
  induction a0 generalizing s with
  | zero => exact h
  | succ n ih =>
  unfold State.settle
  (repeat' (
    first
    | with_reducible assumption
    | extract_lets +onlyGivenNames _
    | with_reducible apply ih
    | with_reducible apply State.perform_keeps
    | with_reducible apply State.performSwaps_keeps
    | with_reducible refine State.hostDrain_keeps ?_
    | with_reducible apply State.noteSubs_keeps
    | with_reducible (fail_if_no_progress apply State.keeps_mk)
    | with_reducible apply ite_keeps
    | split
    | with_reducible (refine opt_keeps (by assumption) ?_)))

theorem settled_keeps {s₀ : State} (o : Out) (h_o : OutKeeps s₀ o) : OutKeeps s₀ (settled o) := by
  unfold settled
  split
  · exact outKeeps_next (State.settle_keeps _ (h_o _ rfl))
  · exact outKeeps_fault _
  · exact outKeeps_refused _

end Sys2Proof.Machine
end

