-- ==== Sys2Proof/Laws/Keeps/CoreCommands.lean ====
section
/-! SUPPORT. What the functions of Machine/CoreCommands.lean keep (`State.Keeps`): one lemma for each, cited by those of its callers. -/

namespace Sys2Proof.Machine

theorem execPowerOn_keeps {s₀ s : State} (r : StartReadings) (h : s₀.Keeps s) : OutKeeps s₀ (execPowerOn r s) := by
  unfold execPowerOn
  grind only [State.keeps_mk, outKeeps_next, outKeeps_fault, outKeeps_refused, settled_keeps, doPowerOn_keeps]

theorem execBundleIssue_keeps {s₀ s : State} (core : ℕ) (h : s₀.Keeps s) : OutKeeps s₀ (execBundleIssue core s) := by
  unfold execBundleIssue
  grind only [State.keeps_mk, outKeeps_next, outKeeps_fault, outKeeps_refused, settled_keeps, doBundleIssue_keeps]

theorem execLineFill_keeps {s₀ s : State} (core : ℕ) (h : s₀.Keeps s) : OutKeeps s₀ (execLineFill core s) := by
  unfold execLineFill
  grind only [State.keeps_mk, outKeeps_next, outKeeps_fault, outKeeps_refused, settled_keeps, doLineFill_keeps]

theorem execReleaseBufferPerform_keeps {s₀ s : State} (core : ℕ) (h : s₀.Keeps s) : OutKeeps s₀ (execReleaseBufferPerform core s) := by
  unfold execReleaseBufferPerform
  grind only [State.keeps_mk, outKeeps_next, outKeeps_fault, outKeeps_refused, settled_keeps, doReleaseBufferPerform_keeps]

theorem execMcfg_keeps {s₀ s : State} (core : ℕ) (h : s₀.Keeps s) : OutKeeps s₀ (execMcfg core s) := by
  unfold execMcfg
  grind only [State.keeps_mk, outKeeps_next, outKeeps_fault, outKeeps_refused, settled_keeps, doMcfg_keeps]

theorem execMwld_keeps {s₀ s : State} (core : ℕ) (h : s₀.Keeps s) : OutKeeps s₀ (execMwld core s) := by
  unfold execMwld
  grind only [State.keeps_mk, outKeeps_next, outKeeps_fault, outKeeps_refused, settled_keeps, doMwld_keeps]

theorem execMstr_keeps {s₀ s : State} (core : ℕ) (h : s₀.Keeps s) : OutKeeps s₀ (execMstr core s) := by
  unfold execMstr
  grind only [State.keeps_mk, outKeeps_next, outKeeps_fault, outKeeps_refused, settled_keeps, doMstr_keeps]

theorem execDrain_keeps {s₀ s : State} (core : ℕ) (errors : List StoredError) (h : s₀.Keeps s) : OutKeeps s₀ (execDrain core errors s)
    := by
  unfold execDrain
  grind only [State.keeps_mk, outKeeps_next, outKeeps_fault, outKeeps_refused, settled_keeps, doDrain_keeps]

theorem execChainStart_keeps {s₀ s : State} (core : ℕ) (h : s₀.Keeps s) : OutKeeps s₀ (execChainStart core s) := by
  unfold execChainStart
  grind only [State.keeps_mk, outKeeps_next, outKeeps_fault, outKeeps_refused, settled_keeps, doChainStart_keeps]

theorem execGatedUpdate_keeps {s₀ s : State} (core : ℕ) (h : s₀.Keeps s) : OutKeeps s₀ (execGatedUpdate core s) := by
  unfold execGatedUpdate
  grind only [State.keeps_mk, outKeeps_next, outKeeps_fault, outKeeps_refused, settled_keeps, doGatedUpdate_keeps]

theorem execChainComplete_keeps {s₀ s : State} (core : ℕ) (h : s₀.Keeps s) : OutKeeps s₀ (execChainComplete core s) := by
  unfold execChainComplete
  grind only [State.keeps_mk, outKeeps_next, outKeeps_fault, outKeeps_refused, settled_keeps, doChainComplete_keeps]

theorem execSealThresh_keeps {s₀ s : State} (a_h : Hdr) (value : ℕ) (h : s₀.Keeps s) : OutKeeps s₀ (execSealThresh a_h value s) := by
  unfold execSealThresh
  grind only [State.keeps_mk, outKeeps_next, outKeeps_fault, outKeeps_refused, settled_keeps, State.writeCommand_keeps]

theorem execArm_keeps {s₀ s : State} (a_h : InCycle Hdr) (core : ℕ) (h : s₀.Keeps s) : OutKeeps s₀ (execArm a_h core s) := by
  unfold execArm
  grind only [State.keeps_mk, outKeeps_next, outKeeps_fault, outKeeps_refused, settled_keeps, State.writeCommandWith_keeps]

theorem execReset_keeps {s₀ s : State} (a_h : InCycle Hdr) (core : ℕ) (h : s₀.Keeps s) : OutKeeps s₀ (execReset a_h core s) := by
  unfold execReset
  grind only [State.keeps_mk, outKeeps_next, outKeeps_fault, outKeeps_refused, State.writeCommand_keeps, settled_keeps,
      State.faultStands_keeps]

theorem execProgGen_keeps {s₀ s : State} (a_h : InCycle Hdr) (core : ℕ) (gen : ℕ) (h : s₀.Keeps s) : OutKeeps s₀ (execProgGen a_h core
    gen s) := by
  unfold execProgGen
  grind only [State.keeps_mk, outKeeps_next, outKeeps_fault, outKeeps_refused, settled_keeps, State.writeCommandWith_keeps]

theorem execProgressWatchdog_keeps {s₀ s : State} (core : ℕ) (h : s₀.Keeps s) : OutKeeps s₀ (execProgressWatchdog core s) := by
  unfold execProgressWatchdog
  grind only [State.keeps_mk, outKeeps_next, outKeeps_fault, outKeeps_refused, settled_keeps, doProgressWatchdog_keeps]

theorem execRunWatchdog_keeps {s₀ s : State} (core : ℕ) (h : s₀.Keeps s) : OutKeeps s₀ (execRunWatchdog core s) := by
  unfold execRunWatchdog
  grind only [State.keeps_mk, outKeeps_next, outKeeps_fault, outKeeps_refused, settled_keeps, doRunWatchdog_keeps]

theorem execLyrWrite_keeps {s₀ s : State} (a_h : Hdr) (core : ℕ) (reg : ℕ) (value : ℕ) (h : s₀.Keeps s) : OutKeeps s₀ (execLyrWrite a_h
    core reg value s) := by
  unfold execLyrWrite
  grind only [State.keeps_mk, outKeeps_next, outKeeps_fault, outKeeps_refused, settled_keeps, State.writeCommand_keeps]

theorem execLyrStart_keeps {s₀ s : State} (a_h : InCycle Hdr) (core : ℕ) (h : s₀.Keeps s) : OutKeeps s₀ (execLyrStart a_h core s) := by
  unfold execLyrStart
  grind only [State.keeps_mk, outKeeps_next, outKeeps_fault, outKeeps_refused, settled_keeps, State.writeCommandWith_keeps]

end Sys2Proof.Machine
end

