-- ==== Sys2Proof/Laws/Keeps/FabricCommands.lean ====
section
/-! SUPPORT. What the functions of Machine/FabricCommands.lean keep (`State.Keeps`): one lemma for each, cited by those of its callers. -/

namespace Sys2Proof.Machine

theorem execFrameRoute_keeps {s₀ s : State} (arrival : Option Arrival) (f : Frame) (h : s₀.Keeps s) : OutKeeps s₀ (execFrameRoute
    arrival f s) := by
  unfold execFrameRoute
  grind only [State.keeps_mk, outKeeps_next, outKeeps_fault, outKeeps_refused, settled_keeps, doFrameRoute_keeps]

theorem execWrite_keeps {s₀ s : State} (f : Frame) (h : s₀.Keeps s) : OutKeeps s₀ (execWrite f s) := by
  unfold execWrite
  grind only [State.keeps_mk, outKeeps_next, outKeeps_fault, outKeeps_refused, settled_keeps, doWrite_keeps]

theorem execRead_keeps {s₀ s : State} (f : Frame) (h : s₀.Keeps s) : OutKeeps s₀ (execRead f s) := by
  unfold execRead
  grind only [State.keeps_mk, outKeeps_next, outKeeps_fault, outKeeps_refused, settled_keeps, doRead_keeps]

theorem execReadData_keeps {s₀ s : State} (f : Frame) (h : s₀.Keeps s) : OutKeeps s₀ (execReadData f s) := by
  unfold execReadData
  grind only [State.keeps_mk, outKeeps_next, outKeeps_fault, outKeeps_refused, settled_keeps, doReadData_keeps]

theorem execWpAdd_keeps {s₀ s : State} (f : Frame) (h : s₀.Keeps s) : OutKeeps s₀ (execWpAdd f s) := by
  unfold execWpAdd
  grind only [State.keeps_mk, outKeeps_next, outKeeps_fault, outKeeps_refused, settled_keeps, doWpAdd_keeps]

theorem execAck_keeps {s₀ s : State} (f : Frame) (h : s₀.Keeps s) : OutKeeps s₀ (execAck f s) := by
  unfold execAck
  grind only [State.keeps_mk, outKeeps_next, outKeeps_fault, outKeeps_refused, settled_keeps, doAck_keeps]

theorem execErrResp_keeps {s₀ s : State} (f : Frame) (h : s₀.Keeps s) : OutKeeps s₀ (execErrResp f s) := by
  unfold execErrResp
  grind only [State.keeps_mk, outKeeps_next, outKeeps_fault, outKeeps_refused, settled_keeps, doErrResp_keeps]

theorem execPartialNotice_keeps {s₀ s : State} (f : Frame) (h : s₀.Keeps s) : OutKeeps s₀ (execPartialNotice f s) := by
  unfold execPartialNotice
  grind only [State.keeps_mk, outKeeps_next, outKeeps_fault, outKeeps_refused, settled_keeps, doPartialNotice_keeps]

theorem execAckTimer_keeps {s₀ s : State} (k : FlowKey) (h : s₀.Keeps s) : OutKeeps s₀ (execAckTimer k s) := by
  unfold execAckTimer
  grind only [State.keeps_mk, outKeeps_next, outKeeps_fault, outKeeps_refused, settled_keeps, doAckTimer_keeps]

theorem execE2eResend_keeps {s₀ s : State} (k : FlowKey) (h : s₀.Keeps s) : OutKeeps s₀ (execE2eResend k s) := by
  unfold execE2eResend
  grind only [State.keeps_mk, outKeeps_next, outKeeps_fault, outKeeps_refused, settled_keeps, doE2eResend_keeps]

theorem execPathLost_keeps {s₀ s : State} (k : FlowKey) (h : s₀.Keeps s) : OutKeeps s₀ (execPathLost k s) := by
  unfold execPathLost
  grind only [State.keeps_mk, outKeeps_next, outKeeps_fault, outKeeps_refused, settled_keeps, doPathLost_keeps]

theorem execLinkControlBlock_keeps {s₀ s : State} (port : ℕ) (h : s₀.Keeps s) : OutKeeps s₀ (execLinkControlBlock port s) := by
  unfold execLinkControlBlock
  grind only [State.keeps_mk, outKeeps_next, outKeeps_fault, outKeeps_refused, settled_keeps, doLinkControlBlock_keeps]

theorem execNak_keeps {s₀ s : State} (port : ℕ) (seqNo : ℕ) (h : s₀.Keeps s) : OutKeeps s₀ (execNak port seqNo s) := by
  unfold execNak
  grind only [State.keeps_mk, outKeeps_next, outKeeps_fault, outKeeps_refused, settled_keeps, doNak_keeps]

theorem execLinkReplayTimeout_keeps {s₀ s : State} (port : ℕ) (h : s₀.Keeps s) : OutKeeps s₀ (execLinkReplayTimeout port s) := by
  unfold execLinkReplayTimeout
  grind only [State.keeps_mk, outKeeps_next, outKeeps_fault, outKeeps_refused, settled_keeps, doLinkReplayTimeout_keeps]

theorem execFrameAgeDrop_keeps {s₀ s : State} (h : s₀.Keeps s) : OutKeeps s₀ (execFrameAgeDrop s) := by
  unfold execFrameAgeDrop
  grind only [State.keeps_mk, outKeeps_next, outKeeps_fault, outKeeps_refused, settled_keeps, doFrameAgeDrop_keeps]

theorem execPortRetrain_keeps {s₀ s : State} (r : Retrain) (h : s₀.Keeps s) : OutKeeps s₀ (execPortRetrain r s) := by
  unfold execPortRetrain
  grind only [State.keeps_mk, outKeeps_next, outKeeps_fault, outKeeps_refused, settled_keeps, doPortRetrain_keeps]

theorem execRetrainDone_keeps {s₀ s : State} (port : ℕ) (o : TrainOutcome) (h : s₀.Keeps s) : OutKeeps s₀ (execRetrainDone port o s) := by
  unfold execRetrainDone
  grind only [State.keeps_mk, outKeeps_next, outKeeps_fault, outKeeps_refused, settled_keeps, doRetrainDone_keeps]

theorem execPortRetry_keeps {s₀ s : State} (port : ℕ) (h : s₀.Keeps s) : OutKeeps s₀ (execPortRetry port s) := by
  unfold execPortRetry
  grind only [State.keeps_mk, outKeeps_next, outKeeps_fault, outKeeps_refused, settled_keeps, doPortRetry_keeps]

theorem execPortDisable_keeps {s₀ s : State} (a_h : Hdr) (port : ℕ) (h : s₀.Keeps s) : OutKeeps s₀ (execPortDisable a_h port s) := by
  unfold execPortDisable
  grind only [State.keeps_mk, outKeeps_next, outKeeps_fault, outKeeps_refused, settled_keeps, State.writeCommand_keeps]

theorem execPortEnable_keeps {s₀ s : State} (a_h : Hdr) (port : ℕ) (h : s₀.Keeps s) : OutKeeps s₀ (execPortEnable a_h port s) := by
  unfold execPortEnable
  grind only [State.keeps_mk, outKeeps_next, outKeeps_fault, outKeeps_refused, settled_keeps, State.writeCommand_keeps]

theorem execPortRetrainCmd_keeps {s₀ s : State} (a_h : Hdr) (port : ℕ) (h : s₀.Keeps s) : OutKeeps s₀ (execPortRetrainCmd a_h port s)
    := by
  unfold execPortRetrainCmd
  grind only [State.keeps_mk, outKeeps_next, outKeeps_fault, outKeeps_refused, settled_keeps, State.writeCommand_keeps]

theorem execLaneSwap_keeps {s₀ s : State} (a_h : Hdr) (port : ℕ) (h : s₀.Keeps s) : OutKeeps s₀ (execLaneSwap a_h port s) := by
  unfold execLaneSwap
  grind only [State.keeps_mk, outKeeps_next, outKeeps_fault, outKeeps_refused, settled_keeps, State.writeCommand_keeps]

theorem execChartBegin_keeps {s₀ s : State} (a_h : Hdr) (h : s₀.Keeps s) : OutKeeps s₀ (execChartBegin a_h s) := by
  unfold execChartBegin
  grind only [State.keeps_mk, outKeeps_next, outKeeps_fault, outKeeps_refused, settled_keeps, State.writeCommand_keeps]

theorem execChartLoad_keeps {s₀ s : State} (a_h : Hdr) (part : ChartPart) (h : s₀.Keeps s) : OutKeeps s₀ (execChartLoad a_h part s) := by
  unfold execChartLoad
  grind only [State.keeps_mk, outKeeps_next, outKeeps_fault, outKeeps_refused, settled_keeps, State.blobCommand_keeps,
      State.writeCommand_keeps]

theorem execChartSeal_keeps {s₀ s : State} (a_h : Hdr) (h : s₀.Keeps s) : OutKeeps s₀ (execChartSeal a_h s) := by
  unfold execChartSeal
  grind only [State.keeps_mk, outKeeps_next, outKeeps_fault, outKeeps_refused, settled_keeps, State.writeCommand_keeps]

theorem execSwitch_keeps {s₀ s : State} (a_h : Hdr) (h : s₀.Keeps s) : OutKeeps s₀ (execSwitch a_h s) := by
  unfold execSwitch
  grind only [State.keeps_mk, outKeeps_next, outKeeps_fault, outKeeps_refused, settled_keeps, State.writeCommand_keeps]

theorem execSwitchClose_keeps {s₀ s : State} (a_h : Hdr) (h : s₀.Keeps s) : OutKeeps s₀ (execSwitchClose a_h s) := by
  unfold execSwitchClose
  grind only [State.keeps_mk, outKeeps_next, outKeeps_fault, outKeeps_refused, settled_keeps, State.writeCommand_keeps]

theorem execChartAbort_keeps {s₀ s : State} (a_h : Hdr) (h : s₀.Keeps s) : OutKeeps s₀ (execChartAbort a_h s) := by
  unfold execChartAbort
  grind only [State.keeps_mk, outKeeps_next, outKeeps_fault, outKeeps_refused, settled_keeps, State.writeCommand_keeps]

theorem execChartSwitchTime_keeps {s₀ s : State} (h : s₀.Keeps s) : OutKeeps s₀ (execChartSwitchTime s) := by
  unfold execChartSwitchTime
  grind only [State.keeps_mk, outKeeps_next, outKeeps_fault, outKeeps_refused, settled_keeps, doChartSwitchTime_keeps]

theorem execChartDrainClose_keeps {s₀ s : State} (chart : ℕ) (h : s₀.Keeps s) : OutKeeps s₀ (execChartDrainClose chart s) := by
  unfold execChartDrainClose
  grind only [State.keeps_mk, outKeeps_next, outKeeps_fault, outKeeps_refused, settled_keeps, doChartDrainClose_keeps]

end Sys2Proof.Machine
end

