-- ==== Sys2Proof/Laws/Keeps/HealthCommands.lean ====
section
/-! SUPPORT. What the functions of Machine/HealthCommands.lean keep (`State.Keeps`): one lemma for each, cited by those of its callers. -/

namespace Sys2Proof.Machine

theorem execRsvSwap_keeps {s₀ s : State} (a_h : Hdr) (core : ℕ) (reserve : ℕ) (h : s₀.Keeps s) : OutKeeps s₀ (execRsvSwap a_h core
    reserve s) := by
  unfold execRsvSwap
  grind only [State.keeps_mk, outKeeps_next, outKeeps_fault, outKeeps_refused, settled_keeps, State.writeCommand_keeps]

theorem execRsvSwapCancel_keeps {s₀ s : State} (a_h : Hdr) (core : ℕ) (h : s₀.Keeps s) : OutKeeps s₀ (execRsvSwapCancel a_h core s) := by
  unfold execRsvSwapCancel
  grind only [State.keeps_mk, outKeeps_next, outKeeps_fault, outKeeps_refused, settled_keeps, State.writeCommand_keeps]

theorem execReserveReady_keeps {s₀ s : State} (core : ℕ) (pass : Bool) (h : s₀.Keeps s) : OutKeeps s₀ (execReserveReady core pass s) := by
  unfold execReserveReady
  grind only [State.keeps_mk, outKeeps_next, outKeeps_fault, outKeeps_refused, settled_keeps, doReserveReady_keeps]

theorem execReserveIdleTimeout_keeps {s₀ s : State} (core : ℕ) (h : s₀.Keeps s) : OutKeeps s₀ (execReserveIdleTimeout core s) := by
  unfold execReserveIdleTimeout
  grind only [State.keeps_mk, outKeeps_next, outKeeps_fault, outKeeps_refused, settled_keeps, doReserveIdleTimeout_keeps]

theorem execDriftEvaluation_keeps {s₀ s : State} (canaries : List (ℕ × ℤ)) (xdLost : ℕ) (h : s₀.Keeps s) : OutKeeps s₀
    (execDriftEvaluation canaries xdLost s) := by
  unfold execDriftEvaluation
  grind only [State.keeps_mk, outKeeps_next, outKeeps_fault, outKeeps_refused, settled_keeps, doDriftEvaluation_keeps]

theorem execDriftPersist_keeps {s₀ s : State} (h : s₀.Keeps s) : OutKeeps s₀ (execDriftPersist s) := by
  unfold execDriftPersist
  grind only [State.keeps_mk, outKeeps_next, outKeeps_fault, outKeeps_refused, settled_keeps, doDriftPersist_keeps]

theorem execLaneSwapRequest_keeps {s₀ s : State} (port : ℕ) (lane : ℕ) (h : s₀.Keeps s) : OutKeeps s₀ (execLaneSwapRequest port lane s)
    := by
  unfold execLaneSwapRequest
  grind only [State.keeps_mk, outKeeps_next, outKeeps_fault, outKeeps_refused, settled_keeps, doLaneSwapRequest_keeps]

theorem execPhaseShed_keeps {s₀ s : State} (rail : Rail) (h : s₀.Keeps s) : OutKeeps s₀ (execPhaseShed rail s) := by
  unfold execPhaseShed
  grind only [State.keeps_mk, outKeeps_next, outKeeps_fault, outKeeps_refused, settled_keeps, doPhaseShed_keeps]

theorem execSensorLost_keeps {s₀ s : State} (site : ℕ) (sensor : ℕ) (h : s₀.Keeps s) : OutKeeps s₀ (execSensorLost site sensor s) := by
  unfold execSensorLost
  grind only [State.keeps_mk, outKeeps_next, outKeeps_fault, outKeeps_refused, settled_keeps, doSensorLost_keeps]

theorem execSparePressure_keeps {s₀ s : State} (a_h : Hdr) (value : ℕ) (h : s₀.Keeps s) : OutKeeps s₀ (execSparePressure a_h value s)
    := by
  unfold execSparePressure
  grind only [State.keeps_mk, outKeeps_next, outKeeps_fault, outKeeps_refused, settled_keeps, State.writeCommand_keeps]

theorem execRetiredMap_keeps {s₀ s : State} (a_h : Hdr) (value : ℕ) (h : s₀.Keeps s) : OutKeeps s₀ (execRetiredMap a_h value s) := by
  unfold execRetiredMap
  grind only [State.keeps_mk, outKeeps_next, outKeeps_fault, outKeeps_refused, settled_keeps, State.blobCommand_keeps]

theorem execInputSample_keeps {s₀ s : State} (milliVolt : ℕ) (milliAmp : ℕ) (h : s₀.Keeps s) : OutKeeps s₀ (execInputSample milliVolt
    milliAmp s) := by
  unfold execInputSample
  grind only [State.keeps_mk, outKeeps_next, outKeeps_fault, outKeeps_refused, settled_keeps, doInputSample_keeps]

theorem execPdOn_keeps {s₀ s : State} (a_h : Hdr) (domain : ℕ) (h : s₀.Keeps s) : OutKeeps s₀ (execPdOn a_h domain s) := by
  unfold execPdOn
  grind only [State.keeps_mk, outKeeps_next, outKeeps_fault, outKeeps_refused, settled_keeps, State.writeCommand_keeps]

theorem execPdOff_keeps {s₀ s : State} (a_h : InCycle Hdr) (domain : ℕ) (h : s₀.Keeps s) : OutKeeps s₀ (execPdOff a_h domain s) := by
  unfold execPdOff
  grind only [State.keeps_mk, outKeeps_next, outKeeps_fault, outKeeps_refused, settled_keeps, State.writeCommandWith_keeps]

theorem execPdSelfRefresh_keeps {s₀ s : State} (a_h : Hdr) (domain : ℕ) (h : s₀.Keeps s) : OutKeeps s₀ (execPdSelfRefresh a_h domain s)
    := by
  unfold execPdSelfRefresh
  grind only [State.keeps_mk, outKeeps_next, outKeeps_fault, outKeeps_refused, settled_keeps, State.writeCommand_keeps]

theorem execDomainPowerGood_keeps {s₀ s : State} (g : PowerGood) (h : s₀.Keeps s) : OutKeeps s₀ (execDomainPowerGood g s) := by
  unfold execDomainPowerGood
  grind only [State.keeps_mk, outKeeps_next, outKeeps_fault, outKeeps_refused, settled_keeps, doPowerGood_keeps]

theorem execDomainWakeFail_keeps {s₀ s : State} (domain : ℕ) (h : s₀.Keeps s) : OutKeeps s₀ (execDomainWakeFail domain s) := by
  unfold execDomainWakeFail
  grind only [State.keeps_mk, outKeeps_next, outKeeps_fault, outKeeps_refused, settled_keeps, doDomainWakeFail_keeps]

theorem execPllLock_keeps {s₀ s : State} (die : ℕ) (h : s₀.Keeps s) : OutKeeps s₀ (execPllLock die s) := by
  unfold execPllLock
  grind only [State.keeps_mk, outKeeps_next, outKeeps_fault, outKeeps_refused, settled_keeps, doPllLock_keeps]

theorem execThrottleStepUp_keeps {s₀ s : State} (die : ℕ) (h : s₀.Keeps s) : OutKeeps s₀ (execThrottleStepUp die s) := by
  unfold execThrottleStepUp
  grind only [State.keeps_mk, outKeeps_next, outKeeps_fault, outKeeps_refused, settled_keeps, doThrottleStepUp_keeps]

theorem execSiteTempSample_keeps {s₀ s : State} (readings : List (Option ℤ × Option ℤ)) (h : s₀.Keeps s) : OutKeeps s₀
    (execSiteTempSample readings s) := by
  unfold execSiteTempSample
  grind only [State.keeps_mk, outKeeps_next, outKeeps_fault, outKeeps_refused, settled_keeps, doSiteTempSample_keeps]

theorem execClkCap_keeps {s₀ s : State} (a_h : Hdr) (die : ℕ) (value : ℕ) (h : s₀.Keeps s) : OutKeeps s₀ (execClkCap a_h die value s)
    := by
  unfold execClkCap
  grind only [State.keeps_mk, outKeeps_next, outKeeps_fault, outKeeps_refused, settled_keeps, State.writeCommand_keeps]

theorem execThrottleN_keeps {s₀ s : State} (h : s₀.Keeps s) : OutKeeps s₀ (execThrottleN s) := by
  unfold execThrottleN
  grind only [State.keeps_mk, outKeeps_next, outKeeps_fault, outKeeps_refused, settled_keeps, doThrottleN_keeps]

theorem execThrottleNRelease_keeps {s₀ s : State} (h : s₀.Keeps s) : OutKeeps s₀ (execThrottleNRelease s) := by
  unfold execThrottleNRelease
  grind only [State.keeps_mk, outKeeps_next, outKeeps_fault, outKeeps_refused, settled_keeps, doThrottleNRelease_keeps]

theorem execEpoN_keeps {s₀ s : State} (h : s₀.Keeps s) : OutKeeps s₀ (execEpoN s) := by
  unfold execEpoN
  grind only [State.keeps_mk, outKeeps_next, outKeeps_fault, outKeeps_refused, settled_keeps, doEpoN_keeps]

theorem execEpoNRelease_keeps {s₀ s : State} (h : s₀.Keeps s) : OutKeeps s₀ (execEpoNRelease s) := by
  unfold execEpoNRelease
  grind only [State.keeps_mk, outKeeps_next, outKeeps_fault, outKeeps_refused, settled_keeps, doEpoNRelease_keeps]

theorem execFenceN_keeps {s₀ s : State} (h : s₀.Keeps s) : OutKeeps s₀ (execFenceN s) := by
  unfold execFenceN
  grind only [State.keeps_mk, outKeeps_next, outKeeps_fault, outKeeps_refused, settled_keeps, doFenceN_keeps]

theorem execFenceNRelease_keeps {s₀ s : State} (h : s₀.Keeps s) : OutKeeps s₀ (execFenceNRelease s) := by
  unfold execFenceNRelease
  grind only [State.keeps_mk, outKeeps_next, outKeeps_fault, outKeeps_refused, settled_keeps, doFenceNRelease_keeps]

theorem execRestart_keeps {s₀ s : State} (a_h : Hdr) (h : s₀.Keeps s) : OutKeeps s₀ (execRestart a_h s) := by
  unfold execRestart
  grind only [State.keeps_mk, outKeeps_next, outKeeps_fault, outKeeps_refused, settled_keeps, State.writeCommand_keeps]

end Sys2Proof.Machine
end

