-- ==== Sys2Proof/Laws/Keeps/JobCommands.lean ====
section
/-! SUPPORT. What the functions of Machine/JobCommands.lean keep (`State.Keeps`): one lemma for each, cited by those of its callers. -/

namespace Sys2Proof.Machine

theorem execCtxArm_keeps {s₀ s : State} (a_h : Hdr) (ctx : ℕ) (addr : ℕ) (h : s₀.Keeps s) : OutKeeps s₀ (execCtxArm a_h ctx addr s) := by
  unfold execCtxArm
  grind only [State.keeps_mk, outKeeps_next, outKeeps_fault, outKeeps_refused, settled_keeps, State.writeCommand_keeps]

theorem execDisarm_keeps {s₀ s : State} (a_h : Hdr) (ctx : ℕ) (h : s₀.Keeps s) : OutKeeps s₀ (execDisarm a_h ctx s) := by
  unfold execDisarm
  grind only [State.keeps_mk, outKeeps_next, outKeeps_fault, outKeeps_refused, settled_keeps, State.writeCommand_keeps]

theorem execContrib_keeps {s₀ s : State} (f : Frame) (h : s₀.Keeps s) : OutKeeps s₀ (execContrib f s) := by
  unfold execContrib
  grind only [State.keeps_mk, outKeeps_next, outKeeps_fault, outKeeps_refused, settled_keeps, doContrib_keeps]

theorem execDeadline_keeps {s₀ s : State} (ctx : ℕ) (h : s₀.Keeps s) : OutKeeps s₀ (execDeadline ctx s) := by
  unfold execDeadline
  grind only [State.keeps_mk, outKeeps_next, outKeeps_fault, outKeeps_refused, settled_keeps, doDeadline_keeps]

theorem execLate_keeps {s₀ s : State} (f : Frame) (h : s₀.Keeps s) : OutKeeps s₀ (execLate f s) := by
  unfold execLate
  grind only [State.keeps_mk, outKeeps_next, outKeeps_fault, outKeeps_refused, settled_keeps, doLate_keeps]

theorem execResult_keeps {s₀ s : State} (f : Frame) (h : s₀.Keeps s) : OutKeeps s₀ (execResult f s) := by
  unfold execResult
  grind only [State.keeps_mk, outKeeps_next, outKeeps_fault, outKeeps_refused, settled_keeps, doResult_keeps]

theorem execStageEnable_keeps {s₀ s : State} (a_h : Hdr) (slot : ℕ) (h : s₀.Keeps s) : OutKeeps s₀ (execStageEnable a_h slot s) := by
  unfold execStageEnable
  grind only [State.keeps_mk, outKeeps_next, outKeeps_fault, outKeeps_refused, settled_keeps, State.writeCommand_keeps]

theorem execStageDisable_keeps {s₀ s : State} (a_h : Hdr) (slot : ℕ) (h : s₀.Keeps s) : OutKeeps s₀ (execStageDisable a_h slot s) := by
  unfold execStageDisable
  grind only [State.keeps_mk, outKeeps_next, outKeeps_fault, outKeeps_refused, settled_keeps, State.writeCommand_keeps]

theorem execStepBegin_keeps {s₀ s : State} (a_h : Hdr) (h : s₀.Keeps s) : OutKeeps s₀ (execStepBegin a_h s) := by
  unfold execStepBegin
  grind only [State.keeps_mk, outKeeps_next, outKeeps_fault, outKeeps_refused, settled_keeps, State.writeCommand_keeps]

theorem execEndJob_keeps {s₀ s : State} (a_h : Hdr) (h : s₀.Keeps s) : OutKeeps s₀ (execEndJob a_h s) := by
  unfold execEndJob
  grind only [State.keeps_mk, outKeeps_next, outKeeps_fault, outKeeps_refused, settled_keeps, State.writeCommand_keeps]

theorem execRestore_keeps {s₀ s : State} (a_h : Hdr) (h : s₀.Keeps s) : OutKeeps s₀ (execRestore a_h s) := by
  unfold execRestore
  grind only [State.keeps_mk, outKeeps_next, outKeeps_fault, outKeeps_refused, settled_keeps, State.writeCommand_keeps]

theorem execStandby_keeps {s₀ s : State} (a_h : Hdr) (h : s₀.Keeps s) : OutKeeps s₀ (execStandby a_h s) := by
  unfold execStandby
  grind only [State.keeps_mk, outKeeps_next, outKeeps_fault, outKeeps_refused, settled_keeps, State.writeCommand_keeps]

theorem execConsortStream_keeps {s₀ s : State} (h : s₀.Keeps s) : OutKeeps s₀ (execConsortStream s) := by
  unfold execConsortStream
  grind only [State.keeps_mk, outKeeps_next, outKeeps_fault, outKeeps_refused, settled_keeps, doConsortStream_keeps]

theorem execCheckTimeout_keeps {s₀ s : State} (h : s₀.Keeps s) : OutKeeps s₀ (execCheckTimeout s) := by
  unfold execCheckTimeout
  grind only [State.keeps_mk, outKeeps_next, outKeeps_fault, outKeeps_refused, settled_keeps, doCheckTimeout_keeps]

theorem execConsortTimeout_keeps {s₀ s : State} (h : s₀.Keeps s) : OutKeeps s₀ (execConsortTimeout s) := by
  unfold execConsortTimeout
  grind only [State.keeps_mk, outKeeps_next, outKeeps_fault, outKeeps_refused, settled_keeps, doConsortTimeout_keeps]

theorem execStepVote_keeps {s₀ s : State} (f : Frame) (h : s₀.Keeps s) : OutKeeps s₀ (execStepVote f s) := by
  unfold execStepVote
  grind only [State.keeps_mk, outKeeps_next, outKeeps_fault, outKeeps_refused, settled_keeps, doStepVote_keeps]

theorem execStepCommit_keeps {s₀ s : State} (f : Frame) (h : s₀.Keeps s) : OutKeeps s₀ (execStepCommit f s) := by
  unfold execStepCommit
  grind only [State.keeps_mk, outKeeps_next, outKeeps_fault, outKeeps_refused, settled_keeps, doStepCommit_keeps]

theorem execStepAbort_keeps {s₀ s : State} (f : Frame) (h : s₀.Keeps s) : OutKeeps s₀ (execStepAbort f s) := by
  unfold execStepAbort
  grind only [State.keeps_mk, outKeeps_next, outKeeps_fault, outKeeps_refused, settled_keeps, doStepAbort_keeps]

theorem execStepResume_keeps {s₀ s : State} (f : Frame) (h : s₀.Keeps s) : OutKeeps s₀ (execStepResume f s) := by
  unfold execStepResume
  grind only [State.keeps_mk, outKeeps_next, outKeeps_fault, outKeeps_refused, settled_keeps, doStepResume_keeps]

theorem execVoteResend_keeps {s₀ s : State} (h : s₀.Keeps s) : OutKeeps s₀ (execVoteResend s) := by
  unfold execVoteResend
  grind only [State.keeps_mk, outKeeps_next, outKeeps_fault, outKeeps_refused, settled_keeps, doVoteResend_keeps]

theorem execConsortData_keeps {s₀ s : State} (f : Frame) (h : s₀.Keeps s) : OutKeeps s₀ (execConsortData f s) := by
  unfold execConsortData
  grind only [State.keeps_mk, outKeeps_next, outKeeps_fault, outKeeps_refused, settled_keeps, doConsortData_keeps]

theorem execConsortDone_keeps {s₀ s : State} (f : Frame) (h : s₀.Keeps s) : OutKeeps s₀ (execConsortDone f s) := by
  unfold execConsortDone
  grind only [State.keeps_mk, outKeeps_next, outKeeps_fault, outKeeps_refused, settled_keeps, doConsortDone_keeps]

theorem execConsortAck_keeps {s₀ s : State} (f : Frame) (h : s₀.Keeps s) : OutKeeps s₀ (execConsortAck f s) := by
  unfold execConsortAck
  grind only [State.keeps_mk, outKeeps_next, outKeeps_fault, outKeeps_refused, settled_keeps, doConsortAck_keeps]

theorem execConsortPull_keeps {s₀ s : State} (f : Frame) (h : s₀.Keeps s) : OutKeeps s₀ (execConsortPull f s) := by
  unfold execConsortPull
  grind only [State.keeps_mk, outKeeps_next, outKeeps_fault, outKeeps_refused, settled_keeps, doConsortPull_keeps]

theorem execConsortLoad_keeps {s₀ s : State} (f : Frame) (h : s₀.Keeps s) : OutKeeps s₀ (execConsortLoad f s) := by
  unfold execConsortLoad
  grind only [State.keeps_mk, outKeeps_next, outKeeps_fault, outKeeps_refused, settled_keeps, doConsortLoad_keeps]

theorem execModuleFence_keeps {s₀ s : State} (a_h : Hdr) (h : s₀.Keeps s) : OutKeeps s₀ (execModuleFence a_h s) := by
  unfold execModuleFence
  grind only [State.keeps_mk, outKeeps_next, outKeeps_fault, outKeeps_refused, settled_keeps, State.writeCommand_keeps]

theorem execRelease_keeps {s₀ s : State} (a_h : Hdr) (h : s₀.Keeps s) : OutKeeps s₀ (execRelease a_h s) := by
  unfold execRelease
  grind only [State.keeps_mk, outKeeps_next, outKeeps_fault, outKeeps_refused, settled_keeps, State.writeCommand_keeps]

theorem execFenceReqDev_keeps {s₀ s : State} (a_h : Hdr) (dev : ℕ) (h : s₀.Keeps s) : OutKeeps s₀ (execFenceReqDev a_h dev s) := by
  unfold execFenceReqDev
  grind only [State.keeps_mk, outKeeps_next, outKeeps_fault, outKeeps_refused, settled_keeps, State.writeCommand_keeps]

theorem execFixArm_keeps {s₀ s : State} (a_h : Hdr) (h : s₀.Keeps s) : OutKeeps s₀ (execFixArm a_h s) := by
  unfold execFixArm
  grind only [State.keeps_mk, outKeeps_next, outKeeps_fault, outKeeps_refused, settled_keeps, State.writeCommand_keeps]

theorem execAbandon_keeps {s₀ s : State} (a_h : Hdr) (h : s₀.Keeps s) : OutKeeps s₀ (execAbandon a_h s) := by
  unfold execAbandon
  grind only [State.keeps_mk, outKeeps_next, outKeeps_fault, outKeeps_refused, settled_keeps, State.writeCommand_keeps]

theorem execFixEncode_keeps {s₀ s : State} (die : ℕ) (h : s₀.Keeps s) : OutKeeps s₀ (execFixEncode die s) := by
  unfold execFixEncode
  grind only [State.keeps_mk, outKeeps_next, outKeeps_fault, outKeeps_refused, settled_keeps, doFixEncode_keeps]

theorem execFixStripe_keeps {s₀ s : State} (f : Frame) (h : s₀.Keeps s) : OutKeeps s₀ (execFixStripe f s) := by
  unfold execFixStripe
  grind only [State.keeps_mk, outKeeps_next, outKeeps_fault, outKeeps_refused, settled_keeps, doFixStripe_keeps]

theorem execFixStripeRetry_keeps {s₀ s : State} (h : s₀.Keeps s) : OutKeeps s₀ (execFixStripeRetry s) := by
  unfold execFixStripeRetry
  grind only [State.keeps_mk, outKeeps_next, outKeeps_fault, outKeeps_refused, settled_keeps, doFixStripeRetry_keeps]

theorem execFixCount_keeps {s₀ s : State} (f : Frame) (h : s₀.Keeps s) : OutKeeps s₀ (execFixCount f s) := by
  unfold execFixCount
  grind only [State.keeps_mk, outKeeps_next, outKeeps_fault, outKeeps_refused, settled_keeps, doFixCount_keeps]

theorem execFixPrepared_keeps {s₀ s : State} (f : Frame) (h : s₀.Keeps s) : OutKeeps s₀ (execFixPrepared f s) := by
  unfold execFixPrepared
  grind only [State.keeps_mk, outKeeps_next, outKeeps_fault, outKeeps_refused, settled_keeps, doFixPrepared_keeps]

theorem execFixCommit_keeps {s₀ s : State} (f : Frame) (h : s₀.Keeps s) : OutKeeps s₀ (execFixCommit f s) := by
  unfold execFixCommit
  grind only [State.keeps_mk, outKeeps_next, outKeeps_fault, outKeeps_refused, settled_keeps, doFixCommit_keeps]

theorem execFixDiscard_keeps {s₀ s : State} (f : Frame) (h : s₀.Keeps s) : OutKeeps s₀ (execFixDiscard f s) := by
  unfold execFixDiscard
  grind only [State.keeps_mk, outKeeps_next, outKeeps_fault, outKeeps_refused, settled_keeps, doFixDiscard_keeps]

theorem execFixTimeout_keeps {s₀ s : State} (h : s₀.Keeps s) : OutKeeps s₀ (execFixTimeout s) := by
  unfold execFixTimeout
  grind only [State.keeps_mk, outKeeps_next, outKeeps_fault, outKeeps_refused, settled_keeps, doFixTimeout_keeps]

theorem execFixPreparedResend_keeps {s₀ s : State} (h : s₀.Keeps s) : OutKeeps s₀ (execFixPreparedResend s) := by
  unfold execFixPreparedResend
  grind only [State.keeps_mk, outKeeps_next, outKeeps_fault, outKeeps_refused, settled_keeps, doFixPreparedResend_keeps]

theorem execFixDrainedSlots_keeps {s₀ s : State} (a_h : Hdr) (value : ℕ) (h : s₀.Keeps s) : OutKeeps s₀ (execFixDrainedSlots a_h value
    s) := by
  unfold execFixDrainedSlots
  grind only [State.keeps_mk, outKeeps_next, outKeeps_fault, outKeeps_refused, settled_keeps, State.writeCommand_keeps]

theorem execFixApply_keeps {s₀ s : State} (a_h : Hdr) (h : s₀.Keeps s) : OutKeeps s₀ (execFixApply a_h s) := by
  unfold execFixApply
  grind only [State.keeps_mk, outKeeps_next, outKeeps_fault, outKeeps_refused, settled_keeps, State.writeCommand_keeps]

theorem execRebuild_keeps {s₀ s : State} (a_h : Hdr) (h : s₀.Keeps s) : OutKeeps s₀ (execRebuild a_h s) := by
  unfold execRebuild
  grind only [State.keeps_mk, outKeeps_next, outKeeps_fault, outKeeps_refused, settled_keeps, State.writeCommand_keeps]

theorem execResolveCommit_keeps {s₀ s : State} (a_h : Hdr) (h : s₀.Keeps s) : OutKeeps s₀ (execResolveCommit a_h s) := by
  unfold execResolveCommit
  grind only [State.keeps_mk, outKeeps_next, outKeeps_fault, outKeeps_refused, settled_keeps, State.writeCommand_keeps]

theorem execResolveDiscard_keeps {s₀ s : State} (a_h : Hdr) (h : s₀.Keeps s) : OutKeeps s₀ (execResolveDiscard a_h s) := by
  unfold execResolveDiscard
  grind only [State.keeps_mk, outKeeps_next, outKeeps_fault, outKeeps_refused, settled_keeps, State.writeCommand_keeps]

theorem execFixPull_keeps {s₀ s : State} (f : Frame) (h : s₀.Keeps s) : OutKeeps s₀ (execFixPull f s) := by
  unfold execFixPull
  grind only [State.keeps_mk, outKeeps_next, outKeeps_fault, outKeeps_refused, settled_keeps, doFixPull_keeps]

theorem execFixChunk_keeps {s₀ s : State} (f : Frame) (h : s₀.Keeps s) : OutKeeps s₀ (execFixChunk f s) := by
  unfold execFixChunk
  grind only [State.keeps_mk, outKeeps_next, outKeeps_fault, outKeeps_refused, settled_keeps, doFixChunk_keeps]

end Sys2Proof.Machine
end

