-- ==== Sys2Proof/Laws/Keeps/MemoryCommands.lean ====
section
/-! SUPPORT. What the functions of Machine/MemoryCommands.lean keep (`State.Keeps`): one lemma for each, cited by those of its callers. -/

namespace Sys2Proof.Machine

theorem execRecordLoad_keeps {s₀ s : State} (core : ℕ) (h : s₀.Keeps s) : OutKeeps s₀ (execRecordLoad core s) := by
  unfold execRecordLoad
  grind only [State.keeps_mk, outKeeps_next, outKeeps_fault, outKeeps_refused, settled_keeps, doRecordLoad_keeps]

theorem execLayerComplete_keeps {s₀ s : State} (core : ℕ) (h : s₀.Keeps s) : OutKeeps s₀ (execLayerComplete core s) := by
  unfold execLayerComplete
  grind only [State.keeps_mk, outKeeps_next, outKeeps_fault, outKeeps_refused, settled_keeps, doLayerComplete_keeps]

theorem execDmaDescriptorStart_keeps {s₀ s : State} (core : ℕ) (engine : ℕ) (errors : List StoredError) (h : s₀.Keeps s) : OutKeeps s₀
    (execDmaDescriptorStart core engine errors s) := by
  unfold execDmaDescriptorStart
  grind only [State.keeps_mk, outKeeps_next, outKeeps_fault, outKeeps_refused, settled_keeps, doDmaDescriptorStart_keeps]

theorem execDmaComplete_keeps {s₀ s : State} (core : ℕ) (engine : ℕ) (h : s₀.Keeps s) : OutKeeps s₀ (execDmaComplete core engine s) := by
  unfold execDmaComplete
  grind only [State.keeps_mk, outKeeps_next, outKeeps_fault, outKeeps_refused, settled_keeps, doDmaComplete_keeps]

theorem execScrubRead_keeps {s₀ s : State} (burst : ℕ) (errors : List StoredError) (h : s₀.Keeps s) : OutKeeps s₀ (execScrubRead burst
    errors s) := by
  unfold execScrubRead
  grind only [State.keeps_mk, outKeeps_next, outKeeps_fault, outKeeps_refused, settled_keeps, doScrubRead_keeps]

theorem execRefresh_keeps {s₀ s : State} (u : Upkeep) (busy : Bool) (h : s₀.Keeps s) : OutKeeps s₀ (execRefresh u busy s) := by
  unfold execRefresh
  grind only [State.keeps_mk, outKeeps_next, outKeeps_fault, outKeeps_refused, settled_keeps, doRefresh_keeps]

theorem execRefreshManagement_keeps {s₀ s : State} (u : Upkeep) (h : s₀.Keeps s) : OutKeeps s₀ (execRefreshManagement u s) := by
  unfold execRefreshManagement
  grind only [State.keeps_mk, outKeeps_next, outKeeps_fault, outKeeps_refused, settled_keeps, doRefreshManagement_keeps]

theorem execRowRemap_keeps {s₀ s : State} (group : ℕ) (h : s₀.Keeps s) : OutKeeps s₀ (execRowRemap group s) := by
  unfold execRowRemap
  grind only [State.keeps_mk, outKeeps_next, outKeeps_fault, outKeeps_refused, settled_keeps, doRowRemap_keeps]

theorem execStackTempRead_keeps {s₀ s : State} (readings : List (Option ℤ × Option ℤ)) (h : s₀.Keeps s) : OutKeeps s₀
    (execStackTempRead readings s) := by
  unfold execStackTempRead
  grind only [State.keeps_mk, outKeeps_next, outKeeps_fault, outKeeps_refused, settled_keeps, doStackTempRead_keeps]

theorem execCbwCopy_keeps {s₀ s : State} (page : ℕ) (h : s₀.Keeps s) : OutKeeps s₀ (execCbwCopy page s) := by
  unfold execCbwCopy
  grind only [State.keeps_mk, outKeeps_next, outKeeps_fault, outKeeps_refused, settled_keeps, doCbwCopy_keeps]

theorem execBackgroundCopy_keeps {s₀ s : State} (die : ℕ) (h : s₀.Keeps s) : OutKeeps s₀ (execBackgroundCopy die s) := by
  unfold execBackgroundCopy
  grind only [State.keeps_mk, outKeeps_next, outKeeps_fault, outKeeps_refused, settled_keeps, doBackgroundCopy_keeps]

theorem execSxtRun_keeps {s₀ s : State} (a_h : Hdr) (h : s₀.Keeps s) : OutKeeps s₀ (execSxtRun a_h s) := by
  unfold execSxtRun
  grind only [State.keeps_mk, outKeeps_next, outKeeps_fault, outKeeps_refused, settled_keeps, State.writeCommand_keeps]

theorem execSxtAbort_keeps {s₀ s : State} (a_h : Hdr) (h : s₀.Keeps s) : OutKeeps s₀ (execSxtAbort a_h s) := by
  unfold execSxtAbort
  grind only [State.keeps_mk, outKeeps_next, outKeeps_fault, outKeeps_refused, settled_keeps, State.writeCommand_keeps]

theorem execSxtDone_keeps {s₀ s : State} (margins : List LaneMargin) (h : s₀.Keeps s) : OutKeeps s₀ (execSxtDone margins s) := by
  unfold execSxtDone
  grind only [State.keeps_mk, outKeeps_next, outKeeps_fault, outKeeps_refused, settled_keeps, doSxtDone_keeps]

end Sys2Proof.Machine
end

