-- ==== Sys2Proof/Laws/Keeps/Unit.lean ====
section
/-! SUPPORT. What the functions of Machine/Unit.lean keep (`State.Keeps`): one lemma for each, cited by those of its callers. -/

namespace Sys2Proof.Machine

set_option linter.tactic.unusedName false

theorem State.flushed_keeps {s₀ s : State} (h : s₀.Keeps s) : s₀.Keeps (State.flushed s) := by
  unfold State.flushed
  grind only [State.keeps_mk, outKeeps_next, outKeeps_fault, outKeeps_refused]

theorem State.keyEffect_keeps {s₀ s : State} (k : Option (ℕ × List Byte)) (h : s₀.Keeps s) : s₀.Keeps (State.keyEffect s k) := by
  unfold State.keyEffect
  grind only [State.keeps_mk, outKeeps_next, outKeeps_fault, outKeeps_refused, State.setRoleKey_keeps]

theorem State.resetUpdate_keeps {s₀ s : State} (h : s₀.Keeps s) : s₀.Keeps (State.resetUpdate s) := by
  unfold State.resetUpdate
  grind only [State.keeps_mk, outKeeps_next, outKeeps_fault, outKeeps_refused, State.setObj_keeps]

theorem State.sendBeacon_keeps {s₀ s : State} (low : Bool) (h : s₀.Keeps s) : s₀.Keeps (State.sendBeacon s low) := by
  unfold State.sendBeacon
  (repeat' (
    first
    | with_reducible assumption
    | (extract_lets +onlyGivenNames x; refine keeps_suff (s₀ := s₀) x ?_ (fun _ => ?_); (on_goal 1 => subst x); (on_goal 2 => try
        clear_value x))
    | extract_lets +onlyGivenNames _
    | with_reducible (refine foldl_keeps ?_ (fun _ _ _ => ?_) <;> try beta_reduce)
    | with_reducible apply State.nextCounter_keeps
    | with_reducible apply State.emitHdp_keeps
    | with_reducible (fail_if_no_progress apply State.keeps_mk)
    | with_reducible apply ite_keeps
    | with_reducible apply ite_snd))

theorem State.sendNd_keeps {s₀ s : State} (g : Seg) (h : s₀.Keeps s) : s₀.Keeps (State.sendNd s g) := by
  unfold State.sendNd
  grind only [State.keeps_mk, outKeeps_next, outKeeps_fault, outKeeps_refused, State.send_keeps]

theorem State.sendQueued_keeps {s₀ s : State} (g : Seg) (o : HdpOut) (h : s₀.Keeps s) : s₀.Keeps (State.sendQueued s g o) := by
  unfold State.sendQueued
  grind only [State.keeps_mk, outKeeps_next, outKeeps_fault, outKeeps_refused, State.keyEffect_keeps, State.send_keeps]

theorem State.setSeg_keeps {s₀ s : State} (g : Seg) (up : Bool) (h : s₀.Keeps s) : s₀.Keeps (State.setSeg s g up) := by
  unfold State.setSeg
  grind only [State.keeps_mk, outKeeps_next, outKeeps_fault, outKeeps_refused, State.setObj_keeps]

theorem doBeacon_keeps {s₀ s : State} (h : s₀.Keeps s) : OutKeeps s₀ (doBeacon s) := by
  unfold doBeacon
  grind only [State.keeps_mk, outKeeps_next, outKeeps_fault, outKeeps_refused, State.sendBeacon_keeps]

theorem doHcWatchdog_keeps {s₀ s : State} (core : ℕ) (h : s₀.Keeps s) : OutKeeps s₀ (doHcWatchdog core s) := by
  unfold doHcWatchdog
  grind only [State.keeps_mk, outKeeps_next, outKeeps_fault, outKeeps_refused, State.alert_keeps, State.setObj_keeps]

theorem doHmuReset_keeps {s₀ s : State} (h : s₀.Keeps s) : OutKeeps s₀ (doHmuReset s) := by
  unfold doHmuReset
  grind only [State.keeps_mk, outKeeps_next, outKeeps_fault, outKeeps_refused, State.resetUpdate_keeps, State.count_keeps,
      State.setObj_keeps]

theorem doHmuSleep_keeps {s₀ s : State} (h : s₀.Keeps s) : OutKeeps s₀ (doHmuSleep s) := by
  unfold doHmuSleep
  grind only [State.keeps_mk, outKeeps_next, outKeeps_fault, outKeeps_refused]

theorem doImmediateBeacon_keeps {s₀ s : State} (h : s₀.Keeps s) : OutKeeps s₀ (doImmediateBeacon s) := by
  unfold doImmediateBeacon
  grind only [State.keeps_mk, outKeeps_next, outKeeps_fault, outKeeps_refused, State.sendBeacon_keeps]

theorem doLogFlush_keeps {s₀ s : State} (programFails : Bool) (h : s₀.Keeps s) : OutKeeps s₀ (doLogFlush programFails s) := by
  unfold doLogFlush
  grind only [State.keeps_mk, outKeeps_next, outKeeps_fault, outKeeps_refused, State.flushed_keeps, State.blockFailed_keeps]

theorem doNeighborSolicitation_keeps {s₀ s : State} (l : NdLink) (target : ℕ) (h : s₀.Keeps s) : OutKeeps s₀ (doNeighborSolicitation l
    target s) := by
  unfold doNeighborSolicitation
  grind only [State.keeps_mk, outKeeps_next, outKeeps_fault, outKeeps_refused, State.queueNd_keeps, State.hmuWork_keeps, State.send_keeps]

theorem doSegmentDown_keeps {s₀ s : State} (g : Seg) (h : s₀.Keeps s) : OutKeeps s₀ (doSegmentDown g s) := by
  unfold doSegmentDown
  grind only [State.keeps_mk, outKeeps_next, outKeeps_fault, outKeeps_refused, State.mgmtStatus_keeps, State.setSeg_keeps]

theorem doSegmentUp_keeps {s₀ s : State} (r : SegReturn) (h : s₀.Keeps s) : OutKeeps s₀ (doSegmentUp r s) := by
  unfold doSegmentUp
  grind only [State.keeps_mk, outKeeps_next, outKeeps_fault, outKeeps_refused, State.detect_keeps, State.setSeg_keeps]

theorem doTransmitOpportunity_keeps {s₀ s : State} (g : Seg) (h : s₀.Keeps s) : OutKeeps s₀ (doTransmitOpportunity g s) := by
  unfold doTransmitOpportunity
  grind only [State.keeps_mk, outKeeps_next, outKeeps_fault, outKeeps_refused, State.sendNd_keeps, State.sendQueued_keeps]

end Sys2Proof.Machine
end

