-- ==== Sys2Proof/Laws/Keeps/ObjectCommands.lean ====
section
/-! SUPPORT. What the functions of Machine/ObjectCommands.lean keep (`State.Keeps`): one lemma for each, cited by those of its callers. -/

namespace Sys2Proof.Machine

set_option linter.tactic.unusedName false

theorem State.raiseEach_keeps {s₀ s : State} (key : ℕ) (bits : ℕ) (counters : List (ℕ × ℕ)) (h : s₀.Keeps s) : s₀.Keeps
    (State.raiseEach s key bits counters) := by
  unfold State.raiseEach
  (repeat' (
    first
    | with_reducible assumption
    | extract_lets +onlyGivenNames _
    | with_reducible (refine foldl_keeps ?_ (fun _ _ _ => ?_) <;> try beta_reduce)
    | with_reducible apply State.count_keeps
    | with_reducible apply State.raise_keeps
    | with_reducible apply ite_keeps))

theorem State.actSets_keeps {s₀ s : State} (slot : ℕ) (bits : ℕ) (h : s₀.Keeps s) : s₀.Keeps (State.actSets s slot bits) := by
  unfold State.actSets
  grind only [State.keeps_mk, outKeeps_next, outKeeps_fault, outKeeps_refused, State.raiseEach_keeps]

theorem State.arithSets_keeps {s₀ s : State} (core : ℕ) (bits : ℕ) (h : s₀.Keeps s) : s₀.Keeps (State.arithSets s core bits) := by
  unfold State.arithSets
  grind only [State.keeps_mk, outKeeps_next, outKeeps_fault, outKeeps_refused, State.raiseEach_keeps]

theorem State.chkSets_keeps {s₀ s : State} (core : ℕ) (bits : ℕ) (h : s₀.Keeps s) : s₀.Keeps (State.chkSets s core bits) := by
  unfold State.chkSets
  grind only [State.keeps_mk, outKeeps_next, outKeeps_fault, outKeeps_refused, State.raiseEach_keeps]

theorem State.portSets_keeps {s₀ s : State} (port : ℕ) (bits : ℕ) (h : s₀.Keeps s) : s₀.Keeps (State.portSets s port bits) := by
  unfold State.portSets
  grind only [State.keeps_mk, outKeeps_next, outKeeps_fault, outKeeps_refused, State.raiseEach_keeps]

theorem State.stackSets_keeps {s₀ s : State} (stack : ℕ) (bits : ℕ) (h : s₀.Keeps s) : s₀.Keeps (State.stackSets s stack bits) := by
  unfold State.stackSets
  grind only [State.keeps_mk, outKeeps_next, outKeeps_fault, outKeeps_refused, State.raiseEach_keeps]

theorem clearCommand_keeps {s₀ s : State} (hdr : Hdr) (key : ℕ) (m : ClearMask) (sets : State → ℕ → State) (hs : ∀ u n, s₀.Keeps u →
    s₀.Keeps (sets u n)) (h : s₀.Keeps s) : OutKeeps s₀ (clearCommand hdr key m sets s) := settled_keeps _ (outKeeps_next (hs _ _
        (State.writeCommand_keeps _ _ _ h)))

theorem execArithFlagsClear_keeps {s₀ s : State} (a_h : Hdr) (core : ℕ) (m : ClearMask) (h : s₀.Keeps s) : OutKeeps s₀
    (execArithFlagsClear a_h core m s) := by
  unfold execArithFlagsClear
  grind only [State.keeps_mk, outKeeps_next, outKeeps_fault, outKeeps_refused, clearCommand_keeps, State.arithSets_keeps]

theorem execChkStatusClear_keeps {s₀ s : State} (a_h : Hdr) (core : ℕ) (m : ClearMask) (h : s₀.Keeps s) : OutKeeps s₀
    (execChkStatusClear a_h core m s) := by
  unfold execChkStatusClear
  grind only [State.keeps_mk, outKeeps_next, outKeeps_fault, outKeeps_refused, clearCommand_keeps, State.chkSets_keeps]

theorem execStackHealthClear_keeps {s₀ s : State} (a_h : Hdr) (stack : ℕ) (m : ClearMask) (h : s₀.Keeps s) : OutKeeps s₀
    (execStackHealthClear a_h stack m s) := by
  unfold execStackHealthClear
  grind only [State.keeps_mk, outKeeps_next, outKeeps_fault, outKeeps_refused, clearCommand_keeps, State.stackSets_keeps]

theorem execActStatusClear_keeps {s₀ s : State} (a_h : Hdr) (slot : ℕ) (m : ClearMask) (h : s₀.Keeps s) : OutKeeps s₀
    (execActStatusClear a_h slot m s) := by
  unfold execActStatusClear
  grind only [State.keeps_mk, outKeeps_next, outKeeps_fault, outKeeps_refused, clearCommand_keeps, State.actSets_keeps]

theorem execStepStatusClear_keeps {s₀ s : State} (a_h : Hdr) (m : ClearMask) (h : s₀.Keeps s) : OutKeeps s₀ (execStepStatusClear a_h m
    s) := by
  unfold execStepStatusClear
  grind only [State.keeps_mk, outKeeps_next, outKeeps_fault, outKeeps_refused, clearCommand_keeps, State.stepStatus_keeps]

theorem execHealthClear_keeps {s₀ s : State} (a_h : Hdr) (m : ClearMask) (h : s₀.Keeps s) : OutKeeps s₀ (execHealthClear a_h m s) := by
  unfold execHealthClear
  grind only [State.keeps_mk, outKeeps_next, outKeeps_fault, outKeeps_refused, clearCommand_keeps, State.moduleHealth_keeps]

theorem execPwrStatusClear_keeps {s₀ s : State} (a_h : Hdr) (m : ClearMask) (h : s₀.Keeps s) : OutKeeps s₀ (execPwrStatusClear a_h m s)
    := by
  unfold execPwrStatusClear
  grind only [State.keeps_mk, outKeeps_next, outKeeps_fault, outKeeps_refused, clearCommand_keeps, State.pwrStatus_keeps]

theorem execMgmtStatusClear_keeps {s₀ s : State} (a_h : Hdr) (m : ClearMask) (h : s₀.Keeps s) : OutKeeps s₀ (execMgmtStatusClear a_h m
    s) := by
  unfold execMgmtStatusClear
  grind only [State.keeps_mk, outKeeps_next, outKeeps_fault, outKeeps_refused, clearCommand_keeps, State.mgmtStatus_keeps]

theorem execAlertSummaryClear_keeps {s₀ s : State} (a_h : Hdr) (m : ClearMask) (h : s₀.Keeps s) : OutKeeps s₀ (execAlertSummaryClear
    a_h m s) := by
  unfold execAlertSummaryClear
  grind only [State.keeps_mk, outKeeps_next, outKeeps_fault, outKeeps_refused, clearCommand_keeps, State.alert_keeps]

theorem execPortHealthClear_keeps {s₀ s : State} (a_h : Hdr) (port : ℕ) (m : ClearMask) (h : s₀.Keeps s) : OutKeeps s₀
    (execPortHealthClear a_h port m s) := by
  unfold execPortHealthClear
  grind only [State.keeps_mk, outKeeps_next, outKeeps_fault, outKeeps_refused, clearCommand_keeps, State.portSets_keeps]

theorem execAssign_keeps {s₀ s : State} (a_h : Hdr) (slot : ℕ) (h : s₀.Keeps s) : OutKeeps s₀ (execAssign a_h slot s) := by
  unfold execAssign
  grind only [State.keeps_mk, outKeeps_next, outKeeps_fault, outKeeps_refused, settled_keeps, State.writeCommand_keeps]

theorem execSliceRelease_keeps {s₀ s : State} (a_h : Hdr) (slot : ℕ) (h : s₀.Keeps s) : OutKeeps s₀ (execSliceRelease a_h slot s) := by
  unfold execSliceRelease
  grind only [State.keeps_mk, outKeeps_next, outKeeps_fault, outKeeps_refused, settled_keeps, State.writeCommand_keeps]

theorem execDictDefaults_keeps {s₀ s : State} (a_h : Hdr) (h : s₀.Keeps s) : OutKeeps s₀ (execDictDefaults a_h s) := by
  unfold execDictDefaults
  grind only [State.keeps_mk, outKeeps_next, outKeeps_fault, outKeeps_refused, settled_keeps, State.writeCommand_keeps]

theorem execDictDefaultsCancel_keeps {s₀ s : State} (a_h : Hdr) (h : s₀.Keeps s) : OutKeeps s₀ (execDictDefaultsCancel a_h s) := by
  unfold execDictDefaultsCancel
  grind only [State.keeps_mk, outKeeps_next, outKeeps_fault, outKeeps_refused, settled_keeps, State.writeCommand_keeps]

theorem execRdmaWrite_keeps {s₀ s : State} (m : HostMsg) (h : s₀.Keeps s) : OutKeeps s₀ (execRdmaWrite m s) := by
  unfold execRdmaWrite
  grind only [State.keeps_mk, outKeeps_next, outKeeps_fault, outKeeps_refused, settled_keeps, doRdmaWrite_keeps]

theorem execRdmaRead_keeps {s₀ s : State} (m : HostMsg) (errors : List StoredError) (h : s₀.Keeps s) : OutKeeps s₀ (execRdmaRead m
    errors s) := by
  unfold execRdmaRead
  grind only [State.keeps_mk, outKeeps_next, outKeeps_fault, outKeeps_refused, settled_keeps, doRdmaRead_keeps]

theorem execAtomicFetchAdd_keeps {s₀ s : State} (m : HostMsg) (h : s₀.Keeps s) : OutKeeps s₀ (execAtomicFetchAdd m s) := by
  unfold execAtomicFetchAdd
  grind only [State.keeps_mk, outKeeps_next, outKeeps_fault, outKeeps_refused, settled_keeps, doAtomicFetchAdd_keeps]

theorem execCnp_keeps {s₀ s : State} (conn : ℕ) (h : s₀.Keeps s) : OutKeeps s₀ (execCnp conn s) := by
  unfold execCnp
  grind only [State.keeps_mk, outKeeps_next, outKeeps_fault, outKeeps_refused, settled_keeps, doCnp_keeps]

theorem execCnpRateRestore_keeps {s₀ s : State} (conn : ℕ) (h : s₀.Keeps s) : OutKeeps s₀ (execCnpRateRestore conn s) := by
  unfold execCnpRateRestore
  grind only [State.keeps_mk, outKeeps_next, outKeeps_fault, outKeeps_refused, settled_keeps, doCnpRateRestore_keeps]

theorem execQpOpen_keeps {s₀ s : State} (a_h : Hdr) (conn : ℕ) (h : s₀.Keeps s) : OutKeeps s₀ (execQpOpen a_h conn s) := by
  unfold execQpOpen
  grind only [State.keeps_mk, outKeeps_next, outKeeps_fault, outKeeps_refused, settled_keeps, State.writeCommand_keeps]

theorem execQpClose_keeps {s₀ s : State} (a_h : Hdr) (conn : ℕ) (h : s₀.Keeps s) : OutKeeps s₀ (execQpClose a_h conn s) := by
  unfold execQpClose
  grind only [State.keeps_mk, outKeeps_next, outKeeps_fault, outKeeps_refused, settled_keeps, State.writeCommand_keeps]

theorem execFwBegin_keeps {s₀ s : State} (a_h : Hdr) (h : s₀.Keeps s) : OutKeeps s₀ (execFwBegin a_h s) := by
  unfold execFwBegin
  grind only [State.keeps_mk, outKeeps_next, outKeeps_fault, outKeeps_refused, settled_keeps, State.writeCommand_keeps]

theorem execFwChunk_keeps {s₀ s : State} (a_h : Hdr) (data : List Byte) (h : s₀.Keeps s) : OutKeeps s₀ (execFwChunk a_h data s) := by
  unfold execFwChunk
  grind only [State.keeps_mk, outKeeps_next, outKeeps_fault, outKeeps_refused, settled_keeps, State.blobCommand_keeps]

theorem execVerify_keeps {s₀ s : State} (a_h : Hdr) (h : s₀.Keeps s) : OutKeeps s₀ (execVerify a_h s) := by
  unfold execVerify
  grind only [State.keeps_mk, outKeeps_next, outKeeps_fault, outKeeps_refused, settled_keeps, State.writeCommand_keeps]

theorem execFwCommit_keeps {s₀ s : State} (a_h : Hdr) (h : s₀.Keeps s) : OutKeeps s₀ (execFwCommit a_h s) := by
  unfold execFwCommit
  grind only [State.keeps_mk, outKeeps_next, outKeeps_fault, outKeeps_refused, settled_keeps, State.writeCommand_keeps]

theorem execFwCommitDone_keeps {s₀ s : State} (h : s₀.Keeps s) : OutKeeps s₀ (execFwCommitDone s) := by
  unfold execFwCommitDone
  grind only [State.keeps_mk, outKeeps_next, outKeeps_fault, outKeeps_refused, settled_keeps, doFwCommitDone_keeps]

theorem execActivate_keeps {s₀ s : State} (a_h : Hdr) (h : s₀.Keeps s) : OutKeeps s₀ (execActivate a_h s) := by
  unfold execActivate
  grind only [State.keeps_mk, outKeeps_next, outKeeps_fault, outKeeps_refused, settled_keeps, State.writeCommand_keeps]

theorem execCancel_keeps {s₀ s : State} (a_h : Hdr) (h : s₀.Keeps s) : OutKeeps s₀ (execCancel a_h s) := by
  unfold execCancel
  grind only [State.keeps_mk, outKeeps_next, outKeeps_fault, outKeeps_refused, settled_keeps, State.writeCommand_keeps]

theorem execCfgBegin_keeps {s₀ s : State} (a_h : Hdr) (h : s₀.Keeps s) : OutKeeps s₀ (execCfgBegin a_h s) := by
  unfold execCfgBegin
  grind only [State.keeps_mk, outKeeps_next, outKeeps_fault, outKeeps_refused, settled_keeps, State.writeCommand_keeps]

theorem execCfgChunk_keeps {s₀ s : State} (a_h : Hdr) (data : List Byte) (h : s₀.Keeps s) : OutKeeps s₀ (execCfgChunk a_h data s) := by
  unfold execCfgChunk
  grind only [State.keeps_mk, outKeeps_next, outKeeps_fault, outKeeps_refused, settled_keeps, State.blobCommand_keeps]

theorem execCfgApply_keeps {s₀ s : State} (a_h : Hdr) (h : s₀.Keeps s) : OutKeeps s₀ (execCfgApply a_h s) := by
  unfold execCfgApply
  grind only [State.keeps_mk, outKeeps_next, outKeeps_fault, outKeeps_refused, settled_keeps, State.writeCommand_keeps]

theorem execAttGenerate_keeps {s₀ s : State} (a_h : Hdr) (h : s₀.Keeps s) : OutKeeps s₀ (execAttGenerate a_h s) := by
  unfold execAttGenerate
  grind only [State.keeps_mk, outKeeps_next, outKeeps_fault, outKeeps_refused, settled_keeps, State.writeCommand_keeps]

theorem execAttDone_keeps {s₀ s : State} (h : s₀.Keeps s) : OutKeeps s₀ (execAttDone s) := by
  unfold execAttDone
  grind only [State.keeps_mk, outKeeps_next, outKeeps_fault, outKeeps_refused, settled_keeps, doAttDone_keeps]

theorem execBistRun_keeps {s₀ s : State} (a_h : Hdr) (h : s₀.Keeps s) : OutKeeps s₀ (execBistRun a_h s) := by
  unfold execBistRun
  grind only [State.keeps_mk, outKeeps_next, outKeeps_fault, outKeeps_refused, settled_keeps, State.writeCommand_keeps]

theorem execBistDone_keeps {s₀ s : State} (failed : List ℕ) (h : s₀.Keeps s) : OutKeeps s₀ (execBistDone failed s) := by
  unfold execBistDone
  grind only [State.keeps_mk, outKeeps_next, outKeeps_fault, outKeeps_refused, settled_keeps, doBistDone_keeps]

theorem execSegmentUp_keeps {s₀ s : State} (seg : SegReturn) (h : s₀.Keeps s) : OutKeeps s₀ (execSegmentUp seg s) := by
  unfold execSegmentUp
  grind only [State.keeps_mk, outKeeps_next, outKeeps_fault, outKeeps_refused, settled_keeps, doSegmentUp_keeps]

theorem execLinkControlBlockReceived_keeps {s₀ s : State} (port : ℕ) (acked : ℕ) (credits : List (ℕ × ℕ)) (h : s₀.Keeps s) : OutKeeps
    s₀ (execLinkControlBlockReceived port acked credits s) := by
  unfold execLinkControlBlockReceived
  grind only [State.keeps_mk, outKeeps_next, outKeeps_fault, outKeeps_refused, settled_keeps, doLinkControlBlockReceived_keeps]

theorem execHostPortCtrl_keeps {s₀ s : State} (a_h : Hdr) (port : ℕ) (value : ℕ) (h : s₀.Keeps s) : OutKeeps s₀ (execHostPortCtrl a_h
    port value s) := by
  unfold execHostPortCtrl
  grind only [State.keeps_mk, outKeeps_next, outKeeps_fault, outKeeps_refused, settled_keeps, State.writeCommand_keeps]

theorem execHostLinkUp_keeps {s₀ s : State} (port : ℕ) (h : s₀.Keeps s) : OutKeeps s₀ (execHostLinkUp port s) := by
  unfold execHostLinkUp
  grind only [State.keeps_mk, outKeeps_next, outKeeps_fault, outKeeps_refused, settled_keeps, doHostLinkUp_keeps]

theorem execHostLinkDown_keeps {s₀ s : State} (port : ℕ) (h : s₀.Keeps s) : OutKeeps s₀ (execHostLinkDown port s) := by
  unfold execHostLinkDown
  grind only [State.keeps_mk, outKeeps_next, outKeeps_fault, outKeeps_refused, settled_keeps, doHostLinkDown_keeps]

theorem execFixApplyDone_keeps {s₀ s : State} (h : s₀.Keeps s) : OutKeeps s₀ (execFixApplyDone s) := by
  unfold execFixApplyDone
  grind only [State.keeps_mk, outKeeps_next, outKeeps_fault, outKeeps_refused, settled_keeps, doFixApplyDone_keeps]

theorem execTransmitOpportunity_keeps {s₀ s : State} (seg : Seg) (h : s₀.Keeps s) : OutKeeps s₀ (execTransmitOpportunity seg s) := by
  unfold execTransmitOpportunity
  grind only [State.keeps_mk, outKeeps_next, outKeeps_fault, outKeeps_refused, settled_keeps, doTransmitOpportunity_keeps]

end Sys2Proof.Machine
end

