-- ==== Sys2Proof/Laws/Keeps/Tick.lean ====
section
/-! SUPPORT. What the functions of Machine/Tick.lean keep (`State.Keeps`): one lemma for each, cited by those of its callers. -/

namespace Sys2Proof.Machine

set_option linter.tactic.unusedName false

theorem State.clockTick_keeps {s₀ s : State} (die : ℕ) (h : s₀.Keeps s) : s₀.Keeps (State.clockTick s die) := by
  unfold State.clockTick
  grind only [State.keeps_mk, outKeeps_next, outKeeps_fault, outKeeps_refused, State.count_keeps]

theorem State.coreTick_keeps {s₀ s : State} (n : ℕ) (core : ℕ) (h : s₀.Keeps s) : s₀.Keeps (State.coreTick n s core) := by
  unfold State.coreTick
  grind only [State.keeps_mk, outKeeps_next, outKeeps_fault, outKeeps_refused, State.idleTick_keeps, State.watchdogTick_keeps]

theorem State.timeCounters_keeps {s₀ s : State} (n : ℕ) (h : s₀.Keeps s) : s₀.Keeps (State.timeCounters s n) := by
  unfold State.timeCounters
  (repeat' (
    first
    | with_reducible assumption
    | extract_lets +onlyGivenNames _
    | with_reducible (refine foldl_keeps ?_ (fun _ _ _ => ?_) <;> try beta_reduce)
    | with_reducible apply State.coreTick_keeps
    | with_reducible apply State.portTick_keeps
    | with_reducible apply State.clockTick_keeps
    | with_reducible apply ite_keeps))

end Sys2Proof.Machine
end

