-- ==== Sys2Proof/Laws/Keeps/UnitCommands.lean ====
section
/-! SUPPORT. What the functions of Machine/UnitCommands.lean keep (`State.Keeps`): one lemma for each, cited by those of its callers. -/

namespace Sys2Proof.Machine

theorem execHmuSleep_keeps {s₀ s : State} (h : s₀.Keeps s) : OutKeeps s₀ (execHmuSleep s) := by
  unfold execHmuSleep
  grind only [State.keeps_mk, outKeeps_next, outKeeps_fault, outKeeps_refused, settled_keeps, doHmuSleep_keeps]

theorem execHcWatchdog_keeps {s₀ s : State} (core : ℕ) (h : s₀.Keeps s) : OutKeeps s₀ (execHcWatchdog core s) := by
  unfold execHcWatchdog
  grind only [State.keeps_mk, outKeeps_next, outKeeps_fault, outKeeps_refused, settled_keeps, doHcWatchdog_keeps]

theorem execHmuReset_keeps {s₀ s : State} (h : s₀.Keeps s) : OutKeeps s₀ (execHmuReset s) := by
  unfold execHmuReset
  grind only [State.keeps_mk, outKeeps_next, outKeeps_fault, outKeeps_refused, settled_keeps, doHmuReset_keeps]

theorem execSegmentDown_keeps {s₀ s : State} (seg : Seg) (h : s₀.Keeps s) : OutKeeps s₀ (execSegmentDown seg s) := by
  unfold execSegmentDown
  grind only [State.keeps_mk, outKeeps_next, outKeeps_fault, outKeeps_refused, settled_keeps, doSegmentDown_keeps]

theorem execNeighborSolicitation_keeps {s₀ s : State} (link : NdLink) (target : ℕ) (h : s₀.Keeps s) : OutKeeps s₀
    (execNeighborSolicitation link target s) := by
  unfold execNeighborSolicitation
  grind only [State.keeps_mk, outKeeps_next, outKeeps_fault, outKeeps_refused, settled_keeps, doNeighborSolicitation_keeps]

theorem execReadExp_keeps {s₀ s : State} (q : HdpReq) (h : s₀.Keeps s) : OutKeeps s₀ (execReadExp q s) := by
  unfold execReadExp
  grind only [State.keeps_mk, outKeeps_next, outKeeps_fault, outKeeps_refused, settled_keeps, doReadExp_keeps]

theorem execObjectWrite_keeps {s₀ s : State} (q : WriteCycle) (h : s₀.Keeps s) : OutKeeps s₀ (execObjectWrite q s) := by
  unfold execObjectWrite
  grind only [State.keeps_mk, outKeeps_next, outKeeps_fault, outKeeps_refused, settled_keeps, doObjectWrite_keeps]

theorem execReadSeg_keeps {s₀ s : State} (q : HdpReq) (h : s₀.Keeps s) : OutKeeps s₀ (execReadSeg q s) := by
  unfold execReadSeg
  grind only [State.keeps_mk, outKeeps_next, outKeeps_fault, outKeeps_refused, settled_keeps, doReadSeg_keeps]

theorem execWriteSeg_keeps {s₀ s : State} (q : HdpReq) (h : s₀.Keeps s) : OutKeeps s₀ (execWriteSeg q s) := by
  unfold execWriteSeg
  grind only [State.keeps_mk, outKeeps_next, outKeeps_fault, outKeeps_refused, settled_keeps, doWriteSeg_keeps]

theorem execSegment_keeps {s₀ s : State} (q : HdpReq) (h : s₀.Keeps s) : OutKeeps s₀ (execSegment q s) := by
  unfold execSegment
  grind only [State.keeps_mk, outKeeps_next, outKeeps_fault, outKeeps_refused, settled_keeps, doSegment_keeps]

theorem execResponse_keeps {s₀ s : State} (q : HdpReq) (h : s₀.Keeps s) : OutKeeps s₀ (execResponse q s) := by
  unfold execResponse
  grind only [State.keeps_mk, outKeeps_next, outKeeps_fault, outKeeps_refused, settled_keeps, doResponse_keeps]

theorem execSegmentResend_keeps {s₀ s : State} (transfer : ℕ) (h : s₀.Keeps s) : OutKeeps s₀ (execSegmentResend transfer s) := by
  unfold execSegmentResend
  grind only [State.keeps_mk, outKeeps_next, outKeeps_fault, outKeeps_refused, settled_keeps, doSegmentResend_keeps]

theorem execTransferTimeout_keeps {s₀ s : State} (transfer : ℕ) (h : s₀.Keeps s) : OutKeeps s₀ (execTransferTimeout transfer s) := by
  unfold execTransferTimeout
  grind only [State.keeps_mk, outKeeps_next, outKeeps_fault, outKeeps_refused, settled_keeps, doTransferTimeout_keeps]

theorem execHdpAbort_keeps {s₀ s : State} (q : HdpReq) (h : s₀.Keeps s) : OutKeeps s₀ (execHdpAbort q s) := by
  unfold execHdpAbort
  grind only [State.keeps_mk, outKeeps_next, outKeeps_fault, outKeeps_refused, settled_keeps, doHdpAbort_keeps]

theorem execSubscribe_keeps {s₀ s : State} (q : HdpReq) (h : s₀.Keeps s) : OutKeeps s₀ (execSubscribe q s) := by
  unfold execSubscribe
  grind only [State.keeps_mk, outKeeps_next, outKeeps_fault, outKeeps_refused, settled_keeps, doSubscribe_keeps]

theorem execUnsubscribe_keeps {s₀ s : State} (q : HdpReq) (h : s₀.Keeps s) : OutKeeps s₀ (execUnsubscribe q s) := by
  unfold execUnsubscribe
  grind only [State.keeps_mk, outKeeps_next, outKeeps_fault, outKeeps_refused, settled_keeps, doUnsubscribe_keeps]

theorem execNotify_keeps {s₀ s : State} (slot : ℕ) (h : s₀.Keeps s) : OutKeeps s₀ (execNotify slot s) := by
  unfold execNotify
  grind only [State.keeps_mk, outKeeps_next, outKeeps_fault, outKeeps_refused, settled_keeps, doNotify_keeps]

theorem execLeaseExpiry_keeps {s₀ s : State} (slot : ℕ) (h : s₀.Keeps s) : OutKeeps s₀ (execLeaseExpiry slot s) := by
  unfold execLeaseExpiry
  grind only [State.keeps_mk, outKeeps_next, outKeeps_fault, outKeeps_refused, settled_keeps, doLeaseExpiry_keeps]

theorem execKeyWrite_keeps {s₀ s : State} (a_h : Hdr) (key : ℕ) (value : List Byte) (h : s₀.Keeps s) : OutKeeps s₀ (execKeyWrite a_h
    key value s) := by
  unfold execKeyWrite
  grind only [State.keeps_mk, outKeeps_next, outKeeps_fault, outKeeps_refused, settled_keeps, State.blobCommand_keeps]

theorem execBeacon_keeps {s₀ s : State} (h : s₀.Keeps s) : OutKeeps s₀ (execBeacon s) := by
  unfold execBeacon
  grind only [State.keeps_mk, outKeeps_next, outKeeps_fault, outKeeps_refused, settled_keeps, doBeacon_keeps]

theorem execImmediateBeacon_keeps {s₀ s : State} (h : s₀.Keeps s) : OutKeeps s₀ (execImmediateBeacon s) := by
  unfold execImmediateBeacon
  grind only [State.keeps_mk, outKeeps_next, outKeeps_fault, outKeeps_refused, settled_keeps, doImmediateBeacon_keeps]

theorem execLogFlush_keeps {s₀ s : State} (programFails : Bool) (h : s₀.Keeps s) : OutKeeps s₀ (execLogFlush programFails s) := by
  unfold execLogFlush
  grind only [State.keeps_mk, outKeeps_next, outKeeps_fault, outKeeps_refused, settled_keeps, doLogFlush_keeps]

end Sys2Proof.Machine
end

