-- ==== Sys2Proof/Laws/Keeps/WaypointCommands.lean ====
section
/-! SUPPORT. What the functions of Machine/WaypointCommands.lean keep (`State.Keeps`): one lemma for each, cited by those of its callers. -/

namespace Sys2Proof.Machine

theorem execWaypointAdd_keeps {s₀ s : State} (slice : ℕ) (wp : ℕ) (value : ℕ) (h : s₀.Keeps s) : OutKeeps s₀ (execWaypointAdd slice wp
    value s) := by
  unfold execWaypointAdd
  grind only [State.keeps_mk, outKeeps_next, outKeeps_fault, outKeeps_refused, settled_keeps, doWaypointAdd_keeps]

theorem execWaypointSet_keeps {s₀ s : State} (slice : ℕ) (wp : ℕ) (value : ℕ) (h : s₀.Keeps s) : OutKeeps s₀ (execWaypointSet slice wp
    value s) := by
  unfold execWaypointSet
  grind only [State.keeps_mk, outKeeps_next, outKeeps_fault, outKeeps_refused, settled_keeps, doWaypointSet_keeps]

theorem execWaypointWait_keeps {s₀ s : State} (core : ℕ) (wp : ℕ) (threshold : ℕ) (h : s₀.Keeps s) : OutKeeps s₀ (execWaypointWait core
    wp threshold s) := by
  unfold execWaypointWait
  grind only [State.keeps_mk, outKeeps_next, outKeeps_fault, outKeeps_refused, settled_keeps, doWaypointWait_keeps]

theorem execTimedAdd_keeps {s₀ s : State} (slice : ℕ) (wp : ℕ) (value : ℕ) (time : ℕ) (h : s₀.Keeps s) : OutKeeps s₀ (execTimedAdd
    slice wp value time s) := by
  unfold execTimedAdd
  grind only [State.keeps_mk, outKeeps_next, outKeeps_fault, outKeeps_refused, settled_keeps, doTimedAdd_keeps]

theorem execTimedAddDue_keeps {s₀ s : State} (h : s₀.Keeps s) : OutKeeps s₀ (execTimedAddDue s) := by
  unfold execTimedAddDue
  grind only [State.keeps_mk, outKeeps_next, outKeeps_fault, outKeeps_refused, settled_keeps, doTimedAddDue_keeps]

theorem execErrorCompletion_keeps {s₀ s : State} (slice : ℕ) (wp : ℕ) (code : ℕ) (h : s₀.Keeps s) : OutKeeps s₀ (execErrorCompletion
    slice wp code s) := by
  unfold execErrorCompletion
  grind only [State.keeps_mk, outKeeps_next, outKeeps_fault, outKeeps_refused, settled_keeps, doErrorCompletion_keeps]

theorem execWaypointMark_keeps {s₀ s : State} (m : HostMsg) (h : s₀.Keeps s) : OutKeeps s₀ (execWaypointMark m s) := by
  unfold execWaypointMark
  grind only [State.keeps_mk, outKeeps_next, outKeeps_fault, outKeeps_refused, settled_keeps, doWaypointMark_keeps]

theorem execWaypointClear_keeps {s₀ s : State} (m : HostMsg) (together : Bool) (h : s₀.Keeps s) : OutKeeps s₀ (execWaypointClear m
    together s) := by
  unfold execWaypointClear
  grind only [State.keeps_mk, outKeeps_next, outKeeps_fault, outKeeps_refused, settled_keeps, doWaypointClear_keeps]

theorem execGroupSlice_keeps {s₀ s : State} (a_h : Hdr) (group : ℕ) (slice : ℕ) (h : s₀.Keeps s) : OutKeeps s₀ (execGroupSlice a_h
    group slice s) := by
  unfold execGroupSlice
  grind only [State.keeps_mk, outKeeps_next, outKeeps_fault, outKeeps_refused, settled_keeps, State.writeCommand_keeps]

theorem execChronometerExchange_keeps {s₀ s : State} (h : s₀.Keeps s) : OutKeeps s₀ (execChronometerExchange s) := by
  unfold execChronometerExchange
  grind only [State.keeps_mk, outKeeps_next, outKeeps_fault, outKeeps_refused, settled_keeps, doChronometerExchange_keeps]

theorem execTimeReq_keeps {s₀ s : State} (a : Arrival) (f : Frame) (h : s₀.Keeps s) : OutKeeps s₀ (execTimeReq a f s) := by
  unfold execTimeReq
  grind only [State.keeps_mk, outKeeps_next, outKeeps_fault, outKeeps_refused, settled_keeps, doTimeReq_keeps]

theorem execTimeRsp_keeps {s₀ s : State} (a : Arrival) (f : Frame) (t4 : ℕ) (h : s₀.Keeps s) : OutKeeps s₀ (execTimeRsp a f t4 s) := by
  unfold execTimeRsp
  grind only [State.keeps_mk, outKeeps_next, outKeeps_fault, outKeeps_refused, settled_keeps, doTimeRsp_keeps]

theorem execChrSet_keeps {s₀ s : State} (a_h : Hdr) (value : ℕ) (h : s₀.Keeps s) : OutKeeps s₀ (execChrSet a_h value s) := by
  unfold execChrSet
  grind only [State.keeps_mk, outKeeps_next, outKeeps_fault, outKeeps_refused, settled_keeps, State.writeCommand_keeps]

theorem execChrParentPort_keeps {s₀ s : State} (a_h : Hdr) (value : ℕ) (h : s₀.Keeps s) : OutKeeps s₀ (execChrParentPort a_h value s)
    := by
  unfold execChrParentPort
  grind only [State.keeps_mk, outKeeps_next, outKeeps_fault, outKeeps_refused, settled_keeps, State.writeCommand_keeps]

end Sys2Proof.Machine
end

