-- ==== Sys2Proof/Laws/Writes.lean ====
section
/-! SUPPORT. Writes of objects: bytes of a value and their value, the rows of the objects that commands name, and the operation
that a write of each of them comes to. -/

namespace Sys2Proof.Machine

@[simp] theorem length_leBytes (n v : Nat) : (leBytes n v).length = n := by
  induction n generalizing v with
  | zero => rfl
  | succ n ih => simp [leBytes, ih]

theorem leNat_leBytes (n v : Nat) : leNat (leBytes n v) = v % 256 ^ n := by
  induction n generalizing v with
  | zero => simp [leBytes, leNat, Nat.mod_one]
  | succ n ih =>
    simp only [leBytes, leNat, ih, BitVec.toNat_ofNat]
    rw [show (2 : Nat) ^ 8 = 256 from rfl, Nat.pow_succ, Nat.mul_comm (256 ^ n), Nat.mod_mul]

theorem leNat_leBytes_of_lt {n v : Nat} (h : v < 256 ^ n) : leNat (leBytes n v) = v := by rw [leNat_leBytes, Nat.mod_eq_of_lt h]

/-- An object whose write takes a value of its own length and is no role key. -/
def plainKey (key : Nat) : Bool :=
  key != Obj.CHART_LOAD && key != Obj.KEY_OBSERVER && key != Obj.KEY_OPERATOR && key != Obj.KEY_JOB && key != Obj.FW_CHUNK &&
    key != Obj.CFG_CHUNK

theorem performWrite_value (s : State) {key n v : Nat} {r : ObjRow} (hr : objRow key = r) (hn : n = r.size) (hv : v < 256 ^ n)
    (hk : plainKey key = true) (ht : r.ty ≠ .bool) (ha : r.acc ≠ .rwp) : s.performWrite key (leBytes n v) = s.writeValue key v := by
  subst hr hn
  simp only [plainKey, Bool.and_eq_true, bne_iff_ne, ne_eq] at hk
  obtain ⟨⟨⟨⟨⟨h1, h2⟩, h3⟩, h4⟩, h5⟩, h6⟩ := hk
  simp [State.performWrite, lengthFits, State.writeFitted, keptKey, h1, h2, h3, h4, h5, h6, ht, ha, leNat_leBytes_of_lt hv]

theorem performWrite_journalled (s : State) {key n v : Nat} {r : ObjRow} (hr : objRow key = r) (hn : n = r.size) (hv : v < 256 ^ n)
    (hk : plainKey key = true) (ht : r.ty ≠ .bool) (ha : r.acc = .rwp) :
    s.performWrite key (leBytes n v) =
      if (s.writeValue key v).2 = 0 then (s.writeValue key v).1.journalled.ok else s.writeValue key v := by
  subst hr hn
  simp only [plainKey, Bool.and_eq_true, bne_iff_ne, ne_eq] at hk
  obtain ⟨⟨⟨⟨⟨h1, h2⟩, h3⟩, h4⟩, h5⟩, h6⟩ := hk
  simp [State.performWrite, lengthFits, State.writeFitted, keptKey, h1, h2, h3, h4, h5, h6, ht, ha, leNat_leBytes_of_lt hv]

/-- Whether a row has objects at indices `lo` … `hi - 1` and sub-indices `slo` … `shi - 1`. -/
def ObjRow.meets (lo hi slo shi : Nat) (r : ObjRow) : Bool :=
  decide (r.base < hi) && decide (lo < r.base + r.n) && decide (r.sub < shi) && decide (slo < r.sub + r.subs)

theorem find_row (l : List ObjRow) {lo hi slo shi i s : Nat} {r : ObjRow} (h : l.find? (ObjRow.meets lo hi slo shi) = some r)
    (hi0 : lo ≤ i) (hi1 : i < hi) (hs0 : slo ≤ s) (hs1 : s < shi) (a : r.base ≤ lo) (b : hi ≤ r.base + r.n) (c : r.sub ≤ slo)
    (d : shi ≤ r.sub + r.subs) :
    l.find? (fun r => decide (r.base ≤ i) && decide (i < r.base + r.n) && decide (r.sub ≤ s) && decide (s < r.sub + r.subs)) = some r
        := by
  induction l with
  | nil => cases h
  | cons x l ih =>
    rw [List.find?_cons] at h ⊢
    cases e : x.meets lo hi slo shi with
    | true =>
      rw [e] at h
      obtain rfl := Option.some.inj h
      rw [show (decide (x.base ≤ i) && decide (i < x.base + x.n) && decide (x.sub ≤ s) && decide (s < x.sub + x.subs)) = true by
        simp only [Bool.and_eq_true, decide_eq_true_eq]; omega]
    | false =>
      rw [e] at h
      have n : (decide (x.base ≤ i) && decide (i < x.base + x.n) && decide (x.sub ≤ s) && decide (s < x.sub + x.subs)) = false := by
        rw [Bool.eq_false_iff]
        intro t
        rw [Bool.eq_false_iff] at e
        refine e ?_
        simp only [ObjRow.meets, Bool.and_eq_true, decide_eq_true_eq] at t ⊢
        omega
      rw [n]
      exact ih h

theorem objRow_of {key lo hi slo shi : Nat} {r : ObjRow} (h : dictRows.find? (ObjRow.meets lo hi slo shi) = some r)
    (hi0 : lo ≤ key / 256) (hi1 : key / 256 < hi) (hs0 : slo ≤ key % 256) (hs1 : key % 256 < shi) (a : r.base ≤ lo)
    (b : hi ≤ r.base + r.n) (c : r.sub ≤ slo) (d : shi ≤ r.sub + r.subs) (z : 0 < slo) : objRow key = r := by
  unfold objRow dictRow
  rw [if_neg (by omega), find_row dictRows h hi0 hi1 hs0 hs1 a b c d]
  rfl

theorem objRow_lyr {core reg : Nat} (hb : core < 104) (hr : reg < 64) :
    objRow (Obj.LYR core reg) = ⟨0x8800, 104, 0x01, 64, .u64, .rw, .job, 0, 8⟩ :=
  objRow_of (lo := 0x8800) (hi := 0x8868) (slo := 1) (shi := 65) (by decide)
    (by simp only [Obj.LYR]; omega) (by simp only [Obj.LYR]; omega)
    (by simp only [Obj.LYR]; omega) (by simp only [Obj.LYR]; omega) (by decide) (by decide) (by decide) (by decide) (by decide)

theorem plainKey_lyr {core reg : Nat} (hb : core < 104) (hr : reg < 64) : plainKey (Obj.LYR core reg) = true := by
  simp only [plainKey, Obj.LYR, Obj.CHART_LOAD, Obj.KEY_OBSERVER, Obj.KEY_OPERATOR, Obj.KEY_JOB, Obj.FW_CHUNK, Obj.CFG_CHUNK,
    Bool.and_eq_true, bne_iff_ne]
  omega

theorem objRow_arithFlags : ∀ n < 104, objRow (Obj.ARITH_FLAGS n) = ⟨0x8400, 104, 0x01, 1, .u32, .w1c, .job, 8, 4⟩ := fun _ _ =>
  objRow_of (lo := 0x8400) (hi := 0x8468) (slo := 1) (shi := 2) (by decide)
    (by simp only [Obj.ARITH_FLAGS]; omega) (by simp only [Obj.ARITH_FLAGS]; omega)
    (by simp only [Obj.ARITH_FLAGS]; omega) (by simp only [Obj.ARITH_FLAGS]; omega)
    (by decide) (by decide) (by decide) (by decide) (by decide)

theorem plainKey_arithFlags : ∀ n < 104, plainKey (Obj.ARITH_FLAGS n) = true := by
  intro n h
  simp only [plainKey, Obj.ARITH_FLAGS, Obj.CHART_LOAD, Obj.KEY_OBSERVER, Obj.KEY_OPERATOR, Obj.KEY_JOB, Obj.FW_CHUNK, Obj.CFG_CHUNK,
    Bool.and_eq_true, bne_iff_ne]
  omega

theorem value_arithFlags (s : State) {core : Nat} (v : Nat) (hb : core < 104) : s.writeValue (Obj.ARITH_FLAGS core) v = s.clearObj
    (Obj.ARITH_FLAGS core) (v % 8) := by
  show s.writeValue (0x840001 + 0x100 * core) v = _
  have k : coreOfIndex ((0x840001 + 0x100 * core) / 256) = some core := by
    unfold coreOfIndex; rw [if_pos (by omega)]; congr 1; omega
  unfold State.writeValue
  simp only [k]
  unfold State.writeCoreArea
  dsimp only [Obj.ARITH_FLAGS, Obj.CORE_CTRL, Obj.LYR_START, Obj.PROG_GEN, Obj.RNG_MODE, Obj.RNG_RANK]
  repeat (first | rewrite [if_neg (by omega)] | rewrite [if_pos (by omega)])
  with_reducible rfl

theorem performWrite_arithFlags (s : State) {core : Nat} {v : Nat} (hb : core < 104) (hv : v < 256 ^ 4) : s.performWrite
    (Obj.ARITH_FLAGS core) (leBytes 4 v) = s.clearObj (Obj.ARITH_FLAGS core) (v % 8) := by
  rw [performWrite_value s (objRow_arithFlags _ hb) rfl hv (plainKey_arithFlags _ hb) (by decide) (by decide), value_arithFlags s v hb]

theorem objRow_chkStatus : ∀ n < 104, objRow (Obj.CHK_STATUS n) = ⟨0x8500, 104, 0x01, 1, .u32, .w1c, .job, 0, 4⟩ := fun _ _ =>
  objRow_of (lo := 0x8500) (hi := 0x8568) (slo := 1) (shi := 2) (by decide)
    (by simp only [Obj.CHK_STATUS]; omega) (by simp only [Obj.CHK_STATUS]; omega)
    (by simp only [Obj.CHK_STATUS]; omega) (by simp only [Obj.CHK_STATUS]; omega)
    (by decide) (by decide) (by decide) (by decide) (by decide)

theorem plainKey_chkStatus : ∀ n < 104, plainKey (Obj.CHK_STATUS n) = true := by
  intro n h
  simp only [plainKey, Obj.CHK_STATUS, Obj.CHART_LOAD, Obj.KEY_OBSERVER, Obj.KEY_OPERATOR, Obj.KEY_JOB, Obj.FW_CHUNK, Obj.CFG_CHUNK,
    Bool.and_eq_true, bne_iff_ne]
  omega

theorem value_chkStatus (s : State) {core : Nat} (v : Nat) (hb : core < 104) : s.writeValue (Obj.CHK_STATUS core) v = s.clearObj
    (Obj.CHK_STATUS core) v := by
  show s.writeValue (0x850001 + 0x100 * core) v = _
  have k : coreOfIndex ((0x850001 + 0x100 * core) / 256) = some core := by
    unfold coreOfIndex; rw [if_pos (by omega)]; congr 1; omega
  unfold State.writeValue
  simp only [k]
  unfold State.writeCoreArea
  dsimp only [Obj.CHK_STATUS, Obj.CORE_CTRL, Obj.LYR_START, Obj.PROG_GEN, Obj.RNG_MODE, Obj.RNG_RANK]
  repeat (first | rewrite [if_neg (by omega)] | rewrite [if_pos (by omega)])
  with_reducible rfl

theorem performWrite_chkStatus (s : State) {core : Nat} {v : Nat} (hb : core < 104) (hv : v < 256 ^ 4) : s.performWrite (Obj.CHK_STATUS
    core) (leBytes 4 v) = s.clearObj (Obj.CHK_STATUS core) v := by
  rw [performWrite_value s (objRow_chkStatus _ hb) rfl hv (plainKey_chkStatus _ hb) (by decide) (by decide), value_chkStatus s v hb]

theorem value_sealThresh (s : State) (v : Nat) : s.writeValue Obj.SEAL_THRESH v = s.writeSeal Obj.SEAL_THRESH v := by
  show s.writeValue (0x721003) v = _
  simp [State.writeValue, coreOfIndex, State.writeStepArea]

theorem performWrite_sealThresh (s : State) {v : Nat} (hv : v < 256 ^ 8) : s.performWrite Obj.SEAL_THRESH (leBytes 8 v) = s.writeSeal
    Obj.SEAL_THRESH v := by
  rw [performWrite_value s (by decide : objRow Obj.SEAL_THRESH = ⟨0x7210, 1, 0x03, 1, .u64, .rw, .job, 0, 8⟩) rfl hv (by decide) (by
      decide) (by decide), value_sealThresh s v]

theorem objRow_coreCtrl : ∀ n < 104, objRow (Obj.CORE_CTRL n) = ⟨0x8700, 104, 0x03, 1, .u8, .wo, .job, 0, 1⟩ := fun _ _ =>
  objRow_of (lo := 0x8700) (hi := 0x8768) (slo := 3) (shi := 4) (by decide)
    (by simp only [Obj.CORE_CTRL]; omega) (by simp only [Obj.CORE_CTRL]; omega)
    (by simp only [Obj.CORE_CTRL]; omega) (by simp only [Obj.CORE_CTRL]; omega)
    (by decide) (by decide) (by decide) (by decide) (by decide)

theorem plainKey_coreCtrl : ∀ n < 104, plainKey (Obj.CORE_CTRL n) = true := by
  intro n h
  simp only [plainKey, Obj.CORE_CTRL, Obj.CHART_LOAD, Obj.KEY_OBSERVER, Obj.KEY_OPERATOR, Obj.KEY_JOB, Obj.FW_CHUNK, Obj.CFG_CHUNK,
    Bool.and_eq_true, bne_iff_ne]
  omega

theorem value_coreCtrl (s : State) {core : Nat} (v : Nat) (hb : core < 104) : s.writeValue (Obj.CORE_CTRL core) v = s.writeCoreCtrl
    core v := by
  show s.writeValue (0x870003 + 0x100 * core) v = _
  have k : coreOfIndex ((0x870003 + 0x100 * core) / 256) = some core := by
    unfold coreOfIndex; rw [if_pos (by omega)]; congr 1; omega
  unfold State.writeValue
  simp only [k]
  unfold State.writeCoreArea
  dsimp only [Obj.CORE_CTRL, Obj.LYR_START, Obj.PROG_GEN, Obj.RNG_MODE, Obj.RNG_RANK]
  repeat (first | rewrite [if_neg (by omega)] | rewrite [if_pos (by omega)])
  with_reducible rfl

theorem performWrite_coreCtrl (s : State) {core : Nat} {v : Nat} (hb : core < 104) (hv : v < 256 ^ 1) : s.performWrite (Obj.CORE_CTRL
    core) (leBytes 1 v) = s.writeCoreCtrl core v := by
  rw [performWrite_value s (objRow_coreCtrl _ hb) rfl hv (plainKey_coreCtrl _ hb) (by decide) (by decide), value_coreCtrl s v hb]

theorem objRow_progGen : ∀ n < 104, objRow (Obj.PROG_GEN n) = ⟨0x8700, 104, 0x08, 1, .u32, .rw, .job, 0, 4⟩ := fun _ _ =>
  objRow_of (lo := 0x8700) (hi := 0x8768) (slo := 8) (shi := 9) (by decide)
    (by simp only [Obj.PROG_GEN]; omega) (by simp only [Obj.PROG_GEN]; omega)
    (by simp only [Obj.PROG_GEN]; omega) (by simp only [Obj.PROG_GEN]; omega)
    (by decide) (by decide) (by decide) (by decide) (by decide)

theorem plainKey_progGen : ∀ n < 104, plainKey (Obj.PROG_GEN n) = true := by
  intro n h
  simp only [plainKey, Obj.PROG_GEN, Obj.CHART_LOAD, Obj.KEY_OBSERVER, Obj.KEY_OPERATOR, Obj.KEY_JOB, Obj.FW_CHUNK, Obj.CFG_CHUNK,
    Bool.and_eq_true, bne_iff_ne]
  omega

theorem value_progGen (s : State) {core : Nat} (v : Nat) (hb : core < 104) : s.writeValue (Obj.PROG_GEN core) v = s.writeProgGen core v
    := by
  show s.writeValue (0x870008 + 0x100 * core) v = _
  have k : coreOfIndex ((0x870008 + 0x100 * core) / 256) = some core := by
    unfold coreOfIndex; rw [if_pos (by omega)]; congr 1; omega
  unfold State.writeValue
  simp only [k]
  unfold State.writeCoreArea
  dsimp only [Obj.CORE_CTRL, Obj.LYR_START, Obj.PROG_GEN, Obj.RNG_MODE, Obj.RNG_RANK]
  repeat (first | rewrite [if_neg (by omega)] | rewrite [if_pos (by omega)])
  with_reducible rfl

theorem performWrite_progGen (s : State) {core : Nat} {v : Nat} (hb : core < 104) (hv : v < 256 ^ 4) : s.performWrite (Obj.PROG_GEN
    core) (leBytes 4 v) = s.writeProgGen core v := by
  rw [performWrite_value s (objRow_progGen _ hb) rfl hv (plainKey_progGen _ hb) (by decide) (by decide), value_progGen s v hb]

theorem value_lyr (s : State) {core : Nat} {reg : Nat} (v : Nat) (hb : core < 104) (hr : reg < 64) : s.writeValue (Obj.LYR core reg) v
    = s.writeLyr core reg v := by
  show s.writeValue (0x880001 + 0x100 * core + reg) v = _
  have k : coreOfIndex ((0x880001 + 0x100 * core + reg) / 256) = some core := by
    unfold coreOfIndex; rw [if_pos (by omega)]; congr 1; omega
  unfold State.writeValue
  simp only [k]
  unfold State.writeCoreArea
  dsimp only [Obj.CORE_CTRL, Obj.LYR, Obj.LYR_START, Obj.PROG_GEN, Obj.RNG_MODE, Obj.RNG_RANK]
  repeat rewrite [if_neg (by omega)]
  have e : (0x880001 + 0x100 * core + reg) % 256 - 1 = reg := by omega
  rw [e]

theorem performWrite_lyr (s : State) {core : Nat} {reg : Nat} {v : Nat} (hb : core < 104) (hr : reg < 64) (hv : v < 256 ^ 8) :
    s.performWrite (Obj.LYR core reg) (leBytes 8 v) = s.writeLyr core reg v := by
  rw [performWrite_value s (objRow_lyr hb hr) rfl hv (plainKey_lyr hb hr) (by decide) (by decide), value_lyr s v hb hr]

theorem objRow_lyrStart : ∀ n < 104, objRow (Obj.LYR_START n) = ⟨0x8800, 104, 0x41, 1, .u8, .wo, .job, 0, 1⟩ := fun _ _ =>
  objRow_of (lo := 0x8800) (hi := 0x8868) (slo := 65) (shi := 66) (by decide)
    (by simp only [Obj.LYR_START]; omega) (by simp only [Obj.LYR_START]; omega)
    (by simp only [Obj.LYR_START]; omega) (by simp only [Obj.LYR_START]; omega)
    (by decide) (by decide) (by decide) (by decide) (by decide)

theorem plainKey_lyrStart : ∀ n < 104, plainKey (Obj.LYR_START n) = true := by
  intro n h
  simp only [plainKey, Obj.LYR_START, Obj.CHART_LOAD, Obj.KEY_OBSERVER, Obj.KEY_OPERATOR, Obj.KEY_JOB, Obj.FW_CHUNK, Obj.CFG_CHUNK,
    Bool.and_eq_true, bne_iff_ne]
  omega

theorem value_lyrStart (s : State) {core : Nat} (v : Nat) (hb : core < 104) : s.writeValue (Obj.LYR_START core) v = s.writeLyrStart
    core v := by
  show s.writeValue (0x880041 + 0x100 * core) v = _
  have k : coreOfIndex ((0x880041 + 0x100 * core) / 256) = some core := by
    unfold coreOfIndex; rw [if_pos (by omega)]; congr 1; omega
  unfold State.writeValue
  simp only [k]
  unfold State.writeCoreArea
  dsimp only [Obj.CORE_CTRL, Obj.LYR_START, Obj.PROG_GEN, Obj.RNG_MODE, Obj.RNG_RANK]
  repeat (first | rewrite [if_neg (by omega)] | rewrite [if_pos (by omega)])
  with_reducible rfl

theorem performWrite_lyrStart (s : State) {core : Nat} {v : Nat} (hb : core < 104) (hv : v < 256 ^ 1) : s.performWrite (Obj.LYR_START
    core) (leBytes 1 v) = s.writeLyrStart core v := by
  rw [performWrite_value s (objRow_lyrStart _ hb) rfl hv (plainKey_lyrStart _ hb) (by decide) (by decide), value_lyrStart s v hb]

theorem objRow_stackHealth : ∀ n < 12, objRow (Obj.STACK_HEALTH n) = ⟨0x6100, 12, 0x04, 1, .u32, .w1c, .operator, 0, 4⟩ := fun _ _ =>
  objRow_of (lo := 0x6100) (hi := 0x610C) (slo := 4) (shi := 5) (by decide)
    (by simp only [Obj.STACK_HEALTH]; omega) (by simp only [Obj.STACK_HEALTH]; omega)
    (by simp only [Obj.STACK_HEALTH]; omega) (by simp only [Obj.STACK_HEALTH]; omega)
    (by decide) (by decide) (by decide) (by decide) (by decide)

theorem plainKey_stackHealth : ∀ n < 12, plainKey (Obj.STACK_HEALTH n) = true := by
  intro n h
  simp only [plainKey, Obj.STACK_HEALTH, Obj.CHART_LOAD, Obj.KEY_OBSERVER, Obj.KEY_OPERATOR, Obj.KEY_JOB, Obj.FW_CHUNK, Obj.CFG_CHUNK,
    Bool.and_eq_true, bne_iff_ne]
  omega

theorem value_stackHealth (s : State) {stack : Nat} (v : Nat) (hb : stack < 12) : s.writeValue (Obj.STACK_HEALTH stack) v = s.clearObj
    (Obj.STACK_HEALTH stack) v := by
  show s.writeValue (0x610004 + 0x100 * stack) v = _
  have k : coreOfIndex ((0x610004 + 0x100 * stack) / 256) = none := by unfold coreOfIndex; rw [if_neg (by omega)]
  unfold State.writeValue
  simp only [k]
  unfold State.writeHbm
  dsimp only [Obj.ROW_CE_THRESH, Obj.LANE_CE_THRESH, Obj.CBW_MAP_BASE0, Obj.CBW_MAP_BASE1, Obj.HBM_RATE, Obj.SCRUB_PERIOD, Obj.STACK_HEALTH, Obj.SXT_AXIS, Obj.SXT_CTRL,
      Obj.SXT_MODE, Obj.SXT_TARGET]
  repeat (first | rewrite [if_neg (by omega)] | rewrite [if_pos (by omega)])
  with_reducible rfl

theorem performWrite_stackHealth (s : State) {stack : Nat} {v : Nat} (hb : stack < 12) (hv : v < 256 ^ 4) : s.performWrite
    (Obj.STACK_HEALTH stack) (leBytes 4 v) = s.clearObj (Obj.STACK_HEALTH stack) v := by
  rw [performWrite_value s (objRow_stackHealth _ hb) rfl hv (plainKey_stackHealth _ hb) (by decide) (by decide), value_stackHealth s v hb]

theorem value_sxtCtrl (s : State) (v : Nat) : s.writeValue Obj.SXT_CTRL v = s.writeSxtCtrl v := by
  show s.writeValue (0x650001) v = _
  simp [State.writeValue, coreOfIndex, State.writeHbm]

theorem performWrite_sxtCtrl (s : State) {v : Nat} (hv : v < 256 ^ 1) : s.performWrite Obj.SXT_CTRL (leBytes 1 v) = s.writeSxtCtrl v := by
  rw [performWrite_value s (by decide : objRow Obj.SXT_CTRL = ⟨0x6500, 1, 0x01, 1, .u8, .wo, .service, 0, 1⟩) rfl hv (by decide) (by
      decide) (by decide), value_sxtCtrl s v]

theorem objRow_groupSlice : ∀ n < 256, objRow (Obj.GROUP_SLICE n) = ⟨0x9100, 256, 0x01, 1, .u16, .rw, .service, 65535, 2⟩ := fun _ _ =>
  objRow_of (lo := 0x9100) (hi := 0x9200) (slo := 1) (shi := 2) (by decide)
    (by simp only [Obj.GROUP_SLICE]; omega) (by simp only [Obj.GROUP_SLICE]; omega)
    (by simp only [Obj.GROUP_SLICE]; omega) (by simp only [Obj.GROUP_SLICE]; omega)
    (by decide) (by decide) (by decide) (by decide) (by decide)

theorem plainKey_groupSlice : ∀ n < 256, plainKey (Obj.GROUP_SLICE n) = true := by
  intro n h
  simp only [plainKey, Obj.GROUP_SLICE, Obj.CHART_LOAD, Obj.KEY_OBSERVER, Obj.KEY_OPERATOR, Obj.KEY_JOB, Obj.FW_CHUNK, Obj.CFG_CHUNK,
    Bool.and_eq_true, bne_iff_ne]
  omega

theorem value_groupSlice (s : State) {group : Nat} (v : Nat) (hb : group < 256) : s.writeValue (Obj.GROUP_SLICE group) v =
    s.writeGroupSlice group v := by
  show s.writeValue (0x910001 + 0x100 * group) v = _
  have k : coreOfIndex ((0x910001 + 0x100 * group) / 256) = none := by unfold coreOfIndex; rw [if_neg (by omega)]
  unfold State.writeValue
  simp only [k]
  repeat (first | rewrite [if_neg (by omega)] | rewrite [if_pos (by omega)])
  have e : (0x910001 + 0x100 * group) / 256 - 0x9100 = group := by omega
  rw [e]

theorem performWrite_groupSlice (s : State) {group : Nat} {v : Nat} (hb : group < 256) (hv : v < 256 ^ 2) : s.performWrite
    (Obj.GROUP_SLICE group) (leBytes 2 v) = s.writeGroupSlice group v := by
  rw [performWrite_value s (objRow_groupSlice _ hb) rfl hv (plainKey_groupSlice _ hb) (by decide) (by decide), value_groupSlice s v hb]

theorem value_chrSet (s : State) (v : Nat) : s.writeValue Obj.CHR_SET v = s.writeChrSet v := by
  show s.writeValue (0x920008) v = _
  simp [State.writeValue, coreOfIndex, State.writeChronoArea]

theorem performWrite_chrSet (s : State) {v : Nat} (hv : v < 256 ^ 8) : s.performWrite Obj.CHR_SET (leBytes 8 v) = s.writeChrSet v := by
  rw [performWrite_value s (by decide : objRow Obj.CHR_SET = ⟨0x9200, 1, 0x08, 1, .time64, .wo, .service, 0, 8⟩) rfl hv (by decide) (by
      decide) (by decide), value_chrSet s v]

theorem value_chrParentPort (s : State) (v : Nat) : s.writeValue Obj.CHR_PARENT_PORT v = s.writeChrParent v := by
  show s.writeValue (0x920003) v = _
  simp [State.writeValue, coreOfIndex, State.writeChronoArea]

theorem performWrite_chrParentPort (s : State) {v : Nat} (hv : v < 256 ^ 1) :
    s.performWrite Obj.CHR_PARENT_PORT (leBytes 1 v) = if (s.writeChrParent v).2 = 0 then (s.writeChrParent v).1.journalled.ok else
        s.writeChrParent v := by
  rw [performWrite_journalled s (by decide : objRow Obj.CHR_PARENT_PORT = ⟨0x9200, 1, 0x03, 1, .u8, .rwp, .service, 254, 1⟩) rfl hv (by
      decide) (by decide) (by decide), value_chrParentPort s v]

theorem objRow_portCtrl : ∀ n < 16, objRow (Obj.PORT_CTRL n) = ⟨0x5100, 16, 0x01, 1, .u8, .rw, .service, 1, 1⟩ := fun _ _ =>
  objRow_of (lo := 0x5100) (hi := 0x5110) (slo := 1) (shi := 2) (by decide)
    (by simp only [Obj.PORT_CTRL]; omega) (by simp only [Obj.PORT_CTRL]; omega)
    (by simp only [Obj.PORT_CTRL]; omega) (by simp only [Obj.PORT_CTRL]; omega)
    (by decide) (by decide) (by decide) (by decide) (by decide)

theorem plainKey_portCtrl : ∀ n < 16, plainKey (Obj.PORT_CTRL n) = true := by
  intro n h
  simp only [plainKey, Obj.PORT_CTRL, Obj.CHART_LOAD, Obj.KEY_OBSERVER, Obj.KEY_OPERATOR, Obj.KEY_JOB, Obj.FW_CHUNK, Obj.CFG_CHUNK,
    Bool.and_eq_true, bne_iff_ne]
  omega

theorem value_portCtrl (s : State) {port : Nat} (v : Nat) (hb : port < 16) : s.writeValue (Obj.PORT_CTRL port) v = s.writePortCtrl port
    v := by
  show s.writeValue (0x510001 + 0x100 * port) v = _
  have k : coreOfIndex ((0x510001 + 0x100 * port) / 256) = none := by unfold coreOfIndex; rw [if_neg (by omega)]
  unfold State.writeValue
  simp only [k]
  unfold State.writePort
  dsimp only [Obj.PORT_CTRL, Obj.PORT_CTRL_LANE, Obj.PORT_PHY]
  repeat (first | rewrite [if_neg (by omega)] | rewrite [if_pos (by omega)])
  have e : (0x510001 + 0x100 * port) / 256 - 0x5100 = port := by omega
  rw [e]

theorem performWrite_portCtrl (s : State) {port : Nat} {v : Nat} (hb : port < 16) (hv : v < 256 ^ 1) : s.performWrite (Obj.PORT_CTRL
    port) (leBytes 1 v) = s.writePortCtrl port v := by
  rw [performWrite_value s (objRow_portCtrl _ hb) rfl hv (plainKey_portCtrl _ hb) (by decide) (by decide), value_portCtrl s v hb]

theorem objRow_portHealth : ∀ n < 16, objRow (Obj.PORT_HEALTH n) = ⟨0x5100, 16, 0x14, 1, .u32, .w1c, .operator, 0, 4⟩ := fun _ _ =>
  objRow_of (lo := 0x5100) (hi := 0x5110) (slo := 20) (shi := 21) (by decide)
    (by simp only [Obj.PORT_HEALTH]; omega) (by simp only [Obj.PORT_HEALTH]; omega)
    (by simp only [Obj.PORT_HEALTH]; omega) (by simp only [Obj.PORT_HEALTH]; omega)
    (by decide) (by decide) (by decide) (by decide) (by decide)

theorem plainKey_portHealth : ∀ n < 16, plainKey (Obj.PORT_HEALTH n) = true := by
  intro n h
  simp only [plainKey, Obj.PORT_HEALTH, Obj.CHART_LOAD, Obj.KEY_OBSERVER, Obj.KEY_OPERATOR, Obj.KEY_JOB, Obj.FW_CHUNK, Obj.CFG_CHUNK,
    Bool.and_eq_true, bne_iff_ne]
  omega

theorem value_portHealth (s : State) {port : Nat} (v : Nat) (hb : port < 16) : s.writeValue (Obj.PORT_HEALTH port) v = s.clearObj
    (Obj.PORT_HEALTH port) v := by
  show s.writeValue (0x510014 + 0x100 * port) v = _
  have k : coreOfIndex ((0x510014 + 0x100 * port) / 256) = none := by unfold coreOfIndex; rw [if_neg (by omega)]
  unfold State.writeValue
  simp only [k]
  unfold State.writePort
  dsimp only [Obj.PORT_CTRL, Obj.PORT_CTRL_LANE, Obj.PORT_HEALTH, Obj.PORT_PHY]
  repeat (first | rewrite [if_neg (by omega)] | rewrite [if_pos (by omega)])
  with_reducible rfl

theorem performWrite_portHealth (s : State) {port : Nat} {v : Nat} (hb : port < 16) (hv : v < 256 ^ 4) : s.performWrite
    (Obj.PORT_HEALTH port) (leBytes 4 v) = s.clearObj (Obj.PORT_HEALTH port) v := by
  rw [performWrite_value s (objRow_portHealth _ hb) rfl hv (plainKey_portHealth _ hb) (by decide) (by decide), value_portHealth s v hb]

theorem value_chartCtrl (s : State) (v : Nat) : s.writeValue Obj.CHART_CTRL v = s.writeChartCtrl v := by
  show s.writeValue (0x500004) v = _
  simp [State.writeValue, coreOfIndex, State.writeFabric]

theorem performWrite_chartCtrl (s : State) {v : Nat} (hv : v < 256 ^ 1) : s.performWrite Obj.CHART_CTRL (leBytes 1 v) =
    s.writeChartCtrl v := by
  rw [performWrite_value s (by decide : objRow Obj.CHART_CTRL = ⟨0x5000, 1, 0x04, 1, .u8, .wo, .service, 0, 1⟩) rfl hv (by decide) (by
      decide) (by decide), value_chartCtrl s v]

theorem value_chartSelf (s : State) (v : Nat) : s.writeValue Obj.CHART_SELF v = s.writeChartSelf v := by
  show s.writeValue (0x500006) v = _
  simp [State.writeValue, coreOfIndex, State.writeFabric]

theorem performWrite_chartSelf (s : State) {v : Nat} (hv : v < 256 ^ 2) : s.performWrite Obj.CHART_SELF (leBytes 2 v) =
    s.writeChartSelf v := by
  rw [performWrite_value s (by decide : objRow Obj.CHART_SELF = ⟨0x5000, 1, 0x06, 1, .u16, .rw, .service, 0, 2⟩) rfl hv (by decide) (by
      decide) (by decide), value_chartSelf s v]

theorem objRow_ctxArm : ∀ n < 128, objRow (Obj.CTX_ARM n) = ⟨0x5410, 128, 0x02, 1, .u64, .wo, .job, 0, 8⟩ := fun _ _ =>
  objRow_of (lo := 0x5410) (hi := 0x5490) (slo := 2) (shi := 3) (by decide)
    (by simp only [Obj.CTX_ARM]; omega) (by simp only [Obj.CTX_ARM]; omega)
    (by simp only [Obj.CTX_ARM]; omega) (by simp only [Obj.CTX_ARM]; omega)
    (by decide) (by decide) (by decide) (by decide) (by decide)

theorem plainKey_ctxArm : ∀ n < 128, plainKey (Obj.CTX_ARM n) = true := by
  intro n h
  simp only [plainKey, Obj.CTX_ARM, Obj.CHART_LOAD, Obj.KEY_OBSERVER, Obj.KEY_OPERATOR, Obj.KEY_JOB, Obj.FW_CHUNK, Obj.CFG_CHUNK,
    Bool.and_eq_true, bne_iff_ne]
  omega

theorem value_ctxArm (s : State) {ctx : Nat} (v : Nat) (hb : ctx < 128) : s.writeValue (Obj.CTX_ARM ctx) v = s.writeCtxArm ctx v := by
  show s.writeValue (0x541002 + 0x100 * ctx) v = _
  have k : coreOfIndex ((0x541002 + 0x100 * ctx) / 256) = none := by unfold coreOfIndex; rw [if_neg (by omega)]
  unfold State.writeValue
  simp only [k]
  unfold State.writeCtx
  dsimp only [Obj.CTX_ARM]
  repeat (first | rewrite [if_neg (by omega)] | rewrite [if_pos (by omega)])
  have e : (0x541002 + 0x100 * ctx) / 256 - 0x5410 = ctx := by omega
  rw [e]

theorem performWrite_ctxArm (s : State) {ctx : Nat} {v : Nat} (hb : ctx < 128) (hv : v < 256 ^ 8) : s.performWrite (Obj.CTX_ARM ctx)
    (leBytes 8 v) = s.writeCtxArm ctx v := by
  rw [performWrite_value s (objRow_ctxArm _ hb) rfl hv (plainKey_ctxArm _ hb) (by decide) (by decide), value_ctxArm s v hb]

theorem objRow_ctxCtrl : ∀ n < 128, objRow (Obj.CTX_CTRL n) = ⟨0x5410, 128, 0x03, 1, .u8, .wo, .job, 0, 1⟩ := fun _ _ =>
  objRow_of (lo := 0x5410) (hi := 0x5490) (slo := 3) (shi := 4) (by decide)
    (by simp only [Obj.CTX_CTRL]; omega) (by simp only [Obj.CTX_CTRL]; omega)
    (by simp only [Obj.CTX_CTRL]; omega) (by simp only [Obj.CTX_CTRL]; omega)
    (by decide) (by decide) (by decide) (by decide) (by decide)

theorem plainKey_ctxCtrl : ∀ n < 128, plainKey (Obj.CTX_CTRL n) = true := by
  intro n h
  simp only [plainKey, Obj.CTX_CTRL, Obj.CHART_LOAD, Obj.KEY_OBSERVER, Obj.KEY_OPERATOR, Obj.KEY_JOB, Obj.FW_CHUNK, Obj.CFG_CHUNK,
    Bool.and_eq_true, bne_iff_ne]
  omega

theorem value_ctxCtrl (s : State) {ctx : Nat} (v : Nat) (hb : ctx < 128) : s.writeValue (Obj.CTX_CTRL ctx) v = s.writeCtxCtrl ctx v := by
  show s.writeValue (0x541003 + 0x100 * ctx) v = _
  have k : coreOfIndex ((0x541003 + 0x100 * ctx) / 256) = none := by unfold coreOfIndex; rw [if_neg (by omega)]
  unfold State.writeValue
  simp only [k]
  unfold State.writeCtx
  dsimp only [Obj.CTX_ARM, Obj.CTX_CTRL]
  repeat (first | rewrite [if_neg (by omega)] | rewrite [if_pos (by omega)])
  have e : (0x541003 + 0x100 * ctx) / 256 - 0x5410 = ctx := by omega
  rw [e]

theorem performWrite_ctxCtrl (s : State) {ctx : Nat} {v : Nat} (hb : ctx < 128) (hv : v < 256 ^ 1) : s.performWrite (Obj.CTX_CTRL ctx)
    (leBytes 1 v) = s.writeCtxCtrl ctx v := by
  rw [performWrite_value s (objRow_ctxCtrl _ hb) rfl hv (plainKey_ctxCtrl _ hb) (by decide) (by decide), value_ctxCtrl s v hb]

theorem objRow_stgCtrl : ∀ n < 8, objRow (Obj.STG_CTRL n) = ⟨0x7300, 8, 0x01, 1, .u8, .wo, .job, 0, 1⟩ := fun _ _ =>
  objRow_of (lo := 0x7300) (hi := 0x7308) (slo := 1) (shi := 2) (by decide)
    (by simp only [Obj.STG_CTRL]; omega) (by simp only [Obj.STG_CTRL]; omega)
    (by simp only [Obj.STG_CTRL]; omega) (by simp only [Obj.STG_CTRL]; omega)
    (by decide) (by decide) (by decide) (by decide) (by decide)

theorem plainKey_stgCtrl : ∀ n < 8, plainKey (Obj.STG_CTRL n) = true := by
  intro n h
  simp only [plainKey, Obj.STG_CTRL, Obj.CHART_LOAD, Obj.KEY_OBSERVER, Obj.KEY_OPERATOR, Obj.KEY_JOB, Obj.FW_CHUNK, Obj.CFG_CHUNK,
    Bool.and_eq_true, bne_iff_ne]
  omega

theorem value_stgCtrl (s : State) {slot : Nat} (v : Nat) (hb : slot < 8) : s.writeValue (Obj.STG_CTRL slot) v = s.writeStgCtrl slot v
    := by
  show s.writeValue (0x730001 + 0x100 * slot) v = _
  have k : coreOfIndex ((0x730001 + 0x100 * slot) / 256) = none := by unfold coreOfIndex; rw [if_neg (by omega)]
  unfold State.writeValue
  simp only [k]
  unfold State.writeStageSlot
  dsimp only [Obj.ACT_STATUS, Obj.COLL_WP, Obj.GRAD_WP, Obj.IN_WP, Obj.STG_CORES, Obj.STG_CTRL, Obj.STG_POS]
  repeat (first | rewrite [if_neg (by omega)] | rewrite [if_pos (by omega)])
  have e : (0x730001 + 0x100 * slot) / 256 - 0x7300 = slot := by omega
  rw [e]

theorem performWrite_stgCtrl (s : State) {slot : Nat} {v : Nat} (hb : slot < 8) (hv : v < 256 ^ 1) : s.performWrite (Obj.STG_CTRL slot)
    (leBytes 1 v) = s.writeStgCtrl slot v := by
  rw [performWrite_value s (objRow_stgCtrl _ hb) rfl hv (plainKey_stgCtrl _ hb) (by decide) (by decide), value_stgCtrl s v hb]

theorem objRow_actStatus : ∀ n < 8, objRow (Obj.ACT_STATUS n) = ⟨0x7300, 8, 0x0D, 1, .u32, .w1c, .job, 0, 4⟩ := fun _ _ =>
  objRow_of (lo := 0x7300) (hi := 0x7308) (slo := 13) (shi := 14) (by decide)
    (by simp only [Obj.ACT_STATUS]; omega) (by simp only [Obj.ACT_STATUS]; omega)
    (by simp only [Obj.ACT_STATUS]; omega) (by simp only [Obj.ACT_STATUS]; omega)
    (by decide) (by decide) (by decide) (by decide) (by decide)

theorem plainKey_actStatus : ∀ n < 8, plainKey (Obj.ACT_STATUS n) = true := by
  intro n h
  simp only [plainKey, Obj.ACT_STATUS, Obj.CHART_LOAD, Obj.KEY_OBSERVER, Obj.KEY_OPERATOR, Obj.KEY_JOB, Obj.FW_CHUNK, Obj.CFG_CHUNK,
    Bool.and_eq_true, bne_iff_ne]
  omega

theorem value_actStatus (s : State) {slot : Nat} (v : Nat) (hb : slot < 8) : s.writeValue (Obj.ACT_STATUS slot) v = s.clearObj
    (Obj.ACT_STATUS slot) v := by
  show s.writeValue (0x73000D + 0x100 * slot) v = _
  have k : coreOfIndex ((0x73000D + 0x100 * slot) / 256) = none := by unfold coreOfIndex; rw [if_neg (by omega)]
  unfold State.writeValue
  simp only [k]
  unfold State.writeStageSlot
  dsimp only [Obj.ACT_STATUS, Obj.COLL_WP, Obj.GRAD_WP, Obj.IN_WP, Obj.STG_CORES, Obj.STG_CTRL, Obj.STG_POS]
  repeat (first | rewrite [if_neg (by omega)] | rewrite [if_pos (by omega)])
  with_reducible rfl

theorem performWrite_actStatus (s : State) {slot : Nat} {v : Nat} (hb : slot < 8) (hv : v < 256 ^ 4) : s.performWrite (Obj.ACT_STATUS
    slot) (leBytes 4 v) = s.clearObj (Obj.ACT_STATUS slot) v := by
  rw [performWrite_value s (objRow_actStatus _ hb) rfl hv (plainKey_actStatus _ hb) (by decide) (by decide), value_actStatus s v hb]

theorem value_stepCtrl (s : State) (v : Nat) : s.writeValue Obj.STEP_CTRL v = s.writeStepCtrl v := by
  show s.writeValue (0x710002) v = _
  simp [State.writeValue, coreOfIndex, State.writeStepArea]

theorem performWrite_stepCtrl (s : State) {v : Nat} (hv : v < 256 ^ 1) : s.performWrite Obj.STEP_CTRL (leBytes 1 v) = s.writeStepCtrl v
    := by
  rw [performWrite_value s (by decide : objRow Obj.STEP_CTRL = ⟨0x7100, 1, 0x02, 1, .u8, .wo, .job, 0, 1⟩) rfl hv (by decide) (by
      decide) (by decide), value_stepCtrl s v]

theorem value_stepStatus (s : State) (v : Nat) : s.writeValue Obj.STEP_STATUS v = s.clearObj Obj.STEP_STATUS v := by
  show s.writeValue (0x710010) v = _
  simp [State.writeValue, coreOfIndex, State.writeStepArea]

theorem performWrite_stepStatus (s : State) {v : Nat} (hv : v < 256 ^ 4) : s.performWrite Obj.STEP_STATUS (leBytes 4 v) = s.clearObj
    Obj.STEP_STATUS v := by
  rw [performWrite_value s (by decide : objRow Obj.STEP_STATUS = ⟨0x7100, 1, 0x10, 1, .u32, .w1c, .job, 0, 4⟩) rfl hv (by decide) (by
      decide) (by decide), value_stepStatus s v]

theorem value_fenceCtrl (s : State) (v : Nat) : s.writeValue Obj.FENCE_CTRL v = s.writeFenceCtrl v := by
  show s.writeValue (0x760001) v = _
  simp [State.writeValue, coreOfIndex, State.writeStepArea]

theorem performWrite_fenceCtrl (s : State) {v : Nat} (hv : v < 256 ^ 1) : s.performWrite Obj.FENCE_CTRL (leBytes 1 v) =
    s.writeFenceCtrl v := by
  rw [performWrite_value s (by decide : objRow Obj.FENCE_CTRL = ⟨0x7600, 1, 0x01, 1, .u8, .wo, .service, 0, 1⟩) rfl hv (by decide) (by
      decide) (by decide), value_fenceCtrl s v]

theorem value_fenceReqDev (s : State) (v : Nat) : s.writeValue Obj.FENCE_REQ_DEV v = s.writeFenceReq v := by
  show s.writeValue (0x760004) v = _
  simp [State.writeValue, coreOfIndex, State.writeStepArea]

theorem performWrite_fenceReqDev (s : State) {v : Nat} (hv : v < 256 ^ 2) : s.performWrite Obj.FENCE_REQ_DEV (leBytes 2 v) =
    s.writeFenceReq v := by
  rw [performWrite_value s (by decide : objRow Obj.FENCE_REQ_DEV = ⟨0x7600, 1, 0x04, 1, .u16, .wo, .job, 65535, 2⟩) rfl hv (by decide)
      (by decide) (by decide), value_fenceReqDev s v]

theorem value_fixCtrl (s : State) (v : Nat) : s.writeValue Obj.FIX_CTRL v = s.writeFixCtrl v := by
  show s.writeValue (0x660001) v = _
  simp [State.writeValue, coreOfIndex, State.writeFixArea]

theorem performWrite_fixCtrl (s : State) {v : Nat} (hv : v < 256 ^ 1) : s.performWrite Obj.FIX_CTRL (leBytes 1 v) = s.writeFixCtrl v := by
  rw [performWrite_value s (by decide : objRow Obj.FIX_CTRL = ⟨0x6600, 1, 0x01, 1, .u8, .wo, .job, 0, 1⟩) rfl hv (by decide) (by
      decide) (by decide), value_fixCtrl s v]

theorem value_fixSvc (s : State) (v : Nat) : s.writeValue Obj.FIX_SVC v = s.writeFixSvc v := by
  show s.writeValue (0x660002) v = _
  simp [State.writeValue, coreOfIndex, State.writeFixArea]

theorem performWrite_fixSvc (s : State) {v : Nat} (hv : v < 256 ^ 1) : s.performWrite Obj.FIX_SVC (leBytes 1 v) = s.writeFixSvc v := by
  rw [performWrite_value s (by decide : objRow Obj.FIX_SVC = ⟨0x6600, 1, 0x02, 1, .u8, .wo, .service, 0, 1⟩) rfl hv (by decide) (by
      decide) (by decide), value_fixSvc s v]

theorem value_fixDrainedSlots (s : State) (v : Nat) : s.writeValue Obj.FIX_DRAINED_SLOTS v = s.writeDrained v := by
  show s.writeValue (0x66000E) v = _
  simp [State.writeValue, coreOfIndex, State.writeFixArea]

theorem performWrite_fixDrainedSlots (s : State) {v : Nat} (hv : v < 256 ^ 8) : s.performWrite Obj.FIX_DRAINED_SLOTS (leBytes 8 v) =
    s.writeDrained v := by
  rw [performWrite_value s (by decide : objRow Obj.FIX_DRAINED_SLOTS = ⟨0x6600, 1, 0x0E, 1, .u64, .rw, .service, 0, 8⟩) rfl hv (by
      decide) (by decide) (by decide), value_fixDrainedSlots s v]

theorem value_rsvSwap (s : State) (v : Nat) : s.writeValue Obj.RSV_SWAP v = s.writeRsvSwap v := by
  show s.writeValue (0x420002) v = _
  simp [State.writeValue, coreOfIndex, State.writeHealth]

theorem performWrite_rsvSwap (s : State) {v : Nat} (hv : v < 256 ^ 2) : s.performWrite Obj.RSV_SWAP (leBytes 2 v) = s.writeRsvSwap v := by
  rw [performWrite_value s (by decide : objRow Obj.RSV_SWAP = ⟨0x4200, 1, 0x02, 1, .u16, .wo, .job, 0, 2⟩) rfl hv (by decide) (by
      decide) (by decide), value_rsvSwap s v]

theorem value_sparePressure (s : State) (v : Nat) : s.writeValue Obj.SPARE_PRESSURE v = s.writeSparePressure v := by
  show s.writeValue (0x400008) v = _
  simp [State.writeValue, coreOfIndex, State.writeHealth]

theorem performWrite_sparePressure (s : State) {v : Nat} (hv : v < 256 ^ 4) : s.performWrite Obj.SPARE_PRESSURE (leBytes 4 v) =
    s.writeSparePressure v := by
  rw [performWrite_value s (by decide : objRow Obj.SPARE_PRESSURE = ⟨0x4000, 1, 0x08, 1, .u32, .rw, .service, 0, 4⟩) rfl hv (by decide)
      (by decide) (by decide), value_sparePressure s v]

theorem value_retiredMap (s : State) (v : Nat) : s.writeValue Obj.RETIRED_MAP v = s.writeRetiredMap v := by
  show s.writeValue (0x420004) v = _
  simp [State.writeValue, coreOfIndex, State.writeHealth]

theorem performWrite_retiredMap (s : State) {v : Nat} (hv : v < 256 ^ 16) :
    s.performWrite Obj.RETIRED_MAP (leBytes 16 v) = if (s.writeRetiredMap v).2 = 0 then (s.writeRetiredMap v).1.journalled.ok else
        s.writeRetiredMap v := by
  rw [performWrite_journalled s (by decide : objRow Obj.RETIRED_MAP = ⟨0x4200, 1, 0x04, 1, .blob, .rwp, .service, 0, 16⟩) rfl hv (by
      decide) (by decide) (by decide), value_retiredMap s v]

theorem value_moduleHealth (s : State) (v : Nat) : s.writeValue Obj.MODULE_HEALTH v = s.clearObj Obj.MODULE_HEALTH v := by
  show s.writeValue (0x400005) v = _
  simp [State.writeValue, coreOfIndex, State.writeHealth]

theorem performWrite_moduleHealth (s : State) {v : Nat} (hv : v < 256 ^ 4) : s.performWrite Obj.MODULE_HEALTH (leBytes 4 v) =
    s.clearObj Obj.MODULE_HEALTH v := by
  rw [performWrite_value s (by decide : objRow Obj.MODULE_HEALTH = ⟨0x4000, 1, 0x05, 1, .u32, .w1c, .operator, 0, 4⟩) rfl hv (by
      decide) (by decide) (by decide), value_moduleHealth s v]

theorem value_pdCtrl (s : State) (v : Nat) : s.writeValue Obj.PD_CTRL v = s.writePdCtrl v := by
  show s.writeValue (0x30000E) v = _
  simp [State.writeValue, coreOfIndex, State.writePower]

theorem performWrite_pdCtrl (s : State) {v : Nat} (hv : v < 256 ^ 2) : s.performWrite Obj.PD_CTRL (leBytes 2 v) = s.writePdCtrl v := by
  rw [performWrite_value s (by decide : objRow Obj.PD_CTRL = ⟨0x3000, 1, 0x0E, 1, .u16, .wo, .operator, 0, 2⟩) rfl hv (by decide) (by
      decide) (by decide), value_pdCtrl s v]

theorem objRow_clkCap : ∀ n < 2, objRow (Obj.CLK_CAP n) = ⟨0x3100, 2, 0x02, 1, .u8, .rw, .operator, 0, 1⟩ := fun _ _ =>
  objRow_of (lo := 0x3100) (hi := 0x3102) (slo := 2) (shi := 3) (by decide)
    (by simp only [Obj.CLK_CAP]; omega) (by simp only [Obj.CLK_CAP]; omega)
    (by simp only [Obj.CLK_CAP]; omega) (by simp only [Obj.CLK_CAP]; omega)
    (by decide) (by decide) (by decide) (by decide) (by decide)

theorem plainKey_clkCap : ∀ n < 2, plainKey (Obj.CLK_CAP n) = true := by
  intro n h
  simp only [plainKey, Obj.CLK_CAP, Obj.CHART_LOAD, Obj.KEY_OBSERVER, Obj.KEY_OPERATOR, Obj.KEY_JOB, Obj.FW_CHUNK, Obj.CFG_CHUNK,
    Bool.and_eq_true, bne_iff_ne]
  omega

theorem value_clkCap (s : State) {die : Nat} (v : Nat) (hb : die < 2) : s.writeValue (Obj.CLK_CAP die) v = s.writeClkCap die v := by
  show s.writeValue (0x310002 + 0x100 * die) v = _
  rcases (by omega : die = 0 ∨ die = 1) with rfl | rfl <;> simp [State.writeValue, coreOfIndex, State.writePower, Obj.CLK_CAP]

theorem performWrite_clkCap (s : State) {die : Nat} {v : Nat} (hb : die < 2) (hv : v < 256 ^ 1) : s.performWrite (Obj.CLK_CAP die)
    (leBytes 1 v) = s.writeClkCap die v := by
  rw [performWrite_value s (objRow_clkCap _ hb) rfl hv (plainKey_clkCap _ hb) (by decide) (by decide), value_clkCap s v hb]

theorem value_pwrStatus (s : State) (v : Nat) : s.writeValue Obj.PWR_STATUS v = s.clearObj Obj.PWR_STATUS v := by
  show s.writeValue (0x300009) v = _
  simp [State.writeValue, coreOfIndex, State.writePower]

theorem performWrite_pwrStatus (s : State) {v : Nat} (hv : v < 256 ^ 4) : s.performWrite Obj.PWR_STATUS (leBytes 4 v) = s.clearObj
    Obj.PWR_STATUS v := by
  rw [performWrite_value s (by decide : objRow Obj.PWR_STATUS = ⟨0x3000, 1, 0x09, 1, .u32, .w1c, .operator, 0, 4⟩) rfl hv (by decide)
      (by decide) (by decide), value_pwrStatus s v]

theorem value_powerCtrl (s : State) (v : Nat) : s.writeValue Obj.POWER_CTRL v = s.writePowerCtrl v := by
  show s.writeValue (0x30000B) v = _
  simp [State.writeValue, coreOfIndex, State.writePower]

theorem performWrite_powerCtrl (s : State) {v : Nat} (hv : v < 256 ^ 1) : s.performWrite Obj.POWER_CTRL (leBytes 1 v) =
    s.writePowerCtrl v := by
  rw [performWrite_value s (by decide : objRow Obj.POWER_CTRL = ⟨0x3000, 1, 0x0B, 1, .u8, .wo, .service, 0, 1⟩) rfl hv (by decide) (by
      decide) (by decide), value_powerCtrl s v]

theorem value_mgmtStatus (s : State) (v : Nat) : s.writeValue Obj.MGMT_STATUS v = s.clearObj Obj.MGMT_STATUS v := by
  show s.writeValue (0x200003) v = _
  simp [State.writeValue, coreOfIndex, State.writeMgmtArea]

theorem performWrite_mgmtStatus (s : State) {v : Nat} (hv : v < 256 ^ 4) : s.performWrite Obj.MGMT_STATUS (leBytes 4 v) = s.clearObj
    Obj.MGMT_STATUS v := by
  rw [performWrite_value s (by decide : objRow Obj.MGMT_STATUS = ⟨0x2000, 1, 0x03, 1, .u32, .w1c, .operator, 0, 4⟩) rfl hv (by decide)
      (by decide) (by decide), value_mgmtStatus s v]

theorem value_alertSummary (s : State) (v : Nat) : s.writeValue Obj.ALERT_SUMMARY v = (s.clearAlert v).ok := by
  show s.writeValue (0x200005) v = _
  simp [State.writeValue, coreOfIndex, State.writeMgmtArea]

theorem performWrite_alertSummary (s : State) {v : Nat} (hv : v < 256 ^ 4) : s.performWrite Obj.ALERT_SUMMARY (leBytes 4 v) =
    (s.clearAlert v).ok := by
  rw [performWrite_value s (by decide : objRow Obj.ALERT_SUMMARY = ⟨0x2000, 1, 0x05, 1, .u32, .w1c, .operator, 0, 4⟩) rfl hv (by
      decide) (by decide) (by decide), value_alertSummary s v]

theorem objRow_sliceCtrl : ∀ n < 8, objRow (Obj.SLICE_CTRL n) = ⟨0x7020, 8, 0x06, 1, .u8, .wo, .service, 0, 1⟩ := fun _ _ =>
  objRow_of (lo := 0x7020) (hi := 0x7028) (slo := 6) (shi := 7) (by decide)
    (by simp only [Obj.SLICE_CTRL]; omega) (by simp only [Obj.SLICE_CTRL]; omega)
    (by simp only [Obj.SLICE_CTRL]; omega) (by simp only [Obj.SLICE_CTRL]; omega)
    (by decide) (by decide) (by decide) (by decide) (by decide)

theorem plainKey_sliceCtrl : ∀ n < 8, plainKey (Obj.SLICE_CTRL n) = true := by
  intro n h
  simp only [plainKey, Obj.SLICE_CTRL, Obj.CHART_LOAD, Obj.KEY_OBSERVER, Obj.KEY_OPERATOR, Obj.KEY_JOB, Obj.FW_CHUNK, Obj.CFG_CHUNK,
    Bool.and_eq_true, bne_iff_ne]
  omega

theorem value_sliceCtrl (s : State) {slot : Nat} (v : Nat) (hb : slot < 8) : s.writeValue (Obj.SLICE_CTRL slot) v =
    (if s.swapDue then s.performSwaps else s).writeSliceCtrl slot v := by
  show s.writeValue (0x702006 + 0x100 * slot) v = _
  have k : coreOfIndex ((0x702006 + 0x100 * slot) / 256) = none := by unfold coreOfIndex; rw [if_neg (by omega)]
  unfold State.writeValue
  simp only [k]
  unfold State.writeSlot
  dsimp only [Obj.SLICE_CTRL]
  repeat (first | rewrite [if_neg (by omega)] | rewrite [if_pos (by omega)])
  have e : (0x702006 + 0x100 * slot) / 256 - 0x7020 = slot := by omega
  rw [e]

theorem performWrite_sliceCtrl (s : State) {slot : Nat} {v : Nat} (hb : slot < 8) (hv : v < 256 ^ 1) : s.performWrite (Obj.SLICE_CTRL
    slot) (leBytes 1 v) = (if s.swapDue then s.performSwaps else s).writeSliceCtrl slot v := by
  rw [performWrite_value s (objRow_sliceCtrl _ hb) rfl hv (plainKey_sliceCtrl _ hb) (by decide) (by decide), value_sliceCtrl s v hb]

theorem value_dictDefaults (s : State) (v : Nat) : s.writeValue Obj.DICT_DEFAULTS v = s.writeDictDefaults v := by
  show s.writeValue (0xF00001) v = _
  simp [State.writeValue, coreOfIndex, State.writeServiceArea]

theorem performWrite_dictDefaults (s : State) {v : Nat} (hv : v < 256 ^ 1) : s.performWrite Obj.DICT_DEFAULTS (leBytes 1 v) =
    s.writeDictDefaults v := by
  rw [performWrite_value s (by decide : objRow Obj.DICT_DEFAULTS = ⟨0xF000, 1, 0x01, 1, .u8, .wo, .service, 0, 1⟩) rfl hv (by decide)
      (by decide) (by decide), value_dictDefaults s v]

theorem objRow_qpCtrl : ∀ n < 240, objRow (Obj.QP_CTRL n) = ⟨0xA010, 240, 0x01, 1, .u8, .wo, .service, 0, 1⟩ := fun _ _ =>
  objRow_of (lo := 0xA010) (hi := 0xA100) (slo := 1) (shi := 2) (by decide)
    (by simp only [Obj.QP_CTRL]; omega) (by simp only [Obj.QP_CTRL]; omega)
    (by simp only [Obj.QP_CTRL]; omega) (by simp only [Obj.QP_CTRL]; omega)
    (by decide) (by decide) (by decide) (by decide) (by decide)

theorem plainKey_qpCtrl : ∀ n < 240, plainKey (Obj.QP_CTRL n) = true := by
  intro n h
  simp only [plainKey, Obj.QP_CTRL, Obj.CHART_LOAD, Obj.KEY_OBSERVER, Obj.KEY_OPERATOR, Obj.KEY_JOB, Obj.FW_CHUNK, Obj.CFG_CHUNK,
    Bool.and_eq_true, bne_iff_ne]
  omega

theorem value_qpCtrl (s : State) {conn : Nat} (v : Nat) (hb : conn < 240) : s.writeValue (Obj.QP_CTRL conn) v = s.writeQpCtrl conn v := by
  show s.writeValue (0xA01001 + 0x100 * conn) v = _
  have k : coreOfIndex ((0xA01001 + 0x100 * conn) / 256) = none := by unfold coreOfIndex; rw [if_neg (by omega)]
  unfold State.writeValue
  simp only [k]
  unfold State.writeHostArea
  dsimp only [Obj.HOST_PORT_CTRL, Obj.QP_CTRL]
  repeat (first | rewrite [if_neg (by omega)] | rewrite [if_pos (by omega)])
  have e : (0xA01001 + 0x100 * conn) / 256 - 0xA010 = conn := by omega
  rw [e]

theorem performWrite_qpCtrl (s : State) {conn : Nat} {v : Nat} (hb : conn < 240) (hv : v < 256 ^ 1) : s.performWrite (Obj.QP_CTRL conn)
    (leBytes 1 v) = s.writeQpCtrl conn v := by
  rw [performWrite_value s (objRow_qpCtrl _ hb) rfl hv (plainKey_qpCtrl _ hb) (by decide) (by decide), value_qpCtrl s v hb]

theorem objRow_hostPortCtrl : ∀ n < 4, objRow (Obj.HOST_PORT_CTRL n) = ⟨0xA008, 4, 0x02, 1, .u8, .rw, .service, 1, 1⟩ := fun _ _ =>
  objRow_of (lo := 0xA008) (hi := 0xA00C) (slo := 2) (shi := 3) (by decide)
    (by simp only [Obj.HOST_PORT_CTRL]; omega) (by simp only [Obj.HOST_PORT_CTRL]; omega)
    (by simp only [Obj.HOST_PORT_CTRL]; omega) (by simp only [Obj.HOST_PORT_CTRL]; omega)
    (by decide) (by decide) (by decide) (by decide) (by decide)

theorem plainKey_hostPortCtrl : ∀ n < 4, plainKey (Obj.HOST_PORT_CTRL n) = true := by
  intro n h
  simp only [plainKey, Obj.HOST_PORT_CTRL, Obj.CHART_LOAD, Obj.KEY_OBSERVER, Obj.KEY_OPERATOR, Obj.KEY_JOB, Obj.FW_CHUNK, Obj.CFG_CHUNK,
    Bool.and_eq_true, bne_iff_ne]
  omega

theorem value_hostPortCtrl (s : State) {port : Nat} (v : Nat) (hb : port < 4) : s.writeValue (Obj.HOST_PORT_CTRL port) v =
    s.writeHostPortCtrl port v := by
  show s.writeValue (0xA00802 + 0x100 * port) v = _
  have k : coreOfIndex ((0xA00802 + 0x100 * port) / 256) = none := by unfold coreOfIndex; rw [if_neg (by omega)]
  unfold State.writeValue
  simp only [k]
  unfold State.writeHostArea
  dsimp only [Obj.HOST_PORT_CTRL, Obj.QP_CTRL]
  repeat (first | rewrite [if_neg (by omega)] | rewrite [if_pos (by omega)])
  have e : (0xA00802 + 0x100 * port) / 256 - 0xA008 = port := by omega
  rw [e]

theorem performWrite_hostPortCtrl (s : State) {port : Nat} {v : Nat} (hb : port < 4) (hv : v < 256 ^ 1) : s.performWrite
    (Obj.HOST_PORT_CTRL port) (leBytes 1 v) = s.writeHostPortCtrl port v := by
  rw [performWrite_value s (objRow_hostPortCtrl _ hb) rfl hv (plainKey_hostPortCtrl _ hb) (by decide) (by decide), value_hostPortCtrl s
      v hb]

theorem value_fwCtrl (s : State) (v : Nat) : s.writeValue Obj.FW_CTRL v = s.writeFwCtrl v := by
  show s.writeValue (0xF10002) v = _
  simp [State.writeValue, coreOfIndex, State.writeServiceArea]

theorem performWrite_fwCtrl (s : State) {v : Nat} (hv : v < 256 ^ 1) : s.performWrite Obj.FW_CTRL (leBytes 1 v) = s.writeFwCtrl v := by
  rw [performWrite_value s (by decide : objRow Obj.FW_CTRL = ⟨0xF100, 1, 0x02, 1, .u8, .wo, .service, 0, 1⟩) rfl hv (by decide) (by
      decide) (by decide), value_fwCtrl s v]

theorem value_cfgCtrl (s : State) (v : Nat) : s.writeValue Obj.CFG_CTRL v = s.writeCfgCtrl v := by
  show s.writeValue (0xF11003) v = _
  simp [State.writeValue, coreOfIndex, State.writeServiceArea]

theorem performWrite_cfgCtrl (s : State) {v : Nat} (hv : v < 256 ^ 1) : s.performWrite Obj.CFG_CTRL (leBytes 1 v) = s.writeCfgCtrl v := by
  rw [performWrite_value s (by decide : objRow Obj.CFG_CTRL = ⟨0xF110, 1, 0x03, 1, .u8, .wo, .service, 0, 1⟩) rfl hv (by decide) (by
      decide) (by decide), value_cfgCtrl s v]

theorem value_attCtrl (s : State) (v : Nat) : s.writeValue Obj.ATT_CTRL v = s.writeAttCtrl v := by
  show s.writeValue (0x110002) v = _
  simp [State.writeValue, coreOfIndex, State.writeServiceArea]

theorem performWrite_attCtrl (s : State) {v : Nat} (hv : v < 256 ^ 1) : s.performWrite Obj.ATT_CTRL (leBytes 1 v) = s.writeAttCtrl v := by
  rw [performWrite_value s (by decide : objRow Obj.ATT_CTRL = ⟨0x1100, 1, 0x02, 1, .u8, .wo, .operator, 0, 1⟩) rfl hv (by decide) (by
      decide) (by decide), value_attCtrl s v]

theorem value_bistCtrl (s : State) (v : Nat) : s.writeValue Obj.BIST_CTRL v = s.writeBistCtrl v := by
  show s.writeValue (0xF12001) v = _
  simp [State.writeValue, coreOfIndex, State.writeServiceArea]

theorem performWrite_bistCtrl (s : State) {v : Nat} (hv : v < 256 ^ 1) : s.performWrite Obj.BIST_CTRL (leBytes 1 v) = s.writeBistCtrl v
    := by
  rw [performWrite_value s (by decide : objRow Obj.BIST_CTRL = ⟨0xF120, 1, 0x01, 1, .u8, .wo, .service, 0, 1⟩) rfl hv (by decide) (by
      decide) (by decide), value_bistCtrl s v]

theorem chunks_words (words : List Nat) (f : Nat) (hf : words.length ≤ f) (hb : ∀ w ∈ words, w < 2 ^ 64) :
    (chunks 8 f ((words.map (leBytes 8)).flatten)).map leNat = words := by
  induction words generalizing f with
  | nil => cases f <;> rfl
  | cons w r ih =>
    obtain ⟨g, rfl⟩ : ∃ g, f = g + 1 := ⟨f - 1, by simp at hf; omega⟩
    have hw : w < 256 ^ 8 := by have := hb w (by simp); omega
    have e : ((w :: r).map (leBytes 8)).flatten = leBytes 8 w ++ (r.map (leBytes 8)).flatten := by simp
    have l : (leBytes 8 w).length = 8 := length_leBytes 8 w
    have ne : leBytes 8 w ++ (r.map (leBytes 8)).flatten ≠ [] := by
      intro h; have := congrArg List.length h; simp [l] at this
    rw [e]
    unfold chunks
    simp only
    rw [List.take_append_of_le_length (by omega), List.take_of_length_le (by omega), List.drop_append_of_le_length (by omega),
      List.drop_of_length_le (by omega)]
    simp [leNat_leBytes_of_lt hw]
    exact ih g (by simp at hf; omega) (fun x hx => hb x (by simp [hx]))

theorem length_words (words : List Nat) : ((words.map (leBytes 8)).flatten).length = 8 * words.length := by
  induction words with
  | nil => rfl
  | cons w r ih => simp [ih]; omega

theorem performWrite_chartLoad (s : State) {first : Nat} {words : List Nat} (hf : first < 2 ^ 16) (hw : ∀ w ∈ words, w < 2 ^ 64) :
    s.performWrite Obj.CHART_LOAD (leBytes 2 first ++ (words.map (leBytes 8)).flatten) = s.writeChartLoad first words := by
  have l := length_words words
  have n : (leBytes 2 first ++ (words.map (leBytes 8)).flatten).length = 2 + 8 * words.length := by simp [l]
  have a : (objRow Obj.CHART_LOAD).acc ≠ .rwp := by decide
  have f : s.writeChartLoadBytes (leBytes 2 first ++ (words.map (leBytes 8)).flatten) = s.writeChartLoad first words := by
    unfold State.writeChartLoadBytes
    rw [n, if_neg (by omega)]
    have t : (leBytes 2 first ++ (words.map (leBytes 8)).flatten).take 2 = leBytes 2 first := by simp
    have d : (leBytes 2 first ++ (words.map (leBytes 8)).flatten).drop 2 = (words.map (leBytes 8)).flatten := by simp
    rw [t, d, leNat_leBytes_of_lt (by omega), chunks_words words _ (by omega) hw]
  unfold State.performWrite State.writeFitted
  simp [lengthFits, show keptKey Obj.CHART_LOAD = false by decide, a, f]

end Sys2Proof.Machine
end

