-- ==== Sys2Proof/Laws/Requests.lean ====
section
/-! SUPPORT. What a granted request of the dictionary protocol comes to: its own work on the state that has heard it, answered. -/

namespace Sys2Proof.Machine

theorem inRange_of {i n : Nat} (h : i < n) (key : Nat) : inRange i n key = key := if_pos h

/-- A write that falls into no cycle of a reset or a wake is a write like any other. -/
@[simp] theorem writeExpWith_alone (q : HdpReq) : writeExpWith q false = writeExpWork q := rfl

@[simp] theorem State.writeCommandWith_alone (s : State) (h : Hdr) (key v : Nat) : s.writeCommandWith h key v false = s.writeCommand h key v :=
  rfl

@[simp] theorem State.hmuWork_obj (s : State) (k : Nat) : s.hmuWork.obj k = s.obj k := rfl

theorem State.takeCounter_dict (s : State) (q : HdpReq) : (s.takeCounter q).dict = s.dict := by
  unfold State.takeCounter State.setRoleKey
  dsimp only
  split
  · split <;> rfl
  · rfl

@[simp] theorem State.heard_obj (s : State) (q : HdpReq) (k : Nat) : (s.heard q).obj k = s.obj k := by
  unfold State.heard State.obj
  rw [State.takeCounter_dict]
  rfl

@[simp] theorem State.noteCode_ok (s : State) (q : HdpReq) : s.noteCode q 0 = s := by simp [State.noteCode]

theorem finish_answered (w : Served) (q : HdpReq) (hc : w.code = 0) (hs : w.silent = false) :
    w.finish q true = w.state.answered q w.segno w.payload := by
  simp [Served.finish, State.answered, hc, hs]

theorem finish_silent (w : Served) (q : HdpReq) (hc : w.code = 0) (hs : w.silent = true) : w.finish q false = w.state.cache q none := by
  simp [Served.finish, hc, hs]

theorem finish_replied (w : Served) (q : HdpReq) (hc : w.code = 0) (hs : w.silent = false) (hp : w.payload = []) :
    w.finish q false = w.state.replied q w.segno := by
  simp [Served.finish, State.replied, hc, hs, hp]

theorem hdpReceive_heard {s : State} {q : HdpReq} (g : s.Hears q) (counts : Bool) (work : State → Served) :
    s.hdpReceive q counts work = (work (s.heard q)).finish q counts := by
  have v := g.version
  have t : ¬ 12 ≤ q.typ := by have := g.typ; omega
  have d : ¬ (q.hdr.dev ≠ 0xFFFF ∧ q.hdr.dev ≠ (s.hmuWork.takeCounter q).selfId) := by
    have := g.addressed; unfold State.heard at this; tauto
  simp [State.hdpReceive, g.up, g.serves, g.datagram, g.formed, g.room, v, t, g.firmware, State.takeIn, g.authentic, d, State.heard]

theorem roleOf_heard {s : State} {q : HdpReq} (h : s.obj Obj.START_STATE ≠ 1) : (s.heard q).roleOf q = q.hdr.role := by
  simp [State.roleOf, h]

theorem reqKey_write (h : Hdr) (key v : Nat) : reqKey (writeReq h key v) = key := by
  show key / 256 * 256 + key % 256 = key
  omega

theorem reqKey_blob (h : Hdr) (key n : Nat) : reqKey (blobReq h key n) = key := by
  show key / 256 * 256 + key % 256 = key
  omega

/-- A granted write of a value: what the object's own operation makes of it, answered. -/
theorem writeCommand_answered {s u : State} {h : Hdr} {key n v : Nat} (g : s.GrantsWrite h key v) (hn : (objRow key).size = n)
    (e : (s.heardWrite h key v).performWrite key (leBytes n v) = (u, 0)) :
    s.writeCommand h key v = u.answered (writeReq h key v) 0 [] := by
  have k := reqKey_write h key v
  have p : (writeReq h key v).payload = leBytes n v := by rw [← hn]; rfl
  have o := g.object
  rw [k] at o
  unfold State.heardWrite at e
  simp only [State.writeCommand]
  rw [hdpReceive_heard g.toHears, finish_answered] <;>
    simp [writeExpWork, roleOf_heard g.firmware, k, p, e, served, show (writeReq h key v).hdr = h from rfl,
      show (s.heard (writeReq h key v)).objectCode key h.role true (some false) = 0 from o]

/-- A granted write of a value, with all that follows. -/
theorem writeCommand_granted {s u : State} {h : Hdr} {key n v : Nat} (g : s.GrantsWrite h key v) (hn : (objRow key).size = n)
    (e : (s.heardWrite h key v).performWrite key (leBytes n v) = (u, 0)) : (s.writeCommand h key v).after = u.wrote h key v := by
  rw [writeCommand_answered g hn e]
  rfl

/-- A granted segmented write: what the object's own operation makes of its bytes, answered twice. -/
theorem blobCommand_granted {s u : State} {h : Hdr} {key : Nat} {l : List Byte} (g : s.GrantsBlob h key l.length)
    (e : (s.heardBlob h key l.length).performWrite key l = (u, 0)) : (s.blobCommand h key l).after = u.wroteBlob h key l.length := by
  have k := reqKey_blob h key l.length
  have o := g.granted.object
  rw [k] at o
  have a := g.slot
  have b := g.alone
  unfold State.heardBlob at e
  have f : blobWork (blobReq h key l.length) l (s.heard (blobReq h key l.length)) =
      { served (u, 0) with segno := segCount l.length - 1 } := by
    unfold blobWork
    rw [roleOf_heard g.granted.firmware, k]
    simp only [show (s.heard (blobReq h key l.length)).objectCode key (blobReq h key l.length).hdr.role true (some true) = 0 from o]
    rw [if_neg (by simp), if_neg (by
      rw [Option.isSome_iff_ne_none] at a
      simp [Option.isNone_iff_eq_none, a, b]), e]
  simp only [State.blobCommand, State.wroteBlob]
  rw [hdpReceive_heard g.granted.toHears, f, finish_answered] <;> rfl

/-- A request that its connection accepts is performed once its place in the connection is taken. -/
theorem State.hostRequest_accepts {s : State} {op : HostOp} {m : HostMsg} (g : s.HostAccepts op m) (together : Bool) :
    s.hostRequest op m together = ((s.hostHeard m).takePsn op m).hostAccept op m together := by
  have n := g.next
  have c := g.code
  simp only [State.hostHeard] at n c ⊢
  simp only [State.hostRequest, g.hears, g.frame, Bool.not_true, Bool.false_eq_true, or_self, if_false, n, if_true, State.hostFresh, c, ne_eq,
    not_true_eq_false]

/-- A command that is a write of a value completes where the object's operation takes the value. -/
theorem WriteCompletes.of {c : Instr} {s : State} {h : Hdr} {key n v : Nat} {ok : State → Prop} {effect : State → State}
    (hx : exec c s = settled (.next (s.writeCommand h key v))) (hn : (objRow key).size = n)
    (he : ∀ u, ok u → u.performWrite key (leBytes n v) = (effect u, 0)) : WriteCompletes c s h key v ok effect := by
  intro g k
  rw [hx, writeCommand_answered g hn (he _ k)]
  rfl

/-- A clearing command completes where the object's operation takes the mask. -/
theorem ClearCompletes.of {c : Instr} {s : State} {h : Hdr} {key n : Nat} {m : ClearMask} {effect : State → State} {sets : State → Nat → State}
    (hx : exec c s = clearCommand h key m sets s) (hn : (objRow key).size = n)
    (he : ∀ u, u.performWrite key (leBytes n m.mask) = (effect u, 0)) : ClearCompletes c s h key m effect sets := by
  intro g
  rw [hx, clearCommand, writeCommand_answered g hn (he _)]
  rfl

/-- A command that is a segmented write completes where the object's operation takes the bytes. -/
theorem BlobCompletes.of {c : Instr} {s : State} {h : Hdr} {key : Nat} {l : List Byte} {ok : State → Prop} {effect : State → State}
    (hx : exec c s = settled (.next (s.blobCommand h key l))) (he : ∀ u, ok u → u.performWrite key l = (effect u, 0)) :
    BlobCompletes c s h key l ok effect := by
  intro g k
  rw [hx, ← blobCommand_granted g (he _ k)]
  rfl

end Sys2Proof.Machine
end

