-- ==== Sys2Proof/Laws/State.lean ====
section
/-! SUPPORT. What each named update of the state leaves of each field and each reading, and what it puts in its own place. -/

namespace Sys2Proof.Machine

/-! ### Readings of what an update has written -/

theorem State.obj_setObj (s : State) (k v j : Nat) : (s.setObj k v).obj j = if j = k then v else s.obj j := by
  unfold State.setObj State.obj; simp

@[simp] theorem State.obj_setObj_self (s : State) (k v : Nat) : (s.setObj k v).obj k = v := by simp [State.obj_setObj]

theorem State.obj_setObj_other (s : State) {k v j : Nat} (h : j ≠ k) : (s.setObj k v).obj j = s.obj j := by simp [State.obj_setObj, h]

theorem State.byte_setBytes_outside (s : State) {a j : Nat} (l : List Byte) (h : j < a ∨ a + l.length ≤ j) :
    (s.setBytes a l).byte j = s.byte j := by
  unfold State.setBytes State.byte
  rw [Sparse.get_setRun, dif_neg (by omega)]

theorem State.byte_setBytes_inside (s : State) {a j : Nat} (l : List Byte) (h : j < l.length) : (s.setBytes a l).byte (a + j) = l[j] := by
  unfold State.setBytes State.byte
  rw [Sparse.get_setRun, dif_pos (by omega)]
  simp

@[simp] theorem State.setObjs_nil (s : State) : s.setObjs [] = s := rfl

@[simp] theorem State.setObjs_cons (s : State) (k v : Nat) (r : List (Nat × Nat)) : s.setObjs ((k, v) :: r) = (s.setObj k v).setObjs r := rfl

theorem State.obj_setObjs_other (s : State) (l : List (Nat × Nat)) {j : Nat} (h : ∀ e ∈ l, e.1 ≠ j) : (s.setObjs l).obj j = s.obj j := by
  induction l generalizing s with
  | nil => rfl
  | cons e l ih =>
    obtain ⟨k, v⟩ := e
    rw [State.setObjs_cons, ih _ (fun x m => h x (List.mem_cons_of_mem _ m)), State.obj_setObj_other]
    exact (h _ (List.mem_cons_self ..)).symm

theorem State.core_setCore (s : State) (n : Nat) (c : Core) (j : Nat) : (s.setCore n c).core j = if j = n then c else s.core j := by
  unfold State.setCore State.core; simp

theorem State.wp_setWp (s : State) (n : Nat) (c : Wp) (j : Nat) : (s.setWp n c).wp j = if j = n then c else s.wp j := by
  unfold State.setWp State.wp; simp

theorem State.chart_setChart (s : State) (n : Nat) (c : Chart) (j : Nat) : (s.setChart n c).chart j = if j = n then c else s.chart j := by
  unfold State.setChart State.chart; simp

theorem State.port_setPort (s : State) (n : Nat) (c : Port) (j : Nat) : (s.setPort n c).port j = if j = n then c else s.port j := by
  unfold State.setPort State.port; simp

theorem State.conn_setConn (s : State) (n : Nat) (c : HostConn) (j : Nat) : (s.setConn n c).conn j = if j = n then c else s.conn j := by
  unfold State.setConn State.conn; simp

theorem State.ctx_setCtx (s : State) (n : Nat) (c : Ctx) (j : Nat) : (s.setCtx n c).ctx j = if j = n then c else s.ctx j := by
  unfold State.setCtx State.ctx; simp

/-! ### Fields and readings that an update leaves -/

@[simp] theorem State.setObj_pending (s : State) (k v : Nat) : (s.setObj k v).pending = s.pending := rfl
@[simp] theorem State.setObj_now (s : State) (k v : Nat) : (s.setObj k v).now = s.now := rfl
@[simp] theorem State.setObj_free (s : State) (k v : Nat) : (s.setObj k v).free = s.free := rfl
@[simp] theorem State.setObj_posts (s : State) (k v : Nat) : (s.setObj k v).posts = s.posts := rfl
@[simp] theorem State.setObj_mem (s : State) (k v : Nat) : (s.setObj k v).mem = s.mem := rfl
@[simp] theorem State.setObj_tb (s : State) (k v : Nat) : (s.setObj k v).tb = s.tb := rfl
@[simp] theorem State.setObj_errs (s : State) (k v : Nat) : (s.setObj k v).errs = s.errs := rfl
@[simp] theorem State.setObj_cores (s : State) (k v : Nat) : (s.setObj k v).cores = s.cores := rfl
@[simp] theorem State.setObj_wps (s : State) (k v : Nat) : (s.setObj k v).wps = s.wps := rfl
@[simp] theorem State.setObj_waiters (s : State) (k v : Nat) : (s.setObj k v).waiters = s.waiters := rfl
@[simp] theorem State.setObj_timed (s : State) (k v : Nat) : (s.setObj k v).timed = s.timed := rfl
@[simp] theorem State.setObj_timedHeld (s : State) (k v : Nat) : (s.setObj k v).timedHeld = s.timedHeld := rfl
@[simp] theorem State.setObj_chr (s : State) (k v : Nat) : (s.setObj k v).chr = s.chr := rfl
@[simp] theorem State.setObj_charts (s : State) (k v : Nat) : (s.setObj k v).charts = s.charts := rfl
@[simp] theorem State.setObj_switchAt (s : State) (k v : Nat) : (s.setObj k v).switchAt = s.switchAt := rfl
@[simp] theorem State.setObj_fans (s : State) (k v : Nat) : (s.setObj k v).fans = s.fans := rfl
@[simp] theorem State.setObj_txFlows (s : State) (k v : Nat) : (s.setObj k v).txFlows = s.txFlows := rfl
@[simp] theorem State.setObj_rxFlows (s : State) (k v : Nat) : (s.setObj k v).rxFlows = s.rxFlows := rfl
@[simp] theorem State.setObj_ports (s : State) (k v : Nat) : (s.setObj k v).ports = s.ports := rfl
@[simp] theorem State.setObj_spares (s : State) (k v : Nat) : (s.setObj k v).spares = s.spares := rfl
@[simp] theorem State.setObj_routerQ (s : State) (k v : Nat) : (s.setObj k v).routerQ = s.routerQ := rfl
@[simp] theorem State.setObj_held (s : State) (k v : Nat) : (s.setObj k v).held = s.held := rfl
@[simp] theorem State.setObj_rowCe (s : State) (k v : Nat) : (s.setObj k v).rowCe = s.rowCe := rfl
@[simp] theorem State.setObj_laneCe (s : State) (k v : Nat) : (s.setObj k v).laneCe = s.laneCe := rfl
@[simp] theorem State.setObj_marked (s : State) (k v : Nat) : (s.setObj k v).marked = s.marked := rfl
@[simp] theorem State.setObj_remaps (s : State) (k v : Nat) : (s.setObj k v).remaps = s.remaps := rfl
@[simp] theorem State.setObj_lanesPending (s : State) (k v : Nat) : (s.setObj k v).lanesPending = s.lanesPending := rfl
@[simp] theorem State.setObj_lanesRepaired (s : State) (k v : Nat) : (s.setObj k v).lanesRepaired = s.lanesRepaired := rfl
@[simp] theorem State.setObj_postponed (s : State) (k v : Nat) : (s.setObj k v).postponed = s.postponed := rfl
@[simp] theorem State.setObj_stackUnits (s : State) (k v : Nat) : (s.setObj k v).stackUnits = s.stackUnits := rfl
@[simp] theorem State.setObj_sextant (s : State) (k v : Nat) : (s.setObj k v).sextant = s.sextant := rfl
@[simp] theorem State.setObj_chrU (s : State) (k v : Nat) : (s.setObj k v).chrU = s.chrU := rfl
@[simp] theorem State.setObj_ctxs (s : State) (k v : Nat) : (s.setObj k v).ctxs = s.ctxs := rfl
@[simp] theorem State.setObj_stepU (s : State) (k v : Nat) : (s.setObj k v).stepU = s.stepU := rfl
@[simp] theorem State.setObj_fixU (s : State) (k v : Nat) : (s.setObj k v).fixU = s.fixU := rfl
@[simp] theorem State.setObj_power (s : State) (k v : Nat) : (s.setObj k v).power = s.power := rfl
@[simp] theorem State.setObj_health (s : State) (k v : Nat) : (s.setObj k v).health = s.health := rfl
@[simp] theorem State.setObj_hosts (s : State) (k v : Nat) : (s.setObj k v).hosts = s.hosts := rfl
@[simp] theorem State.setObj_hmu (s : State) (k v : Nat) : (s.setObj k v).hmu = s.hmu := rfl
@[simp] theorem State.setObj_fw (s : State) (k v : Nat) : (s.setObj k v).fw = s.fw := rfl
@[simp] theorem State.setObj_beaconDue (s : State) (k v : Nat) : (s.setObj k v).beaconDue = s.beaconDue := rfl
@[simp] theorem State.setObj_drift (s : State) (k v : Nat) : (s.setObj k v).drift = s.drift := rfl
@[simp] theorem State.setObj_out (s : State) (k v : Nat) : (s.setObj k v).out = s.out := rfl
@[simp] theorem State.setObj_events (s : State) (k v : Nat) : (s.setObj k v).events = s.events := rfl
@[simp] theorem State.setObj_violations (s : State) (k v : Nat) : (s.setObj k v).violations = s.violations := rfl
@[simp] theorem State.core_setObj (s : State) (k v : Nat) (j : Nat) : (s.setObj k v).core j = s.core j := rfl
@[simp] theorem State.wp_setObj (s : State) (k v : Nat) (j : Nat) : (s.setObj k v).wp j = s.wp j := rfl
@[simp] theorem State.chart_setObj (s : State) (k v : Nat) (j : Nat) : (s.setObj k v).chart j = s.chart j := rfl
@[simp] theorem State.port_setObj (s : State) (k v : Nat) (j : Nat) : (s.setObj k v).port j = s.port j := rfl
@[simp] theorem State.byte_setObj (s : State) (k v : Nat) (j : Nat) : (s.setObj k v).byte j = s.byte j := rfl
@[simp] theorem State.bytes_setObj (s : State) (k v : Nat) (j r : Nat) : (s.setObj k v).bytes j r = s.bytes j r := rfl
@[simp] theorem State.conn_setObj (s : State) (k v : Nat) (j : Nat) : (s.setObj k v).conn j = s.conn j := rfl
@[simp] theorem State.ctx_setObj (s : State) (k v : Nat) (j : Nat) : (s.setObj k v).ctx j = s.ctx j := rfl

@[simp] theorem State.setCore_pending (s : State) (n : Nat) (c : Core) : (s.setCore n c).pending = s.pending := rfl
@[simp] theorem State.setCore_now (s : State) (n : Nat) (c : Core) : (s.setCore n c).now = s.now := rfl
@[simp] theorem State.setCore_free (s : State) (n : Nat) (c : Core) : (s.setCore n c).free = s.free := rfl
@[simp] theorem State.setCore_posts (s : State) (n : Nat) (c : Core) : (s.setCore n c).posts = s.posts := rfl
@[simp] theorem State.setCore_dict (s : State) (n : Nat) (c : Core) : (s.setCore n c).dict = s.dict := rfl
@[simp] theorem State.setCore_mem (s : State) (n : Nat) (c : Core) : (s.setCore n c).mem = s.mem := rfl
@[simp] theorem State.setCore_tb (s : State) (n : Nat) (c : Core) : (s.setCore n c).tb = s.tb := rfl
@[simp] theorem State.setCore_errs (s : State) (n : Nat) (c : Core) : (s.setCore n c).errs = s.errs := rfl
@[simp] theorem State.setCore_wps (s : State) (n : Nat) (c : Core) : (s.setCore n c).wps = s.wps := rfl
@[simp] theorem State.setCore_waiters (s : State) (n : Nat) (c : Core) : (s.setCore n c).waiters = s.waiters := rfl
@[simp] theorem State.setCore_timed (s : State) (n : Nat) (c : Core) : (s.setCore n c).timed = s.timed := rfl
@[simp] theorem State.setCore_timedHeld (s : State) (n : Nat) (c : Core) : (s.setCore n c).timedHeld = s.timedHeld := rfl
@[simp] theorem State.setCore_chr (s : State) (n : Nat) (c : Core) : (s.setCore n c).chr = s.chr := rfl
@[simp] theorem State.setCore_charts (s : State) (n : Nat) (c : Core) : (s.setCore n c).charts = s.charts := rfl
@[simp] theorem State.setCore_switchAt (s : State) (n : Nat) (c : Core) : (s.setCore n c).switchAt = s.switchAt := rfl
@[simp] theorem State.setCore_fans (s : State) (n : Nat) (c : Core) : (s.setCore n c).fans = s.fans := rfl
@[simp] theorem State.setCore_txFlows (s : State) (n : Nat) (c : Core) : (s.setCore n c).txFlows = s.txFlows := rfl
@[simp] theorem State.setCore_rxFlows (s : State) (n : Nat) (c : Core) : (s.setCore n c).rxFlows = s.rxFlows := rfl
@[simp] theorem State.setCore_ports (s : State) (n : Nat) (c : Core) : (s.setCore n c).ports = s.ports := rfl
@[simp] theorem State.setCore_spares (s : State) (n : Nat) (c : Core) : (s.setCore n c).spares = s.spares := rfl
@[simp] theorem State.setCore_routerQ (s : State) (n : Nat) (c : Core) : (s.setCore n c).routerQ = s.routerQ := rfl
@[simp] theorem State.setCore_held (s : State) (n : Nat) (c : Core) : (s.setCore n c).held = s.held := rfl
@[simp] theorem State.setCore_rowCe (s : State) (n : Nat) (c : Core) : (s.setCore n c).rowCe = s.rowCe := rfl
@[simp] theorem State.setCore_laneCe (s : State) (n : Nat) (c : Core) : (s.setCore n c).laneCe = s.laneCe := rfl
@[simp] theorem State.setCore_marked (s : State) (n : Nat) (c : Core) : (s.setCore n c).marked = s.marked := rfl
@[simp] theorem State.setCore_remaps (s : State) (n : Nat) (c : Core) : (s.setCore n c).remaps = s.remaps := rfl
@[simp] theorem State.setCore_lanesPending (s : State) (n : Nat) (c : Core) : (s.setCore n c).lanesPending = s.lanesPending := rfl
@[simp] theorem State.setCore_lanesRepaired (s : State) (n : Nat) (c : Core) : (s.setCore n c).lanesRepaired = s.lanesRepaired := rfl
@[simp] theorem State.setCore_postponed (s : State) (n : Nat) (c : Core) : (s.setCore n c).postponed = s.postponed := rfl
@[simp] theorem State.setCore_stackUnits (s : State) (n : Nat) (c : Core) : (s.setCore n c).stackUnits = s.stackUnits := rfl
@[simp] theorem State.setCore_sextant (s : State) (n : Nat) (c : Core) : (s.setCore n c).sextant = s.sextant := rfl
@[simp] theorem State.setCore_chrU (s : State) (n : Nat) (c : Core) : (s.setCore n c).chrU = s.chrU := rfl
@[simp] theorem State.setCore_ctxs (s : State) (n : Nat) (c : Core) : (s.setCore n c).ctxs = s.ctxs := rfl
@[simp] theorem State.setCore_stepU (s : State) (n : Nat) (c : Core) : (s.setCore n c).stepU = s.stepU := rfl
@[simp] theorem State.setCore_fixU (s : State) (n : Nat) (c : Core) : (s.setCore n c).fixU = s.fixU := rfl
@[simp] theorem State.setCore_power (s : State) (n : Nat) (c : Core) : (s.setCore n c).power = s.power := rfl
@[simp] theorem State.setCore_health (s : State) (n : Nat) (c : Core) : (s.setCore n c).health = s.health := rfl
@[simp] theorem State.setCore_hosts (s : State) (n : Nat) (c : Core) : (s.setCore n c).hosts = s.hosts := rfl
@[simp] theorem State.setCore_hmu (s : State) (n : Nat) (c : Core) : (s.setCore n c).hmu = s.hmu := rfl
@[simp] theorem State.setCore_fw (s : State) (n : Nat) (c : Core) : (s.setCore n c).fw = s.fw := rfl
@[simp] theorem State.setCore_beaconDue (s : State) (n : Nat) (c : Core) : (s.setCore n c).beaconDue = s.beaconDue := rfl
@[simp] theorem State.setCore_drift (s : State) (n : Nat) (c : Core) : (s.setCore n c).drift = s.drift := rfl
@[simp] theorem State.setCore_out (s : State) (n : Nat) (c : Core) : (s.setCore n c).out = s.out := rfl
@[simp] theorem State.setCore_events (s : State) (n : Nat) (c : Core) : (s.setCore n c).events = s.events := rfl
@[simp] theorem State.setCore_violations (s : State) (n : Nat) (c : Core) : (s.setCore n c).violations = s.violations := rfl
@[simp] theorem State.obj_setCore (s : State) (n : Nat) (c : Core) (j : Nat) : (s.setCore n c).obj j = s.obj j := rfl
@[simp] theorem State.coreSt_setCore (s : State) (n : Nat) (c : Core) (j : Nat) : (s.setCore n c).coreSt j = s.coreSt j := rfl
@[simp] theorem State.wp_setCore (s : State) (n : Nat) (c : Core) (j : Nat) : (s.setCore n c).wp j = s.wp j := rfl
@[simp] theorem State.chart_setCore (s : State) (n : Nat) (c : Core) (j : Nat) : (s.setCore n c).chart j = s.chart j := rfl
@[simp] theorem State.port_setCore (s : State) (n : Nat) (c : Core) (j : Nat) : (s.setCore n c).port j = s.port j := rfl
@[simp] theorem State.byte_setCore (s : State) (n : Nat) (c : Core) (j : Nat) : (s.setCore n c).byte j = s.byte j := rfl
@[simp] theorem State.bytes_setCore (s : State) (n : Nat) (c : Core) (j r : Nat) : (s.setCore n c).bytes j r = s.bytes j r := rfl
@[simp] theorem State.conn_setCore (s : State) (n : Nat) (c : Core) (j : Nat) : (s.setCore n c).conn j = s.conn j := rfl
@[simp] theorem State.ctx_setCore (s : State) (n : Nat) (c : Core) (j : Nat) : (s.setCore n c).ctx j = s.ctx j := rfl

@[simp] theorem State.setWp_pending (s : State) (i : Nat) (w : Wp) : (s.setWp i w).pending = s.pending := rfl
@[simp] theorem State.setWp_now (s : State) (i : Nat) (w : Wp) : (s.setWp i w).now = s.now := rfl
@[simp] theorem State.setWp_free (s : State) (i : Nat) (w : Wp) : (s.setWp i w).free = s.free := rfl
@[simp] theorem State.setWp_posts (s : State) (i : Nat) (w : Wp) : (s.setWp i w).posts = s.posts := rfl
@[simp] theorem State.setWp_dict (s : State) (i : Nat) (w : Wp) : (s.setWp i w).dict = s.dict := rfl
@[simp] theorem State.setWp_mem (s : State) (i : Nat) (w : Wp) : (s.setWp i w).mem = s.mem := rfl
@[simp] theorem State.setWp_tb (s : State) (i : Nat) (w : Wp) : (s.setWp i w).tb = s.tb := rfl
@[simp] theorem State.setWp_errs (s : State) (i : Nat) (w : Wp) : (s.setWp i w).errs = s.errs := rfl
@[simp] theorem State.setWp_cores (s : State) (i : Nat) (w : Wp) : (s.setWp i w).cores = s.cores := rfl
@[simp] theorem State.setWp_waiters (s : State) (i : Nat) (w : Wp) : (s.setWp i w).waiters = s.waiters := rfl
@[simp] theorem State.setWp_timed (s : State) (i : Nat) (w : Wp) : (s.setWp i w).timed = s.timed := rfl
@[simp] theorem State.setWp_timedHeld (s : State) (i : Nat) (w : Wp) : (s.setWp i w).timedHeld = s.timedHeld := rfl
@[simp] theorem State.setWp_chr (s : State) (i : Nat) (w : Wp) : (s.setWp i w).chr = s.chr := rfl
@[simp] theorem State.setWp_charts (s : State) (i : Nat) (w : Wp) : (s.setWp i w).charts = s.charts := rfl
@[simp] theorem State.setWp_switchAt (s : State) (i : Nat) (w : Wp) : (s.setWp i w).switchAt = s.switchAt := rfl
@[simp] theorem State.setWp_fans (s : State) (i : Nat) (w : Wp) : (s.setWp i w).fans = s.fans := rfl
@[simp] theorem State.setWp_txFlows (s : State) (i : Nat) (w : Wp) : (s.setWp i w).txFlows = s.txFlows := rfl
@[simp] theorem State.setWp_rxFlows (s : State) (i : Nat) (w : Wp) : (s.setWp i w).rxFlows = s.rxFlows := rfl
@[simp] theorem State.setWp_ports (s : State) (i : Nat) (w : Wp) : (s.setWp i w).ports = s.ports := rfl
@[simp] theorem State.setWp_spares (s : State) (i : Nat) (w : Wp) : (s.setWp i w).spares = s.spares := rfl
@[simp] theorem State.setWp_routerQ (s : State) (i : Nat) (w : Wp) : (s.setWp i w).routerQ = s.routerQ := rfl
@[simp] theorem State.setWp_held (s : State) (i : Nat) (w : Wp) : (s.setWp i w).held = s.held := rfl
@[simp] theorem State.setWp_rowCe (s : State) (i : Nat) (w : Wp) : (s.setWp i w).rowCe = s.rowCe := rfl
@[simp] theorem State.setWp_laneCe (s : State) (i : Nat) (w : Wp) : (s.setWp i w).laneCe = s.laneCe := rfl
@[simp] theorem State.setWp_marked (s : State) (i : Nat) (w : Wp) : (s.setWp i w).marked = s.marked := rfl
@[simp] theorem State.setWp_remaps (s : State) (i : Nat) (w : Wp) : (s.setWp i w).remaps = s.remaps := rfl
@[simp] theorem State.setWp_lanesPending (s : State) (i : Nat) (w : Wp) : (s.setWp i w).lanesPending = s.lanesPending := rfl
@[simp] theorem State.setWp_lanesRepaired (s : State) (i : Nat) (w : Wp) : (s.setWp i w).lanesRepaired = s.lanesRepaired := rfl
@[simp] theorem State.setWp_postponed (s : State) (i : Nat) (w : Wp) : (s.setWp i w).postponed = s.postponed := rfl
@[simp] theorem State.setWp_stackUnits (s : State) (i : Nat) (w : Wp) : (s.setWp i w).stackUnits = s.stackUnits := rfl
@[simp] theorem State.setWp_sextant (s : State) (i : Nat) (w : Wp) : (s.setWp i w).sextant = s.sextant := rfl
@[simp] theorem State.setWp_chrU (s : State) (i : Nat) (w : Wp) : (s.setWp i w).chrU = s.chrU := rfl
@[simp] theorem State.setWp_ctxs (s : State) (i : Nat) (w : Wp) : (s.setWp i w).ctxs = s.ctxs := rfl
@[simp] theorem State.setWp_stepU (s : State) (i : Nat) (w : Wp) : (s.setWp i w).stepU = s.stepU := rfl
@[simp] theorem State.setWp_fixU (s : State) (i : Nat) (w : Wp) : (s.setWp i w).fixU = s.fixU := rfl
@[simp] theorem State.setWp_power (s : State) (i : Nat) (w : Wp) : (s.setWp i w).power = s.power := rfl
@[simp] theorem State.setWp_health (s : State) (i : Nat) (w : Wp) : (s.setWp i w).health = s.health := rfl
@[simp] theorem State.setWp_hosts (s : State) (i : Nat) (w : Wp) : (s.setWp i w).hosts = s.hosts := rfl
@[simp] theorem State.setWp_hmu (s : State) (i : Nat) (w : Wp) : (s.setWp i w).hmu = s.hmu := rfl
@[simp] theorem State.setWp_fw (s : State) (i : Nat) (w : Wp) : (s.setWp i w).fw = s.fw := rfl
@[simp] theorem State.setWp_beaconDue (s : State) (i : Nat) (w : Wp) : (s.setWp i w).beaconDue = s.beaconDue := rfl
@[simp] theorem State.setWp_drift (s : State) (i : Nat) (w : Wp) : (s.setWp i w).drift = s.drift := rfl
@[simp] theorem State.setWp_out (s : State) (i : Nat) (w : Wp) : (s.setWp i w).out = s.out := rfl
@[simp] theorem State.setWp_events (s : State) (i : Nat) (w : Wp) : (s.setWp i w).events = s.events := rfl
@[simp] theorem State.setWp_violations (s : State) (i : Nat) (w : Wp) : (s.setWp i w).violations = s.violations := rfl
@[simp] theorem State.obj_setWp (s : State) (i : Nat) (w : Wp) (j : Nat) : (s.setWp i w).obj j = s.obj j := rfl
@[simp] theorem State.coreSt_setWp (s : State) (i : Nat) (w : Wp) (j : Nat) : (s.setWp i w).coreSt j = s.coreSt j := rfl
@[simp] theorem State.core_setWp (s : State) (i : Nat) (w : Wp) (j : Nat) : (s.setWp i w).core j = s.core j := rfl
@[simp] theorem State.chart_setWp (s : State) (i : Nat) (w : Wp) (j : Nat) : (s.setWp i w).chart j = s.chart j := rfl
@[simp] theorem State.port_setWp (s : State) (i : Nat) (w : Wp) (j : Nat) : (s.setWp i w).port j = s.port j := rfl
@[simp] theorem State.byte_setWp (s : State) (i : Nat) (w : Wp) (j : Nat) : (s.setWp i w).byte j = s.byte j := rfl
@[simp] theorem State.bytes_setWp (s : State) (i : Nat) (w : Wp) (j r : Nat) : (s.setWp i w).bytes j r = s.bytes j r := rfl
@[simp] theorem State.conn_setWp (s : State) (i : Nat) (w : Wp) (j : Nat) : (s.setWp i w).conn j = s.conn j := rfl
@[simp] theorem State.ctx_setWp (s : State) (i : Nat) (w : Wp) (j : Nat) : (s.setWp i w).ctx j = s.ctx j := rfl

@[simp] theorem State.setChart_pending (s : State) (n : Nat) (c : Chart) : (s.setChart n c).pending = s.pending := rfl
@[simp] theorem State.setChart_now (s : State) (n : Nat) (c : Chart) : (s.setChart n c).now = s.now := rfl
@[simp] theorem State.setChart_free (s : State) (n : Nat) (c : Chart) : (s.setChart n c).free = s.free := rfl
@[simp] theorem State.setChart_posts (s : State) (n : Nat) (c : Chart) : (s.setChart n c).posts = s.posts := rfl
@[simp] theorem State.setChart_dict (s : State) (n : Nat) (c : Chart) : (s.setChart n c).dict = s.dict := rfl
@[simp] theorem State.setChart_mem (s : State) (n : Nat) (c : Chart) : (s.setChart n c).mem = s.mem := rfl
@[simp] theorem State.setChart_tb (s : State) (n : Nat) (c : Chart) : (s.setChart n c).tb = s.tb := rfl
@[simp] theorem State.setChart_errs (s : State) (n : Nat) (c : Chart) : (s.setChart n c).errs = s.errs := rfl
@[simp] theorem State.setChart_cores (s : State) (n : Nat) (c : Chart) : (s.setChart n c).cores = s.cores := rfl
@[simp] theorem State.setChart_wps (s : State) (n : Nat) (c : Chart) : (s.setChart n c).wps = s.wps := rfl
@[simp] theorem State.setChart_waiters (s : State) (n : Nat) (c : Chart) : (s.setChart n c).waiters = s.waiters := rfl
@[simp] theorem State.setChart_timed (s : State) (n : Nat) (c : Chart) : (s.setChart n c).timed = s.timed := rfl
@[simp] theorem State.setChart_timedHeld (s : State) (n : Nat) (c : Chart) : (s.setChart n c).timedHeld = s.timedHeld := rfl
@[simp] theorem State.setChart_chr (s : State) (n : Nat) (c : Chart) : (s.setChart n c).chr = s.chr := rfl
@[simp] theorem State.setChart_switchAt (s : State) (n : Nat) (c : Chart) : (s.setChart n c).switchAt = s.switchAt := rfl
@[simp] theorem State.setChart_fans (s : State) (n : Nat) (c : Chart) : (s.setChart n c).fans = s.fans := rfl
@[simp] theorem State.setChart_txFlows (s : State) (n : Nat) (c : Chart) : (s.setChart n c).txFlows = s.txFlows := rfl
@[simp] theorem State.setChart_rxFlows (s : State) (n : Nat) (c : Chart) : (s.setChart n c).rxFlows = s.rxFlows := rfl
@[simp] theorem State.setChart_ports (s : State) (n : Nat) (c : Chart) : (s.setChart n c).ports = s.ports := rfl
@[simp] theorem State.setChart_spares (s : State) (n : Nat) (c : Chart) : (s.setChart n c).spares = s.spares := rfl
@[simp] theorem State.setChart_routerQ (s : State) (n : Nat) (c : Chart) : (s.setChart n c).routerQ = s.routerQ := rfl
@[simp] theorem State.setChart_held (s : State) (n : Nat) (c : Chart) : (s.setChart n c).held = s.held := rfl
@[simp] theorem State.setChart_rowCe (s : State) (n : Nat) (c : Chart) : (s.setChart n c).rowCe = s.rowCe := rfl
@[simp] theorem State.setChart_laneCe (s : State) (n : Nat) (c : Chart) : (s.setChart n c).laneCe = s.laneCe := rfl
@[simp] theorem State.setChart_marked (s : State) (n : Nat) (c : Chart) : (s.setChart n c).marked = s.marked := rfl
@[simp] theorem State.setChart_remaps (s : State) (n : Nat) (c : Chart) : (s.setChart n c).remaps = s.remaps := rfl
@[simp] theorem State.setChart_lanesPending (s : State) (n : Nat) (c : Chart) : (s.setChart n c).lanesPending = s.lanesPending := rfl
@[simp] theorem State.setChart_lanesRepaired (s : State) (n : Nat) (c : Chart) : (s.setChart n c).lanesRepaired = s.lanesRepaired := rfl
@[simp] theorem State.setChart_postponed (s : State) (n : Nat) (c : Chart) : (s.setChart n c).postponed = s.postponed := rfl
@[simp] theorem State.setChart_stackUnits (s : State) (n : Nat) (c : Chart) : (s.setChart n c).stackUnits = s.stackUnits := rfl
@[simp] theorem State.setChart_sextant (s : State) (n : Nat) (c : Chart) : (s.setChart n c).sextant = s.sextant := rfl
@[simp] theorem State.setChart_chrU (s : State) (n : Nat) (c : Chart) : (s.setChart n c).chrU = s.chrU := rfl
@[simp] theorem State.setChart_ctxs (s : State) (n : Nat) (c : Chart) : (s.setChart n c).ctxs = s.ctxs := rfl
@[simp] theorem State.setChart_stepU (s : State) (n : Nat) (c : Chart) : (s.setChart n c).stepU = s.stepU := rfl
@[simp] theorem State.setChart_fixU (s : State) (n : Nat) (c : Chart) : (s.setChart n c).fixU = s.fixU := rfl
@[simp] theorem State.setChart_power (s : State) (n : Nat) (c : Chart) : (s.setChart n c).power = s.power := rfl
@[simp] theorem State.setChart_health (s : State) (n : Nat) (c : Chart) : (s.setChart n c).health = s.health := rfl
@[simp] theorem State.setChart_hosts (s : State) (n : Nat) (c : Chart) : (s.setChart n c).hosts = s.hosts := rfl
@[simp] theorem State.setChart_hmu (s : State) (n : Nat) (c : Chart) : (s.setChart n c).hmu = s.hmu := rfl
@[simp] theorem State.setChart_fw (s : State) (n : Nat) (c : Chart) : (s.setChart n c).fw = s.fw := rfl
@[simp] theorem State.setChart_beaconDue (s : State) (n : Nat) (c : Chart) : (s.setChart n c).beaconDue = s.beaconDue := rfl
@[simp] theorem State.setChart_drift (s : State) (n : Nat) (c : Chart) : (s.setChart n c).drift = s.drift := rfl
@[simp] theorem State.setChart_out (s : State) (n : Nat) (c : Chart) : (s.setChart n c).out = s.out := rfl
@[simp] theorem State.setChart_events (s : State) (n : Nat) (c : Chart) : (s.setChart n c).events = s.events := rfl
@[simp] theorem State.setChart_violations (s : State) (n : Nat) (c : Chart) : (s.setChart n c).violations = s.violations := rfl
@[simp] theorem State.obj_setChart (s : State) (n : Nat) (c : Chart) (j : Nat) : (s.setChart n c).obj j = s.obj j := rfl
@[simp] theorem State.coreSt_setChart (s : State) (n : Nat) (c : Chart) (j : Nat) : (s.setChart n c).coreSt j = s.coreSt j := rfl
@[simp] theorem State.core_setChart (s : State) (n : Nat) (c : Chart) (j : Nat) : (s.setChart n c).core j = s.core j := rfl
@[simp] theorem State.wp_setChart (s : State) (n : Nat) (c : Chart) (j : Nat) : (s.setChart n c).wp j = s.wp j := rfl
@[simp] theorem State.port_setChart (s : State) (n : Nat) (c : Chart) (j : Nat) : (s.setChart n c).port j = s.port j := rfl
@[simp] theorem State.byte_setChart (s : State) (n : Nat) (c : Chart) (j : Nat) : (s.setChart n c).byte j = s.byte j := rfl
@[simp] theorem State.bytes_setChart (s : State) (n : Nat) (c : Chart) (j r : Nat) : (s.setChart n c).bytes j r = s.bytes j r := rfl
@[simp] theorem State.conn_setChart (s : State) (n : Nat) (c : Chart) (j : Nat) : (s.setChart n c).conn j = s.conn j := rfl
@[simp] theorem State.ctx_setChart (s : State) (n : Nat) (c : Chart) (j : Nat) : (s.setChart n c).ctx j = s.ctx j := rfl

@[simp] theorem State.setPort_pending (s : State) (n : Nat) (p : Port) : (s.setPort n p).pending = s.pending := rfl
@[simp] theorem State.setPort_now (s : State) (n : Nat) (p : Port) : (s.setPort n p).now = s.now := rfl
@[simp] theorem State.setPort_free (s : State) (n : Nat) (p : Port) : (s.setPort n p).free = s.free := rfl
@[simp] theorem State.setPort_posts (s : State) (n : Nat) (p : Port) : (s.setPort n p).posts = s.posts := rfl
@[simp] theorem State.setPort_dict (s : State) (n : Nat) (p : Port) : (s.setPort n p).dict = s.dict := rfl
@[simp] theorem State.setPort_mem (s : State) (n : Nat) (p : Port) : (s.setPort n p).mem = s.mem := rfl
@[simp] theorem State.setPort_tb (s : State) (n : Nat) (p : Port) : (s.setPort n p).tb = s.tb := rfl
@[simp] theorem State.setPort_errs (s : State) (n : Nat) (p : Port) : (s.setPort n p).errs = s.errs := rfl
@[simp] theorem State.setPort_cores (s : State) (n : Nat) (p : Port) : (s.setPort n p).cores = s.cores := rfl
@[simp] theorem State.setPort_wps (s : State) (n : Nat) (p : Port) : (s.setPort n p).wps = s.wps := rfl
@[simp] theorem State.setPort_waiters (s : State) (n : Nat) (p : Port) : (s.setPort n p).waiters = s.waiters := rfl
@[simp] theorem State.setPort_timed (s : State) (n : Nat) (p : Port) : (s.setPort n p).timed = s.timed := rfl
@[simp] theorem State.setPort_timedHeld (s : State) (n : Nat) (p : Port) : (s.setPort n p).timedHeld = s.timedHeld := rfl
@[simp] theorem State.setPort_chr (s : State) (n : Nat) (p : Port) : (s.setPort n p).chr = s.chr := rfl
@[simp] theorem State.setPort_charts (s : State) (n : Nat) (p : Port) : (s.setPort n p).charts = s.charts := rfl
@[simp] theorem State.setPort_switchAt (s : State) (n : Nat) (p : Port) : (s.setPort n p).switchAt = s.switchAt := rfl
@[simp] theorem State.setPort_fans (s : State) (n : Nat) (p : Port) : (s.setPort n p).fans = s.fans := rfl
@[simp] theorem State.setPort_txFlows (s : State) (n : Nat) (p : Port) : (s.setPort n p).txFlows = s.txFlows := rfl
@[simp] theorem State.setPort_rxFlows (s : State) (n : Nat) (p : Port) : (s.setPort n p).rxFlows = s.rxFlows := rfl
@[simp] theorem State.setPort_spares (s : State) (n : Nat) (p : Port) : (s.setPort n p).spares = s.spares := rfl
@[simp] theorem State.setPort_routerQ (s : State) (n : Nat) (p : Port) : (s.setPort n p).routerQ = s.routerQ := rfl
@[simp] theorem State.setPort_held (s : State) (n : Nat) (p : Port) : (s.setPort n p).held = s.held := rfl
@[simp] theorem State.setPort_rowCe (s : State) (n : Nat) (p : Port) : (s.setPort n p).rowCe = s.rowCe := rfl
@[simp] theorem State.setPort_laneCe (s : State) (n : Nat) (p : Port) : (s.setPort n p).laneCe = s.laneCe := rfl
@[simp] theorem State.setPort_marked (s : State) (n : Nat) (p : Port) : (s.setPort n p).marked = s.marked := rfl
@[simp] theorem State.setPort_remaps (s : State) (n : Nat) (p : Port) : (s.setPort n p).remaps = s.remaps := rfl
@[simp] theorem State.setPort_lanesPending (s : State) (n : Nat) (p : Port) : (s.setPort n p).lanesPending = s.lanesPending := rfl
@[simp] theorem State.setPort_lanesRepaired (s : State) (n : Nat) (p : Port) : (s.setPort n p).lanesRepaired = s.lanesRepaired := rfl
@[simp] theorem State.setPort_postponed (s : State) (n : Nat) (p : Port) : (s.setPort n p).postponed = s.postponed := rfl
@[simp] theorem State.setPort_stackUnits (s : State) (n : Nat) (p : Port) : (s.setPort n p).stackUnits = s.stackUnits := rfl
@[simp] theorem State.setPort_sextant (s : State) (n : Nat) (p : Port) : (s.setPort n p).sextant = s.sextant := rfl
@[simp] theorem State.setPort_chrU (s : State) (n : Nat) (p : Port) : (s.setPort n p).chrU = s.chrU := rfl
@[simp] theorem State.setPort_ctxs (s : State) (n : Nat) (p : Port) : (s.setPort n p).ctxs = s.ctxs := rfl
@[simp] theorem State.setPort_stepU (s : State) (n : Nat) (p : Port) : (s.setPort n p).stepU = s.stepU := rfl
@[simp] theorem State.setPort_fixU (s : State) (n : Nat) (p : Port) : (s.setPort n p).fixU = s.fixU := rfl
@[simp] theorem State.setPort_power (s : State) (n : Nat) (p : Port) : (s.setPort n p).power = s.power := rfl
@[simp] theorem State.setPort_health (s : State) (n : Nat) (p : Port) : (s.setPort n p).health = s.health := rfl
@[simp] theorem State.setPort_hosts (s : State) (n : Nat) (p : Port) : (s.setPort n p).hosts = s.hosts := rfl
@[simp] theorem State.setPort_hmu (s : State) (n : Nat) (p : Port) : (s.setPort n p).hmu = s.hmu := rfl
@[simp] theorem State.setPort_fw (s : State) (n : Nat) (p : Port) : (s.setPort n p).fw = s.fw := rfl
@[simp] theorem State.setPort_beaconDue (s : State) (n : Nat) (p : Port) : (s.setPort n p).beaconDue = s.beaconDue := rfl
@[simp] theorem State.setPort_drift (s : State) (n : Nat) (p : Port) : (s.setPort n p).drift = s.drift := rfl
@[simp] theorem State.setPort_out (s : State) (n : Nat) (p : Port) : (s.setPort n p).out = s.out := rfl
@[simp] theorem State.setPort_events (s : State) (n : Nat) (p : Port) : (s.setPort n p).events = s.events := rfl
@[simp] theorem State.setPort_violations (s : State) (n : Nat) (p : Port) : (s.setPort n p).violations = s.violations := rfl
@[simp] theorem State.obj_setPort (s : State) (n : Nat) (p : Port) (j : Nat) : (s.setPort n p).obj j = s.obj j := rfl
@[simp] theorem State.coreSt_setPort (s : State) (n : Nat) (p : Port) (j : Nat) : (s.setPort n p).coreSt j = s.coreSt j := rfl
@[simp] theorem State.core_setPort (s : State) (n : Nat) (p : Port) (j : Nat) : (s.setPort n p).core j = s.core j := rfl
@[simp] theorem State.wp_setPort (s : State) (n : Nat) (p : Port) (j : Nat) : (s.setPort n p).wp j = s.wp j := rfl
@[simp] theorem State.chart_setPort (s : State) (n : Nat) (p : Port) (j : Nat) : (s.setPort n p).chart j = s.chart j := rfl
@[simp] theorem State.byte_setPort (s : State) (n : Nat) (p : Port) (j : Nat) : (s.setPort n p).byte j = s.byte j := rfl
@[simp] theorem State.bytes_setPort (s : State) (n : Nat) (p : Port) (j r : Nat) : (s.setPort n p).bytes j r = s.bytes j r := rfl
@[simp] theorem State.conn_setPort (s : State) (n : Nat) (p : Port) (j : Nat) : (s.setPort n p).conn j = s.conn j := rfl
@[simp] theorem State.ctx_setPort (s : State) (n : Nat) (p : Port) (j : Nat) : (s.setPort n p).ctx j = s.ctx j := rfl

@[simp] theorem State.post_pending (s : State) (p : Post) : (s.post p).pending = s.pending := rfl
@[simp] theorem State.post_now (s : State) (p : Post) : (s.post p).now = s.now := rfl
@[simp] theorem State.post_free (s : State) (p : Post) : (s.post p).free = s.free := rfl
@[simp] theorem State.post_dict (s : State) (p : Post) : (s.post p).dict = s.dict := rfl
@[simp] theorem State.post_mem (s : State) (p : Post) : (s.post p).mem = s.mem := rfl
@[simp] theorem State.post_tb (s : State) (p : Post) : (s.post p).tb = s.tb := rfl
@[simp] theorem State.post_errs (s : State) (p : Post) : (s.post p).errs = s.errs := rfl
@[simp] theorem State.post_cores (s : State) (p : Post) : (s.post p).cores = s.cores := rfl
@[simp] theorem State.post_wps (s : State) (p : Post) : (s.post p).wps = s.wps := rfl
@[simp] theorem State.post_waiters (s : State) (p : Post) : (s.post p).waiters = s.waiters := rfl
@[simp] theorem State.post_timed (s : State) (p : Post) : (s.post p).timed = s.timed := rfl
@[simp] theorem State.post_timedHeld (s : State) (p : Post) : (s.post p).timedHeld = s.timedHeld := rfl
@[simp] theorem State.post_chr (s : State) (p : Post) : (s.post p).chr = s.chr := rfl
@[simp] theorem State.post_charts (s : State) (p : Post) : (s.post p).charts = s.charts := rfl
@[simp] theorem State.post_switchAt (s : State) (p : Post) : (s.post p).switchAt = s.switchAt := rfl
@[simp] theorem State.post_fans (s : State) (p : Post) : (s.post p).fans = s.fans := rfl
@[simp] theorem State.post_txFlows (s : State) (p : Post) : (s.post p).txFlows = s.txFlows := rfl
@[simp] theorem State.post_rxFlows (s : State) (p : Post) : (s.post p).rxFlows = s.rxFlows := rfl
@[simp] theorem State.post_ports (s : State) (p : Post) : (s.post p).ports = s.ports := rfl
@[simp] theorem State.post_spares (s : State) (p : Post) : (s.post p).spares = s.spares := rfl
@[simp] theorem State.post_routerQ (s : State) (p : Post) : (s.post p).routerQ = s.routerQ := rfl
@[simp] theorem State.post_held (s : State) (p : Post) : (s.post p).held = s.held := rfl
@[simp] theorem State.post_rowCe (s : State) (p : Post) : (s.post p).rowCe = s.rowCe := rfl
@[simp] theorem State.post_laneCe (s : State) (p : Post) : (s.post p).laneCe = s.laneCe := rfl
@[simp] theorem State.post_marked (s : State) (p : Post) : (s.post p).marked = s.marked := rfl
@[simp] theorem State.post_remaps (s : State) (p : Post) : (s.post p).remaps = s.remaps := rfl
@[simp] theorem State.post_lanesPending (s : State) (p : Post) : (s.post p).lanesPending = s.lanesPending := rfl
@[simp] theorem State.post_lanesRepaired (s : State) (p : Post) : (s.post p).lanesRepaired = s.lanesRepaired := rfl
@[simp] theorem State.post_postponed (s : State) (p : Post) : (s.post p).postponed = s.postponed := rfl
@[simp] theorem State.post_stackUnits (s : State) (p : Post) : (s.post p).stackUnits = s.stackUnits := rfl
@[simp] theorem State.post_sextant (s : State) (p : Post) : (s.post p).sextant = s.sextant := rfl
@[simp] theorem State.post_chrU (s : State) (p : Post) : (s.post p).chrU = s.chrU := rfl
@[simp] theorem State.post_ctxs (s : State) (p : Post) : (s.post p).ctxs = s.ctxs := rfl
@[simp] theorem State.post_stepU (s : State) (p : Post) : (s.post p).stepU = s.stepU := rfl
@[simp] theorem State.post_fixU (s : State) (p : Post) : (s.post p).fixU = s.fixU := rfl
@[simp] theorem State.post_power (s : State) (p : Post) : (s.post p).power = s.power := rfl
@[simp] theorem State.post_health (s : State) (p : Post) : (s.post p).health = s.health := rfl
@[simp] theorem State.post_hosts (s : State) (p : Post) : (s.post p).hosts = s.hosts := rfl
@[simp] theorem State.post_hmu (s : State) (p : Post) : (s.post p).hmu = s.hmu := rfl
@[simp] theorem State.post_fw (s : State) (p : Post) : (s.post p).fw = s.fw := rfl
@[simp] theorem State.post_beaconDue (s : State) (p : Post) : (s.post p).beaconDue = s.beaconDue := rfl
@[simp] theorem State.post_drift (s : State) (p : Post) : (s.post p).drift = s.drift := rfl
@[simp] theorem State.post_out (s : State) (p : Post) : (s.post p).out = s.out := rfl
@[simp] theorem State.post_events (s : State) (p : Post) : (s.post p).events = s.events := rfl
@[simp] theorem State.post_violations (s : State) (p : Post) : (s.post p).violations = s.violations := rfl
@[simp] theorem State.obj_post (s : State) (p : Post) (j : Nat) : (s.post p).obj j = s.obj j := rfl
@[simp] theorem State.coreSt_post (s : State) (p : Post) (j : Nat) : (s.post p).coreSt j = s.coreSt j := rfl
@[simp] theorem State.core_post (s : State) (p : Post) (j : Nat) : (s.post p).core j = s.core j := rfl
@[simp] theorem State.wp_post (s : State) (p : Post) (j : Nat) : (s.post p).wp j = s.wp j := rfl
@[simp] theorem State.chart_post (s : State) (p : Post) (j : Nat) : (s.post p).chart j = s.chart j := rfl
@[simp] theorem State.port_post (s : State) (p : Post) (j : Nat) : (s.post p).port j = s.port j := rfl
@[simp] theorem State.byte_post (s : State) (p : Post) (j : Nat) : (s.post p).byte j = s.byte j := rfl
@[simp] theorem State.bytes_post (s : State) (p : Post) (j r : Nat) : (s.post p).bytes j r = s.bytes j r := rfl
@[simp] theorem State.conn_post (s : State) (p : Post) (j : Nat) : (s.post p).conn j = s.conn j := rfl
@[simp] theorem State.ctx_post (s : State) (p : Post) (j : Nat) : (s.post p).ctx j = s.ctx j := rfl

@[simp] theorem State.send_pending (s : State) (m : OutMsg) : (s.send m).pending = s.pending := rfl
@[simp] theorem State.send_now (s : State) (m : OutMsg) : (s.send m).now = s.now := rfl
@[simp] theorem State.send_free (s : State) (m : OutMsg) : (s.send m).free = s.free := rfl
@[simp] theorem State.send_posts (s : State) (m : OutMsg) : (s.send m).posts = s.posts := rfl
@[simp] theorem State.send_dict (s : State) (m : OutMsg) : (s.send m).dict = s.dict := rfl
@[simp] theorem State.send_mem (s : State) (m : OutMsg) : (s.send m).mem = s.mem := rfl
@[simp] theorem State.send_tb (s : State) (m : OutMsg) : (s.send m).tb = s.tb := rfl
@[simp] theorem State.send_errs (s : State) (m : OutMsg) : (s.send m).errs = s.errs := rfl
@[simp] theorem State.send_cores (s : State) (m : OutMsg) : (s.send m).cores = s.cores := rfl
@[simp] theorem State.send_wps (s : State) (m : OutMsg) : (s.send m).wps = s.wps := rfl
@[simp] theorem State.send_waiters (s : State) (m : OutMsg) : (s.send m).waiters = s.waiters := rfl
@[simp] theorem State.send_timed (s : State) (m : OutMsg) : (s.send m).timed = s.timed := rfl
@[simp] theorem State.send_timedHeld (s : State) (m : OutMsg) : (s.send m).timedHeld = s.timedHeld := rfl
@[simp] theorem State.send_chr (s : State) (m : OutMsg) : (s.send m).chr = s.chr := rfl
@[simp] theorem State.send_charts (s : State) (m : OutMsg) : (s.send m).charts = s.charts := rfl
@[simp] theorem State.send_switchAt (s : State) (m : OutMsg) : (s.send m).switchAt = s.switchAt := rfl
@[simp] theorem State.send_fans (s : State) (m : OutMsg) : (s.send m).fans = s.fans := rfl
@[simp] theorem State.send_txFlows (s : State) (m : OutMsg) : (s.send m).txFlows = s.txFlows := rfl
@[simp] theorem State.send_rxFlows (s : State) (m : OutMsg) : (s.send m).rxFlows = s.rxFlows := rfl
@[simp] theorem State.send_ports (s : State) (m : OutMsg) : (s.send m).ports = s.ports := rfl
@[simp] theorem State.send_spares (s : State) (m : OutMsg) : (s.send m).spares = s.spares := rfl
@[simp] theorem State.send_routerQ (s : State) (m : OutMsg) : (s.send m).routerQ = s.routerQ := rfl
@[simp] theorem State.send_held (s : State) (m : OutMsg) : (s.send m).held = s.held := rfl
@[simp] theorem State.send_rowCe (s : State) (m : OutMsg) : (s.send m).rowCe = s.rowCe := rfl
@[simp] theorem State.send_laneCe (s : State) (m : OutMsg) : (s.send m).laneCe = s.laneCe := rfl
@[simp] theorem State.send_marked (s : State) (m : OutMsg) : (s.send m).marked = s.marked := rfl
@[simp] theorem State.send_remaps (s : State) (m : OutMsg) : (s.send m).remaps = s.remaps := rfl
@[simp] theorem State.send_lanesPending (s : State) (m : OutMsg) : (s.send m).lanesPending = s.lanesPending := rfl
@[simp] theorem State.send_lanesRepaired (s : State) (m : OutMsg) : (s.send m).lanesRepaired = s.lanesRepaired := rfl
@[simp] theorem State.send_postponed (s : State) (m : OutMsg) : (s.send m).postponed = s.postponed := rfl
@[simp] theorem State.send_stackUnits (s : State) (m : OutMsg) : (s.send m).stackUnits = s.stackUnits := rfl
@[simp] theorem State.send_sextant (s : State) (m : OutMsg) : (s.send m).sextant = s.sextant := rfl
@[simp] theorem State.send_chrU (s : State) (m : OutMsg) : (s.send m).chrU = s.chrU := rfl
@[simp] theorem State.send_ctxs (s : State) (m : OutMsg) : (s.send m).ctxs = s.ctxs := rfl
@[simp] theorem State.send_stepU (s : State) (m : OutMsg) : (s.send m).stepU = s.stepU := rfl
@[simp] theorem State.send_fixU (s : State) (m : OutMsg) : (s.send m).fixU = s.fixU := rfl
@[simp] theorem State.send_power (s : State) (m : OutMsg) : (s.send m).power = s.power := rfl
@[simp] theorem State.send_health (s : State) (m : OutMsg) : (s.send m).health = s.health := rfl
@[simp] theorem State.send_hosts (s : State) (m : OutMsg) : (s.send m).hosts = s.hosts := rfl
@[simp] theorem State.send_hmu (s : State) (m : OutMsg) : (s.send m).hmu = s.hmu := rfl
@[simp] theorem State.send_fw (s : State) (m : OutMsg) : (s.send m).fw = s.fw := rfl
@[simp] theorem State.send_beaconDue (s : State) (m : OutMsg) : (s.send m).beaconDue = s.beaconDue := rfl
@[simp] theorem State.send_drift (s : State) (m : OutMsg) : (s.send m).drift = s.drift := rfl
@[simp] theorem State.send_events (s : State) (m : OutMsg) : (s.send m).events = s.events := rfl
@[simp] theorem State.send_violations (s : State) (m : OutMsg) : (s.send m).violations = s.violations := rfl
@[simp] theorem State.obj_send (s : State) (m : OutMsg) (j : Nat) : (s.send m).obj j = s.obj j := rfl
@[simp] theorem State.coreSt_send (s : State) (m : OutMsg) (j : Nat) : (s.send m).coreSt j = s.coreSt j := rfl
@[simp] theorem State.core_send (s : State) (m : OutMsg) (j : Nat) : (s.send m).core j = s.core j := rfl
@[simp] theorem State.wp_send (s : State) (m : OutMsg) (j : Nat) : (s.send m).wp j = s.wp j := rfl
@[simp] theorem State.chart_send (s : State) (m : OutMsg) (j : Nat) : (s.send m).chart j = s.chart j := rfl
@[simp] theorem State.port_send (s : State) (m : OutMsg) (j : Nat) : (s.send m).port j = s.port j := rfl
@[simp] theorem State.byte_send (s : State) (m : OutMsg) (j : Nat) : (s.send m).byte j = s.byte j := rfl
@[simp] theorem State.bytes_send (s : State) (m : OutMsg) (j r : Nat) : (s.send m).bytes j r = s.bytes j r := rfl
@[simp] theorem State.conn_send (s : State) (m : OutMsg) (j : Nat) : (s.send m).conn j = s.conn j := rfl
@[simp] theorem State.ctx_send (s : State) (m : OutMsg) (j : Nat) : (s.send m).ctx j = s.ctx j := rfl

@[simp] theorem State.setBytes_pending (s : State) (a : Nat) (l : List Byte) : (s.setBytes a l).pending = s.pending := rfl
@[simp] theorem State.setBytes_now (s : State) (a : Nat) (l : List Byte) : (s.setBytes a l).now = s.now := rfl
@[simp] theorem State.setBytes_free (s : State) (a : Nat) (l : List Byte) : (s.setBytes a l).free = s.free := rfl
@[simp] theorem State.setBytes_posts (s : State) (a : Nat) (l : List Byte) : (s.setBytes a l).posts = s.posts := rfl
@[simp] theorem State.setBytes_dict (s : State) (a : Nat) (l : List Byte) : (s.setBytes a l).dict = s.dict := rfl
@[simp] theorem State.setBytes_tb (s : State) (a : Nat) (l : List Byte) : (s.setBytes a l).tb = s.tb := rfl
@[simp] theorem State.setBytes_errs (s : State) (a : Nat) (l : List Byte) : (s.setBytes a l).errs = s.errs := rfl
@[simp] theorem State.setBytes_cores (s : State) (a : Nat) (l : List Byte) : (s.setBytes a l).cores = s.cores := rfl
@[simp] theorem State.setBytes_wps (s : State) (a : Nat) (l : List Byte) : (s.setBytes a l).wps = s.wps := rfl
@[simp] theorem State.setBytes_waiters (s : State) (a : Nat) (l : List Byte) : (s.setBytes a l).waiters = s.waiters := rfl
@[simp] theorem State.setBytes_timed (s : State) (a : Nat) (l : List Byte) : (s.setBytes a l).timed = s.timed := rfl
@[simp] theorem State.setBytes_timedHeld (s : State) (a : Nat) (l : List Byte) : (s.setBytes a l).timedHeld = s.timedHeld := rfl
@[simp] theorem State.setBytes_chr (s : State) (a : Nat) (l : List Byte) : (s.setBytes a l).chr = s.chr := rfl
@[simp] theorem State.setBytes_charts (s : State) (a : Nat) (l : List Byte) : (s.setBytes a l).charts = s.charts := rfl
@[simp] theorem State.setBytes_switchAt (s : State) (a : Nat) (l : List Byte) : (s.setBytes a l).switchAt = s.switchAt := rfl
@[simp] theorem State.setBytes_fans (s : State) (a : Nat) (l : List Byte) : (s.setBytes a l).fans = s.fans := rfl
@[simp] theorem State.setBytes_txFlows (s : State) (a : Nat) (l : List Byte) : (s.setBytes a l).txFlows = s.txFlows := rfl
@[simp] theorem State.setBytes_rxFlows (s : State) (a : Nat) (l : List Byte) : (s.setBytes a l).rxFlows = s.rxFlows := rfl
@[simp] theorem State.setBytes_ports (s : State) (a : Nat) (l : List Byte) : (s.setBytes a l).ports = s.ports := rfl
@[simp] theorem State.setBytes_spares (s : State) (a : Nat) (l : List Byte) : (s.setBytes a l).spares = s.spares := rfl
@[simp] theorem State.setBytes_routerQ (s : State) (a : Nat) (l : List Byte) : (s.setBytes a l).routerQ = s.routerQ := rfl
@[simp] theorem State.setBytes_held (s : State) (a : Nat) (l : List Byte) : (s.setBytes a l).held = s.held := rfl
@[simp] theorem State.setBytes_rowCe (s : State) (a : Nat) (l : List Byte) : (s.setBytes a l).rowCe = s.rowCe := rfl
@[simp] theorem State.setBytes_laneCe (s : State) (a : Nat) (l : List Byte) : (s.setBytes a l).laneCe = s.laneCe := rfl
@[simp] theorem State.setBytes_marked (s : State) (a : Nat) (l : List Byte) : (s.setBytes a l).marked = s.marked := rfl
@[simp] theorem State.setBytes_remaps (s : State) (a : Nat) (l : List Byte) : (s.setBytes a l).remaps = s.remaps := rfl
@[simp] theorem State.setBytes_lanesPending (s : State) (a : Nat) (l : List Byte) : (s.setBytes a l).lanesPending = s.lanesPending := rfl
@[simp] theorem State.setBytes_lanesRepaired (s : State) (a : Nat) (l : List Byte) : (s.setBytes a l).lanesRepaired = s.lanesRepaired := rfl
@[simp] theorem State.setBytes_postponed (s : State) (a : Nat) (l : List Byte) : (s.setBytes a l).postponed = s.postponed := rfl
@[simp] theorem State.setBytes_stackUnits (s : State) (a : Nat) (l : List Byte) : (s.setBytes a l).stackUnits = s.stackUnits := rfl
@[simp] theorem State.setBytes_sextant (s : State) (a : Nat) (l : List Byte) : (s.setBytes a l).sextant = s.sextant := rfl
@[simp] theorem State.setBytes_chrU (s : State) (a : Nat) (l : List Byte) : (s.setBytes a l).chrU = s.chrU := rfl
@[simp] theorem State.setBytes_ctxs (s : State) (a : Nat) (l : List Byte) : (s.setBytes a l).ctxs = s.ctxs := rfl
@[simp] theorem State.setBytes_stepU (s : State) (a : Nat) (l : List Byte) : (s.setBytes a l).stepU = s.stepU := rfl
@[simp] theorem State.setBytes_fixU (s : State) (a : Nat) (l : List Byte) : (s.setBytes a l).fixU = s.fixU := rfl
@[simp] theorem State.setBytes_power (s : State) (a : Nat) (l : List Byte) : (s.setBytes a l).power = s.power := rfl
@[simp] theorem State.setBytes_health (s : State) (a : Nat) (l : List Byte) : (s.setBytes a l).health = s.health := rfl
@[simp] theorem State.setBytes_hosts (s : State) (a : Nat) (l : List Byte) : (s.setBytes a l).hosts = s.hosts := rfl
@[simp] theorem State.setBytes_hmu (s : State) (a : Nat) (l : List Byte) : (s.setBytes a l).hmu = s.hmu := rfl
@[simp] theorem State.setBytes_fw (s : State) (a : Nat) (l : List Byte) : (s.setBytes a l).fw = s.fw := rfl
@[simp] theorem State.setBytes_beaconDue (s : State) (a : Nat) (l : List Byte) : (s.setBytes a l).beaconDue = s.beaconDue := rfl
@[simp] theorem State.setBytes_drift (s : State) (a : Nat) (l : List Byte) : (s.setBytes a l).drift = s.drift := rfl
@[simp] theorem State.setBytes_out (s : State) (a : Nat) (l : List Byte) : (s.setBytes a l).out = s.out := rfl
@[simp] theorem State.setBytes_events (s : State) (a : Nat) (l : List Byte) : (s.setBytes a l).events = s.events := rfl
@[simp] theorem State.setBytes_violations (s : State) (a : Nat) (l : List Byte) : (s.setBytes a l).violations = s.violations := rfl
@[simp] theorem State.obj_setBytes (s : State) (a : Nat) (l : List Byte) (j : Nat) : (s.setBytes a l).obj j = s.obj j := rfl
@[simp] theorem State.coreSt_setBytes (s : State) (a : Nat) (l : List Byte) (j : Nat) : (s.setBytes a l).coreSt j = s.coreSt j := rfl
@[simp] theorem State.core_setBytes (s : State) (a : Nat) (l : List Byte) (j : Nat) : (s.setBytes a l).core j = s.core j := rfl
@[simp] theorem State.wp_setBytes (s : State) (a : Nat) (l : List Byte) (j : Nat) : (s.setBytes a l).wp j = s.wp j := rfl
@[simp] theorem State.chart_setBytes (s : State) (a : Nat) (l : List Byte) (j : Nat) : (s.setBytes a l).chart j = s.chart j := rfl
@[simp] theorem State.port_setBytes (s : State) (a : Nat) (l : List Byte) (j : Nat) : (s.setBytes a l).port j = s.port j := rfl
@[simp] theorem State.conn_setBytes (s : State) (a : Nat) (l : List Byte) (j : Nat) : (s.setBytes a l).conn j = s.conn j := rfl
@[simp] theorem State.ctx_setBytes (s : State) (a : Nat) (l : List Byte) (j : Nat) : (s.setBytes a l).ctx j = s.ctx j := rfl

@[simp] theorem State.setTileBytes_pending (s : State) (core buf off : Nat) (l : List Byte) : (s.setTileBytes core buf off l).pending = s.pending := rfl
@[simp] theorem State.setTileBytes_now (s : State) (core buf off : Nat) (l : List Byte) : (s.setTileBytes core buf off l).now = s.now := rfl
@[simp] theorem State.setTileBytes_free (s : State) (core buf off : Nat) (l : List Byte) : (s.setTileBytes core buf off l).free = s.free := rfl
@[simp] theorem State.setTileBytes_posts (s : State) (core buf off : Nat) (l : List Byte) : (s.setTileBytes core buf off l).posts = s.posts := rfl
@[simp] theorem State.setTileBytes_dict (s : State) (core buf off : Nat) (l : List Byte) : (s.setTileBytes core buf off l).dict = s.dict := rfl
@[simp] theorem State.setTileBytes_mem (s : State) (core buf off : Nat) (l : List Byte) : (s.setTileBytes core buf off l).mem = s.mem := rfl
@[simp] theorem State.setTileBytes_errs (s : State) (core buf off : Nat) (l : List Byte) : (s.setTileBytes core buf off l).errs = s.errs := rfl
@[simp] theorem State.setTileBytes_cores (s : State) (core buf off : Nat) (l : List Byte) : (s.setTileBytes core buf off l).cores = s.cores := rfl
@[simp] theorem State.setTileBytes_wps (s : State) (core buf off : Nat) (l : List Byte) : (s.setTileBytes core buf off l).wps = s.wps := rfl
@[simp] theorem State.setTileBytes_waiters (s : State) (core buf off : Nat) (l : List Byte) : (s.setTileBytes core buf off l).waiters = s.waiters := rfl
@[simp] theorem State.setTileBytes_timed (s : State) (core buf off : Nat) (l : List Byte) : (s.setTileBytes core buf off l).timed = s.timed := rfl
@[simp] theorem State.setTileBytes_timedHeld (s : State) (core buf off : Nat) (l : List Byte) : (s.setTileBytes core buf off l).timedHeld = s.timedHeld := rfl
@[simp] theorem State.setTileBytes_chr (s : State) (core buf off : Nat) (l : List Byte) : (s.setTileBytes core buf off l).chr = s.chr := rfl
@[simp] theorem State.setTileBytes_charts (s : State) (core buf off : Nat) (l : List Byte) : (s.setTileBytes core buf off l).charts = s.charts := rfl
@[simp] theorem State.setTileBytes_switchAt (s : State) (core buf off : Nat) (l : List Byte) : (s.setTileBytes core buf off l).switchAt = s.switchAt := rfl
@[simp] theorem State.setTileBytes_fans (s : State) (core buf off : Nat) (l : List Byte) : (s.setTileBytes core buf off l).fans = s.fans := rfl
@[simp] theorem State.setTileBytes_txFlows (s : State) (core buf off : Nat) (l : List Byte) : (s.setTileBytes core buf off l).txFlows = s.txFlows := rfl
@[simp] theorem State.setTileBytes_rxFlows (s : State) (core buf off : Nat) (l : List Byte) : (s.setTileBytes core buf off l).rxFlows = s.rxFlows := rfl
@[simp] theorem State.setTileBytes_ports (s : State) (core buf off : Nat) (l : List Byte) : (s.setTileBytes core buf off l).ports = s.ports := rfl
@[simp] theorem State.setTileBytes_spares (s : State) (core buf off : Nat) (l : List Byte) : (s.setTileBytes core buf off l).spares = s.spares := rfl
@[simp] theorem State.setTileBytes_routerQ (s : State) (core buf off : Nat) (l : List Byte) : (s.setTileBytes core buf off l).routerQ = s.routerQ := rfl
@[simp] theorem State.setTileBytes_held (s : State) (core buf off : Nat) (l : List Byte) : (s.setTileBytes core buf off l).held = s.held := rfl
@[simp] theorem State.setTileBytes_rowCe (s : State) (core buf off : Nat) (l : List Byte) : (s.setTileBytes core buf off l).rowCe = s.rowCe := rfl
@[simp] theorem State.setTileBytes_laneCe (s : State) (core buf off : Nat) (l : List Byte) : (s.setTileBytes core buf off l).laneCe = s.laneCe := rfl
@[simp] theorem State.setTileBytes_marked (s : State) (core buf off : Nat) (l : List Byte) : (s.setTileBytes core buf off l).marked = s.marked := rfl
@[simp] theorem State.setTileBytes_remaps (s : State) (core buf off : Nat) (l : List Byte) : (s.setTileBytes core buf off l).remaps = s.remaps := rfl
@[simp] theorem State.setTileBytes_lanesPending (s : State) (core buf off : Nat) (l : List Byte) : (s.setTileBytes core buf off l).lanesPending = s.lanesPending := rfl
@[simp] theorem State.setTileBytes_lanesRepaired (s : State) (core buf off : Nat) (l : List Byte) : (s.setTileBytes core buf off l).lanesRepaired = s.lanesRepaired := rfl
@[simp] theorem State.setTileBytes_postponed (s : State) (core buf off : Nat) (l : List Byte) : (s.setTileBytes core buf off l).postponed = s.postponed := rfl
@[simp] theorem State.setTileBytes_stackUnits (s : State) (core buf off : Nat) (l : List Byte) : (s.setTileBytes core buf off l).stackUnits = s.stackUnits := rfl
@[simp] theorem State.setTileBytes_sextant (s : State) (core buf off : Nat) (l : List Byte) : (s.setTileBytes core buf off l).sextant = s.sextant := rfl
@[simp] theorem State.setTileBytes_chrU (s : State) (core buf off : Nat) (l : List Byte) : (s.setTileBytes core buf off l).chrU = s.chrU := rfl
@[simp] theorem State.setTileBytes_ctxs (s : State) (core buf off : Nat) (l : List Byte) : (s.setTileBytes core buf off l).ctxs = s.ctxs := rfl
@[simp] theorem State.setTileBytes_stepU (s : State) (core buf off : Nat) (l : List Byte) : (s.setTileBytes core buf off l).stepU = s.stepU := rfl
@[simp] theorem State.setTileBytes_fixU (s : State) (core buf off : Nat) (l : List Byte) : (s.setTileBytes core buf off l).fixU = s.fixU := rfl
@[simp] theorem State.setTileBytes_power (s : State) (core buf off : Nat) (l : List Byte) : (s.setTileBytes core buf off l).power = s.power := rfl
@[simp] theorem State.setTileBytes_health (s : State) (core buf off : Nat) (l : List Byte) : (s.setTileBytes core buf off l).health = s.health := rfl
@[simp] theorem State.setTileBytes_hosts (s : State) (core buf off : Nat) (l : List Byte) : (s.setTileBytes core buf off l).hosts = s.hosts := rfl
@[simp] theorem State.setTileBytes_hmu (s : State) (core buf off : Nat) (l : List Byte) : (s.setTileBytes core buf off l).hmu = s.hmu := rfl
@[simp] theorem State.setTileBytes_fw (s : State) (core buf off : Nat) (l : List Byte) : (s.setTileBytes core buf off l).fw = s.fw := rfl
@[simp] theorem State.setTileBytes_beaconDue (s : State) (core buf off : Nat) (l : List Byte) : (s.setTileBytes core buf off l).beaconDue = s.beaconDue := rfl
@[simp] theorem State.setTileBytes_drift (s : State) (core buf off : Nat) (l : List Byte) : (s.setTileBytes core buf off l).drift = s.drift := rfl
@[simp] theorem State.setTileBytes_out (s : State) (core buf off : Nat) (l : List Byte) : (s.setTileBytes core buf off l).out = s.out := rfl
@[simp] theorem State.setTileBytes_events (s : State) (core buf off : Nat) (l : List Byte) : (s.setTileBytes core buf off l).events = s.events := rfl
@[simp] theorem State.setTileBytes_violations (s : State) (core buf off : Nat) (l : List Byte) : (s.setTileBytes core buf off l).violations = s.violations := rfl
@[simp] theorem State.obj_setTileBytes (s : State) (core buf off : Nat) (l : List Byte) (j : Nat) : (s.setTileBytes core buf off l).obj j = s.obj j := rfl
@[simp] theorem State.coreSt_setTileBytes (s : State) (core buf off : Nat) (l : List Byte) (j : Nat) : (s.setTileBytes core buf off l).coreSt j = s.coreSt j := rfl
@[simp] theorem State.core_setTileBytes (s : State) (core buf off : Nat) (l : List Byte) (j : Nat) : (s.setTileBytes core buf off l).core j = s.core j := rfl
@[simp] theorem State.wp_setTileBytes (s : State) (core buf off : Nat) (l : List Byte) (j : Nat) : (s.setTileBytes core buf off l).wp j = s.wp j := rfl
@[simp] theorem State.chart_setTileBytes (s : State) (core buf off : Nat) (l : List Byte) (j : Nat) : (s.setTileBytes core buf off l).chart j = s.chart j := rfl
@[simp] theorem State.port_setTileBytes (s : State) (core buf off : Nat) (l : List Byte) (j : Nat) : (s.setTileBytes core buf off l).port j = s.port j := rfl
@[simp] theorem State.byte_setTileBytes (s : State) (core buf off : Nat) (l : List Byte) (j : Nat) : (s.setTileBytes core buf off l).byte j = s.byte j := rfl
@[simp] theorem State.bytes_setTileBytes (s : State) (core buf off : Nat) (l : List Byte) (j r : Nat) : (s.setTileBytes core buf off l).bytes j r = s.bytes j r := rfl
@[simp] theorem State.conn_setTileBytes (s : State) (core buf off : Nat) (l : List Byte) (j : Nat) : (s.setTileBytes core buf off l).conn j = s.conn j := rfl
@[simp] theorem State.ctx_setTileBytes (s : State) (core buf off : Nat) (l : List Byte) (j : Nat) : (s.setTileBytes core buf off l).ctx j = s.ctx j := rfl

@[simp] theorem State.setConn_pending (s : State) (k : Nat) (c : HostConn) : (s.setConn k c).pending = s.pending := rfl
@[simp] theorem State.setConn_now (s : State) (k : Nat) (c : HostConn) : (s.setConn k c).now = s.now := rfl
@[simp] theorem State.setConn_free (s : State) (k : Nat) (c : HostConn) : (s.setConn k c).free = s.free := rfl
@[simp] theorem State.setConn_posts (s : State) (k : Nat) (c : HostConn) : (s.setConn k c).posts = s.posts := rfl
@[simp] theorem State.setConn_dict (s : State) (k : Nat) (c : HostConn) : (s.setConn k c).dict = s.dict := rfl
@[simp] theorem State.setConn_mem (s : State) (k : Nat) (c : HostConn) : (s.setConn k c).mem = s.mem := rfl
@[simp] theorem State.setConn_tb (s : State) (k : Nat) (c : HostConn) : (s.setConn k c).tb = s.tb := rfl
@[simp] theorem State.setConn_errs (s : State) (k : Nat) (c : HostConn) : (s.setConn k c).errs = s.errs := rfl
@[simp] theorem State.setConn_cores (s : State) (k : Nat) (c : HostConn) : (s.setConn k c).cores = s.cores := rfl
@[simp] theorem State.setConn_wps (s : State) (k : Nat) (c : HostConn) : (s.setConn k c).wps = s.wps := rfl
@[simp] theorem State.setConn_waiters (s : State) (k : Nat) (c : HostConn) : (s.setConn k c).waiters = s.waiters := rfl
@[simp] theorem State.setConn_timed (s : State) (k : Nat) (c : HostConn) : (s.setConn k c).timed = s.timed := rfl
@[simp] theorem State.setConn_timedHeld (s : State) (k : Nat) (c : HostConn) : (s.setConn k c).timedHeld = s.timedHeld := rfl
@[simp] theorem State.setConn_chr (s : State) (k : Nat) (c : HostConn) : (s.setConn k c).chr = s.chr := rfl
@[simp] theorem State.setConn_charts (s : State) (k : Nat) (c : HostConn) : (s.setConn k c).charts = s.charts := rfl
@[simp] theorem State.setConn_switchAt (s : State) (k : Nat) (c : HostConn) : (s.setConn k c).switchAt = s.switchAt := rfl
@[simp] theorem State.setConn_fans (s : State) (k : Nat) (c : HostConn) : (s.setConn k c).fans = s.fans := rfl
@[simp] theorem State.setConn_txFlows (s : State) (k : Nat) (c : HostConn) : (s.setConn k c).txFlows = s.txFlows := rfl
@[simp] theorem State.setConn_rxFlows (s : State) (k : Nat) (c : HostConn) : (s.setConn k c).rxFlows = s.rxFlows := rfl
@[simp] theorem State.setConn_ports (s : State) (k : Nat) (c : HostConn) : (s.setConn k c).ports = s.ports := rfl
@[simp] theorem State.setConn_spares (s : State) (k : Nat) (c : HostConn) : (s.setConn k c).spares = s.spares := rfl
@[simp] theorem State.setConn_routerQ (s : State) (k : Nat) (c : HostConn) : (s.setConn k c).routerQ = s.routerQ := rfl
@[simp] theorem State.setConn_held (s : State) (k : Nat) (c : HostConn) : (s.setConn k c).held = s.held := rfl
@[simp] theorem State.setConn_rowCe (s : State) (k : Nat) (c : HostConn) : (s.setConn k c).rowCe = s.rowCe := rfl
@[simp] theorem State.setConn_laneCe (s : State) (k : Nat) (c : HostConn) : (s.setConn k c).laneCe = s.laneCe := rfl
@[simp] theorem State.setConn_marked (s : State) (k : Nat) (c : HostConn) : (s.setConn k c).marked = s.marked := rfl
@[simp] theorem State.setConn_remaps (s : State) (k : Nat) (c : HostConn) : (s.setConn k c).remaps = s.remaps := rfl
@[simp] theorem State.setConn_lanesPending (s : State) (k : Nat) (c : HostConn) : (s.setConn k c).lanesPending = s.lanesPending := rfl
@[simp] theorem State.setConn_lanesRepaired (s : State) (k : Nat) (c : HostConn) : (s.setConn k c).lanesRepaired = s.lanesRepaired := rfl
@[simp] theorem State.setConn_postponed (s : State) (k : Nat) (c : HostConn) : (s.setConn k c).postponed = s.postponed := rfl
@[simp] theorem State.setConn_stackUnits (s : State) (k : Nat) (c : HostConn) : (s.setConn k c).stackUnits = s.stackUnits := rfl
@[simp] theorem State.setConn_sextant (s : State) (k : Nat) (c : HostConn) : (s.setConn k c).sextant = s.sextant := rfl
@[simp] theorem State.setConn_chrU (s : State) (k : Nat) (c : HostConn) : (s.setConn k c).chrU = s.chrU := rfl
@[simp] theorem State.setConn_ctxs (s : State) (k : Nat) (c : HostConn) : (s.setConn k c).ctxs = s.ctxs := rfl
@[simp] theorem State.setConn_stepU (s : State) (k : Nat) (c : HostConn) : (s.setConn k c).stepU = s.stepU := rfl
@[simp] theorem State.setConn_fixU (s : State) (k : Nat) (c : HostConn) : (s.setConn k c).fixU = s.fixU := rfl
@[simp] theorem State.setConn_power (s : State) (k : Nat) (c : HostConn) : (s.setConn k c).power = s.power := rfl
@[simp] theorem State.setConn_health (s : State) (k : Nat) (c : HostConn) : (s.setConn k c).health = s.health := rfl
@[simp] theorem State.setConn_hmu (s : State) (k : Nat) (c : HostConn) : (s.setConn k c).hmu = s.hmu := rfl
@[simp] theorem State.setConn_fw (s : State) (k : Nat) (c : HostConn) : (s.setConn k c).fw = s.fw := rfl
@[simp] theorem State.setConn_beaconDue (s : State) (k : Nat) (c : HostConn) : (s.setConn k c).beaconDue = s.beaconDue := rfl
@[simp] theorem State.setConn_drift (s : State) (k : Nat) (c : HostConn) : (s.setConn k c).drift = s.drift := rfl
@[simp] theorem State.setConn_out (s : State) (k : Nat) (c : HostConn) : (s.setConn k c).out = s.out := rfl
@[simp] theorem State.setConn_events (s : State) (k : Nat) (c : HostConn) : (s.setConn k c).events = s.events := rfl
@[simp] theorem State.setConn_violations (s : State) (k : Nat) (c : HostConn) : (s.setConn k c).violations = s.violations := rfl
@[simp] theorem State.obj_setConn (s : State) (k : Nat) (c : HostConn) (j : Nat) : (s.setConn k c).obj j = s.obj j := rfl
@[simp] theorem State.coreSt_setConn (s : State) (k : Nat) (c : HostConn) (j : Nat) : (s.setConn k c).coreSt j = s.coreSt j := rfl
@[simp] theorem State.core_setConn (s : State) (k : Nat) (c : HostConn) (j : Nat) : (s.setConn k c).core j = s.core j := rfl
@[simp] theorem State.wp_setConn (s : State) (k : Nat) (c : HostConn) (j : Nat) : (s.setConn k c).wp j = s.wp j := rfl
@[simp] theorem State.chart_setConn (s : State) (k : Nat) (c : HostConn) (j : Nat) : (s.setConn k c).chart j = s.chart j := rfl
@[simp] theorem State.port_setConn (s : State) (k : Nat) (c : HostConn) (j : Nat) : (s.setConn k c).port j = s.port j := rfl
@[simp] theorem State.byte_setConn (s : State) (k : Nat) (c : HostConn) (j : Nat) : (s.setConn k c).byte j = s.byte j := rfl
@[simp] theorem State.bytes_setConn (s : State) (k : Nat) (c : HostConn) (j r : Nat) : (s.setConn k c).bytes j r = s.bytes j r := rfl
@[simp] theorem State.ctx_setConn (s : State) (k : Nat) (c : HostConn) (j : Nat) : (s.setConn k c).ctx j = s.ctx j := rfl

@[simp] theorem State.setCtx_pending (s : State) (n : Nat) (c : Ctx) : (s.setCtx n c).pending = s.pending := rfl
@[simp] theorem State.setCtx_now (s : State) (n : Nat) (c : Ctx) : (s.setCtx n c).now = s.now := rfl
@[simp] theorem State.setCtx_free (s : State) (n : Nat) (c : Ctx) : (s.setCtx n c).free = s.free := rfl
@[simp] theorem State.setCtx_posts (s : State) (n : Nat) (c : Ctx) : (s.setCtx n c).posts = s.posts := rfl
@[simp] theorem State.setCtx_dict (s : State) (n : Nat) (c : Ctx) : (s.setCtx n c).dict = s.dict := rfl
@[simp] theorem State.setCtx_mem (s : State) (n : Nat) (c : Ctx) : (s.setCtx n c).mem = s.mem := rfl
@[simp] theorem State.setCtx_tb (s : State) (n : Nat) (c : Ctx) : (s.setCtx n c).tb = s.tb := rfl
@[simp] theorem State.setCtx_errs (s : State) (n : Nat) (c : Ctx) : (s.setCtx n c).errs = s.errs := rfl
@[simp] theorem State.setCtx_cores (s : State) (n : Nat) (c : Ctx) : (s.setCtx n c).cores = s.cores := rfl
@[simp] theorem State.setCtx_wps (s : State) (n : Nat) (c : Ctx) : (s.setCtx n c).wps = s.wps := rfl
@[simp] theorem State.setCtx_waiters (s : State) (n : Nat) (c : Ctx) : (s.setCtx n c).waiters = s.waiters := rfl
@[simp] theorem State.setCtx_timed (s : State) (n : Nat) (c : Ctx) : (s.setCtx n c).timed = s.timed := rfl
@[simp] theorem State.setCtx_timedHeld (s : State) (n : Nat) (c : Ctx) : (s.setCtx n c).timedHeld = s.timedHeld := rfl
@[simp] theorem State.setCtx_chr (s : State) (n : Nat) (c : Ctx) : (s.setCtx n c).chr = s.chr := rfl
@[simp] theorem State.setCtx_charts (s : State) (n : Nat) (c : Ctx) : (s.setCtx n c).charts = s.charts := rfl
@[simp] theorem State.setCtx_switchAt (s : State) (n : Nat) (c : Ctx) : (s.setCtx n c).switchAt = s.switchAt := rfl
@[simp] theorem State.setCtx_fans (s : State) (n : Nat) (c : Ctx) : (s.setCtx n c).fans = s.fans := rfl
@[simp] theorem State.setCtx_txFlows (s : State) (n : Nat) (c : Ctx) : (s.setCtx n c).txFlows = s.txFlows := rfl
@[simp] theorem State.setCtx_rxFlows (s : State) (n : Nat) (c : Ctx) : (s.setCtx n c).rxFlows = s.rxFlows := rfl
@[simp] theorem State.setCtx_ports (s : State) (n : Nat) (c : Ctx) : (s.setCtx n c).ports = s.ports := rfl
@[simp] theorem State.setCtx_spares (s : State) (n : Nat) (c : Ctx) : (s.setCtx n c).spares = s.spares := rfl
@[simp] theorem State.setCtx_routerQ (s : State) (n : Nat) (c : Ctx) : (s.setCtx n c).routerQ = s.routerQ := rfl
@[simp] theorem State.setCtx_held (s : State) (n : Nat) (c : Ctx) : (s.setCtx n c).held = s.held := rfl
@[simp] theorem State.setCtx_rowCe (s : State) (n : Nat) (c : Ctx) : (s.setCtx n c).rowCe = s.rowCe := rfl
@[simp] theorem State.setCtx_laneCe (s : State) (n : Nat) (c : Ctx) : (s.setCtx n c).laneCe = s.laneCe := rfl
@[simp] theorem State.setCtx_marked (s : State) (n : Nat) (c : Ctx) : (s.setCtx n c).marked = s.marked := rfl
@[simp] theorem State.setCtx_remaps (s : State) (n : Nat) (c : Ctx) : (s.setCtx n c).remaps = s.remaps := rfl
@[simp] theorem State.setCtx_lanesPending (s : State) (n : Nat) (c : Ctx) : (s.setCtx n c).lanesPending = s.lanesPending := rfl
@[simp] theorem State.setCtx_lanesRepaired (s : State) (n : Nat) (c : Ctx) : (s.setCtx n c).lanesRepaired = s.lanesRepaired := rfl
@[simp] theorem State.setCtx_postponed (s : State) (n : Nat) (c : Ctx) : (s.setCtx n c).postponed = s.postponed := rfl
@[simp] theorem State.setCtx_stackUnits (s : State) (n : Nat) (c : Ctx) : (s.setCtx n c).stackUnits = s.stackUnits := rfl
@[simp] theorem State.setCtx_sextant (s : State) (n : Nat) (c : Ctx) : (s.setCtx n c).sextant = s.sextant := rfl
@[simp] theorem State.setCtx_chrU (s : State) (n : Nat) (c : Ctx) : (s.setCtx n c).chrU = s.chrU := rfl
@[simp] theorem State.setCtx_stepU (s : State) (n : Nat) (c : Ctx) : (s.setCtx n c).stepU = s.stepU := rfl
@[simp] theorem State.setCtx_fixU (s : State) (n : Nat) (c : Ctx) : (s.setCtx n c).fixU = s.fixU := rfl
@[simp] theorem State.setCtx_power (s : State) (n : Nat) (c : Ctx) : (s.setCtx n c).power = s.power := rfl
@[simp] theorem State.setCtx_health (s : State) (n : Nat) (c : Ctx) : (s.setCtx n c).health = s.health := rfl
@[simp] theorem State.setCtx_hosts (s : State) (n : Nat) (c : Ctx) : (s.setCtx n c).hosts = s.hosts := rfl
@[simp] theorem State.setCtx_hmu (s : State) (n : Nat) (c : Ctx) : (s.setCtx n c).hmu = s.hmu := rfl
@[simp] theorem State.setCtx_fw (s : State) (n : Nat) (c : Ctx) : (s.setCtx n c).fw = s.fw := rfl
@[simp] theorem State.setCtx_beaconDue (s : State) (n : Nat) (c : Ctx) : (s.setCtx n c).beaconDue = s.beaconDue := rfl
@[simp] theorem State.setCtx_drift (s : State) (n : Nat) (c : Ctx) : (s.setCtx n c).drift = s.drift := rfl
@[simp] theorem State.setCtx_out (s : State) (n : Nat) (c : Ctx) : (s.setCtx n c).out = s.out := rfl
@[simp] theorem State.setCtx_events (s : State) (n : Nat) (c : Ctx) : (s.setCtx n c).events = s.events := rfl
@[simp] theorem State.setCtx_violations (s : State) (n : Nat) (c : Ctx) : (s.setCtx n c).violations = s.violations := rfl
@[simp] theorem State.obj_setCtx (s : State) (n : Nat) (c : Ctx) (j : Nat) : (s.setCtx n c).obj j = s.obj j := rfl
@[simp] theorem State.coreSt_setCtx (s : State) (n : Nat) (c : Ctx) (j : Nat) : (s.setCtx n c).coreSt j = s.coreSt j := rfl
@[simp] theorem State.core_setCtx (s : State) (n : Nat) (c : Ctx) (j : Nat) : (s.setCtx n c).core j = s.core j := rfl
@[simp] theorem State.wp_setCtx (s : State) (n : Nat) (c : Ctx) (j : Nat) : (s.setCtx n c).wp j = s.wp j := rfl
@[simp] theorem State.chart_setCtx (s : State) (n : Nat) (c : Ctx) (j : Nat) : (s.setCtx n c).chart j = s.chart j := rfl
@[simp] theorem State.port_setCtx (s : State) (n : Nat) (c : Ctx) (j : Nat) : (s.setCtx n c).port j = s.port j := rfl
@[simp] theorem State.byte_setCtx (s : State) (n : Nat) (c : Ctx) (j : Nat) : (s.setCtx n c).byte j = s.byte j := rfl
@[simp] theorem State.bytes_setCtx (s : State) (n : Nat) (c : Ctx) (j r : Nat) : (s.setCtx n c).bytes j r = s.bytes j r := rfl
@[simp] theorem State.conn_setCtx (s : State) (n : Nat) (c : Ctx) (j : Nat) : (s.setCtx n c).conn j = s.conn j := rfl

@[simp] theorem State.setSwaps_pending (s : State) (l : List Swap) : (s.setSwaps l).pending = s.pending := rfl
@[simp] theorem State.setSwaps_now (s : State) (l : List Swap) : (s.setSwaps l).now = s.now := rfl
@[simp] theorem State.setSwaps_free (s : State) (l : List Swap) : (s.setSwaps l).free = s.free := rfl
@[simp] theorem State.setSwaps_posts (s : State) (l : List Swap) : (s.setSwaps l).posts = s.posts := rfl
@[simp] theorem State.setSwaps_dict (s : State) (l : List Swap) : (s.setSwaps l).dict = s.dict := rfl
@[simp] theorem State.setSwaps_mem (s : State) (l : List Swap) : (s.setSwaps l).mem = s.mem := rfl
@[simp] theorem State.setSwaps_tb (s : State) (l : List Swap) : (s.setSwaps l).tb = s.tb := rfl
@[simp] theorem State.setSwaps_errs (s : State) (l : List Swap) : (s.setSwaps l).errs = s.errs := rfl
@[simp] theorem State.setSwaps_cores (s : State) (l : List Swap) : (s.setSwaps l).cores = s.cores := rfl
@[simp] theorem State.setSwaps_wps (s : State) (l : List Swap) : (s.setSwaps l).wps = s.wps := rfl
@[simp] theorem State.setSwaps_waiters (s : State) (l : List Swap) : (s.setSwaps l).waiters = s.waiters := rfl
@[simp] theorem State.setSwaps_timed (s : State) (l : List Swap) : (s.setSwaps l).timed = s.timed := rfl
@[simp] theorem State.setSwaps_timedHeld (s : State) (l : List Swap) : (s.setSwaps l).timedHeld = s.timedHeld := rfl
@[simp] theorem State.setSwaps_chr (s : State) (l : List Swap) : (s.setSwaps l).chr = s.chr := rfl
@[simp] theorem State.setSwaps_charts (s : State) (l : List Swap) : (s.setSwaps l).charts = s.charts := rfl
@[simp] theorem State.setSwaps_switchAt (s : State) (l : List Swap) : (s.setSwaps l).switchAt = s.switchAt := rfl
@[simp] theorem State.setSwaps_fans (s : State) (l : List Swap) : (s.setSwaps l).fans = s.fans := rfl
@[simp] theorem State.setSwaps_txFlows (s : State) (l : List Swap) : (s.setSwaps l).txFlows = s.txFlows := rfl
@[simp] theorem State.setSwaps_rxFlows (s : State) (l : List Swap) : (s.setSwaps l).rxFlows = s.rxFlows := rfl
@[simp] theorem State.setSwaps_ports (s : State) (l : List Swap) : (s.setSwaps l).ports = s.ports := rfl
@[simp] theorem State.setSwaps_spares (s : State) (l : List Swap) : (s.setSwaps l).spares = s.spares := rfl
@[simp] theorem State.setSwaps_routerQ (s : State) (l : List Swap) : (s.setSwaps l).routerQ = s.routerQ := rfl
@[simp] theorem State.setSwaps_held (s : State) (l : List Swap) : (s.setSwaps l).held = s.held := rfl
@[simp] theorem State.setSwaps_rowCe (s : State) (l : List Swap) : (s.setSwaps l).rowCe = s.rowCe := rfl
@[simp] theorem State.setSwaps_laneCe (s : State) (l : List Swap) : (s.setSwaps l).laneCe = s.laneCe := rfl
@[simp] theorem State.setSwaps_marked (s : State) (l : List Swap) : (s.setSwaps l).marked = s.marked := rfl
@[simp] theorem State.setSwaps_remaps (s : State) (l : List Swap) : (s.setSwaps l).remaps = s.remaps := rfl
@[simp] theorem State.setSwaps_lanesPending (s : State) (l : List Swap) : (s.setSwaps l).lanesPending = s.lanesPending := rfl
@[simp] theorem State.setSwaps_lanesRepaired (s : State) (l : List Swap) : (s.setSwaps l).lanesRepaired = s.lanesRepaired := rfl
@[simp] theorem State.setSwaps_postponed (s : State) (l : List Swap) : (s.setSwaps l).postponed = s.postponed := rfl
@[simp] theorem State.setSwaps_stackUnits (s : State) (l : List Swap) : (s.setSwaps l).stackUnits = s.stackUnits := rfl
@[simp] theorem State.setSwaps_sextant (s : State) (l : List Swap) : (s.setSwaps l).sextant = s.sextant := rfl
@[simp] theorem State.setSwaps_chrU (s : State) (l : List Swap) : (s.setSwaps l).chrU = s.chrU := rfl
@[simp] theorem State.setSwaps_ctxs (s : State) (l : List Swap) : (s.setSwaps l).ctxs = s.ctxs := rfl
@[simp] theorem State.setSwaps_stepU (s : State) (l : List Swap) : (s.setSwaps l).stepU = s.stepU := rfl
@[simp] theorem State.setSwaps_fixU (s : State) (l : List Swap) : (s.setSwaps l).fixU = s.fixU := rfl
@[simp] theorem State.setSwaps_power (s : State) (l : List Swap) : (s.setSwaps l).power = s.power := rfl
@[simp] theorem State.setSwaps_hosts (s : State) (l : List Swap) : (s.setSwaps l).hosts = s.hosts := rfl
@[simp] theorem State.setSwaps_hmu (s : State) (l : List Swap) : (s.setSwaps l).hmu = s.hmu := rfl
@[simp] theorem State.setSwaps_fw (s : State) (l : List Swap) : (s.setSwaps l).fw = s.fw := rfl
@[simp] theorem State.setSwaps_beaconDue (s : State) (l : List Swap) : (s.setSwaps l).beaconDue = s.beaconDue := rfl
@[simp] theorem State.setSwaps_drift (s : State) (l : List Swap) : (s.setSwaps l).drift = s.drift := rfl
@[simp] theorem State.setSwaps_out (s : State) (l : List Swap) : (s.setSwaps l).out = s.out := rfl
@[simp] theorem State.setSwaps_events (s : State) (l : List Swap) : (s.setSwaps l).events = s.events := rfl
@[simp] theorem State.setSwaps_violations (s : State) (l : List Swap) : (s.setSwaps l).violations = s.violations := rfl
@[simp] theorem State.obj_setSwaps (s : State) (l : List Swap) (j : Nat) : (s.setSwaps l).obj j = s.obj j := rfl
@[simp] theorem State.coreSt_setSwaps (s : State) (l : List Swap) (j : Nat) : (s.setSwaps l).coreSt j = s.coreSt j := rfl
@[simp] theorem State.core_setSwaps (s : State) (l : List Swap) (j : Nat) : (s.setSwaps l).core j = s.core j := rfl
@[simp] theorem State.wp_setSwaps (s : State) (l : List Swap) (j : Nat) : (s.setSwaps l).wp j = s.wp j := rfl
@[simp] theorem State.chart_setSwaps (s : State) (l : List Swap) (j : Nat) : (s.setSwaps l).chart j = s.chart j := rfl
@[simp] theorem State.port_setSwaps (s : State) (l : List Swap) (j : Nat) : (s.setSwaps l).port j = s.port j := rfl
@[simp] theorem State.byte_setSwaps (s : State) (l : List Swap) (j : Nat) : (s.setSwaps l).byte j = s.byte j := rfl
@[simp] theorem State.bytes_setSwaps (s : State) (l : List Swap) (j r : Nat) : (s.setSwaps l).bytes j r = s.bytes j r := rfl
@[simp] theorem State.conn_setSwaps (s : State) (l : List Swap) (j : Nat) : (s.setSwaps l).conn j = s.conn j := rfl
@[simp] theorem State.ctx_setSwaps (s : State) (l : List Swap) (j : Nat) : (s.setSwaps l).ctx j = s.ctx j := rfl

@[simp] theorem State.setObjs_pending (s : State) (l : List (Nat × Nat)) : (s.setObjs l).pending = s.pending := by
  induction l generalizing s with
  | nil => rfl
  | cons e l ih => exact ih _
@[simp] theorem State.setObjs_now (s : State) (l : List (Nat × Nat)) : (s.setObjs l).now = s.now := by
  induction l generalizing s with
  | nil => rfl
  | cons e l ih => exact ih _
@[simp] theorem State.setObjs_free (s : State) (l : List (Nat × Nat)) : (s.setObjs l).free = s.free := by
  induction l generalizing s with
  | nil => rfl
  | cons e l ih => exact ih _
@[simp] theorem State.setObjs_posts (s : State) (l : List (Nat × Nat)) : (s.setObjs l).posts = s.posts := by
  induction l generalizing s with
  | nil => rfl
  | cons e l ih => exact ih _
@[simp] theorem State.setObjs_mem (s : State) (l : List (Nat × Nat)) : (s.setObjs l).mem = s.mem := by
  induction l generalizing s with
  | nil => rfl
  | cons e l ih => exact ih _
@[simp] theorem State.setObjs_tb (s : State) (l : List (Nat × Nat)) : (s.setObjs l).tb = s.tb := by
  induction l generalizing s with
  | nil => rfl
  | cons e l ih => exact ih _
@[simp] theorem State.setObjs_errs (s : State) (l : List (Nat × Nat)) : (s.setObjs l).errs = s.errs := by
  induction l generalizing s with
  | nil => rfl
  | cons e l ih => exact ih _
@[simp] theorem State.setObjs_cores (s : State) (l : List (Nat × Nat)) : (s.setObjs l).cores = s.cores := by
  induction l generalizing s with
  | nil => rfl
  | cons e l ih => exact ih _
@[simp] theorem State.setObjs_wps (s : State) (l : List (Nat × Nat)) : (s.setObjs l).wps = s.wps := by
  induction l generalizing s with
  | nil => rfl
  | cons e l ih => exact ih _
@[simp] theorem State.setObjs_waiters (s : State) (l : List (Nat × Nat)) : (s.setObjs l).waiters = s.waiters := by
  induction l generalizing s with
  | nil => rfl
  | cons e l ih => exact ih _
@[simp] theorem State.setObjs_timed (s : State) (l : List (Nat × Nat)) : (s.setObjs l).timed = s.timed := by
  induction l generalizing s with
  | nil => rfl
  | cons e l ih => exact ih _
@[simp] theorem State.setObjs_timedHeld (s : State) (l : List (Nat × Nat)) : (s.setObjs l).timedHeld = s.timedHeld := by
  induction l generalizing s with
  | nil => rfl
  | cons e l ih => exact ih _
@[simp] theorem State.setObjs_chr (s : State) (l : List (Nat × Nat)) : (s.setObjs l).chr = s.chr := by
  induction l generalizing s with
  | nil => rfl
  | cons e l ih => exact ih _
@[simp] theorem State.setObjs_charts (s : State) (l : List (Nat × Nat)) : (s.setObjs l).charts = s.charts := by
  induction l generalizing s with
  | nil => rfl
  | cons e l ih => exact ih _
@[simp] theorem State.setObjs_switchAt (s : State) (l : List (Nat × Nat)) : (s.setObjs l).switchAt = s.switchAt := by
  induction l generalizing s with
  | nil => rfl
  | cons e l ih => exact ih _
@[simp] theorem State.setObjs_fans (s : State) (l : List (Nat × Nat)) : (s.setObjs l).fans = s.fans := by
  induction l generalizing s with
  | nil => rfl
  | cons e l ih => exact ih _
@[simp] theorem State.setObjs_txFlows (s : State) (l : List (Nat × Nat)) : (s.setObjs l).txFlows = s.txFlows := by
  induction l generalizing s with
  | nil => rfl
  | cons e l ih => exact ih _
@[simp] theorem State.setObjs_rxFlows (s : State) (l : List (Nat × Nat)) : (s.setObjs l).rxFlows = s.rxFlows := by
  induction l generalizing s with
  | nil => rfl
  | cons e l ih => exact ih _
@[simp] theorem State.setObjs_ports (s : State) (l : List (Nat × Nat)) : (s.setObjs l).ports = s.ports := by
  induction l generalizing s with
  | nil => rfl
  | cons e l ih => exact ih _
@[simp] theorem State.setObjs_spares (s : State) (l : List (Nat × Nat)) : (s.setObjs l).spares = s.spares := by
  induction l generalizing s with
  | nil => rfl
  | cons e l ih => exact ih _
@[simp] theorem State.setObjs_routerQ (s : State) (l : List (Nat × Nat)) : (s.setObjs l).routerQ = s.routerQ := by
  induction l generalizing s with
  | nil => rfl
  | cons e l ih => exact ih _
@[simp] theorem State.setObjs_held (s : State) (l : List (Nat × Nat)) : (s.setObjs l).held = s.held := by
  induction l generalizing s with
  | nil => rfl
  | cons e l ih => exact ih _
@[simp] theorem State.setObjs_rowCe (s : State) (l : List (Nat × Nat)) : (s.setObjs l).rowCe = s.rowCe := by
  induction l generalizing s with
  | nil => rfl
  | cons e l ih => exact ih _
@[simp] theorem State.setObjs_laneCe (s : State) (l : List (Nat × Nat)) : (s.setObjs l).laneCe = s.laneCe := by
  induction l generalizing s with
  | nil => rfl
  | cons e l ih => exact ih _
@[simp] theorem State.setObjs_marked (s : State) (l : List (Nat × Nat)) : (s.setObjs l).marked = s.marked := by
  induction l generalizing s with
  | nil => rfl
  | cons e l ih => exact ih _
@[simp] theorem State.setObjs_remaps (s : State) (l : List (Nat × Nat)) : (s.setObjs l).remaps = s.remaps := by
  induction l generalizing s with
  | nil => rfl
  | cons e l ih => exact ih _
@[simp] theorem State.setObjs_lanesPending (s : State) (l : List (Nat × Nat)) : (s.setObjs l).lanesPending = s.lanesPending := by
  induction l generalizing s with
  | nil => rfl
  | cons e l ih => exact ih _
@[simp] theorem State.setObjs_lanesRepaired (s : State) (l : List (Nat × Nat)) : (s.setObjs l).lanesRepaired = s.lanesRepaired := by
  induction l generalizing s with
  | nil => rfl
  | cons e l ih => exact ih _
@[simp] theorem State.setObjs_postponed (s : State) (l : List (Nat × Nat)) : (s.setObjs l).postponed = s.postponed := by
  induction l generalizing s with
  | nil => rfl
  | cons e l ih => exact ih _
@[simp] theorem State.setObjs_stackUnits (s : State) (l : List (Nat × Nat)) : (s.setObjs l).stackUnits = s.stackUnits := by
  induction l generalizing s with
  | nil => rfl
  | cons e l ih => exact ih _
@[simp] theorem State.setObjs_sextant (s : State) (l : List (Nat × Nat)) : (s.setObjs l).sextant = s.sextant := by
  induction l generalizing s with
  | nil => rfl
  | cons e l ih => exact ih _
@[simp] theorem State.setObjs_chrU (s : State) (l : List (Nat × Nat)) : (s.setObjs l).chrU = s.chrU := by
  induction l generalizing s with
  | nil => rfl
  | cons e l ih => exact ih _
@[simp] theorem State.setObjs_ctxs (s : State) (l : List (Nat × Nat)) : (s.setObjs l).ctxs = s.ctxs := by
  induction l generalizing s with
  | nil => rfl
  | cons e l ih => exact ih _
@[simp] theorem State.setObjs_stepU (s : State) (l : List (Nat × Nat)) : (s.setObjs l).stepU = s.stepU := by
  induction l generalizing s with
  | nil => rfl
  | cons e l ih => exact ih _
@[simp] theorem State.setObjs_fixU (s : State) (l : List (Nat × Nat)) : (s.setObjs l).fixU = s.fixU := by
  induction l generalizing s with
  | nil => rfl
  | cons e l ih => exact ih _
@[simp] theorem State.setObjs_power (s : State) (l : List (Nat × Nat)) : (s.setObjs l).power = s.power := by
  induction l generalizing s with
  | nil => rfl
  | cons e l ih => exact ih _
@[simp] theorem State.setObjs_health (s : State) (l : List (Nat × Nat)) : (s.setObjs l).health = s.health := by
  induction l generalizing s with
  | nil => rfl
  | cons e l ih => exact ih _
@[simp] theorem State.setObjs_hosts (s : State) (l : List (Nat × Nat)) : (s.setObjs l).hosts = s.hosts := by
  induction l generalizing s with
  | nil => rfl
  | cons e l ih => exact ih _
@[simp] theorem State.setObjs_hmu (s : State) (l : List (Nat × Nat)) : (s.setObjs l).hmu = s.hmu := by
  induction l generalizing s with
  | nil => rfl
  | cons e l ih => exact ih _
@[simp] theorem State.setObjs_fw (s : State) (l : List (Nat × Nat)) : (s.setObjs l).fw = s.fw := by
  induction l generalizing s with
  | nil => rfl
  | cons e l ih => exact ih _
@[simp] theorem State.setObjs_beaconDue (s : State) (l : List (Nat × Nat)) : (s.setObjs l).beaconDue = s.beaconDue := by
  induction l generalizing s with
  | nil => rfl
  | cons e l ih => exact ih _
@[simp] theorem State.setObjs_drift (s : State) (l : List (Nat × Nat)) : (s.setObjs l).drift = s.drift := by
  induction l generalizing s with
  | nil => rfl
  | cons e l ih => exact ih _
@[simp] theorem State.setObjs_out (s : State) (l : List (Nat × Nat)) : (s.setObjs l).out = s.out := by
  induction l generalizing s with
  | nil => rfl
  | cons e l ih => exact ih _
@[simp] theorem State.setObjs_events (s : State) (l : List (Nat × Nat)) : (s.setObjs l).events = s.events := by
  induction l generalizing s with
  | nil => rfl
  | cons e l ih => exact ih _
@[simp] theorem State.setObjs_violations (s : State) (l : List (Nat × Nat)) : (s.setObjs l).violations = s.violations := by
  induction l generalizing s with
  | nil => rfl
  | cons e l ih => exact ih _
@[simp] theorem State.core_setObjs (s : State) (l : List (Nat × Nat)) (j : Nat) : (s.setObjs l).core j = s.core j := by
  induction l generalizing s with
  | nil => rfl
  | cons e l ih => exact ih _
@[simp] theorem State.wp_setObjs (s : State) (l : List (Nat × Nat)) (j : Nat) : (s.setObjs l).wp j = s.wp j := by
  induction l generalizing s with
  | nil => rfl
  | cons e l ih => exact ih _
@[simp] theorem State.chart_setObjs (s : State) (l : List (Nat × Nat)) (j : Nat) : (s.setObjs l).chart j = s.chart j := by
  induction l generalizing s with
  | nil => rfl
  | cons e l ih => exact ih _
@[simp] theorem State.port_setObjs (s : State) (l : List (Nat × Nat)) (j : Nat) : (s.setObjs l).port j = s.port j := by
  induction l generalizing s with
  | nil => rfl
  | cons e l ih => exact ih _
@[simp] theorem State.byte_setObjs (s : State) (l : List (Nat × Nat)) (j : Nat) : (s.setObjs l).byte j = s.byte j := by
  induction l generalizing s with
  | nil => rfl
  | cons e l ih => exact ih _
@[simp] theorem State.bytes_setObjs (s : State) (l : List (Nat × Nat)) (j r : Nat) : (s.setObjs l).bytes j r = s.bytes j r := by
  induction l generalizing s with
  | nil => rfl
  | cons e l ih => exact ih _
@[simp] theorem State.conn_setObjs (s : State) (l : List (Nat × Nat)) (j : Nat) : (s.setObjs l).conn j = s.conn j := by
  induction l generalizing s with
  | nil => rfl
  | cons e l ih => exact ih _
@[simp] theorem State.ctx_setObjs (s : State) (l : List (Nat × Nat)) (j : Nat) : (s.setObjs l).ctx j = s.ctx j := by
  induction l generalizing s with
  | nil => rfl
  | cons e l ih => exact ih _

end Sys2Proof.Machine
end

