-- ==== Sys2Proof/Laws/Quiet.lean ====
section
/-! SUPPORT. Quiet states settle at once; what hearing and answering a message of the dictionary protocol leaves of the state. -/

namespace Sys2Proof.Machine

/-- Nothing follows in a quiet state. -/
theorem State.settle_quiet {u : State} (q : u.Quiet) (n : Nat) : u.settle n = u := by
  cases n with
  | zero => rfl
  | succ n =>
    rw [State.settle]
    have w : u.swapDue = false := by unfold State.swapDue; rw [q.swaps]; simp
    simp only [q.posts, w]
    have : u.hostDrain = none := by
      unfold State.hostDrain
      rw [List.findSome?_eq_none_iff.mpr (fun e h => by rw [q.hosts e h]; rfl)]
      rfl
    rw [this]
    unfold State.noteSubs
    rw [q.subs]; rfl

theorem State.after_quiet {u : State} (q : u.Quiet) : u.after = u := State.settle_quiet q _

theorem State.afterFirst_quiet {u : State} (q : u.Quiet) : u.afterFirst = u := State.settle_quiet q _

/-! ### Hearing a message -/

theorem State.heard_eq (s : State) (q : HdpReq) : ∃ h, s.heard q = { s with hmu := h } ∧ h.subs = s.hmu.subs ∧ h.queueA = s.hmu.queueA ∧
    h.queueB = s.hmu.queueB ∧ h.keyDue = s.hmu.keyDue := by
  unfold State.heard State.takeCounter State.setRoleKey State.hmuWork
  dsimp only
  repeat' split
  all_goals exact ⟨_, rfl, rfl, rfl, rfl, rfl⟩

theorem State.answer_eq (s : State) (m : HdpReq) (dup : Bool) : ∃ h, s.answer m dup = { s with hmu := h } ∧ h.subs = s.hmu.subs := by
  unfold State.answer State.queueHdp
  dsimp only
  split <;> exact ⟨_, rfl, rfl⟩

theorem State.cache_eq (s : State) (q : HdpReq) (r : Option HdpReq) : ∃ h, s.cache q r = { s with hmu := h } ∧ h.subs = s.hmu.subs := by
  unfold State.cache State.setRoleKey
  dsimp only
  repeat' split
  all_goals exact ⟨_, rfl, rfl⟩

/-- An answered request: one more is counted, and the unit holds what it holds. -/
theorem State.answered_eq (s : State) (q : HdpReq) (n : Nat) (l : List Byte) :
    ∃ h, s.answered q n l = { (s.count 64 Obj.HDP_REQUESTS 1) with hmu := h } ∧ h.subs = s.hmu.subs := by
  obtain ⟨h1, e1, k1⟩ := State.answer_eq (s.count 64 Obj.HDP_REQUESTS 1) (answerTo q 7 0 n l) false
  obtain ⟨h2, e2, k2⟩ := State.cache_eq ((s.count 64 Obj.HDP_REQUESTS 1).answer (answerTo q 7 0 n l) false) q (some (answerTo q 7 0 n l))
  refine ⟨h2, ?_, ?_⟩
  · unfold State.answered
    dsimp only
    rw [e2, e1]
  · rw [k2, e1]; exact k1

theorem State.heard_quiet {s : State} {q : HdpReq} (k : s.Quiet) : (s.heard q).Quiet := by
  obtain ⟨h, e, a, -⟩ := s.heard_eq q
  rw [e]
  exact ⟨k.posts, k.swaps, k.hosts, a.trans k.subs⟩

theorem State.answered_quiet {s : State} {q : HdpReq} {n : Nat} {l : List Byte} (k : s.Quiet) : (s.answered q n l).Quiet := by
  obtain ⟨h, e, a⟩ := s.answered_eq q n l
  rw [e]
  exact ⟨k.posts, k.swaps, k.hosts, a.trans k.subs⟩

/-- A write performed in a quiet state: what the effect has done, and the request counted. -/
theorem State.wrote_quiet {u : State} (h : Hdr) (key v : Nat) (k : u.Quiet) : ∃ m, u.wrote h key v = { (u.count 64 Obj.HDP_REQUESTS 1) with hmu := m } := by
  unfold State.wrote
  rw [State.after_quiet (State.answered_quiet k)]
  obtain ⟨m, e, -⟩ := u.answered_eq (writeReq h key v) 0 []
  exact ⟨m, e⟩

end Sys2Proof.Machine
end

