-- ==== Sys2Proof/Tests/Slice0.lean ====
section
/-! SUPPORT. Tests: ill-formed commands are refused; for every statement with hypotheses, and for every clause of one, a state and operands
that meet them; small steps whose results are the manual's. -/

open Sys2Proof Sys2Proof.Machine

namespace Sys2Proof.Tests

set_option Elab.async false

/-! ### A module ready for service, and requests of its Service role -/

/-- A key of the Service role. -/
def key : List Byte := [7#8]

/-- A header of the Service role, not yet tagged. -/
def hdr : Hdr :=
  { seg := .a, ver := 1, role := 3, tagged := true, reqId := 1, counter := 5, dev := 0xFFFF, tag := 0, src := 1, port := 47808, held := 0 }

/-- An object's value put in its place among others. -/
def put : List (Nat × Nat) → Nat × Nat → List (Nat × Nat)
  | [], e => [e]
  | x :: r, e => if e.1 < x.1 then e :: x :: r else if e.1 = x.1 then e :: r else x :: put r e

/-- The module in service, with the Service key set and the objects given. -/
def module (l : List (Nat × Nat)) : State :=
  { State.reset with
    dict := (([(Obj.START_STATE, 4), (Obj.SEG_STATE, 5)] ++ l).foldl put [])
    hmu := { HmuUnit.reset with service := .fresh (some key) } }

/-- The tag of a request under the key; a test never looks into it. -/
@[irreducible] def tagOf (q : HdpReq) : Nat := hdpTag key q false

/-- A request with its tag. -/
def signed (q : HdpReq) : HdpReq := { q with hdr := { q.hdr with tag := tagOf q } }

theorem tag_any (q : HdpReq) (k : List Byte) (n : Nat) : hdpTag k { q with hdr := { q.hdr with tag := n } } false = hdpTag k q false :=
  congrArg (fun x => kmac256 k (leBytes 32 x ++ q.payload) hdpCustom) (show hdpHeader { q with hdr := { q.hdr with tag := n } } false = hdpHeader q false from rfl)

theorem tag_signed (q : HdpReq) : hdpTag key (signed q) false = tagOf q := by
  rw [signed, tag_any, tagOf]

theorem heard_signed (s : State) (q : HdpReq) : s.heard (signed q) = s.heard q := rfl

/-- What a request of the Service role needs to be heard. -/
def hearable (s : State) (q : HdpReq) : Bool :=
  s.segUp q.hdr.seg && s.datagramGood q.hdr && s.hmuServes && s.obj Obj.START_STATE != 1 && reqFormed q && !noRoom q && q.hdr.ver == 1 && decide (q.typ < 12) &&
    q.hdr.tagged && (s.hmu.service.key == some key && q.hdr.role == 3) && s.hmu.service.cache.isEmpty && s.hmu.service.accepts q.hdr.counter &&
    q.hdr.dev == 0xFFFF

theorem hears (s : State) (q : HdpReq) (g : hearable s q = true) : s.Hears (signed q) := by
  simp only [hearable, Bool.and_eq_true, bne_iff_ne, beq_iff_eq, decide_eq_true_eq, List.isEmpty_iff, Bool.not_eq_true'] at g
  obtain ⟨⟨⟨⟨⟨⟨⟨⟨⟨⟨⟨⟨g1, gd⟩, g2⟩, g3⟩, g4⟩, g0⟩, g5⟩, g6⟩, g7⟩, g8, g9⟩, g10⟩, g11⟩, g12⟩ := g
  refine ⟨g1, gd, g2, g3, g4, g0, g5, g6, ?_, .inl g12⟩
  have k : s.hmuWork.roleKey (signed q).hdr.role = s.hmu.service := by
    show s.hmuWork.roleKey q.hdr.role = _
    rw [g9]; rfl
  unfold State.authenticate
  rw [k, show (signed q).hdr.tagged = q.hdr.tagged from rfl, g7]
  simp only [Bool.not_true, Bool.false_eq_true, if_false]
  rw [g8]; dsimp only
  rw [tag_signed, if_neg (by simp [signed]), g10]
  simp only [List.find?_nil]
  rw [show (signed q).hdr.counter = q.hdr.counter from rfl, g11]; rfl

theorem grants (s : State) (q : HdpReq) (w : Bool) (k : Option Bool) (g : hearable s q = true)
    (o : (s.heard q).objectCode (reqKey q) q.hdr.role w k = 0) : s.Grants (signed q) w k := { hears s q g with object := o }

theorem quiet {s : State} (h : s.posts = [] ∧ s.health.swaps = [] ∧ (∀ e ∈ s.hosts, e.2.waits = []) ∧ s.hmu.subs = []) : s.Quiet :=
  ⟨h.1, h.2.1, h.2.2.1, h.2.2.2⟩

/-- A granted write that meets a condition exists: that of `v` to `k` in `s`. -/
def Writes (s : State) (k v : Nat) (ok : State → Prop) : Prop := ∃ h, s.GrantsWrite h k v ∧ ok (s.heardWrite h k v)

/-- A write is heard and granted, by evaluation. -/
def writeGood (s : State) (k v : Nat) : Bool :=
  hearable s (writeReq hdr k v) && (s.heard (writeReq hdr k v)).objectCode (reqKey (writeReq hdr k v)) 3 true (some false) == 0

/-- A granted segmented write that meets a condition exists. -/
def Blobs (s : State) (k n : Nat) (ok : State → Prop) : Prop := ∃ h, s.GrantsBlob h k n ∧ ok (s.heardBlob h k n)

def blobGood (s : State) (k n : Nat) : Bool :=
  hearable s (blobReq hdr k n) && (s.heard (blobReq hdr k n)).objectCode (reqKey (blobReq hdr k n)) 3 true (some true) == 0 &&
    (s.heard (blobReq hdr k n)).freeTransfer.isSome && !(s.heard (blobReq hdr k n)).writeOpen k

theorem blob_signed (k n : Nat) : blobReq (signed (blobReq hdr k n)).hdr k n = signed (blobReq hdr k n) := rfl

theorem write_signed (k v : Nat) : writeReq (signed (writeReq hdr k v)).hdr k v = signed (writeReq hdr k v) := rfl

theorem writes (s : State) (k v : Nat) {ok : State → Prop} (g : writeGood s k v = true) (o : ok (s.heard (writeReq hdr k v))) :
    Writes s k v ok := by
  simp only [writeGood, Bool.and_eq_true, beq_iff_eq] at g
  refine ⟨(signed (writeReq hdr k v)).hdr, ?_, ?_⟩
  · unfold State.GrantsWrite
    rw [write_signed]
    exact grants s _ _ _ g.1 g.2
  · unfold State.heardWrite
    rw [write_signed, heard_signed]
    exact o

theorem blobs (s : State) (k n : Nat) {ok : State → Prop} (g : blobGood s k n = true)
    (o : ∀ m, ok { s with hmu := m }) : Blobs s k n ok := by
  simp only [blobGood, Bool.and_eq_true, beq_iff_eq, Bool.not_eq_true'] at g
  refine ⟨(signed (blobReq hdr k n)).hdr, ⟨?_, ?_, ?_⟩, ?_⟩
  · rw [blob_signed]; exact grants s _ _ _ g.1.1.1 g.1.1.2
  · rw [blob_signed, heard_signed]; exact g.1.2
  · rw [blob_signed, heard_signed]; exact g.2
  · unfold State.heardBlob
    obtain ⟨m, e, -⟩ := s.heard_eq (blobReq (signed (blobReq hdr k n)).hdr k n)
    obtain ⟨m', e', -⟩ := (s.heard (blobReq (signed (blobReq hdr k n)).hdr k n)).answer_eq
      (answerTo (blobReq (signed (blobReq hdr k n)).hdr k n) 7 0 0 []) false
    rw [e', e]
    exact o m'

/-- The module with slice 5 in slot 0, which owns cores C000–C047 and C052–C099, all of HBM and all Waypoints of the first and the last
group, with the right to run kernels. -/
def sliced (l : List (Nat × Nat)) : State :=
  module ([(Obj.SLICE_STATE 0, 1), (Obj.SLICE_ID 0, 5), (Obj.SLICE_CORES 0, 2 ^ 48 - 1 + (2 ^ 48 - 1) * 2 ^ 52),
    (Obj.SLICE_HBM 0, 2 ^ 768 - 1), (Obj.KERNEL_RIGHT 0, 1), (Obj.GROUP_SLICE 0, 5), (Obj.GROUP_SLICE 255, 5)] ++ l)

/-- The module with core 99 running. -/
def running (c : Core) (l : List (Nat × Nat)) : State := (sliced ((Obj.CORE_STATE 99, CoreSt.running.code) :: l)).setCore 99 c

/-- A core at the first bundle of a program, which is `b`. -/
def atBundle (b : Nat) : Core := { Core.reset with pc := 64, icache := [(0, some (b * 2 ^ 512))] }

/-- A bundle: the words of its scalar, load, store, matrix, vector and SYNC slots. -/
def bundle (sc ld st ma ve sy : Nat) : Nat := 1 + sc * 2 ^ 16 + ld * 2 ^ 64 + st * 2 ^ 104 + ma * 2 ^ 144 + ve * 2 ^ 184 + sy * 2 ^ 216

/-- The module with connection 239 of slice 5 up on port 0, all its regions enabled. -/
def hosting (l : List (Nat × Nat)) : State :=
  sliced ([(Obj.HOST_PORT_STATE 0, 2), (Obj.QP_STATE 239, 1), (Obj.QP_REGIONS 239, 15), (Obj.QP_SLICE_SLOT 239, 0),
    (Obj.QP_REMOTE 239, 5 * 2 ^ 216 + 16 * 2 ^ 224)] ++ l)

/-- A request of connection 239. -/
def request (opcode va len : Nat) (data : List Byte) : HostMsg :=
  { conn := 239, rkey := 0, va, len, data, addend := 1, opcode, psn := 0, ce := false, corrected := 0, uncorrected := 0 }

/-- The module as device 1 of an active Chart whose other device, 2, lies behind port 1. -/
def joined (l : List (Nat × Nat)) : State :=
  { sliced ([(Obj.CHART0_STATE, 3), (Obj.CHART_ACTIVE, 0), (Obj.PORT_STATE 1, 2)] ++ l) with
    charts := [(0, { self := 1, entries := [(2, 2 ^ 19 + 1 + 31 * 2 ^ 5 + 31 * 2 ^ 10)], drainAt := 0 })] }

/-- A frame from device 2, the first of its flow. -/
def fromPeer (f : Frame) : Frame := sealFrame { f with srcDev := 2, srcCore := 0, seq := 1 }

/-- A frame of the module's slice from device 2 to a unit of this module. -/
def peerFrame (op cls aux addr : Nat) (l : List Byte) : Frame := fromPeer (unitFrame op cls 1 5 aux addr l)

theorem sealed_header (f : Frame) : headerGood (sealFrame f) = true := by
  simp only [headerGood, sealFrame, headerCheck, frameHeader, beq_self_eq_true]

theorem sealed_payload (f : Frame) : payloadGood (sealFrame f) = true := by
  simp only [payloadGood, sealFrame, payloadCheck, beq_self_eq_true, Bool.and_self]

/-- What a frame with both its checks right needs to reach a module. -/
def receivesGood (s : State) (f : Frame) (op : Nat) : Bool :=
  decide (s.posts = []) && f.opcode == op && !(s.fenced && sequenced op) && s.chartRoutes f.epoch &&
    (f.mcast || f.dstDev == (s.chart f.epoch).self)

theorem receives {s : State} {f : Frame} {op : Nat} (g : receivesGood s (sealFrame f) op = true) : s.Receives (sealFrame f) op := by
  simp only [receivesGood, Bool.and_eq_true, Bool.or_eq_true, beq_iff_eq, decide_eq_true_eq, Bool.not_eq_true'] at g
  exact ⟨g.1.1.1.1, g.1.1.1.2, sealed_header f, sealed_payload f, g.1.1.2, g.1.2, g.2⟩

theorem accepted {s : State} {f : Frame} {op : Nat} (g : receivesGood s (sealFrame f) op = true)
    (o : (s.rxFlow (recvKey (sealFrame f))).check (sealFrame f).seq = .accept ∧ wellFormedHeader (sealFrame f) = true) :
    s.Accepts (sealFrame f) op := ⟨receives g, o.1, o.2⟩

/-- A frame that meets what `FrameCompletes` asks. -/
def Takes (s : State) (f : Frame) (op : Nat) (ok : State → Prop) : Prop := s.Accepts f op ∧ ok (s.expecting f)

theorem takes {s : State} {f : Frame} {op : Nat} {ok : State → Prop} (g : receivesGood s (sealFrame f) op = true)
    (o : (s.rxFlow (recvKey (sealFrame f))).check (sealFrame f).seq = .accept ∧ wellFormedHeader (sealFrame f) = true)
    (k : ok (s.expecting (sealFrame f))) : Takes s (sealFrame f) op ok := ⟨accepted g o, k⟩

/-! ### Hypotheses that are met: writes -/

theorem test_arm_can_launch : Writes (sliced [(Obj.ENTRY_PC 99, 64), (Obj.LAUNCH_THRESH 99, 0)]) (Obj.CORE_CTRL 99) 1
    (fun u => u.mayArm 99 ∧ u.launchAns 99 = .satisfied) :=
  writes _ _ _ (by decide +kernel)
    (by refine ⟨⟨?_, ?_, ?_, ?_, ?_⟩, ?_⟩ <;> decide +kernel)

theorem test_arm_can_wait : Writes (sliced [(Obj.ENTRY_PC 0, 64), (Obj.LAUNCH_THRESH 0, 1)]) (Obj.CORE_CTRL 0) 1
    (fun u => u.mayArm 0 ∧ u.launchAns 0 = .held) :=
  writes _ _ _ (by decide +kernel)
    (by refine ⟨⟨?_, ?_, ?_, ?_, ?_⟩, ?_⟩ <;> decide +kernel)

theorem test_reset_can : Writes (module [(Obj.CORE_STATE 99, CoreSt.parkedFault.code)]) (Obj.CORE_CTRL 99) 2
    (fun u => u.coreSt 99 ≠ .off ∧ u.coreSt 99 ≠ .fenced) := writes _ _ _ (by decide +kernel) (by decide +kernel)

theorem test_progGen_can : Writes (module []) (Obj.PROG_GEN 99) (2 ^ 32 - 1) (fun u => u.coreSt 99 = .idle) :=
  writes _ _ _ (by decide +kernel) (by decide +kernel)

theorem test_lyrWrite_can : Writes (module [(Obj.CORE_MODE 99, 1)]) (Obj.LYR 99 63) (2 ^ 64 - 1)
    (fun u => u.coreSt 99 = .idle ∧ u.obj (Obj.CORE_MODE 99) = 1) := writes _ _ _ (by decide +kernel) (by decide +kernel)

theorem test_lyrStart_can : Writes (sliced [(Obj.CORE_MODE 0, 1), (Obj.LYR 0 0, 0x10)]) (Obj.LYR_START 0) 1
    (fun u => u.coreSt 0 = .idle ∧ u.obj (Obj.CORE_MODE 0) = 1 ∧ u.layerGood 0) :=
  writes _ _ _ (by decide +kernel)
    (by refine ⟨?_, ?_, ?_, ?_, ?_, ?_⟩ <;> decide +kernel)

theorem test_sealThresh_can : Writes (module []) Obj.SEAL_THRESH (2 ^ 64 - 1) (fun u => bit (u.obj Obj.STEP_NF) 1 = false) :=
  writes _ _ _ (by decide +kernel) (by decide +kernel)

theorem test_portDisable_can : Writes (module []) (Obj.PORT_CTRL 15) 0 (fun _ => True) := writes _ _ _ (by decide +kernel) trivial

theorem test_portEnable_can : Writes (module []) (Obj.PORT_CTRL 0) 1 (fun _ => True) := writes _ _ _ (by decide +kernel) trivial

theorem test_portRetrainCmd_can : Writes (module [(Obj.PORT_STATE 15, 2)]) (Obj.PORT_CTRL 15) 2 (fun u => u.obj (Obj.PORT_STATE 15) ≠ 0) :=
  writes _ _ _ (by decide +kernel) (by decide +kernel)

theorem test_laneSwap_can : Writes (module [(Obj.PORT_STATE 0, 2)]) (Obj.PORT_CTRL 0) 3
    (fun u => u.obj (Obj.PORT_STATE 0) = 2 ∧ u.spareFree 0 = true) := writes _ _ _ (by decide +kernel) (by decide +kernel)

theorem test_chartBegin_can : Writes (module []) Obj.CHART_CTRL 1 (fun u => u.chartState u.chartSel = 0) :=
  writes _ _ _ (by decide +kernel) (by decide +kernel)

theorem test_chartLoad_can : Blobs (module [(Obj.CHART0_STATE, 1)]) Obj.CHART_LOAD (2 + 8 * 1) (fun u => u.chartState u.chartSel = 1) :=
  blobs _ _ _ (by decide +kernel) (fun _ => (by decide +kernel : (module [(Obj.CHART0_STATE, 1)]).chartState (module [(Obj.CHART0_STATE, 1)]).chartSel = 1))

theorem test_chartSelf_can : Writes (module [(Obj.CHART0_STATE, 1)]) Obj.CHART_SELF 16383 (fun u => u.chartState u.chartSel = 1) :=
  writes _ _ _ (by decide +kernel) (by decide +kernel)

theorem test_chartSeal_can : Writes (module [(Obj.CHART_SEL, 1), (Obj.CHART1_STATE, 1)]) Obj.CHART_CTRL 2
    (fun u => u.chartState u.chartSel = 1) := writes _ _ _ (by decide +kernel) (by decide +kernel)

theorem test_switch_can : Writes (module [(Obj.CHART0_STATE, 2)]) Obj.CHART_CTRL 3
    (fun u => u.chartState u.chartSel = 2 ∧ u.switchAt = none) := writes _ _ _ (by decide +kernel) (by decide +kernel)

theorem test_switchClose_can : Writes (module [(Obj.CHART_SEL, 1), (Obj.CHART1_STATE, 2)]) Obj.CHART_CTRL 4
    (fun u => u.chartState u.chartSel = 2 ∧ u.switchAt = none) := writes _ _ _ (by decide +kernel) (by decide +kernel)

theorem test_chartAbort_can : Writes (module [(Obj.CHART0_STATE, 1)]) Obj.CHART_CTRL 5
    (fun u => u.chartState u.chartSel = 1 ∨ u.chartState u.chartSel = 2) := writes _ _ _ (by decide +kernel) (by decide +kernel)

theorem test_sxtRun_can : Writes (module []) Obj.SXT_CTRL 1 (fun u => u.noSliceHoldsCores = true ∧ u.sextant = none) :=
  writes _ _ _ (by decide +kernel) (by decide +kernel)

theorem test_sxtAbort_can : Writes { module [] with sextant := some ⟨0xFF, 0, false, 0⟩ } Obj.SXT_CTRL 2
    (fun u => u.sextant = some ⟨0xFF, 0, false, 0⟩) := writes _ _ _ (by decide +kernel) (by decide +kernel)

theorem test_groupSlice_can : Writes (module []) (Obj.GROUP_SLICE 255) 0xFFFF (fun u => u.groupWaited 255 = false) :=
  writes _ _ _ (by decide +kernel) (by decide +kernel)

theorem test_groupSlice_can_wait : Writes { module [] with waiters := [⟨0, 0, 1, .wwait⟩] } (Obj.GROUP_SLICE 0) 4095
    (fun u => u.groupWaited 0 = true) := writes _ _ _ (by decide +kernel) (by decide +kernel)

theorem test_chrSet_can : Writes (module [(Obj.CHR_STATE, 4)]) Obj.CHR_SET (2 ^ 64 - 1)
    (fun u => u.chrState = 4 ∧ u.noSliceHoldsCores = true) := writes _ _ _ (by decide +kernel) (by decide +kernel)

theorem test_chrParentPort_can : Writes (module []) Obj.CHR_PARENT_PORT 0xFF (fun _ => True) := writes _ _ _ (by decide +kernel) trivial

theorem test_ctxArm_can : Writes (sliced []) (Obj.CTX_ARM 127) 0xBFFFFFFF80 (fun u => u.ctxState 127 = 0 ∧ u.ownerOf 0xBFFFFFFF80 ≠ 0xFFFF) :=
  writes _ _ _ (by decide +kernel) (by decide +kernel)

theorem test_disarm_can : Writes (module [(Obj.CTX_STATE 127, 5)]) (Obj.CTX_CTRL 127) 1 (fun u => u.ctxState 127 = 1 ∨ u.ctxState 127 = 5) :=
  writes _ _ _ (by decide +kernel) (by decide +kernel)

theorem test_stageEnable_can : Writes (sliced [(Obj.STG_CORES 7, 1), (Obj.FREE_WP 7, 1)]) (Obj.STG_CTRL 7) 1
    (fun u => u.stageActive 7 = false ∧ u.stageCode 7 = 0) := writes _ _ _ (by decide +kernel) (by decide +kernel)

theorem test_stageDisable_can : Writes (module [(Obj.STG_STATE 7, 1)]) (Obj.STG_CTRL 7) 2 (fun u => u.stageActive 7 = true) :=
  writes _ _ _ (by decide +kernel) (by decide +kernel)

theorem test_stepBegin_can : Writes (module []) Obj.STEP_CTRL 1 (fun u => u.stepSt = 0 ∧ u.beginGood = true) :=
  writes _ _ _ (by decide +kernel) (by decide +kernel)

theorem test_endJob_can : Writes (module [(Obj.STEP_STATE, 2)]) Obj.STEP_CTRL 2 (fun u => u.stepSt ≠ 8) :=
  writes _ _ _ (by decide +kernel) (by decide +kernel)

theorem test_restore_can : Writes (module [(Obj.STEP_STATE, 1)]) Obj.STEP_CTRL 3 (fun u => u.stepSt = 1) :=
  writes _ _ _ (by decide +kernel) (by decide +kernel)

theorem test_standby_can : Writes (module []) Obj.STEP_CTRL 4 (fun u => u.stepSt = 0) := writes _ _ _ (by decide +kernel) (by decide +kernel)

theorem test_moduleFence_can : Writes (module []) Obj.FENCE_CTRL 1 (fun u => u.obj Obj.FENCE_STATE = 0) :=
  writes _ _ _ (by decide +kernel) (by decide +kernel)

theorem test_release_can : Writes (module [(Obj.FENCE_STATE, 1)]) Obj.FENCE_CTRL 2
    (fun u => u.obj Obj.FENCE_STATE ≠ 0 ∧ u.power.fencePin = false) := writes _ _ _ (by decide +kernel) (by decide +kernel)

theorem test_fenceReqDev_can : Writes (module []) Obj.FENCE_REQ_DEV 0xFFFF (fun _ => True) := writes _ _ _ (by decide +kernel) trivial

/-- A module in a job that may arm a Fix: position 0 of a group of two, with staging areas, a store and no region. -/
def fixable (l : List (Nat × Nat)) : State :=
  { sliced ([(Obj.CHART0_STATE, 3), (Obj.CHART_ACTIVE, 0), (Obj.STEP_SLICE, 5), (Obj.FIX_CFG, 1), (Obj.FIX_GROUP, 1 + 2 * 2 ^ 16),
      (Obj.FIX_STAGE_BASE0, 0), (Obj.FIX_STAGE_BASE1, 0x10000000), (Obj.FIX_STAGE_LEN, 0x1000000), (Obj.FIX_STORE_BASE, 0x20000000),
      (Obj.FIX_STORE_LEN, 0x1000000)] ++ l) with charts := [(0, { self := 1, entries := [], drainAt := 0 })] }

theorem test_fixArm_can : Writes (fixable [(Obj.STEP_STATE, 2), (Obj.FIX_ARM_ID, 1)]) Obj.FIX_CTRL 1 (fun u => u.fixArmCode u.fixFull = 0) :=
  writes _ _ _ (by decide +kernel) (by decide +kernel)

theorem test_abandon_can_armed : Writes (module [(Obj.FIX_STATE, 1)]) Obj.FIX_CTRL 2 (fun u => u.fixState = 1) :=
  writes _ _ _ (by decide +kernel) (by decide +kernel)

theorem test_abandon_can_running : Writes (module [(Obj.FIX_STATE, 2)]) Obj.FIX_CTRL 2 (fun u => u.fixState = 2) :=
  writes _ _ _ (by decide +kernel) (by decide +kernel)

theorem test_fixDrainedSlots_can : Writes (module [(Obj.FIX_DRAINED_SLOTS, 2 ^ 32)]) Obj.FIX_DRAINED_SLOTS (2 ^ 64 - 1)
    (fun u => u.obj Obj.FIX_DRAINED_SLOTS ≤ 2 ^ 64 - 1) := writes _ _ _ (by decide +kernel) (by decide +kernel)

/-- A commit record of an empty full Fix of module 1, at address 0. -/
def recordBytes : List Byte := leBytes 128 (1 + 2 ^ 264 + 2 ^ 278 + shake256 [] * 2 ^ 320)

theorem test_fixApply_can : Writes { fixable [] with mem := Sparse.setRun memDefault [] 0 recordBytes } Obj.FIX_SVC 1
    (fun u =>
      let a := u.obj Obj.FIX_APPLY_ADDR
      let r := leNat (u.bytes (u.home a) 128)
      u.obj Obj.STEP_STATE = 0 ∧ u.fixState = 0 ∧ u.rangeMapped a 128 = true ∧ u.rangeMapped a (128 + bits r 191 128) = true ∧
        bits r 575 320 = shake256 (u.applyStream a) ∧ bits r 291 278 = u.selfId ∧
        (bit r 264 = true ∨ (bits r 31 0 = u.obj Obj.FIX_LAST_ID + 1 ∧ bits r 63 32 = u.obj Obj.FIX_BASE_ID))) :=
  writes _ _ _ (by decide +kernel) (by decide +kernel)

theorem test_rebuild_can : Writes { fixable [(Obj.FIX_REBUILD_POS, 1)] with fixU := { FixUnit.reset with counts := [(1, 3)] } } Obj.FIX_SVC 2
    (fun u =>
      let pos := u.obj Obj.FIX_REBUILD_POS
      u.obj Obj.STEP_STATE = 0 ∧ u.fixState = 0 ∧ pos ≤ u.fixD ∧ pos ≠ u.fixPos ∧
        u.fixU.counts.find? (fun c => c.1 == pos) = some (pos, 3)) := writes _ _ _ (by decide +kernel) (by decide +kernel)

theorem test_resolveCommit_can : Writes (module [(Obj.FIX_STATE, 3)]) Obj.FIX_SVC 3 (fun u => u.fixState = 3) :=
  writes _ _ _ (by decide +kernel) (by decide +kernel)

theorem test_resolveDiscard_can : Writes (module [(Obj.FIX_STATE, 3)]) Obj.FIX_SVC 4 (fun u => u.fixState = 3) :=
  writes _ _ _ (by decide +kernel) (by decide +kernel)

theorem test_rsvSwap_can_choose : Writes (module []) Obj.RSV_SWAP (99 + 0x7F00)
    (fun u => u.maySwap 99 = true ∧ (u.chooseReserve 99).isSome = true) := writes _ _ _ (by decide +kernel) (by decide +kernel)

theorem test_rsvSwap_can_name : 48 ∈ reservesOf (dieOfCore 0) ∧ Writes (module []) Obj.RSV_SWAP (0 + 48 * 256)
    (fun u => u.maySwap 0 = true ∧ u.rsvFree 48 = true ∧ ∀ w, u.swapOf 48 = some w → u.needsFirst 0 w.core = true) :=
  ⟨by decide, writes _ _ _ (by decide +kernel) ⟨by decide +kernel, by decide +kernel, fun w h => by
    rw [show (State.heard (module []) (writeReq hdr Obj.RSV_SWAP (0 + 48 * 256))).swapOf 48 = none from by decide +kernel] at h
    cases h⟩⟩

theorem test_rsvSwapCancel_can : Writes { module [] with health := { HealthUnit.reset with swaps := [⟨7, none⟩] } } Obj.RSV_SWAP (7 + 0x8000)
    (fun u => u.health.swaps.any (fun w => w.core == 7) = true) := writes _ _ _ (by decide +kernel) (by decide +kernel)

theorem test_sparePressure_can : Writes (module []) Obj.SPARE_PRESSURE (2 ^ 32 - 1) (fun _ => True) := writes _ _ _ (by decide +kernel) trivial

theorem test_retiredMap_can : Blobs (module []) Obj.RETIRED_MAP 16 (fun u => u.obj Obj.STEP_STATE = 0) :=
  blobs _ _ _ (by decide +kernel) (fun _ => (by decide +kernel : (module []).obj Obj.STEP_STATE = 0))

theorem test_pdOn_can : Writes (module [(Obj.PD_STATE 77, 0)]) Obj.PD_CTRL (77 + 0x100)
    (fun u => (77 < 52 → u.pairSleeps 77 = false) ∧ u.pd 77 ≠ 4) := writes _ _ _ (by decide +kernel) (by decide +kernel)

theorem test_pdOff_can : Writes (module [(Obj.CORE_STATE 0, CoreSt.off.code)]) Obj.PD_CTRL 0
    (fun u => (0 < 52 → u.pairSleeps 0 = false) ∧ u.pd 0 ≠ 4 ∧ u.mayGoOff 0 = true) := writes _ _ _ (by decide +kernel) (by decide +kernel)

theorem test_pdSelfRefresh_can : Writes (module [(Obj.PD_STATE 63, 2)]) Obj.PD_CTRL (52 + 11 + 0x200)
    (fun u => u.dieFree (dieOfDomain (52 + 11)) = true ∧ (u.pd (52 + 11) = 2 ∨ u.pd (52 + 11) = 3)) :=
  writes _ _ _ (by decide +kernel) (by decide +kernel)

theorem test_clkCap_can : Writes (module []) (Obj.CLK_CAP 1) 4 (fun _ => True) := writes _ _ _ (by decide +kernel) trivial

theorem test_restart_can : Writes (module [(Obj.EPO_STATE, 1)]) Obj.POWER_CTRL 1 (fun u => u.power.epoPin = false ∧ u.obj Obj.EPO_STATE ≠ 0) :=
  writes _ _ _ (by decide +kernel) (by decide +kernel)

theorem test_clears_can : Writes (module []) (Obj.ARITH_FLAGS 99) (2 ^ 32 - 1) (fun _ => True) ∧
    Writes (module []) (Obj.CHK_STATUS 0) (2 ^ 32 - 1) (fun _ => True) ∧
    Writes (module []) (Obj.STACK_HEALTH 11) 1 (fun _ => True) ∧
    Writes (module []) (Obj.ACT_STATUS 7) 0 (fun _ => True) ∧
    Writes (module []) (Obj.PORT_HEALTH 15) (2 ^ 32 - 1) (fun _ => True) := by
  refine ⟨?_, ?_, ?_, ?_, ?_⟩ <;> exact writes _ _ _ (by decide +kernel) trivial

theorem test_module_clears_can : Writes (module []) Obj.STEP_STATUS (2 ^ 32 - 1) (fun _ => True) ∧
    Writes (module []) Obj.MODULE_HEALTH (2 ^ 32 - 1) (fun _ => True) ∧
    Writes (module []) Obj.PWR_STATUS 1 (fun _ => True) ∧
    Writes (module []) Obj.MGMT_STATUS (2 ^ 32 - 1) (fun _ => True) ∧
    Writes (module []) Obj.ALERT_SUMMARY (2 ^ 32 - 1) (fun _ => True) := by
  refine ⟨?_, ?_, ?_, ?_, ?_⟩ <;> exact writes _ _ _ (by decide +kernel) trivial

theorem test_assign_can : Writes { module [(Obj.SLICE_ID 7, 5), (Obj.SLICE_CORES 7, 2 ^ 99)] with chrU := { ChrUnit.reset with everSync := true } }
    (Obj.SLICE_CTRL 7) 1
    (fun u => u.slotAssigned 7 = false ∧ u.sliceValues 7 = true ∧ u.sliceCoresFree 7 = true ∧ u.chrU.everSync = true) :=
  writes _ _ _ (by decide +kernel) (by decide +kernel)

theorem test_sliceRelease_can : Writes (module [(Obj.SLICE_STATE 0, 1)]) (Obj.SLICE_CTRL 0) 2
    (fun u => u.slotAssigned 0 = true ∧ u.sliceBusy 0 = false) := writes _ _ _ (by decide +kernel) (by decide +kernel)

theorem test_dictDefaults_can : Writes (module []) Obj.DICT_DEFAULTS 1 (fun u => u.obj Obj.STEP_STATE = 0) :=
  writes _ _ _ (by decide +kernel) (by decide +kernel)

theorem test_dictDefaultsCancel_can : Writes (module [(Obj.DICT_DEFAULTS_PENDING, 1)]) Obj.DICT_DEFAULTS 2
    (fun u => u.obj Obj.DICT_DEFAULTS_PENDING ≠ 0) := writes _ _ _ (by decide +kernel) (by decide +kernel)

theorem test_qpOpen_can : Writes (sliced [(Obj.QP_SLICE_SLOT 239, 0), (Obj.QP_REMOTE 239, 5 * 2 ^ 216 + 16 * 2 ^ 224)]) (Obj.QP_CTRL 239) 1
    (fun u => u.obj (Obj.QP_STATE 239) = 0 ∧ u.obj (Obj.QP_SLICE_SLOT 239) < 8 ∧ u.slotAssigned (u.obj (Obj.QP_SLICE_SLOT 239)) = true ∧
      ((u.progRange 239).2 = 0 ∨ ((u.progRange 239).1 + (u.progRange 239).2 ≤ 0xC000000000 ∧
        u.hbmOwnedBy (u.connSlice 239) (u.progRange 239).1 (u.progRange 239).2 = true)) ∧
      3 ≤ u.mtuCode 239 ∧ u.mtuCode 239 ≤ 5 ∧ 1 ≤ u.rdAtomic 239 ∧ u.rdAtomic 239 ≤ 16) :=
  writes _ _ _ (by decide +kernel) (by decide +kernel)

theorem test_qpClose_can : Writes (module []) (Obj.QP_CTRL 0) 2 (fun _ => True) := writes _ _ _ (by decide +kernel) trivial

theorem test_hostPortCtrl_can : Writes (module []) (Obj.HOST_PORT_CTRL 3) 0 (fun _ => True) ∧
    Writes (module []) (Obj.HOST_PORT_CTRL 0) 1 (fun _ => True) :=
  ⟨writes _ _ _ (by decide +kernel) trivial, writes _ _ _ (by decide +kernel) trivial⟩

theorem test_keyWrite_can : Blobs (module []) (Obj.KEY_OBSERVER + 2) 32 (fun u => 2 = 2 → u.obj Obj.STEP_STATE < 2 ∨ 7 < u.obj Obj.STEP_STATE) :=
  blobs _ _ _ (by decide +kernel) (fun _ _ => .inl (by decide +kernel : (module []).obj Obj.STEP_STATE < 2))

theorem test_fwBegin_can : Writes (module [(Obj.FW_STATE, 6)]) Obj.FW_CTRL 1
    (fun u => u.fwState = 0 ∨ u.fwState = 4 ∨ u.fwState = 5 ∨ u.fwState = 6) := writes _ _ _ (by decide +kernel) (by decide +kernel)

theorem test_fwChunk_can : Blobs (module [(Obj.FW_STATE, 1), (Obj.FW_OFFSET, 6289408)]) Obj.FW_CHUNK 2048
    (fun u => u.fwState = 1 ∧ u.obj Obj.FW_OFFSET + 2048 ≤ 6291456) :=
  blobs _ _ _ (by decide +kernel) (fun _ => (by decide +kernel :
    (module [(Obj.FW_STATE, 1), (Obj.FW_OFFSET, 6289408)]).fwState = 1 ∧ (module [(Obj.FW_STATE, 1), (Obj.FW_OFFSET, 6289408)]).obj Obj.FW_OFFSET + 2048 ≤ 6291456))

theorem test_verify_can : Writes (module [(Obj.FW_STATE, 1)]) Obj.FW_CTRL 2 (fun u => u.fwState = 1) :=
  writes _ _ _ (by decide +kernel) (by decide +kernel)

theorem test_fwCommit_can : Writes (module [(Obj.FW_STATE, 2)]) Obj.FW_CTRL 3 (fun u => u.fwState = 2) :=
  writes _ _ _ (by decide +kernel) (by decide +kernel)

theorem test_activate_can : Writes (module [(Obj.FW_STATE, 4)]) Obj.FW_CTRL 4
    (fun u => u.fwState = 4 ∧ u.noSliceHoldsCores = true ∧ u.obj Obj.STEP_STATE = 0) := writes _ _ _ (by decide +kernel) (by decide +kernel)

theorem test_cancel_can : Writes (module [(Obj.FW_STATE, 2)]) Obj.FW_CTRL 5 (fun u => u.fwState = 1 ∨ u.fwState = 2) :=
  writes _ _ _ (by decide +kernel) (by decide +kernel)

theorem test_cfgBegin_can : Writes (module []) Obj.CFG_CTRL 1 (fun _ => True) := writes _ _ _ (by decide +kernel) trivial

theorem test_cfgChunk_can : Blobs (module []) Obj.CFG_CHUNK 256 (fun _ => True) := blobs _ _ _ (by decide +kernel) (fun _ => trivial)

theorem test_attGenerate_can : Writes (module [(Obj.PUF_STATUS, 1), (Obj.ATT_STATE, 2)]) Obj.ATT_CTRL 1
    (fun u => u.obj Obj.PUF_STATUS ≠ 2 ∧ u.obj Obj.ATT_STATE ≠ 1) := writes _ _ _ (by decide +kernel) (by decide +kernel)

theorem test_bistRun_can : Writes (module [(Obj.BIST_TARGET, 1 + 2 ^ 99)]) Obj.BIST_CTRL 1
    (fun u => u.obj Obj.BIST_STATE ≠ 1 ∧
      ∀ n ∈ u.bistTargets, (u.coreSt n = .idle ∨ u.coreSt n = .off) ∧ (u.slotOfCore n).isNone = true) :=
  writes _ _ _ (by decide +kernel) ⟨by decide +kernel, by decide +kernel⟩

/-- The neutral point of Ed448, and the signature that verifies under it for every message. -/
def neutral : List Byte := 1#8 :: List.replicate 56 0#8
def neutralSig : List Byte := neutral ++ List.replicate 57 0#8

/-- A record of the module with serial number 0, whose keys are the neutral point. -/
def record (seq : Nat) : List Byte :=
  leBytes 2 1 ++ leBytes 2 0 ++ leBytes 4 seq ++ List.replicate 48 0#8 ++ neutral ++ [0#8] ++ neutralSig ++ List.replicate 156 0#8 ++ neutralSig ++
    List.replicate 14 0#8

theorem test_cfgApply_can : Writes
    { module [] with
      dict := (Obj.SERIAL, 0) :: (module [(Obj.PUF_STATUS, 1)]).dict
      fw := { State.reset.fw with romKey0 := neutral, buffer := record 8, inForce := true } } Obj.CFG_CTRL 2
    (fun u => u.recordGood u.fw.buffer = true ∧ (u.fw.inForce = true → u.obj Obj.CFG_SEQ < recordSeq u.fw.buffer) ∧ u.obj Obj.PUF_STATUS ≠ 2) :=
  writes _ _ _ (by decide +kernel) (by decide +kernel)

/-! ### Hypotheses that are met: issue and the array -/

theorem test_bundleIssue_can : (running (atBundle (bundle 0 0 0 0 0 0)) []).Issues 99 (bundle 0 0 0 0 0 0) := by
  (repeat' first | apply And.intro | apply State.Issues.mk | apply State.mayIssue.mk) <;> decide +kernel

theorem test_ldaWriteback_can :
    ((running { Core.reset with lda := [(31, BitVec.ofNat 48 (2 ^ 48 - 1), 0)] } []).core 99).lda = (31, BitVec.ofNat 48 (2 ^ 48 - 1), 0) :: [] := by
  decide +kernel

theorem test_lineFill_can :
    let s := running { Core.reset with demand := some 0 } [(Obj.PROG_GEN 99, 0)]
    let u := (s.noteRead 0 (0 * 512) 512).noteRead 0 (0 * 512 / 65536 * 65536) 64
    (s.core 99).demand = some 0 ∧ leNat (u.bytes (0 * 512 / 65536 * 65536) 4) = u.obj (Obj.PROG_GEN 99) := by decide +kernel

/-- The module with one entry in core 99's release buffer. -/
def releasing (k : RelKind) : State := running { Core.reset with rel := [⟨k, 0, false⟩] } []

theorem test_releaseBufferPerform_can : (∀ k ∈ [RelKind.add 0 1, .set 16383 7, .addRemote 1 2 3, .addTimed 63 1 5, .done 0 0, .done 16320 1],
    ((releasing k).core 99).rel = ⟨k, 0, false⟩ :: [] ∧ ((releasing k).core 99).allBefore 0 = true ∧
      (releasing k).frameWaits (releasing k).selfId = false ∧ (releasing k).timed.length < timedSlots) ∧
    (∀ wp ∈ [0, 63, 16320, 16383], (releasing (.add 0 1)).wpCode ((releasing (.add 0 1)).sliceOfCore 99) wp = 0) := by decide +kernel

/-- A matrix operation at the head of core 99's queue. -/
def matrixAt (k : MatKind) (off : Nat) (a : ArrayUnit) : State :=
  running { Core.reset with matQ := [⟨k, off, 0, 0⟩], array := a } []

theorem test_mcfg_can :
    let s := (matrixAt .mcfg (6 * 2 ^ 20 - 32) .reset).setBytes (spBase 99 + (6 * 2 ^ 20 - 32)) (leBytes 32 (8 + 2 ^ 21 * 1 + 2 ^ 4 + 0x322 * 2 ^ 32 + 0x242 * 2 ^ 64))
    (s.core 99).matHead .mcfg = some ⟨.mcfg, 6 * 2 ^ 20 - 32, 0, 0⟩ ∧ 6 * 2 ^ 20 - 32 + 32 ≤ spSize ∧
      (MatCfg.ofBytes (s.spBytes 99 (6 * 2 ^ 20 - 32) 32)).2 = true := by decide +kernel

theorem test_mwld_can :
    let a := ((matrixAt .mwld 0 .reset).core 99).array
    ((matrixAt .mwld 0 .reset).core 99).matHead .mwld = some ⟨.mwld, 0, 0, 0⟩ ∧ a.pend.opfmtOk = true ∧ a.pend.arrOk = true ∧
      a.pend.loadEnd 0 ≤ spSize ∧ (a.pend.bMx = true → a.pend.scaleEnd 0 ≤ spSize) := by decide +kernel

/-- An array whose shadow bank a load has filled. -/
def loaded (ready : Bool) : ArrayUnit :=
  { ArrayUnit.reset with shadow := { Bank.reset with loaded := true, bfmt := MatCfg.reset.bFmt, kcnt := 128, ncnt := 128 }, fresh := true, ready }

theorem test_checksumWeightsReady_can : (loaded false).fresh = true ∧ (loaded false).ready = false := by decide +kernel

theorem test_mstr_can :
    let a := loaded true
    ((matrixAt .mstr 0 a).core 99).matHead .mstr = some ⟨.mstr, 0, 0, 0⟩ ∧ a.canStream = true ∧
      streams ⟨.mstr, 0, 0, 0⟩ a.turned a.turned.openTile = true := by decide +kernel

/-- An open tile under the reset configuration, and one that has taken a stream. -/
def opened : Tile := { seq := 1, cfg := .reset, accs := [], chks := [], steps := 1, flags := .none, undef := false }

theorem test_mcls_can :
    let s := matrixAt .mcls 0 { ArrayUnit.reset with tile := some opened }
    (s.core 99).matHead .mcls = some ⟨.mcls, 0, 0, 0⟩ ∧ (s.core 99).array.tile = some opened := by decide +kernel

theorem test_drain_can :
    let s := running { Core.reset with array := { ArrayUnit.reset with drain := [⟨opened, 0, 0⟩] } } []
    (s.core 99).array.drain = ⟨opened, 0, 0⟩ :: [] ∧ drains ⟨opened, 0, 0⟩ = true := by decide +kernel

/-! ### Hypotheses that are met: chains, layers, DMA and watchdogs -/

/-- A chain descriptor without streams over one element, whose stage takes constant 0, and one under the gate. -/
def chainWord (gated : Bool) : Nat := 1 + (if gated then 2 ^ 28 else 0) + 5 * 2 ^ 646

/-- A chain of core 99 as issued. -/
def chain (gated : Bool) : Chain := ⟨chainWord gated, 0, 0, false⟩

theorem test_chainStart_can :
    let s := running { Core.reset with vecQ := [chain true] } [(Obj.STEP_NF, 2)]
    s.mayChain 99 (chain true) (((s.core 99).nextChain.map (·.2)).getD Core.reset) := by
  refine ⟨?_, ?_, ?_, ?_, ?_⟩ <;> decide +kernel

theorem test_gatedUpdate_can :
    let s := running { Core.reset with vec := { Core.reset.vec with gate := some (chain true) } } [(Obj.STEP_NF, 2)]
    let l := running { Core.reset with layer := .gated } [(Obj.STEP_NF, 3)]
    (bit (s.obj Obj.STEP_NF) 1 = true ∧ (s.core 99).vec.gate = some (chain true) ∧
      chainConflicts ((ChainDesc.of (chain true).desc).under (bit (s.obj Obj.STEP_NF) 0)) (s.core 99).vec.running = false) ∧
    bit (l.obj Obj.STEP_NF) 1 = true ∧ (l.core 99).vec.gate = none ∧ (l.core 99).layer = .gated := by decide +kernel

theorem test_chainComplete_can :
    let r : ChainRun := { chain := chain false, reads := [], writes := [], flags := .none, cycles := 1 }
    ((running { Core.reset with vec := { Core.reset.vec with running := [r] } } []).core 99).vec.running = r :: [] := by decide +kernel

theorem test_recordLoad_can :
    let s := (running { Core.reset with layer := .loading 0xBFFFFFFE00, mode := 1 } []).setBytes 0xBFFFFFFE00 (leBytes 512 0x10)
    let u := s.noteRead 0 0xBFFFFFFE00 512
    let w := (u.setRecord 99 (u.bytes 0xBFFFFFFE00 512)).setObj (Obj.CUR_RECORD 99) 0xBFFFFFFE00
    ((s.core 99).layer = .loading 0xBFFFFFFE00 ∧ s.rangeMapped 0xBFFFFFFE00 512 = true ∧ 0xBFFFFFFE00 < 0xC000000000 ∧ s.sliceOfCore 99 ≠ 0xFFFF ∧
      s.hbmOwnedBy (s.sliceOfCore 99) 0xBFFFFFFE00 512 = true) ∧
    (w.setCore 99 { w.core 99 with pc := 0xBFFFFFFE00 }).layerGood 99 := by
  refine ⟨by decide +kernel, ?_, ?_, ?_, ?_⟩ <;> decide +kernel

theorem test_layerComplete_can :
    let s := running { Core.reset with layer := .worked 0 } []
    (s.core 99).layer = .worked 0 ∧ s.writeWaits (.layer 99) = false := by decide +kernel

/-- A DMA operation that copies a row of 16 bytes in the scratchpad. -/
def dmaCopy : DmaOp := ⟨0x10 + 2 ^ 24 + 2 ^ 28 + 2 ^ 104 + 0x1000 * 2 ^ 128 + 2 ^ 168 + 16 * 2 ^ 192 + 2 ^ 216, 0, 0⟩

theorem test_dmaDescriptorStart_can :
    let s := running { Core.reset with dmaQ1 := [dmaCopy] } []
    let d := DmaDesc.of dmaCopy.desc
    let u := ((s.strikes []).setCore 99 ((s.core 99).setDma 1 [] ((s.core 99).dmaRun 1))).progressed 99
    (s.core 99).dmaQ 1 = dmaCopy :: [] ∧ (d.ord = true → (s.core 99).dmaRun 1 = []) ∧ d.ok = true ∧
      u.firstFailure 99 (if d.rows = 0 then [] else d.ranges u 99) = none ∧ (u.doDma 99 (.dma 99 1 0) d).2.2.2 = 0 := by decide +kernel

theorem test_dmaComplete_can :
    let r : DmaRun := ⟨dmaCopy, 16, .none⟩
    let s := running { Core.reset with dma0 := [r] } []
    (s.core 99).dmaRun 0 = r :: [] ∧ s.writeWaits (.dma 99 0 r.op.tag) = false := by decide +kernel

theorem test_watchdogs_can :
    let s := { running { Core.reset with wdog := 100 * 1000 } [(Obj.WDOG_LIMIT 99, 1000), (Obj.RUN_LIMIT 99, 7)] with now := 7 }
    (s.watched 99 = true ∧ s.obj (Obj.WDOG_LIMIT 99) ≤ (s.core 99).wdog / 100) ∧
    s.obj (Obj.RUN_LIMIT 99) ≠ 0 ∧ s.coreSt 99 = .running ∧ s.obj (Obj.RUN_LIMIT 99) ≤ s.now - (s.core 99).launch := by decide +kernel

/-! ### Hypotheses that are met: the memory's upkeep and Waypoints -/

theorem test_scrubRead_can : hbmBursts - 1 < hbmBursts ∧ (module []).obj (Obj.STACK_STATE (decodeHbm ((hbmBursts - 1) * 32)).stack) ≠ 3 ∧
    ((module []).strikes [⟨0, some 63⟩]).errAt 0 = .correctable 63 ∧
    (∀ n, ((module []).strikes [⟨hbmBursts - 1, none⟩]).errAt (hbmBursts - 1) ≠ .correctable n) := by
  refine ⟨by decide +kernel, by decide +kernel, by decide +kernel, fun n => ?_⟩
  rw [show ((module []).strikes [⟨hbmBursts - 1, none⟩]).errAt (hbmBursts - 1) = .uncorrectable from by decide +kernel]
  nofun

theorem test_rowRemap_can :
    let s := { module [] with marked := [hbmBanks * 4096 - 1] }
    hbmBanks * 4096 - 1 ∈ s.marked ∧ hbmBanks * 4096 - 1 < hbmBanks * 4096 ∧ s.obj Obj.STEP_STATE = 0 := by decide +kernel

theorem test_refreshManagement_can : ∃ s : State, Config.rfmInitial ≤ s.activated 0 0 := by
  refine ⟨{ module [] with stackUnits := [(0, { StackUnit.reset with acts := [(0, Config.rfmInitial)] })] }, ?_⟩
  have h : ({ module [] with stackUnits := [(0, { StackUnit.reset with acts := [(0, Config.rfmInitial)] })] } : State).actsOf 0 =
    Config.rfmInitial := rfl
  unfold State.activated
  rw [h]
  omega

/-- The module with copy-before-write active, page 1 marked and a staging area of each die. -/
def copying (l : List HeldWrite) : State :=
  { (sliced [(Obj.CBW_ACTIVE, 1), (Obj.CBW_MAP_BASE0, 0x1000000), (Obj.CBW_MAP_BASE1, 0x2000000), (Obj.FIX_STAGE_BASE0, 0x10000000),
      (Obj.FIX_STAGE_LEN, 0x1000000)]).setBytes 0x1000000 [2#8] with held := l }

/-- A write of one byte that waits for page 1, and one that waits for page 2. -/
def waits (page : Nat) : HeldWrite := { page, addr := page * 65536, bytes := [1#8], who := .unit, since := 0, met := true }

theorem test_cbwCopy_can :
    let s := copying [waits 1]
    (s.held.any (fun w => w.page == 1) = true ∧ s.pageMarked 1 = true ∧ s.obj Obj.CBW_ACTIVE = 1 ∧ (s.copyPage 0 1).isSome = true) ∧
    (copying [waits 2]).held.any (fun w => w.page == 2) = true ∧ (copying [waits 2]).pageMarked 2 = false := by decide +kernel

theorem test_backgroundCopy_can :
    let s := copying []
    s.obj Obj.CBW_ACTIVE = 1 ∧ s.firstMarked 0 = some 1 ∧ 64 < s.stageRoom 0 - (s.staged 0).length ∧ (s.copyPage 3 1).isSome = true := by
  decide +kernel

theorem test_sxtDone_can : ({ module [] with sextant := some ⟨0xFF, 3, true, 0⟩ } : State).sextant = some ⟨0xFF, 3, true, 0⟩ := rfl

theorem test_waypoint_operations_can : (∀ wp ∈ [0, 63, 16320, 16383], (sliced []).wpCode 5 wp = 0) ∧ (sliced []).posts = [] ∧
    (sliced []).timed.length < timedSlots := by decide +kernel

theorem test_waypointWait_can :
    let s := running Core.reset []
    s.coreSt 99 = .running ∧ (s.core 99).hold = .none ∧ s.waitAns (s.sliceOfCore 99) 16383 0 = .satisfied ∧
      s.waitAns (s.sliceOfCore 99) 0 (2 ^ 64 - 1) = .held := by decide +kernel

/-- A timed add to Waypoint 0. -/
def later (time : Nat) : Timed := { wp := 0, value := 1, time, slice := 5 }

theorem test_timedAdd_can_wait : timedSlots ≤ ({ sliced [] with timed := List.replicate timedSlots (later 9) } : State).timed.length := by
  decide +kernel

theorem test_timedAddDue_can :
    let s := { sliced [] with timed := [later 3, later 2], chr := 2 }
    earliest s.timed = some (later 2) ∧ (later 2).time ≤ s.chr ∧ s.timedHeld = [] ∧ s.posts = [] ∧ s.wpCode (later 2).slice (later 2).wp = 0 := by
  decide +kernel

/-- A host's write of the flags of Waypoint 0 and of the last Waypoint of slice 5. -/
def flagWrite (wp word v : Nat) : HostMsg := request 10 (0xE000000000 + 32 * wp + 8 * word) 8 (leBytes 8 v)

theorem test_waypointMark_can : (hosting []).HostAccepts .write (flagWrite 16383 1 1) ∧ wordTarget (flagWrite 16383 1 1) 1 = true := by
  (repeat' first | apply And.intro | apply State.HostAccepts.mk) <;> decide +kernel

theorem test_waypointClear_can : (hosting []).HostAccepts .write (flagWrite 0 3 3) ∧ wordTarget (flagWrite 0 3 3) 3 = true := by
  (repeat' first | apply And.intro | apply State.HostAccepts.mk) <;> decide +kernel

/-! ### Hypotheses that are met: frames, links and the Chronometer -/

/-- A frame of device 2 whose target is the last byte of C099's scratchpad, or the first of HBM. -/
def dataFrame (op cls : Nat) (sp : Bool) : Frame :=
  fromPeer { unitFrame op cls 1 5 0 (if sp then spSize - 1 else 0) [1#8] with dstCore := if sp then 99 else 0x7F }

theorem test_write_can : ∀ sp ∈ [true, false], Takes (joined []) (dataFrame 1 6 sp) 1 (fun u => 0 < (dataFrame 1 6 sp).len ∧
    (dataFrame 1 6 sp).len ≤ 4096 ∧ u.frameTarget (dataFrame 1 6 sp) (frameAddr (dataFrame 1 6 sp)) (dataFrame 1 6 sp).len = 0 ∧
    (dataFrame 1 6 sp).srcDev ≠ u.selfId) := by
  intro sp h
  simp only [List.mem_cons, List.not_mem_nil, or_false] at h
  rcases h with rfl | rfl <;> exact takes (by decide +kernel) (by decide +kernel) (by decide +kernel)

theorem test_readData_can : Takes (joined []) (dataFrame 3 2 true) 3 (fun u => 0 < (dataFrame 3 2 true).len ∧ (dataFrame 3 2 true).len ≤ 4096 ∧
    u.frameTarget (dataFrame 3 2 true) (frameAddr (dataFrame 3 2 true)) (dataFrame 3 2 true).len = 0 ∧ (dataFrame 3 2 true).srcDev ≠ u.selfId) :=
  takes (by decide +kernel) (by decide +kernel) (by decide +kernel)

/-- A frame that the module sends to itself. -/
def ownFrame (op : Nat) : Frame := sealFrame { unitFrame op 2 1 5 0 0 [1#8] with srcDev := 1, srcCore := 0, seq := 1 }

theorem test_own_write_can : ∀ op ∈ [1, 3], Takes (joined []) (ownFrame op) op (fun u => 0 < (ownFrame op).len ∧ (ownFrame op).len ≤ 4096 ∧
    u.frameTarget (ownFrame op) (frameAddr (ownFrame op)) (ownFrame op).len = 0 ∧ (ownFrame op).srcDev = u.selfId ∧
    u.wakeReadOnly (frameAddr (ownFrame op)) (ownFrame op).len = false) := by
  intro op h
  simp only [List.mem_cons, List.not_mem_nil, or_false] at h
  rcases h with rfl | rfl <;> exact takes (by decide +kernel) (by decide +kernel) (by decide +kernel)

theorem test_read_can : Takes (joined []) (peerFrame 2 2 4095 0 (leBytes 8 0xC000000000)) 2 (fun u =>
    let f := peerFrame 2 2 4095 0 (leBytes 8 0xC000000000)
    f.len = 8 ∧ f.aux < 4096 ∧ u.frameTarget f (frameAddr f) (f.aux % 4096 + 1) = 0) :=
  takes (by decide +kernel) (by decide +kernel) (by decide +kernel)

theorem test_wpAdd_can : ∀ wp ∈ [0, 63, 16320, 16383], Takes (joined []) (peerFrame 4 1 wp 0 (leBytes 8 (2 ^ 64 - 1))) 4 (fun u =>
    let f := peerFrame 4 1 wp 0 (leBytes 8 (2 ^ 64 - 1))
    f.len = 8 ∧ u.wpCode f.slice (f.aux % 2 ^ 14) = 0) := by
  intro wp h
  simp only [List.mem_cons, List.not_mem_nil, or_false] at h
  rcases h with rfl | rfl | rfl | rfl <;> exact takes (by decide +kernel) (by decide +kernel) (by decide +kernel)

theorem test_ack_can : ∀ op ∈ [5, 6, 7], wellFormedHeader (peerFrame op 0 7 0 []) = true ∧ (joined []).Receives (peerFrame op 0 7 0 []) op := by
  intro op h
  simp only [List.mem_cons, List.not_mem_nil, or_false] at h
  rcases h with rfl | rfl | rfl <;> exact ⟨by decide +kernel, receives (by decide +kernel)⟩

/-- The flow to device 2 of class 1. -/
def flowKey : FlowKey := { dev := 2, fan := none, cls := 1, epoch := 0 }

/-- A frame to device 2 that waits for its acknowledgement. -/
def unacked : TxFrame := { frame := unitFrame 4 1 2 5 0 0 (leBytes 8 1), op := .none, acked := [], skipped := [], source := none }

theorem test_flows_can :
    let s := { joined [] with now := 2000000, rxFlows := [⟨flowKey, 3, 1, 1999000, 5⟩], txFlows := [⟨flowKey, 2, [unacked], [], 0, 0, false, none, []⟩] }
    (0 < (s.rxFlow flowKey).uncovered ∧ (s.rxFlow flowKey).since + 1000 ≤ s.now) ∧
    ((s.txFlow flowKey).unacked ≠ [] ∧ (s.txFlow flowKey).resentAt + s.obj Obj.E2E_RTO * 1000 ≤ s.now) ∧
    ((s.txFlow flowKey).unacked ≠ [] ∧ (s.txFlow flowKey).lost = false ∧ (s.txFlow flowKey).progress + 2000000 ≤ s.now) := by decide +kernel

/-- The next frame of port 1's link. -/
def onPort (n : Nat) : Arrival := { port := 1, linkSeq := n, corrected := 3, uncorrected := 0, symbols := [1, 0, 2, 0] }

theorem test_link_can :
    let f := peerFrame 1 6 0 0 [1#8]
    (joined []).LinkTakes (onPort 0) f ∧ f.opcode ≠ 8 ∧ f.opcode ≠ 9 ∧ f.hops ≠ 15 ∧
      (let u := (((joined []).count 64 (Obj.FEC_CORRECTED 1) 3).count 64 (Obj.FEC_UNCORRECTED 1) 0).laneSymbols 1 [1, 0, 2, 0]
       let v := ((u.setPort 1 { (joined []).port 1 with expLink := 1 }).count 64 (Obj.RX_FRAMES 1) 1).count 64 (Obj.RX_BYTES 1) f.len
       (v.fenced && sequenced f.opcode) = false) := by
  (repeat' first | apply And.intro | apply State.LinkTakes.mk) <;> decide +kernel

theorem test_frameRoute_can :
    let f := unitFrame 1 1 2 5 0 0 [1#8]
    (((joined []).outgoing f).srcCore = 0x7F) ∧
      ((joined []).outgoing { f with srcCore := 103 }).srcCore = 103 ∧ sequenced ((joined []).outgoing { f with srcCore := 103 }).opcode = true := by
  decide +kernel

/-- A port whose retry buffer holds a frame sent at time 0, so many times replayed. -/
def retrying (n : Nat) : Port := { Port.reset with retry := [⟨4095, unitFrame 1 6 2 5 0 0 [1#8], n, 0⟩] }

theorem test_ports_can :
    let s := { joined [(Obj.PORT_STATE 15, 2)] with now := 10000, ports := [(1, retrying 0), (15, retrying 8)] }
    s.portUp 15 = true ∧ s.portUp 1 = true ∧ (∃ r ∈ (s.port 1).retry, r.seqNo = 4095) ∧
      (s.port 1).retry = ⟨4095, unitFrame 1 6 2 5 0 0 [1#8], 0, 0⟩ :: [] ∧ max (s.port 1).progress (s.port 1).replayAt + 2000 ≤ s.now ∧
      (s.port 1).failing s.now = true ∧ (s.port 15).failing 0 = true := by
  refine ⟨?_, ?_, ⟨_, List.mem_cons_self .., rfl⟩, ?_, ?_, ?_, ?_⟩ <;> decide +kernel

theorem test_training_can :
    let s := { joined [(Obj.PORT_STATE 0, 1), (Obj.PORT_STATE 2, 3), (Obj.PORT_STATE 15, 5), (Obj.PORT_STATE 3, 4)] with now := 100000000 }
    s.obj (Obj.PORT_STATE 0) = 1 ∧ s.obj (Obj.PORT_STATE 2) = 3 ∧ s.obj (Obj.PORT_STATE 15) = 5 ∧
      s.obj (Obj.PORT_STATE 3) = 4 ∧ (s.port 3).trainAt + 100000000 ≤ s.now := by decide +kernel

theorem test_exchange_can :
    let s := { joined [(Obj.CHR_PARENT_PORT, 1), (Obj.CHR_SYNC_PERIOD, 16), (Obj.CHR_STATE, 1)] with now := 16000 }
    s.chrState ≠ 4 ∧ s.obj Obj.CHR_PARENT_PORT < 16 ∧ s.chrU.phase + s.obj Obj.CHR_SYNC_PERIOD * 1000 ≤ s.now ∧
      ({ (if s.chrU.sent.isSome then s.chrFailed else s) with
        chrU := { (if s.chrU.sent.isSome then s.chrFailed else s).chrU with phase := 16000 } } : State).chrPort = some 1 := by decide +kernel

/-- Time frames of the neighbour on port 1. -/
def timeReqFrame : Frame := (joined []).timeFrame 8 (leBytes 8 9)
def timeRspFrame : Frame := (joined []).timeFrame 9 (leBytes 8 7 ++ leBytes 8 9 ++ leBytes 8 9)

theorem test_timeReq_can : (joined []).LinkTakes (onPort 0) timeReqFrame ∧ wellFormedHeader timeReqFrame = true ∧ timeReqFrame.opcode = 8 ∧
    timeReqFrame.payload.length = 8 := by
  (repeat' first | apply And.intro | apply State.LinkTakes.mk) <;> decide +kernel

theorem test_timeRsp_can :
    let s := { joined [] with chrU := { ChrUnit.reset with sent := some (7, 1) } }
    s.LinkTakes (onPort 0) timeRspFrame ∧ wellFormedHeader timeRspFrame = true ∧ timeRspFrame.opcode = 9 ∧ s.chrU.sent = some (7, 1) ∧
      timeRspFrame.payload.length = 24 ∧ leNat (slice timeRspFrame.payload 0 8) = 7 := by
  (repeat' first | apply And.intro | apply State.LinkTakes.mk) <;> decide +kernel

theorem test_charts_can :
    let s := { joined [(Obj.CHART1_STATE, 4)] with chr := 4000000, switchAt := some ⟨0, false, 4000000⟩ }
    (s.switchAt = some ⟨0, false, 4000000⟩ ∧ (⟨0, false, 4000000⟩ : PendSwitch).time ≤ s.chr) ∧
      s.chartState 1 = 4 ∧ (s.chart 1).drainAt + 4000000 ≤ s.chr := by decide +kernel

/-! ### Hypotheses that are met: collectives, the step unit and the Consort -/

/-- Context 127, this module's rank 0 and device 2's rank 1, over two elements of 4 bytes, with its destination in HBM. -/
def twoMembers (op : Nat) : Ctx :=
  { Ctx.idle with
    desc := op + 2 ^ 20 + 1 * 2 ^ 160 + 2 * 2 ^ 192 + 1 * 2 ^ 232 + 0x100000 * 2 ^ 320, devs := [1, 2], members := [.fresh, .fresh] }

/-- The module with context 127 of an op in a state, at the last instance of the counter's range. -/
def gathered (op st : Nat) : State :=
  { joined [(Obj.CTX_STATE 127, st), (Obj.CTX_SLICE 127, 5), (Obj.CTX_INSTANCE 127, 2 ^ 13 - 1)] with ctxs := [(127, twoMembers op)] }

/-- AUX of a frame of rank 1 to context 127, of the present instance or the next. -/
def ctxAux (d : Nat) : Nat := (2 ^ 13 - 1 + d) % 2 ^ 13 * 2 ^ 19 + 127 * 2 ^ 12 + 1

theorem test_contrib_can : ∀ d ∈ [0, 1], Takes (gathered 0 3) (peerFrame 0x10 1 (ctxAux d) 1 (leBytes 4 1)) 0x10
    (fun u => u.TakesContrib (peerFrame 0x10 1 (ctxAux d) 1 (leBytes 4 1)) d) := by
  intro d h
  simp only [List.mem_cons, List.not_mem_nil, or_false] at h
  rcases h with rfl | rfl <;> refine takes (by decide +kernel) (by decide +kernel) ?_ <;> (repeat' first | apply And.intro | apply State.TakesContrib.mk) <;> decide +kernel

theorem test_result_can : ∀ p ∈ [(0, 1, 2), (0, 3, 1), (1, 4, 3)], Takes (gathered p.2.1 2)
    (peerFrame 0x11 2 (ctxAux p.1) p.2.2 (leBytes 4 1)) 0x11 (fun u => u.TakesResult (peerFrame 0x11 2 (ctxAux p.1) p.2.2 (leBytes 4 1)) p.1) := by
  intro p h
  simp only [List.mem_cons, List.not_mem_nil, or_false] at h
  rcases h with rfl | rfl | rfl <;> refine takes (by decide +kernel) (by decide +kernel) ?_ <;> (repeat' first | apply And.intro | apply State.TakesResult.mk) <;>
    decide +kernel

/-- A LATE that says one element was taken. -/
def lateFrame (d : Nat) : Frame := peerFrame 0x12 1 (ctxAux d) 0 (leBytes 16 1)

theorem test_late_can : ∀ p ∈ [(0, 2), (0, 1), (1, 3)], Takes (gathered 0 p.2) (lateFrame p.1) 0x12 (fun u => (lateFrame p.1).len = 16 ∧
    (lateFrame p.1).mcast = false ∧ (lateFrame p.1).addr = 0 ∧ u.ctxLive 127 = true ∧ u.instanceOf 127 (lateFrame p.1) = some p.1 ∧
    (lateFrame p.1).slice = u.ctxSlice 127 ∧ (u.ctx 127).reduces = true ∧ (u.ctx 127).sender (lateFrame p.1) = true ∧
    ((u.ctx 127).member 1).absent = false) := by
  intro p h
  simp only [List.mem_cons, List.not_mem_nil, or_false] at h
  rcases h with rfl | rfl | rfl <;> exact takes (by decide +kernel) (by decide +kernel) (by decide +kernel)

theorem test_late_can_stale : (∀ p ∈ [(0, 0), (0, 5)], Takes (gathered 0 p.2) (lateFrame p.1) 0x12 (fun u => (lateFrame p.1).len = 16 ∧
    (lateFrame p.1).mcast = false ∧ (lateFrame p.1).addr = 0 ∧ (u.ctxState 127 = 0 ∨
      (lateFrame p.1).slice = u.ctxSlice 127 ∧ (u.ctxLive 127 = false ∨ u.instanceOf 127 (lateFrame p.1) = none)))) ∧
    frameCtx (lateFrame 0) = 127 := by
  refine ⟨fun p h => ?_, by decide +kernel⟩
  simp only [List.mem_cons, List.not_mem_nil, or_false] at h
  rcases h with rfl | rfl <;> exact takes (by decide +kernel) (by decide +kernel) (by decide +kernel)

theorem test_deadline_can : let s := gathered 0 2
    s.ctxState 127 = 2 ∧ (s.ctx 127).dlEn = true ∧ (s.ctx 127).reduces = true ∧ (s.ctx 127).due ≤ s.chr := by decide +kernel

/-- The step unit of slice 5 in a state. -/
def stepping (st : Nat) (l : List (Nat × Nat)) (u : StepUnit) : State :=
  { joined ([(Obj.STEP_STATE, st), (Obj.STEP_SLICE, 5), (Obj.STEP_NUM, 7), (Obj.STEP_ATTEMPT, 1), (Obj.MEMBERS, 2), (Obj.COMMIT_ROOT, 1)] ++ l) with
    now := 2 ^ 40, stepU := u }

theorem test_consortStream_can : let s := stepping 3 [(Obj.STEP_NF, 2)] .reset
    s.stepSt = 3 ∧ s.conditionsHold = true ∧ s.obj Obj.CONSORT_STATE = 0 := by decide +kernel

theorem test_timeouts_can :
    let s := stepping 3 [(Obj.CHECK_TIMEOUT, 1), (Obj.CONSORT_STATE, 2), (Obj.CONSORT_TIMEOUT, 1)]
      { StepUnit.reset with checkAt := some (2 ^ 40 - 1000000) }
    (s.stepU.checkAt = some (2 ^ 40 - 1000000) ∧ s.obj Obj.CHECK_TIMEOUT ≠ 0 ∧ 2 ^ 40 - 1000000 + s.obj Obj.CHECK_TIMEOUT * 1000000 ≤ s.now) ∧
      s.obj Obj.CONSORT_STATE = 2 ∧ s.stepU.streamAt + s.obj Obj.CONSORT_TIMEOUT * 1000000 ≤ s.now := by decide +kernel

theorem test_voteResend_can : let s := stepping 6 [] { StepUnit.reset with lastVote := some ⟨7, 1, 0, 0⟩, resend := true }
    s.stepU.lastVote = some ⟨7, 1, 0, 0⟩ ∧ s.stepU.resend = true ∧ s.stepSt = 6 := by decide +kernel

/-- The payload of a vote or decision on step 7, attempt 1. -/
def ballot (word : Nat) : List Byte := leBytes 8 7 ++ leBytes 4 1 ++ leBytes 4 word

theorem test_stepVote_can : ∀ word ∈ [0, 1 + 0xFFFF * 2 ^ 16, 2], let f := peerFrame 0x23 1 0 0 (ballot word)
    Takes (stepping 4 [] .reset) f 0x23 (fun u => (f.len = 16 ∧ u.otherStep f = false ∧ u.stepSt ≠ 0 ∧ u.stepSt ≠ 8 ∧
      (u.openTally 7 1).stepU.tallies.find? (fun t => t.step == 7 && t.attempt == 1) = some ⟨7, 1, [], [], none⟩) ∧
      leNat (slice f.payload 12 4) % 4 = word % 4) := by
  intro word h
  simp only [List.mem_cons, List.not_mem_nil, or_false] at h
  rcases h with rfl | rfl | rfl <;> exact takes (by decide +kernel) (by decide +kernel) (by decide +kernel)

theorem test_decisions_can : ∀ p ∈ [(0, 4), (1, 2), (2, 6)], let f := peerFrame 0x24 1 0 0 (ballot p.1)
    leNat (slice f.payload 12 4) % 4 = p.1 ∧
    Takes (stepping p.2 [] .reset) f 0x24 (fun u => f.len = 16 ∧ u.otherStep f = false ∧ u.stepSt ≠ 1 ∧
      (leNat (slice f.payload 0 8), leNat (slice f.payload 8 4)) = u.stepKey ∧ u.decisionFits p.1 = true) ∧
    Takes (stepping 1 [] .reset) f 0x24 (fun u => f.len = 16 ∧ u.otherStep f = false ∧ u.stepSt = 1) := by
  intro p h
  simp only [List.mem_cons, List.not_mem_nil, or_false] at h
  rcases h with rfl | rfl | rfl <;> exact ⟨by decide +kernel, takes (by decide +kernel) (by decide +kernel) (by decide +kernel),
    takes (by decide +kernel) (by decide +kernel) (by decide +kernel)⟩

/-- The objects of a Consort that partners device 2 both ways, with shards of 32 parameters. -/
def paired : List (Nat × Nat) := [(Obj.CONSORT_PARTNER, 2), (Obj.CONSORT_OF, 2), (Obj.SHARD_PARAMS, 32), (Obj.MIRROR_PARAMS, 32),
  (Obj.MIRROR_SLOT0, 0x1000), (Obj.MIRROR_SLOT1, 0x2000), (Obj.MIRROR_ACTIVE, 1), (Obj.MIRROR_STEP, 7)]

theorem test_consortData_can : let f := peerFrame 0x20 5 7 0 (List.replicate 192 1#8)
    Takes (stepping 2 paired .reset) f 0x20 (fun u => u.otherStep f = false ∧ f.srcDev = u.obj Obj.CONSORT_OF ∧ u.stepSt ≠ 0 ∧ u.stepSt ≠ 8 ∧
      wholeBlocks f = true ∧
      u.checkRange u.stepSlice (u.slotBase u.pendingSlot + f.addr) (f.payload.take (6 * u.obj Obj.MIRROR_PARAMS - f.addr)).length = 0) :=
  takes (by decide +kernel) (by decide +kernel) (by decide +kernel)

theorem test_consortDone_can : let f := peerFrame 0x21 5 7 0 (leBytes 20 7)
    Takes (stepping 2 paired .reset) f 0x21 (fun u => u.otherStep f = false ∧ f.len = 20 ∧ f.cls ≠ 6 ∧ f.srcDev = u.obj Obj.CONSORT_OF ∧
      u.stepSt ≠ 0 ∧ u.stepSt ≠ 8) := takes (by decide +kernel) (by decide +kernel) (by decide +kernel)

/-- A restore of step 7 that has brought the whole image. -/
def brought : Stream13 := { step := 7, bytes := 192, done := none, ok := true }

theorem test_consortDone_can_restore : let f := peerFrame 0x21 6 7 0 (leBytes 8 7 ++ leBytes 8 192 ++ leBytes 4 1)
    Takes (stepping 6 paired { StepUnit.reset with restore := some brought }) f 0x21 (fun u => u.otherStep f = false ∧ f.len = 20 ∧ f.cls = 6 ∧
      u.stepU.restore = some brought ∧ f.srcDev = u.obj Obj.CONSORT_PARTNER ∧ leNat (slice f.payload 0 8) = brought.step ∧
      leNat (slice f.payload 8 8) = brought.bytes ∧ brought.bytes = 6 * u.obj Obj.SHARD_PARAMS) :=
  takes (by decide +kernel) (by decide +kernel) (by decide +kernel)

theorem test_consortAck_can : ∀ code ∈ [0, 0x0801], let f := peerFrame 0x22 1 0 0 (leBytes 8 7 ++ leBytes 2 code ++ leBytes 6 1)
    Takes (stepping 3 (paired ++ [(Obj.CONSORT_STATE, 2)]) .reset) f 0x22 (fun u => u.otherStep f = false ∧ f.len = 16 ∧
      f.srcDev = u.obj Obj.CONSORT_PARTNER ∧ (leNat (slice f.payload 0 8), leNat (slice f.payload 10 4)) = u.stepKey ∧
      u.obj Obj.CONSORT_STATE = 2) := by
  intro code h
  simp only [List.mem_cons, List.not_mem_nil, or_false] at h
  rcases h with rfl | rfl <;> exact takes (by decide +kernel) (by decide +kernel) (by decide +kernel)

theorem test_consortPull_can : let f := peerFrame 0x25 1 0 0 (leBytes 8 7)
    Takes (stepping 2 paired .reset) f 0x25 (fun u => u.otherStep f = false ∧ f.len = 8 ∧ u.obj Obj.MIRROR_ACTIVE ≤ 1 ∧
      u.obj Obj.MIRROR_STEP = leNat f.payload) := takes (by decide +kernel) (by decide +kernel) (by decide +kernel)

theorem test_consortLoad_can : let f := peerFrame 0x26 6 7 0 (List.replicate 192 1#8)
    Takes (stepping 6 paired { StepUnit.reset with restore := some brought }) f 0x26 (fun u => u.otherStep f = false ∧
      u.stepU.restore = some brought ∧ f.srcDev = u.obj Obj.CONSORT_PARTNER ∧ wholeBlocks f = true) :=
  takes (by decide +kernel) (by decide +kernel) (by decide +kernel)

/-! ### Hypotheses that are met: Fixes, Reserves, Drift and power -/

/-- The module at position 0 of a Fix group of two, whose other member is device 2, with the Fix engine in a state. -/
def fixing (st : Nat) (u : FixUnit) : State :=
  { joined [(Obj.FIX_STATE, st), (Obj.STEP_SLICE, 5), (Obj.MEMBERS, 2), (Obj.COMMIT_ROOT, 1), (Obj.FIX_CFG, 1), (Obj.FIX_GROUP, 1 + 2 * 2 ^ 16),
      (Obj.FIX_STORE_BASE, 0x20000000), (Obj.FIX_STORE_LEN, 8 * (2 ^ 20 + 32)), (Obj.FIX_STAGE_BASE0, 0x10000000),
      (Obj.FIX_STAGE_BASE1, 0x6000000000), (Obj.FIX_STAGE_LEN, 0x1000000), (Obj.FIX_TIMEOUT, 1)] with now := 2 ^ 40, fixU := u }

/-- No record waits for one before it. -/
theorem flush_none (s : State) (u : FixUnit) (t : State) (h : t = { s with fixU := { u with records := [], stream := [], opened := 0 } }) :
    t.flushRecords = some t := by
  subst h
  show Option.map _ (State.openChunks (ceilDiv 0 (2 ^ 20) - 0) _) = _
  rw [show ceilDiv 0 (2 ^ 20) - 0 = 0 by decide]
  show some (State.closeTo _ (0 / 2 ^ 20)) = _
  rw [show 0 / 2 ^ 20 = 0 by decide]
  rfl

theorem test_fixEncode_can : ∀ die ∈ [0, 1],
    let s := fixing 2 (if die = 0 then { FixUnit.reset with staged0 := [⟨9, 0⟩] } else { FixUnit.reset with staged1 := [⟨9, 0⟩] })
    s.fixState = 2 ∧ s.fixU.ended = false ∧ s.staged die = ⟨9, 0⟩ :: [] ∧ s.hasUncorrectable (s.stageAddr die 0) 65536 = false ∧
      s.flushRecords = some s := by
  intro die h
  simp only [List.mem_cons, List.not_mem_nil, or_false] at h
  rcases h with rfl | rfl
  · refine ⟨?_, ?_, ?_, ?_, flush_none (fixing 2 .reset) { FixUnit.reset with staged0 := [⟨9, 0⟩] } _ rfl⟩ <;> decide +kernel
  · refine ⟨?_, ?_, ?_, ?_, flush_none (fixing 2 .reset) { FixUnit.reset with staged1 := [⟨9, 0⟩] } _ rfl⟩ <;> decide +kernel

theorem test_fixEncode_can_close : let s := fixing 2 .reset
    s.fixState = 2 ∧ s.fixU.ended = false ∧ s.staged 0 = [] ∧ s.staged 1 = [] ∧ s.obj Obj.CBW_ACTIVE = 0 ∧ s.fixU.staged0 = [] ∧
      s.fixU.staged1 = [] ∧ s.flushRecords = some s ∧ s.closeStream.isSome = true := by
  refine ⟨?_, ?_, ?_, ?_, ?_, ?_, ?_, flush_none (fixing 2 .reset) .reset _ rfl, ?_⟩ <;> decide +kernel

/-- The parity row 0 of the module, in slot 7. -/
def parity : ParityRow := { row := 0, slot := 7, got := [], complete := false }

theorem test_fixStripe_can : ∀ off ∈ [0, 2 ^ 20 - 1], let f := peerFrame 0x30 5 0 off [1#8]
    Takes (fixing 2 { FixUnit.reset with rows := [parity] }) f 0x30 (fun u => f.slice = u.obj Obj.STEP_SLICE ∧ u.fixCurrent = true ∧
      bits f.addr 39 24 = u.fixU.id % 2 ^ 16 ∧ u.fixGroup.zipIdx.find? (fun x => x.1 == f.srcDev) = some (2, 1) ∧
      holderOf u.fixD f.aux = u.fixPos ∧ 1 ≠ u.fixPos ∧ 0 < f.len ∧ f.len ≤ 4096 ∧ f.addr % 2 ^ 20 + f.len ≤ 2 ^ 20 ∧
      (u.parityRow f.aux).map (·.1) = some parity) := by
  intro off h
  simp only [List.mem_cons, List.not_mem_nil, or_false] at h
  rcases h with rfl | rfl <;> exact takes (by decide +kernel) (by decide +kernel) (by decide +kernel)

theorem test_fixCount_can : let f := peerFrame 0x31 5 0 0 (leBytes 8 0 ++ leBytes 8 1)
    Takes (fixing 3 .reset) f 0x31 (fun u => f.slice = u.obj Obj.STEP_SLICE ∧ f.len = 16 ∧ u.fixCurrent = true ∧
      leNat (slice f.payload 0 4) = u.fixU.id ∧ u.fixGroup.getD (leNat (slice f.payload 8 1) % 16) 0x4000 = f.srcDev) :=
  takes (by decide +kernel) (by decide +kernel) (by decide +kernel)

theorem test_fixStripeRetry_can : let s := fixing 2 { FixUnit.reset with retries := [⟨unitFrame 0x30 5 2 5 0 0 [1#8], 2 ^ 40⟩] }
    s.fixState = 2 ∧ (s.fixU.retries.filter (fun r => decide (r.due ≤ s.now))) ≠ [] := by decide +kernel

/-- What says that Fix 0 of step 7 is prepared. -/
def preparedFrame : Frame := peerFrame 0x32 1 0 0 (leBytes 4 0 ++ leBytes 8 7 ++ leBytes 12 0)

theorem test_fixPrepared_can : ∀ devs ∈ [[], [1], [1, 2]],
    Takes (fixing 3 { FixUnit.reset with tally := some ⟨0, 7, devs⟩ }) preparedFrame 0x32 (fun u => preparedFrame.slice = u.obj Obj.STEP_SLICE ∧
      preparedFrame.len = 24 ∧ u.obj Obj.COMMIT_ROOT = u.selfId ∧ u.fixU.decisions.find? (fun d => d.id == 0) = none ∧
      leNat (slice preparedFrame.payload 12 1) = 0 ∧
      u.fixU.tally.getD { id := 0, step := leNat (slice preparedFrame.payload 4 8), devs := [] } = ⟨0, 7, devs⟩) := by
  intro devs h
  simp only [List.mem_cons, List.not_mem_nil, or_false] at h
  rcases h with rfl | rfl | rfl <;> exact takes (by decide +kernel) (by decide +kernel) (by decide +kernel)

theorem test_fixDecisions_can : ∀ p ∈ [(2, 0), (3, 1)], let f := peerFrame 0x33 1 0 0 (leBytes 12 0 ++ leBytes 4 p.2)
    leNat (slice f.payload 12 4) % 2 = p.2 ∧ Takes (fixing p.1 .reset) f 0x33 (fun u => f.slice = u.obj Obj.STEP_SLICE ∧ f.len = 16 ∧
      u.fixState = p.1 ∧ leNat (slice f.payload 0 4) = u.fixU.id) := by
  intro p h
  simp only [List.mem_cons, List.not_mem_nil, or_false] at h
  rcases h with rfl | rfl <;> exact ⟨by decide +kernel, takes (by decide +kernel) (by decide +kernel) (by decide +kernel)⟩

theorem test_fix_clocks_can : let s := fixing 2 { FixUnit.reset with since := 2 ^ 40 - 1000000, resend := true }
    (s.fixState = 2 ∧ s.fixU.since + s.obj Obj.FIX_TIMEOUT * 1000000 ≤ s.now) ∧
      (fixing 3 s.fixU).fixU.resend = true ∧ (fixing 3 s.fixU).fixState = 3 := by decide +kernel

theorem test_fixPull_can : let f := peerFrame 0x34 1 0 0 (leBytes 4 3 ++ leBytes 4 6)
    Takes ((fixing 0 .reset).setBytes (0x20000000 + 32 * 7) (leBytes 32 (dirEntry 3 6 false true false 0))) f 0x34
      (fun u => f.slice = u.obj Obj.STEP_SLICE ∧ f.len = 8 ∧
        u.storeSlot (leNat (slice f.payload 0 4)) (leNat (slice f.payload 4 4)) = some 7) :=
  takes (by decide +kernel) (by decide +kernel) (by decide +kernel)

/-- A rebuild of Fix 3 that awaits the last bytes of row 6. -/
def rebuilding : Rebuild := { id := 3, pos := 1, rows := [(6, 1)], chunks := [(3, [])] }

theorem test_fixChunk_can : let f := peerFrame 0x35 6 6 (3 * 2 ^ 24 + 2 ^ 20 - 1) [1#8]
    Takes (fixing 5 { FixUnit.reset with rebuild := some rebuilding }) f 0x35 (fun u => f.slice = u.obj Obj.STEP_SLICE ∧
      u.fixU.rebuild = some rebuilding ∧ u.fixState = 5 ∧ bits f.addr 39 24 = rebuilding.id % 2 ^ 16 ∧ 0 < f.len ∧ f.len ≤ 4096 ∧
      f.addr % 2 ^ 20 + f.len ≤ 2 ^ 20 ∧ rebuilding.rows.any (fun r => r.1 == f.aux) = true) :=
  takes (by decide +kernel) (by decide +kernel) (by decide +kernel)

theorem test_fixApplyDone_can : let s := fixing 4 { FixUnit.reset with apply := some 0x20000000 }
    s.fixU.apply = some 0x20000000 ∧ s.fixState = 4 := by decide +kernel

theorem test_reserveReady_can :
    let s := sliced [(Obj.RSV_STATE 7, 1), (Obj.PD_STATE 51, 2)]
    let t := { s with health := { s.health with swaps := [⟨5, some 103⟩] } }
    isReserve 103 = true ∧ s.rsv 103 = 1 ∧ s.pd (103 / 2) = 2 ∧
      (((s.coreReset 103).setCoreSt 103 .off).setRsv 103 2).swapOf 103 = none ∧
      (((t.coreReset 103).setCoreSt 103 .off).setRsv 103 2).swapOf 103 = some ⟨5, some 103⟩ ∧
      ((((s.setRsv 103 4).moduleHealth 32).driftEvent 20 0 1).logEvent .reserveFailed 0 (srcCode 1 103) 0xFFFF 0).swapOf 103 = none ∧
      ((((t.setRsv 103 4).moduleHealth 32).driftEvent 20 0 1).logEvent .reserveFailed 0 (srcCode 1 103) 0xFFFF 0).swapOf 103 =
        some ⟨5, some 103⟩ := by decide +kernel

theorem test_reserveIdle_can :
    let s := { sliced [(Obj.RSV_STATE 0, 2)] with health := { HealthUnit.reset with idleSince := [(48, some 1)] }, now := 60000000001 }
    isReserve 48 = true ∧ s.rsv 48 = 2 ∧ s.swapOf 48 = none ∧
      heldFor (Sparse.get (fun _ => none) s.health.idleSince 48) s.now 60000000000 = true := by decide +kernel

theorem test_drift_can : let s := { module [] with now := 3600000000000 }
    2 ≤ s.obj Obj.START_STATE ∧ (s.health.evaluated + 1000000000 ≤ s.now ∧ s.health.saved + 3600000000000 ≤ s.now) ∧
      ({ module [] with health := { HealthUnit.reset with evaluateDue := true } } : State).health.evaluateDue = true := by decide +kernel

theorem test_laneRequest_can :
    let u := ({ module [] with health := { HealthUnit.reset with laneRuns := [(63, 10)] } } : State).closeWindow
    10 ≤ u.laneRun (15 * 4 + 3) ∧ u.spareFree 15 = true ∧ 15 * 4 + 3 ∉ u.health.lanePending := by decide +kernel

theorem test_sensorLost_can : let s := { module [] with now := 1000000 }
    2 * 23 + 1 ∉ s.health.sensorsLost ∧ Sparse.get (fun _ => 0) s.health.sensorSeen (2 * 23 + 1) + 1000000 ≤ s.now := by decide +kernel

theorem test_power_can :
    let s := { module [] with power := { PowerUnit.reset with waking := [(77, 0)] } }
    s.power.open_ = false ∧ s.power.dark = false ∧ s.dead = false ∧
      (let t : State := { module [] with power := { PowerUnit.reset with dark := true } }
       t.power.open_ = false ∧ t.power.dark = true ∧ t.dead = true) ∧ ({ module [] with power := { PowerUnit.reset with open_ := true } } : State).power.open_ = true ∧
      s.power.waking.any (fun w => w.1 == 77) = true ∧ s.power.waking.any (fun w => w.1 == 77 && decide (w.2 ≤ s.now)) = true := by
  decide +kernel

theorem test_pll_can :
    let s := { module [(Obj.CLK_STEP 0, 3)] with now := 10000000, power := { PowerUnit.reset with
      plls := [(0, ⟨none, true, some 0⟩), (1, ⟨some 4, false, none⟩)] } }
    let t := { module [] with power := { PowerUnit.reset with plls := [(0, ⟨none, false, none⟩)] } }
    (s.pll 1).relock = some 4 ∧ ((t.pll 0).relock = none ∧ (t.pll 0).idle = false) ∧
      ((s.pll 0).upSince = some 0 ∧ s.slowest 0 < s.clkStep 0 ∧ 0 + 10000000 ≤ s.now ∧ (s.pll 0).relock = none) := by decide +kernel

theorem test_fenceN_can : let s := module []
    (s.obj Obj.EPO_STATE = 0 ∧ s.obj Obj.FENCE_STATE = 0 ∧ s.obj Obj.START_STATE = 4) ∧
      (module [(Obj.FENCE_STATE, 1)]).obj Obj.EPO_STATE = 0 ∧ (module [(Obj.FENCE_STATE, 1)]).obj Obj.FENCE_STATE = 1 := by decide +kernel

/-! ### Hypotheses that are met: messages of the dictionary protocol -/

/-- A message of the Service role for an object. -/
def message (typ key segno : Nat) (l : List Byte) : HdpReq :=
  { hdr := hdr, typ, index := key / 256, sub := key % 256, len := l.length, code := 0, segno, payload := l }

/-- The unit of the module with a transfer or a subscription of that role in its last place. -/
def busy (t : Option Transfer) (b : Option Subscription) : State :=
  let m := module [(Obj.CHART0_STATE, 1)]
  { m with hmu := { m.hmu with transfers := [(3, t)], subs := [(63, b)] } }

theorem test_readExp_can : let q := message 0 Obj.START_STATE 0 []
    q.typ = 0 ∧ q.len = 0 ∧ (module []).Grants (signed q) false (some false) :=
  ⟨rfl, rfl, grants _ _ _ _ (by decide +kernel) (by decide +kernel)⟩

theorem test_objectWrite_can : let q := message 1 (Obj.LAUNCH_ARG 99) 0 (leBytes 8 9)
    q.typ = 1 ∧ (module []).Grants (signed q) true (some false) ∧
      (((module []).heard (signed q)).performWrite (reqKey q) q.payload).2 = 0 :=
  ⟨rfl, grants _ _ _ _ (by decide +kernel) (by decide +kernel), by decide +kernel⟩

theorem test_readSeg_can : let q := message 2 Obj.ATT_REPORT 0 []
    q.typ = 2 ∧ (module []).Grants (signed q) false (some true) ∧ ((module []).heard (signed q)).freeTransfer = some 0 :=
  ⟨rfl, grants _ _ _ _ (by decide +kernel) (by decide +kernel), by decide +kernel⟩

theorem test_writeSeg_can : let q := message 3 Obj.CHART_LOAD 0 (leBytes 8 (2 ^ 24))
    q.typ = 3 ∧ (module []).Grants (signed q) true (some true) ∧ q.len = 8 ∧ leNat q.payload ≤ 2 ^ 24 ∧
      ((module []).heard (signed q)).freeTransfer = some 0 ∧ ((module []).heard (signed q)).writeOpen Obj.CHART_LOAD = false :=
  ⟨rfl, grants _ _ _ _ (by decide +kernel) (by decide +kernel), by decide +kernel⟩

/-- A transfer of CHART_LOAD, or of a report, that the role has opened. -/
def transfer (write : Bool) (total done : Nat) : Transfer :=
  { opener := message (if write then 3 else 2) (if write then Obj.CHART_LOAD else Obj.ATT_REPORT) 0 [], write, total, bytes := [], done
    sent := 8, progress := 0, resentAt := 0 }

theorem test_segment_can : ∀ done ∈ [6, 7], let q := message 4 Obj.CHART_LOAD done (List.replicate 1024 0#8)
    let x := transfer true (2 ^ 24) done
    q.typ = 4 ∧ (busy (some x) none).Hears (signed q) ∧ ((busy (some x) none).heard (signed q)).transferOf (signed q) true = some (3, x) ∧
      q.segno = x.done ∧ q.len = 1024 ∧ (x.bytes ++ q.payload).length < x.total := by
  intro done h
  simp only [List.mem_cons, List.not_mem_nil, or_false] at h
  rcases h with rfl | rfl <;> exact ⟨rfl, hears _ _ (by decide +kernel), by decide +kernel⟩

theorem test_segment_can_last : let q := message 4 Obj.CHART_LOAD 0 (leBytes 10 (2 ^ 16))
    let x := transfer true 10 0
    let u := ((busy (some x) none).heard (signed q)).setTransfer 3 none
    (busy (some x) none).Hears (signed q) ∧ ((busy (some x) none).heard (signed q)).transferOf (signed q) true = some (3, x) ∧
      q.segno = x.done ∧ (x.bytes ++ q.payload).length = x.total ∧ u.objectCode (reqKey x.opener) 3 true (some true) = 0 ∧
      (u.performWrite (reqKey x.opener) (x.bytes ++ q.payload)).2 = 0 :=
  ⟨hears _ _ (by decide +kernel), by decide +kernel⟩

theorem test_response_can : let q := message 7 Obj.ATT_REPORT 4 []
    let x := transfer false 9000 0
    q.typ = 7 ∧ (busy (some x) none).Hears (signed q) ∧ ((busy (some x) none).heard (signed q)).transferOf (signed q) false = some (3, x) :=
  ⟨rfl, hears _ _ (by decide +kernel), by decide +kernel⟩

theorem test_hdpAbort_can : let q := message 11 Obj.CHART_LOAD 0 []
    q.typ = 11 ∧ (module []).Hears (signed q) := ⟨rfl, hears _ _ (by decide +kernel)⟩

/-- A subscription of the role to START_STATE, changed since its last NOTIFY. -/
def subscribed (l : List Byte) : Subscription :=
  { req := message 5 Obj.START_STATE 0 l, seen := 4, dirty := true, last := some 0, segno := 0, expires := 9000000 }

theorem test_subscribe_can : ∀ l ∈ [leBytes 8 (10 + 2 ^ 16), leBytes 8 (60000 + 3600 * 2 ^ 16)], let q := message 5 Obj.START_STATE 0 l
    q.typ = 5 ∧ (module []).Grants (signed q) false none ∧ q.len = 8 ∧ 10 ≤ subInterval q ∧ subInterval q ≤ 60000 ∧ 1 ≤ subLease q ∧
      subLease q ≤ 3600 ∧ (objRow (reqKey q)).size ≤ 1024 ∧ ((module []).heard (signed q)).subOf (signed q) = none ∧
      (List.range 64).find? (fun n => (((module []).heard (signed q)).sub n).isNone) = some 0 := by
  intro l h
  simp only [List.mem_cons, List.not_mem_nil, or_false] at h
  rcases h with rfl | rfl <;> refine ⟨rfl, grants _ _ _ _ (by decide +kernel) (by decide +kernel), ?_, ?_, ?_, ?_, ?_, ?_, ?_, ?_⟩ <;> decide +kernel

theorem test_subscribe_can_again : ∀ typ ∈ [5, 6], let q := message typ Obj.START_STATE 0 (leBytes 8 (10 + 2 ^ 16))
    let s := busy none (some (subscribed (leBytes 8 (10 + 2 ^ 16))))
    s.Grants (signed q) false none ∧ (s.heard (signed q)).subOf (signed q) = some 63 := by
  intro typ h
  simp only [List.mem_cons, List.not_mem_nil, or_false] at h
  rcases h with rfl | rfl <;> exact ⟨grants _ _ _ _ (by decide +kernel) (by decide +kernel), by decide +kernel⟩

/-! ### Hypotheses that are met: the management unit, hosts and start-up -/

theorem test_transfer_clocks_can : let s := { busy (some (transfer false 9000 7)) none with now := 1000000000 }
    s.transfer 3 = some (transfer false 9000 7) ∧ (transfer false 9000 7).write = false ∧ (7 < 8) ∧ max 0 0 + 20000000 ≤ s.now ∧
      0 + 1000000000 ≤ s.now := by decide +kernel

theorem test_notify_can : let x := subscribed (leBytes 8 (10 + 2 ^ 16))
    let s := { busy none (some x) with now := 10000000 }
    (s.noteSub 63).sub 63 = some x ∧ x.dirty = true ∧ (∀ t, x.last = some t → t + subInterval x.req * 1000000 ≤ s.now) ∧ s.hmuServes = true ∧
      x.expires ≤ s.now :=
  ⟨by decide +kernel, by decide +kernel, fun t h => by cases (Option.some.inj h); decide +kernel, by decide +kernel, by decide +kernel⟩

theorem test_beacons_can : let s := { module [] with beaconDue := true }
    s.hmuServes = true ∧ s.hmu.beaconAt = none ∧ s.beaconDue = true ∧ s.hmu.immediateAt = none ∧ s.obj Obj.START_STATE ≠ 1 := by decide +kernel

theorem test_logFlush_can : let s := (module []).logEvent .reserveFailed 0 0 0 0
    s.events.unflushed ≠ 0 ∧ s.health.flashUsed < 256 := by decide +kernel

theorem test_hmuSleep_can : let s := { module [] with hmu := { (module []).hmu with asleep := false }, now := 10000000 }
    s.hmu.asleep = false ∧ s.hmu.lastWork + 10000000 ≤ s.now ∧ s.hmu.queueA = [] ∧ s.hmu.queueB = [] ∧ s.hmu.ndA = [] ∧ s.hmu.ndB = [] := by decide +kernel

theorem test_hmu_cores_can : bit ((module [(Obj.HMU_STATUS, 3)]).obj Obj.HMU_STATUS) 1 = true ∧
    (module [(Obj.HMU_STATUS, 0)]).obj Obj.HMU_STATUS = 0 := by decide +kernel

theorem test_segments_can : (module []).segUp .a = true ∧ (module [(Obj.SEG_STATE, 1)]).segUp .b = false ∧
    (module [(Obj.SEG_STATE, 1)]).hmuServes = true := by decide +kernel

theorem test_solicitation_can : ((module [(Obj.START_STATE, 1), (Obj.SLOT, 63)]).addresses (.seg .a)).contains (module [(Obj.START_STATE, 1), (Obj.SLOT, 63)]).slotAddress = true ∧
    ((module [(Obj.HOST_PORT_STATE 3, 2), (Obj.HOST_ADDR 3, 1)]).addresses (.host 3)).contains (2 ^ 120) = true := by decide +kernel

theorem test_opportunity_can : let o : HdpOut := ⟨message 7 Obj.START_STATE 0 [], false, false, none⟩
    let s := { module [] with hmu := { (module []).hmu with queueA := [o], queueB := [o] } }
    s.segUp .a = true ∧ nextOut s.hmu.queueA = some o ∧ s.hmu.ndA = [] ∧ s.segUp .b = true ∧ nextOut s.hmu.queueB = some o ∧ s.hmu.ndB = [] := by
  decide +kernel

theorem test_opportunity_can_advertise : let s := { module [] with hmu := { (module []).hmu with ndA := [.advert 1] } }
    s.segUp .a = true ∧ s.hmu.ndA = .advert 1 :: [] ∧ nextOut s.hmu.queueA = none := by decide +kernel

theorem test_rdmaWrite_can : ∀ va ∈ [0, 0xBFFFFFFFFF], (hosting []).HostAccepts .write (request 10 va 1 [1#8]) := by
  intro va h
  simp only [List.mem_cons, List.not_mem_nil, or_false] at h
  rcases h with rfl | rfl <;> refine ⟨?_, ?_, ?_, ?_, ?_⟩ <;> decide +kernel

theorem test_rdmaRead_can : ((hosting []).strikes [⟨0, some 1⟩]).HostAccepts .read (request 12 0xE000000000 32 []) := by
  refine ⟨?_, ?_, ?_, ?_, ?_⟩ <;> decide +kernel

theorem test_atomicFetchAdd_can : (hosting []).HostAccepts .add (request 20 (0xE000000000 + 32 * 16383) 8 []) := by
  refine ⟨?_, ?_, ?_, ?_, ?_⟩ <;> decide +kernel

theorem test_repeat_can : ∀ p ∈ [(2 ^ 24 - 1, 1), (1, 2 ^ 24 - 1)], let m := { request 10 0 1 [1#8] with psn := p.1 }
    ((hosting []).hostFec m).hostHears m.conn = true ∧ ((hosting []).hostFec m).hostFrames m = true ∧
      ((hosting []).hostHeard m).psnBehind m = p.2 := by decide +kernel

theorem test_cnp_can :
    let s := { hosting [] with hosts := [(239, { HostConn.fresh with rate := 1 })], now := 55000 }
    s.hostHears 239 = true ∧ (s.conn 239).rate < hostRate ∧ (s.conn 239).cnpAt + 55000 ≤ s.now := by decide +kernel

theorem test_hostLinks_can : (module [(Obj.HOST_PORT_STATE 3, 3)]).obj (Obj.HOST_PORT_STATE 3) = 3 ∧
    (module [(Obj.HOST_PORT_STATE 0, 1)]).obj (Obj.HOST_PORT_STATE 0) = 1 ∧ (module [(Obj.HOST_PORT_STATE 1, 2)]).obj (Obj.HOST_PORT_STATE 1) = 2 := by
  decide +kernel

theorem test_fw_ends_can : (module [(Obj.FW_STATE, 3)]).fwState = 3 ∧ (module [(Obj.ATT_STATE, 1)]).obj Obj.ATT_STATE = 1 ∧
    (module [(Obj.BIST_STATE, 1)]).obj Obj.BIST_STATE = 1 := by decide +kernel

/-- What a start meets at which nothing is amiss. -/
def smooth : StartReadings :=
  { sa := 63, pufErrors := 0, failedDomains := [], failedCores := [], fabricUp := [(1, 2)], hostUp := [3], segsUp := [.a, .b], fastStacks := [0]
    weakLanes := [], badJournal := [] }

/-- The module whose start has read its slot and its segments. -/
def loading : State :=
  ({ State.reset with fw := { State.reset.fw with loader := false } } : State).setObjs [(Obj.SLOT, 63), (Obj.SEG_STATE, segWord [.a, .b])]

theorem flash_good {s : State} (h : s.fw.flash = .factory) (m : s.minSec = 0) : s.flashGood = true := by
  unfold State.flashGood
  rw [h, m]
  exact decide_eq_true (Nat.zero_le _)

theorem test_powerOn_can : let u := (if State.reset.fw.loader then State.reset else State.reset.coldStart true).load smooth
    State.reset.dead = false ∧ u.obj Obj.START_STATE ≠ 1 ∧ u.power.epoPin = false := by
  rw [if_pos (show State.reset.fw.loader = true from rfl)]
  have q : ∀ (l : List Nat) (g : Seg) (t : State), ∃ m, l.foldl (fun (t : State) a => t.queueNd g (.solicit a)) t = { t with hmu := m } := by
    intro l g
    induction l with
    | nil => exact fun t => ⟨t.hmu, rfl⟩
    | cons a l ih =>
      intro t
      obtain ⟨m, e⟩ := ih (t.queueNd g (.solicit a))
      refine ⟨m, ?_⟩
      rw [List.foldl_cons, e]
      cases g <;> rfl
  have d : ∀ (t : State) (g : Seg), ∃ m, t.detect g false false = { t with hmu := m } := by
    intro t g
    unfold State.detect
    dsimp only
    obtain ⟨m, e⟩ := q (State.addresses { t with hmu := { t.hmu with taken := t.hmu.taken.filter (fun x => x.seg != g) } } (.seg g)) g
      { t with hmu := { t.hmu with taken := t.hmu.taken.filter (fun x => x.seg != g) } }
    rw [e]
    exact ⟨_, rfl⟩
  have h : State.reset.loadImage smooth = ({ loading with fw := { loading.fw with running := loading.fw.flash } } : State).setObjs
      [(Obj.START_STATE, 2), (Obj.FW_RELEASE, loading.fw.flash.release), (Obj.FW_FLASH_RELEASE, loading.fw.flash.release)] := by
    unfold State.loadImage
    exact if_pos (flash_good (s := loading) rfl (by decide +kernel))
  unfold State.load
  show _ ∧ State.obj ((State.detect (State.detect _ .a false false) .b false false)) _ ≠ 1 ∧
    (State.detect (State.detect _ .a false false) .b false false).power.epoPin = false
  obtain ⟨m, e⟩ := d (State.reset.loadImage smooth) .a
  rw [e]
  obtain ⟨m', e'⟩ := d { State.reset.loadImage smooth with hmu := m } .b
  rw [e', h]
  refine ⟨rfl, ?_, rfl⟩
  show State.obj (State.setObjs _ _) _ ≠ 1
  rw [State.setObjs, State.obj_setObjs_other _ _ (by simp), State.obj_setObj_self]
  decide

/-! ### Hypotheses that are met: steps, Waypoints, requests refused, and bundles -/

theorem test_step_can : (∃ t, step State.reset = .next t) ∧ Memory.wf State.reset.mem = true ∧ Dict.wf State.reset.dict = true ∧
    State.reset.pending = [] ∧ ∃ t, exec .epoNRelease State.reset = .next t := ⟨⟨_, rfl⟩, by decide +kernel, by decide +kernel, rfl, ⟨_, rfl⟩⟩

theorem unwatched {s : State} {wp : Nat} (h : (s.waiters.all (fun w => w.wp != wp) && s.obj Obj.SEAL_WP != wp && s.obj Obj.END_WP != wp &&
    s.obj Obj.READY_WP != wp && decide (s.goContexts wp = []) && (List.range 8).all (fun k => !s.stageActive k)) = true) : s.Unwatched wp := by
  simp only [Bool.and_eq_true, bne_iff_ne, decide_eq_true_eq, List.all_eq_true, Bool.not_eq_true', List.mem_range] at h
  exact ⟨h.1.1.1.1.1, h.1.1.1.1.2, h.1.1.1.2, h.1.1.2, h.1.2, fun k hk ha => by rw [h.2 k hk] at ha; cases ha⟩

theorem test_unwatched_can : ∀ wp ∈ [63, 16320, 16383], (sliced []).Quiet ∧ (sliced []).Unwatched wp ∧ (sliced []).wpCode 5 wp = 0 := by
  intro wp h
  simp only [List.mem_cons, List.not_mem_nil, or_false] at h
  rcases h with rfl | rfl | rfl <;>
    exact ⟨quiet (by decide +kernel), unwatched (by decide +kernel), by decide +kernel⟩

theorem test_hostMarks_can : ∀ p ∈ [(16383, 1), (63, 3)], let m := flagWrite p.1 p.2 3
    (hosting []).HostAccepts .write m ∧ (hosting []).Quiet ∧ ((hosting []).hostHeard m).Unwatched ((m.va - 0xE000000000) / 32) ∧
      wordTarget m p.2 = true := by
  intro p h
  simp only [List.mem_cons, List.not_mem_nil, or_false] at h
  rcases h with rfl | rfl <;> refine ⟨⟨?_, ?_, ?_, ?_, ?_⟩, quiet ?_, unwatched ?_, ?_⟩ <;> decide +kernel

theorem test_groupSlice_quiet : ∀ group ∈ [0, 255], ∃ h, (module []).Quiet ∧ (module []).GrantsWrite h (Obj.GROUP_SLICE group) 4095 ∧
    (module []).groupWaited group = false ∧ ∀ a ∈ (module []).timedHeld, a.wp / 64 = group := by
  intro group m
  simp only [List.mem_cons, List.not_mem_nil, or_false] at m
  rcases m with rfl | rfl
  · obtain ⟨h, g, -⟩ := writes (ok := fun _ => True) (module []) (Obj.GROUP_SLICE 0) 4095 (by decide +kernel) trivial
    exact ⟨h, quiet (by decide +kernel), g, by decide +kernel, by decide +kernel⟩
  · obtain ⟨h, g, -⟩ := writes (ok := fun _ => True) (module []) (Obj.GROUP_SLICE 255) 4095 (by decide +kernel) trivial
    exact ⟨h, quiet (by decide +kernel), g, by decide +kernel, by decide +kernel⟩

/-- An untagged message of the Observer role, which an open module passes (R428). -/
def untagged (q : HdpReq) : HdpReq := { q with hdr := { q.hdr with tagged := false, role := 0 } }

/-- The module open to untagged messages of the Observer. -/
def openModule (l : List (Nat × Nat)) : State := module ((Obj.OBS_OPEN, 1) :: l)

def asksGood (s : State) (q : HdpReq) : Bool :=
  s.segUp q.hdr.seg && s.datagramGood q.hdr && s.hmuServes && s.obj Obj.START_STATE != 1 && reqFormed q && !noRoom q && q.hdr.ver == 1 && decide (q.typ < 12) &&
    (s.hmuWork.authenticate q == .pass) && q.hdr.dev == 0xFFFF

theorem asks {s : State} {q : HdpReq} {c : Instr} (g : asksGood s q = true) (b : broughtBy q c) (o : (s.heard q).readOpened q = none) :
    s.Asks c q := by
  simp only [asksGood, Bool.and_eq_true, bne_iff_ne, beq_iff_eq, decide_eq_true_eq, Bool.not_eq_true'] at g
  obtain ⟨⟨⟨⟨⟨⟨⟨⟨⟨g1, gd⟩, g2⟩, g3⟩, g4⟩, g5⟩, g6⟩, g7⟩, g8⟩, g9⟩ := g
  exact ⟨⟨g1, gd, g2, g3, g4, g5, g6, g7, g8, .inl g9⟩, b, o⟩

theorem test_roles_can : let q := untagged (message 0 (Obj.CORE_CTRL 99) 0 [])
    (openModule []).Asks (.readExp q) q ∧ objExists (reqKey q) = true ∧ recordObject (reqKey q) = false ∧
      (objRow (reqKey q)).ty.segmented = false ∧ q.hdr.role < (objRow (reqKey q)).role.rank :=
  ⟨asks (by decide +kernel) (.inl ⟨rfl, rfl⟩) (by decide +kernel), by decide +kernel⟩

theorem test_absent_can : ∀ key ∈ [0x846801, 0x549001, 0x610010, 0xFFFFFF], let q := untagged (message 0 key 0 [])
    (openModule []).Asks (.readExp q) q ∧ objExists (reqKey q) = false := by
  intro key h
  simp only [List.mem_cons, List.not_mem_nil, or_false] at h
  rcases h with rfl | rfl | rfl | rfl <;> exact ⟨asks (by decide +kernel) (.inl ⟨rfl, rfl⟩) (by decide +kernel), by decide +kernel⟩

theorem test_refused_can : let q := message 1 Obj.CHART_CTRL 0 (leBytes 1 5)
    (module []).Asks (.objectWrite ⟨signed q, false, none, false⟩) (signed q) ∧ q.typ = 1 ∧ reqKey q ≠ Obj.RSV_SWAP ∧ reqKey q ≠ Obj.FIX_SVC ∧ (∀ k < 8, reqKey q ≠ Obj.SLICE_CTRL k) ∧
      ((module []).heard (signed q)).objectCode (reqKey q) 3 true (some false) = 0 ∧
      (((module []).heard (signed q)).performWrite (reqKey q) q.payload).2 = 0x0805 :=
  ⟨⟨hears _ _ (by decide +kernel), .inr (.inl ⟨rfl, false, rfl⟩), by decide +kernel⟩, rfl, by decide +kernel⟩

theorem test_sleeping_can : (∀ core ∈ [48, 103], ∀ sub ∈ [2, 4], let q := untagged (message 0 (0x840000 + 0x100 * core + sub) 0 [])
    isReserve core = true ∧ (openModule []).sleeping core = true ∧ (openModule []).Asks (.readExp q) q ∧
      reqKey q = 0x840000 + 0x100 * core + sub ∧ (objRow (reqKey q)).role.rank ≤ q.hdr.role) ∧
    (let q := message 1 (Obj.ARITH_FLAGS 103) 0 (leBytes 4 1)
     let r := message 0 (Obj.ARITH_FLAGS 103) 0 []
     (module []).Asks (.objectWrite ⟨signed q, false, none, false⟩) (signed q) ∧ (module []).Asks (.readExp (signed r)) (signed r) ∧ q.typ = 1 ∧ r.typ = 0 ∧
      reqKey q = 0x840000 + 0x100 * 103 + 1 ∧ reqKey r = reqKey q ∧ (objRow (reqKey q)).role.rank ≤ 3) := by
  refine ⟨fun core h sub k => ?_, ⟨hears _ _ (by decide +kernel), .inr (.inl ⟨rfl, false, rfl⟩), by decide +kernel⟩,
    ⟨hears _ _ (by decide +kernel), .inl ⟨rfl, rfl⟩, by decide +kernel⟩, rfl, rfl, by decide +kernel⟩
  simp only [List.mem_cons, List.not_mem_nil, or_false] at h k
  rcases h with rfl | rfl <;> rcases k with rfl | rfl <;>
    exact ⟨by decide +kernel, by decide +kernel, asks (by decide +kernel) (.inl ⟨rfl, rfl⟩) (by decide +kernel), by decide +kernel, by decide +kernel⟩

theorem test_launch_can : ∃ h, let s := sliced [(Obj.ENTRY_PC 99, 64), (Obj.LAUNCH_THRESH 99, 0)]
    s.Quiet ∧ (∀ k < 8, s.stageActive k = false) ∧ s.obj (Obj.CORE_MODE 99) = 0 ∧ s.GrantsWrite h (Obj.CORE_CTRL 99) 1 ∧ (s.heardWrite h (Obj.CORE_CTRL 99) 1).mayArm 99 ∧
      (s.heardWrite h (Obj.CORE_CTRL 99) 1).launchAns 99 = .satisfied := by
  obtain ⟨h, g, m, w⟩ := test_arm_can_launch
  exact ⟨h, quiet (by decide +kernel), by decide +kernel, by decide +kernel, g, m, w⟩

/-- A running core's bundle whose only word is A[31] := A[0] OP A[1]; and STA of A[1] to the last 8 bytes of the scratchpad. -/
def scalarBundle (op : Nat) : Nat := bundle (op * 16 + 31 * 2 ^ 10 + 1 * 2 ^ 21) 0 0 0 0 0
def storeBundle : Nat := bundle 0 0 (1 * 16 + 1 * 2 ^ 10) 0 0 0

theorem test_scalar_can : ∀ op ∈ [0x01, 0x0B, 0x0F], let s := running (atBundle (scalarBundle op)) []
    let w := (Slots.of (scalarBundle op)).scalar
    s.Quiet ∧ s.Issues 99 (scalarBundle op) ∧ (s.core 99).takes w = true ∧
      (scalarValue w (s.source 99 (scS1 w)) (s.source 99 (scS2 w))).isSome = true ∧ slotOp (Slots.of (scalarBundle op)).load = 0 ∧
      slotOp (Slots.of (scalarBundle op)).store = 0 ∧ slotOp (Slots.of (scalarBundle op)).matrix = 0 ∧
      vectorOp (Slots.of (scalarBundle op)).vector = 0 ∧ slotOp (Slots.of (scalarBundle op)).sync = 0 := by
  intro op h
  simp only [List.mem_cons, List.not_mem_nil, or_false] at h
  rcases h with rfl | rfl | rfl <;>
    refine ⟨quiet (by decide +kernel), ?_⟩ <;> (repeat' first | apply And.intro | apply State.Issues.mk | apply State.mayIssue.mk) <;> decide +kernel

/-- A running core's bundle whose only word writes P[7], from A[0] and A[1] or from two predicates. -/
def flagBundle (op : Nat) : Nat := bundle (op * 16 + 7 * 2 ^ 10 + 1 * 2 ^ 21) 0 0 0 0 0

theorem test_flags_can : ∀ op ∈ [0x10, 0x12], let s := running (atBundle (flagBundle op)) []
    let w := (Slots.of (flagBundle op)).scalar
    s.Quiet ∧ s.Issues 99 (flagBundle op) ∧ (s.core 99).takes w = true ∧
      (scalarFlag (s.core 99) w (s.source 99 (scS1 w)) (s.source 99 (scS2 w))).isSome = true ∧ slotOp (Slots.of (flagBundle op)).load = 0 ∧
      slotOp (Slots.of (flagBundle op)).store = 0 ∧ slotOp (Slots.of (flagBundle op)).matrix = 0 ∧
      vectorOp (Slots.of (flagBundle op)).vector = 0 ∧ slotOp (Slots.of (flagBundle op)).sync = 0 := by
  intro op h
  simp only [List.mem_cons, List.not_mem_nil, or_false] at h
  rcases h with rfl | rfl <;>
    refine ⟨quiet (by decide +kernel), ?_⟩ <;> (repeat' first | apply And.intro | apply State.Issues.mk | apply State.mayIssue.mk) <;> decide +kernel

theorem test_store_can : let s := running { atBundle storeBundle with a := [(0, BitVec.ofNat 48 (spSize - 8))] } []
    let w := (Slots.of storeBundle).store
    s.Quiet ∧ s.Issues 99 storeBundle ∧ (s.core 99).takes w = true ∧ slotOp w = 1 ∧ slotOp (Slots.of storeBundle).scalar = 0 ∧
      slotOp (Slots.of storeBundle).load = 0 ∧ slotOp (Slots.of storeBundle).matrix = 0 ∧ vectorOp (Slots.of storeBundle).vector = 0 ∧
      slotOp (Slots.of storeBundle).sync = 0 ∧
      s.errorsIn (spBase 99 + (s.core 99).offset (memB w) (memOff w)) 8 = [] ∧ (s.core 99).offset (memB w) (memOff w) = spSize - 8 := by
  refine ⟨quiet (by decide +kernel), ?_⟩
  (repeat' first | apply And.intro | apply State.Issues.mk | apply State.mayIssue.mk) <;> decide +kernel

/-! ### Hypotheses that are met: sequences, counters, data and same cycles -/

/-- A WRITE of device 2 with a number of its flow, which expects 1. -/
def numbered (seq : Nat) : Frame := sealFrame { unitFrame 1 6 1 5 0 0 [1#8] with srcDev := 2, srcCore := 0, seq }

theorem reachesFlow {s : State} {f : Frame} (g : sequenced (sealFrame f).opcode = true ∧ s.fenced = false ∧ s.chartRoutes (sealFrame f).epoch = true)
    (h : (sealFrame f).mcast = true ∨ (sealFrame f).dstDev = (s.chart (sealFrame f).epoch).self) : s.ReachesFlow (sealFrame f) :=
  ⟨sealed_header f, g.1, g.2.1, g.2.2, h⟩

theorem test_sequence_can : (∀ seq ∈ [1, 0, 2 ^ 31 + 1, 2 ^ 31 + 2, 2], (joined []).ReachesFlow (numbered seq)) ∧
    ((joined []).rxFlow (recvKey (numbered 1))).expected = 1 ∧ wellFormedHeader (numbered 1) = true ∧
    (((joined []).expecting (numbered 1)).takeFrame (numbered 1)).2 = 0 ∧
    (1 + 2 ^ 32 - (numbered 0).seq) % 2 ^ 32 < 2 ^ 31 ∧ (1 + 2 ^ 32 - (numbered (2 ^ 31 + 2)).seq) % 2 ^ 32 < 2 ^ 31 ∧
    2 ^ 31 ≤ (1 + 2 ^ 32 - (numbered (2 ^ 31 + 1)).seq) % 2 ^ 32 ∧ 2 ^ 31 ≤ (1 + 2 ^ 32 - (numbered 2).seq) % 2 ^ 32 := by
  refine ⟨fun seq h => ?_, ?_⟩
  rotate_left
  · decide +kernel
  simp only [List.mem_cons, List.not_mem_nil, or_false] at h
  rcases h with rfl | rfl | rfl | rfl | rfl <;> exact reachesFlow (by decide +kernel) (by decide +kernel)

theorem test_sequence_can_bad : (joined []).ReachesFlow { numbered 1 with pcrc := 0 } ∧ payloadGood { numbered 1 with pcrc := 0 } = false ∧
    wellFormedHeader (sealFrame { numbered 1 with cls := 7 }) = false ∧ (joined []).ReachesFlow (sealFrame { numbered 1 with cls := 7 }) := by
  refine ⟨⟨?_, ?_, ?_, ?_, ?_⟩, ?_, ?_, reachesFlow ?_ ?_⟩ <;> decide +kernel

theorem test_counters_can : Accepted (.fresh (some key)) [100, 36] ((RoleKey.fresh (some key)).take 100 |>.take 36) ∧
    (RoleKey.fresh (some key)).top = none ∧ (RoleKey.fresh (some key)).seen = [] :=
  ⟨.cons (by decide) (.cons (by decide) (.nil _)), rfl, rfl⟩

theorem test_authenticate_can : let q := signed (message 0 Obj.START_STATE 0 [])
    q.hdr.tagged = true ∧ (module []).hmuWork.authenticate q = .pass := ⟨rfl, (hears (module []) (message 0 Obj.START_STATE 0 []) (by decide +kernel)).authentic⟩

theorem test_data_can : ∀ p ∈ [(1, true), (3, false)], let f := dataFrame p.1 2 p.2
    let s := joined []
    s.Quiet ∧ s.Accepts f p.1 ∧ 0 < f.len ∧ f.len ≤ 4096 ∧ f.payload.length = f.len ∧ f.srcDev ≠ s.selfId ∧
      s.frameTarget f (frameAddr f) f.len = 0 ∧ (s.stepSt < 2 ∨ 7 < s.stepSt) ∧ s.obj Obj.CBW_ACTIVE ≠ 1 ∧ s.sextant = none ∧ s.held = [] ∧
      s.errorsIn (s.home (frameAddr f)) f.len = [] ∧ (s.rxFlow (recvKey f)).uncovered < 15 := by
  intro p h
  simp only [List.mem_cons, List.not_mem_nil, or_false] at h
  rcases h with rfl | rfl <;> refine ⟨quiet (by decide +kernel), accepted (by decide +kernel) (by decide +kernel), ?_⟩ <;> decide +kernel

theorem test_same_cycle_can : (∃ h, (module []).GrantsWrite h (Obj.CORE_CTRL 99) 1) ∧ (∃ h, (module []).GrantsWrite h (Obj.LYR_START 0) 1) ∧
    (∃ h, (module []).GrantsWrite h (Obj.PROG_GEN 99) (2 ^ 32 - 1)) ∧
    (∃ h, (module [(Obj.PD_STATE 77, 1)]).GrantsWrite h Obj.PD_CTRL 77 ∧ ((module [(Obj.PD_STATE 77, 1)]).heardWrite h Obj.PD_CTRL 77).pd 77 = 1) := by
  refine ⟨?_, ?_, ?_, ?_⟩
  · obtain ⟨h, g, -⟩ := writes (ok := fun _ => True) (module []) (Obj.CORE_CTRL 99) 1 (by decide +kernel) trivial; exact ⟨h, g⟩
  · obtain ⟨h, g, -⟩ := writes (ok := fun _ => True) (module []) (Obj.LYR_START 0) 1 (by decide +kernel) trivial; exact ⟨h, g⟩
  · obtain ⟨h, g, -⟩ := writes (ok := fun _ => True) (module []) (Obj.PROG_GEN 99) (2 ^ 32 - 1) (by decide +kernel) trivial; exact ⟨h, g⟩
  · exact writes (ok := fun u => u.pd 77 = 1) _ _ _ (by decide +kernel) (by decide +kernel)

theorem test_same_cycle_can_object : let q := message 1 (Obj.LAUNCH_ARG 99) 0 (leBytes 8 9)
    q.typ = 1 ∧ reqKey q ∈ launchObjects 99 ∧ (module []).Asks (.objectWrite ⟨signed q, true, none, false⟩) (signed q) ∧
      ((module []).heard (signed q)).objectCode (reqKey q) 3 true (some false) = 0 :=
  ⟨rfl, by decide +kernel, ⟨hears _ _ (by decide +kernel), .inr (.inl ⟨rfl, true, rfl⟩), by decide +kernel⟩, by decide +kernel⟩

/-- The module whose core 99 has just parked on a fault. -/
def parked : State := ((running Core.reset []).faultPark 99 2 0x0809 0 0 0).after

theorem test_fault_stands_can : ∃ h, parked.Quiet ∧ parked.GrantsWrite h (Obj.CORE_CTRL 99) 2 ∧ parked.justParked 99 = true := by
  obtain ⟨h, g, -⟩ := writes (ok := fun _ => True) parked (Obj.CORE_CTRL 99) 2 (by decide +kernel) trivial
  exact ⟨h, quiet (by decide +kernel), g, by decide +kernel⟩

theorem test_chronometer_can : ({ State.reset with pending := [] } : State).chr + 2 < 2 ^ 64 ∧
    ({ State.reset with chrU := { ChrUnit.reset with locked := true } } : State).chrU.locked = true ∧
    (({ module [(Obj.CHR_STATE, 1)] with chrU := { ChrUnit.reset with good := 7 } } : State).chrExchange 1000).chr ≠ (module []).chr ∧
    (module [(Obj.CHR_STATE, 4)]).chrState = 4 ∧ (module [(Obj.CHR_STATE, 4)]).noSliceHoldsCores = true ∧
    (sliced [(Obj.CHR_STATE, 4)]).noSliceHoldsCores = false := by decide +kernel

theorem test_oneChart_can : let s := { module [(Obj.CHART0_STATE, 2), (Obj.CHART1_STATE, 3), (Obj.CHART_ACTIVE, 1)] with switchAt := some ⟨0, false, 0⟩ }
    ¬ (s.chartState 0 = 3 ∧ s.chartState 1 = 3) ∧ s.Quiet ∧ s.stepSt < 2 ∧ s.chartSel < 2 ∧ s.txFlows = [] ∧ s.routerQ = [] ∧
      (∀ p < 16, (s.port p).queue = []) ∧ s.switchAt = some ⟨0, false, 0⟩ ∧
      (let u := { module [(Obj.CHART0_STATE, 4)] with chr := 4000000 }
       u.chartState 0 = 4 ∧ (u.chart 0).drainAt + 4000000 ≤ u.chr) :=
  ⟨by decide +kernel, quiet (by decide +kernel), by decide +kernel⟩

/-! ### Ill-formed commands: one for every check of `Instr.wf`, each refused -/

/-- A lane's readings in form. -/
def lane0 : LaneMargin := ⟨0, 0, 0, 0, 0, 0, 0, 0, 0, 0, 0⟩

/-- Ill-formed commands, part 1. -/
def illFormed1 : List Instr :=
  [.powerOn { smooth with sa := 64 }, .bundleIssue 104, .ldaWriteback 104, .lineFill 104, .releaseBufferPerform 104, .mcfg 104,
    .mwld 104, .checksumWeightsReady 104, .mstr 104, .mcls 104, .drain 104 [], .drain 0 [⟨2 ^ 40, none⟩],
    .portStarvationOverride 104 (.dmaRead 0), .portStarvationOverride 0 (.dmaWrite 2), .chainStart 104, .gatedUpdate 104,
    .chainComplete 104, .sealThresh { hdr with ver := 16 } 0, .sealThresh hdr (2 ^ 64),
    .arm ⟨{ hdr with role := 4 }, false⟩ 0, .arm ⟨hdr, false⟩ 104, .reset ⟨{ hdr with role := 4 }, false⟩ 0,
    .reset ⟨hdr, false⟩ 104, .progGen ⟨{ hdr with role := 4 }, false⟩ 0 0]

/-- Ill-formed commands, part 2. -/
def illFormed2 : List Instr :=
  [.progGen ⟨hdr, false⟩ 104 0, .progGen ⟨hdr, false⟩ 0 (2 ^ 32), .progressWatchdog 104, .runWatchdog 104,
    .lyrWrite { hdr with ver := 16 } 0 0 0, .lyrWrite hdr 104 0 0, .lyrWrite hdr 0 64 0, .lyrWrite hdr 0 0 (2 ^ 64),
    .lyrStart ⟨{ hdr with role := 4 }, false⟩ 0, .lyrStart ⟨hdr, false⟩ 104, .recordLoad 104, .layerComplete 104,
    .dmaDescriptorStart 104 0 [], .dmaDescriptorStart 0 2 [], .dmaDescriptorStart 0 0 [⟨2 ^ 40, none⟩], .dmaComplete 104 0,
    .dmaComplete 0 2, .scrubRead 25769803776 [], .scrubRead 0 [⟨2 ^ 40, none⟩], .refresh ⟨12288, [], 0⟩ false,
    .refreshManagement ⟨12288, [], 0⟩, .rowRemap (12 * 32 * 32 * 4096), .cbwCopy 12582912, .backgroundCopy 2]

/-- Ill-formed commands, part 3. -/
def illFormed3 : List Instr :=
  [.sxtRun { hdr with ver := 16 }, .sxtAbort { hdr with ver := 16 }, .sxtDone [{ lane0 with stack := 12 }],
    .waypointAdd (2 ^ 16) 0 0, .waypointAdd 0 16384 0, .waypointAdd 0 0 (2 ^ 64), .waypointSet (2 ^ 16) 0 0,
    .waypointSet 0 16384 0, .waypointSet 0 0 (2 ^ 64), .waypointWait 104 0 0, .waypointWait 0 16384 0,
    .waypointWait 0 0 (2 ^ 64), .timedAdd (2 ^ 16) 0 0 0, .timedAdd 0 16384 0 0, .timedAdd 0 0 (2 ^ 64) 0,
    .timedAdd 0 0 0 (2 ^ 64), .errorCompletion (2 ^ 16) 0 0, .errorCompletion 0 16384 0, .errorCompletion 0 0 (2 ^ 16),
    .waypointMark { request 0 0 0 [] with conn := 240 }, .waypointClear { request 0 0 0 [] with conn := 240 } false,
    .groupSlice { hdr with ver := 16 } 0 0, .groupSlice hdr 256 0, .groupSlice hdr 0 (2 ^ 16)]

/-- Ill-formed commands, part 4. -/
def illFormed4 : List Instr :=
  [.timeReq (onPort 4096) (unitFrame 1 6 1 5 0 0 []), .timeReq (onPort 0) { unitFrame 1 6 1 5 0 0 [] with cls := 8 },
    .timeRsp (onPort 4096) (unitFrame 1 6 1 5 0 0 []) 0, .timeRsp (onPort 0) { unitFrame 1 6 1 5 0 0 [] with cls := 8 } 0,
    .timeRsp (onPort 0) (unitFrame 1 6 1 5 0 0 []) (2 ^ 64), .chrSet { hdr with ver := 16 } 0, .chrSet hdr (2 ^ 64),
    .chrParentPort { hdr with ver := 16 } 0, .chrParentPort hdr (2 ^ 8),
    .frameRoute (some (onPort 4096)) (unitFrame 1 6 1 5 0 0 []), .frameRoute none { unitFrame 1 6 1 5 0 0 [] with cls := 8 },
    .write { unitFrame 1 6 1 5 0 0 [] with cls := 8 }, .read { unitFrame 1 6 1 5 0 0 [] with cls := 8 },
    .readData { unitFrame 1 6 1 5 0 0 [] with cls := 8 }, .wpAdd { unitFrame 1 6 1 5 0 0 [] with cls := 8 },
    .ack { unitFrame 1 6 1 5 0 0 [] with cls := 8 }, .errResp { unitFrame 1 6 1 5 0 0 [] with cls := 8 },
    .partialNotice { unitFrame 1 6 1 5 0 0 [] with cls := 8 }, .ackTimer { flowKey with epoch := 2 },
    .e2eResend { flowKey with epoch := 2 }, .pathLost { flowKey with epoch := 2 }, .linkControlBlock 16, .nak 16 0,
    .nak 0 4096]

/-- Ill-formed commands, part 5. -/
def illFormed5 : List Instr :=
  [.linkReplayTimeout 16, .portRetrain ⟨16, false⟩, .retrainDone 16 ⟨true, [], 0⟩, .retrainDone 0 ⟨true, [4], 0⟩, .portRetry 16,
    .portDisable { hdr with ver := 16 } 0, .portDisable hdr 16, .portEnable { hdr with ver := 16 } 0, .portEnable hdr 16,
    .portRetrainCmd { hdr with ver := 16 } 0, .portRetrainCmd hdr 16, .laneSwap { hdr with ver := 16 } 0, .laneSwap hdr 16,
    .chartBegin { hdr with ver := 16 }, .chartLoad { hdr with ver := 16 } (.self 0), .chartLoad hdr (.self (2 ^ 16)),
    .chartSeal { hdr with ver := 16 }, .switch { hdr with ver := 16 }, .switchClose { hdr with ver := 16 },
    .chartAbort { hdr with ver := 16 }, .chartDrainClose 2, .ctxArm { hdr with ver := 16 } 0 0, .ctxArm hdr 128 0,
    .ctxArm hdr 0 (2 ^ 64)]

/-- Ill-formed commands, part 6. -/
def illFormed6 : List Instr :=
  [.disarm { hdr with ver := 16 } 0, .disarm hdr 128, .contrib { unitFrame 1 6 1 5 0 0 [] with cls := 8 }, .deadline 128,
    .late { unitFrame 1 6 1 5 0 0 [] with cls := 8 }, .result { unitFrame 1 6 1 5 0 0 [] with cls := 8 },
    .stageEnable { hdr with ver := 16 } 0, .stageEnable hdr 8, .stageDisable { hdr with ver := 16 } 0, .stageDisable hdr 8,
    .stepBegin { hdr with ver := 16 }, .endJob { hdr with ver := 16 }, .restore { hdr with ver := 16 },
    .standby { hdr with ver := 16 }, .stepVote { unitFrame 1 6 1 5 0 0 [] with cls := 8 },
    .stepCommit { unitFrame 1 6 1 5 0 0 [] with cls := 8 }, .stepAbort { unitFrame 1 6 1 5 0 0 [] with cls := 8 },
    .stepResume { unitFrame 1 6 1 5 0 0 [] with cls := 8 }, .consortData { unitFrame 1 6 1 5 0 0 [] with cls := 8 },
    .consortDone { unitFrame 1 6 1 5 0 0 [] with cls := 8 }, .consortAck { unitFrame 1 6 1 5 0 0 [] with cls := 8 },
    .consortPull { unitFrame 1 6 1 5 0 0 [] with cls := 8 }, .consortLoad { unitFrame 1 6 1 5 0 0 [] with cls := 8 },
    .moduleFence { hdr with ver := 16 }]

/-- Ill-formed commands, part 7. -/
def illFormed7 : List Instr :=
  [.release { hdr with ver := 16 }, .fenceReqDev { hdr with ver := 16 } 0, .fenceReqDev hdr (2 ^ 16),
    .fixArm { hdr with ver := 16 }, .abandon { hdr with ver := 16 }, .fixEncode 2,
    .fixStripe { unitFrame 1 6 1 5 0 0 [] with cls := 8 }, .fixCount { unitFrame 1 6 1 5 0 0 [] with cls := 8 },
    .fixPrepared { unitFrame 1 6 1 5 0 0 [] with cls := 8 }, .fixCommit { unitFrame 1 6 1 5 0 0 [] with cls := 8 },
    .fixDiscard { unitFrame 1 6 1 5 0 0 [] with cls := 8 }, .fixDrainedSlots { hdr with ver := 16 } 0,
    .fixDrainedSlots hdr (2 ^ 32), .fixApply { hdr with ver := 16 }, .rebuild { hdr with ver := 16 },
    .resolveCommit { hdr with ver := 16 }, .resolveDiscard { hdr with ver := 16 },
    .fixPull { unitFrame 1 6 1 5 0 0 [] with cls := 8 }, .fixChunk { unitFrame 1 6 1 5 0 0 [] with cls := 8 },
    .rsvSwap { hdr with ver := 16 } 0 0, .rsvSwap hdr (2 ^ 7) 0, .rsvSwap hdr 0 (2 ^ 7),
    .rsvSwapCancel { hdr with ver := 16 } 0, .rsvSwapCancel hdr (2 ^ 7)]

/-- Ill-formed commands, part 8. -/
def illFormed8 : List Instr :=
  [.reserveReady 47 false, .reserveIdleTimeout 47, .laneSwapRequest 16 0, .laneSwapRequest 0 4, .phaseShed (.die 2),
    .sensorLost 28 0, .sensorLost 0 2, .sparePressure { hdr with ver := 16 } 0, .sparePressure hdr (2 ^ 32),
    .retiredMap { hdr with ver := 16 } 0, .retiredMap hdr (2 ^ 128), .inputSample (2 ^ 32) 0, .inputSample 0 (2 ^ 32),
    .pdOn { hdr with ver := 16 } 0, .pdOn hdr (2 ^ 7), .pdOff ⟨{ hdr with role := 4 }, false⟩ 0, .pdOff ⟨hdr, false⟩ (2 ^ 7),
    .pdSelfRefresh { hdr with ver := 16 } 0, .pdSelfRefresh hdr (2 ^ 7), .domainPowerGood ⟨80, []⟩, .domainWakeFail 80, .pllLock 2,
    .throttleStepUp 2, .clkCap { hdr with ver := 16 } 0 0]

/-- Ill-formed commands, part 9. -/
def illFormed9 : List Instr :=
  [.clkCap hdr 2 0, .clkCap hdr 0 (2 ^ 8), .restart { hdr with ver := 16 }, .hcWatchdog 2,
    .neighborSolicitation (.seg .a) (2 ^ 128), .readExp { message 0 0 0 [] with typ := 16 },
    .objectWrite ⟨{ message 0 0 0 [] with typ := 16 }, false, none, false⟩, .readSeg { message 0 0 0 [] with typ := 16 },
    .writeSeg { message 0 0 0 [] with typ := 16 }, .segment { message 0 0 0 [] with typ := 16 },
    .response { message 0 0 0 [] with typ := 16 }, .segmentResend 4, .transferTimeout 4,
    .hdpAbort { message 0 0 0 [] with typ := 16 }, .subscribe { message 0 0 0 [] with typ := 16 },
    .unsubscribe { message 0 0 0 [] with typ := 16 }, .notify 64, .leaseExpiry 64, .keyWrite { hdr with ver := 16 } 0 [],
    .keyWrite hdr 4 [], .arithFlagsClear { hdr with ver := 16 } 0 ⟨0, 0⟩, .arithFlagsClear hdr 104 ⟨0, 0⟩,
    .arithFlagsClear hdr 0 ⟨2 ^ 64, 0⟩, .chkStatusClear { hdr with ver := 16 } 0 ⟨0, 0⟩]

/-- Ill-formed commands, part 10. -/
def illFormed10 : List Instr :=
  [.chkStatusClear hdr 104 ⟨0, 0⟩, .chkStatusClear hdr 0 ⟨2 ^ 64, 0⟩, .stackHealthClear { hdr with ver := 16 } 0 ⟨0, 0⟩,
    .stackHealthClear hdr 12 ⟨0, 0⟩, .stackHealthClear hdr 0 ⟨2 ^ 64, 0⟩, .actStatusClear { hdr with ver := 16 } 0 ⟨0, 0⟩,
    .actStatusClear hdr 8 ⟨0, 0⟩, .actStatusClear hdr 0 ⟨2 ^ 64, 0⟩, .stepStatusClear { hdr with ver := 16 } ⟨0, 0⟩,
    .stepStatusClear hdr ⟨2 ^ 64, 0⟩, .healthClear { hdr with ver := 16 } ⟨0, 0⟩, .healthClear hdr ⟨2 ^ 64, 0⟩,
    .pwrStatusClear { hdr with ver := 16 } ⟨0, 0⟩, .pwrStatusClear hdr ⟨2 ^ 64, 0⟩,
    .mgmtStatusClear { hdr with ver := 16 } ⟨0, 0⟩, .mgmtStatusClear hdr ⟨2 ^ 64, 0⟩,
    .alertSummaryClear { hdr with ver := 16 } ⟨0, 0⟩, .alertSummaryClear hdr ⟨2 ^ 64, 0⟩,
    .portHealthClear { hdr with ver := 16 } 0 ⟨0, 0⟩, .portHealthClear hdr 16 ⟨0, 0⟩, .portHealthClear hdr 0 ⟨2 ^ 64, 0⟩,
    .assign { hdr with ver := 16 } 0, .assign hdr 8, .sliceRelease { hdr with ver := 16 } 0]

/-- Ill-formed commands, part 11. -/
def illFormed11 : List Instr :=
  [.sliceRelease hdr 8, .dictDefaults { hdr with ver := 16 }, .dictDefaultsCancel { hdr with ver := 16 },
    .rdmaWrite { request 0 0 0 [] with conn := 240 }, .rdmaRead { request 0 0 0 [] with conn := 240 } [],
    .rdmaRead (request 0 0 0 []) [⟨2 ^ 40, none⟩], .atomicFetchAdd { request 0 0 0 [] with conn := 240 }, .cnp 240,
    .cnpRateRestore 240, .qpOpen { hdr with ver := 16 } 0, .qpOpen hdr 240, .qpClose { hdr with ver := 16 } 0,
    .qpClose hdr 240, .fwBegin { hdr with ver := 16 }, .fwChunk { hdr with ver := 16 } [], .verify { hdr with ver := 16 },
    .fwCommit { hdr with ver := 16 }, .activate { hdr with ver := 16 }, .cancel { hdr with ver := 16 },
    .cfgBegin { hdr with ver := 16 }, .cfgChunk { hdr with ver := 16 } [], .cfgApply { hdr with ver := 16 },
    .attGenerate { hdr with ver := 16 }, .bistRun { hdr with ver := 16 }]

/-- Ill-formed commands, part 12. -/
def illFormed12 : List Instr :=
  [.hostPortCtrl { hdr with ver := 16 } 0 0, .hostPortCtrl hdr 4 0, .hostPortCtrl hdr 0 (2 ^ 8), .hostLinkUp 4, .hostLinkDown 4,
    .refresh ⟨0, [⟨4, 0, false⟩], 0⟩ false, .refreshManagement ⟨0, [⟨0, 2 ^ 32, false⟩], 0⟩, .stackTempRead [],
    .driftEvaluation [(104, 0)] 0, .bistDone [104], .linkControlBlockReceived 0 0 [(8, 0)], .neighborSolicitation (.host 4) 0,
    .chartLoad hdr (.entries (2 ^ 16) []), .chartLoad hdr (.entries 0 [2 ^ 64]), .arithFlagsClear hdr 0 ⟨0, 2 ^ 64⟩,
    .frameRoute (some { onPort 0 with port := 16 }) (unitFrame 1 6 1 5 0 0 []), .scrubRead 0 [⟨0, some 68⟩],
    .scrubRead 0 [⟨0x6000000000 + 196608, none⟩], .restart { hdr with role := 4 }, .restart { hdr with reqId := 2 ^ 16 },
    .restart { hdr with counter := 2 ^ 64 }, .restart { hdr with dev := 2 ^ 16 }, .restart { hdr with tag := 2 ^ 256 },
    .restart { hdr with src := 2 ^ 64 }]

/-- Ill-formed commands, part 13. -/
def illFormed13 : List Instr :=
  [.restart { hdr with port := 2 ^ 16 }, .restart { hdr with held := 2 ^ 16 }, .segment { message 4 0 0 [] with typ := 16 },
    .segment { message 4 0 0 [] with index := 2 ^ 16 }, .segment { message 4 0 0 [] with sub := 2 ^ 8 },
    .segment { message 4 0 0 [] with len := 2 ^ 16 }, .segment { message 4 0 0 [] with code := 2 ^ 16 },
    .segment { message 4 0 0 [] with segno := 2 ^ 32 }, .write { unitFrame 1 6 1 5 0 0 [] with opcode := 2 ^ 8 },
    .write { unitFrame 1 6 1 5 0 0 [] with epoch := 2 }, .write { unitFrame 1 6 1 5 0 0 [] with dstDev := 2 ^ 14 },
    .write { unitFrame 1 6 1 5 0 0 [] with dstCore := 2 ^ 7 }, .write { unitFrame 1 6 1 5 0 0 [] with slice := 2 ^ 12 },
    .write { unitFrame 1 6 1 5 0 0 [] with fanId := 2 ^ 12 }, .write { unitFrame 1 6 1 5 0 0 [] with srcDev := 2 ^ 14 },
    .write { unitFrame 1 6 1 5 0 0 [] with srcCore := 2 ^ 7 }, .write { unitFrame 1 6 1 5 0 0 [] with len := 2 ^ 13 },
    .write { unitFrame 1 6 1 5 0 0 [] with hops := 16 }, .write { unitFrame 1 6 1 5 0 0 [] with code := 2 ^ 16 },
    .write { unitFrame 1 6 1 5 0 0 [] with seq := 2 ^ 32 }, .write { unitFrame 1 6 1 5 0 0 [] with aux := 2 ^ 32 },
    .write { unitFrame 1 6 1 5 0 0 [] with addr := 2 ^ 40 }, .write { unitFrame 1 6 1 5 0 0 [] with hcrc := 2 ^ 16 },
    .write { unitFrame 1 6 1 5 0 0 [] with pcrc := 2 ^ 32 }]

/-- Ill-formed commands, part 14. -/
def illFormed14 : List Instr :=
  [.rdmaWrite { request 0 0 0 [] with rkey := 2 ^ 32 }, .rdmaWrite { request 0 0 0 [] with va := 2 ^ 64 },
    .rdmaWrite { request 0 0 0 [] with len := 2 ^ 32 }, .rdmaWrite { request 0 0 0 [] with addend := 2 ^ 64 },
    .rdmaWrite { request 0 0 0 [] with opcode := 2 ^ 8 }, .rdmaWrite { request 0 0 0 [] with psn := 2 ^ 24 },
    .rdmaWrite { request 0 0 0 [] with corrected := 2 ^ 64 }, .rdmaWrite { request 0 0 0 [] with uncorrected := 2 ^ 64 },
    .sxtDone [{ lane0 with channel := 16 }], .sxtDone [{ lane0 with lane := 68 }],
    .powerOn { smooth with failedDomains := [80] }, .powerOn { smooth with failedCores := [104] },
    .powerOn { smooth with fabricUp := [(16, 0)] }, .powerOn { smooth with fabricUp := [(0, 2 ^ 16)] },
    .powerOn { smooth with hostUp := [4] }, .powerOn { smooth with fastStacks := [12] },
    .powerOn { smooth with weakLanes := [{ lane0 with stack := 12 }] }, .restart { hdr with hops := 2 ^ 8 },
    .rdmaWrite { request 0 0 0 [] with vlan := some (2 ^ 15) }, .rdmaWrite { request 0 0 0 [] with frame := 2 ^ 16 },
    .objectWrite ⟨message 1 0 0 [], false, some { message 1 0 0 [] with typ := 16 }, false⟩, .ackTimer { flowKey with dev := 2 ^ 14 },
    .ackTimer { flowKey with fan := some (2 ^ 12) }, .ackTimer { flowKey with cls := 8 }, .retrainDone 0 ⟨true, [], 2 ^ 16⟩]

theorem test_ill_formed : illFormed1.all (fun c => !c.wf) = true ∧
    illFormed2.all (fun c => !c.wf) = true ∧
    illFormed3.all (fun c => !c.wf) = true ∧
    illFormed4.all (fun c => !c.wf) = true ∧
    illFormed5.all (fun c => !c.wf) = true ∧
    illFormed6.all (fun c => !c.wf) = true ∧
    illFormed7.all (fun c => !c.wf) = true ∧
    illFormed8.all (fun c => !c.wf) = true ∧
    illFormed9.all (fun c => !c.wf) = true ∧
    illFormed10.all (fun c => !c.wf) = true ∧
    illFormed11.all (fun c => !c.wf) = true ∧
    illFormed12.all (fun c => !c.wf) = true ∧
    illFormed13.all (fun c => !c.wf) = true ∧
    illFormed14.all (fun c => !c.wf) = true := by decide +kernel

/-! ### Results of the manual's own examples -/

/-- No word spells a command: the table gives no row bits. -/
theorem test_decode_none : decodeTableWord 32 0 = none := rfl

/-- Table of the example "one row into E4M3", RND = 0 and 1 with CLIP_SAT = 1, and column 0 under RND = 2 with u = 0x9A3C. -/
theorem test_e4m3_row :
    [FVal.fin false 63 1, .fin true 117 64, .fin false 1 2, .fin false 3 1024, .fin false 1001 2].map
      (fun t => ((Fmt.e4m3.convert .rne true true t).1, (Fmt.e4m3.convert .rtz true true t).1)) =
      [(0x68, 0x67), (0xBF, 0xBE), (0x30, 0x30), (0x02, 0x01), (0x7E, 0x7E)] ∧
    (Fmt.e4m3.convert .rne false true (.fin false 1001 2)).1 = 0x7F ∧ (Fmt.e4m3.convert (rndOf 2 0x9A3C) true true (.fin false 63 1)).1 = 0x68 := by
  decide +kernel

/-- The example "eight outputs into FP4". -/
theorem test_e2m1_word :
    let ts := [FVal.fin false 5 2, .fin false 9 2, .fin false 11 2, .fin false 7 1, .fin true 3 16, .fin false 3 4, .nan, .fin true 10 1]
    leNat (Fmt.e2m1.pack (ts.map (fun t => (Fmt.e2m1.convert .rne true true t).1)) []) = 0xF0287764 ∧
      ts.map (fun t => (Fmt.e2m1.convert .rtz true true t).1) = [4, 6, 6, 7, 8, 1, 0, 0xF] := by decide +kernel

/-- The example "decoding 0x12_3456_7890" (R210). -/
theorem test_hbm_decode : decodeHbm 0x1234567890 = ⟨0, 20, 3, 0x308B, 656⟩ := by decide +kernel

/-- The example "encoding eight words" (R201). -/
theorem test_delta_eight : encodeDelta [11, 0, 0, 0, 0, 12, 0, 13] 64 =
    leBytes 8 0x300000030 ++ [0x01, 0x80] ++ leBytes 8 11 ++ [0x04, 0x00, 0x03, 0x80] ++ leBytes 8 12 ++ leBytes 8 0 ++ leBytes 8 13 ++ [0, 0] ∧
    encodeDelta [11, 0, 0, 0, 0, 12, 0, 13] 47 = leBytes 8 (8 + 3 * 2 ^ 32 + 2 ^ 63) := by decide +kernel

/-- The example "one first moment": 0.0031, here as a ratio, gives S1 = 110 and the byte 0x7D. -/
theorem test_first_moment : momentScale [.fin false 31 10000] = 110 ∧ momentCode (.fin false 31 10000) 110 = 0x7D := by decide +kernel

/-- SHAKE256 of the empty message, first 8 bytes (FIPS 202). -/
theorem test_shake256_empty : shakeBytes 8 [] = [0x46, 0xb9, 0xdd, 0x2b, 0x0b, 0xa8, 0x8d, 0x13] := by decide +kernel

/-- The example "launching a layer from the host": the entry of Waypoint 0x400 (19), and the slot address of slot 37 (21). -/
theorem test_addresses : wordTarget (flagWrite 0x400 1 1) 1 = true ∧ (flagWrite 0x400 0 1).va = 0xE000008000 ∧
    (module [(Obj.SLOT, 37)]).slotAddress = 0xFE8000000000000000E9000000000025 := by decide +kernel

end Sys2Proof.Tests
end

section
/-! PROOFS (00_scope.md). Requests that one of the checks before the object's own refuses (R424), and the ranks of the roles (R10). -/

namespace Sys2Proof.Machine

/-! ### What a refusal leaves of the unit's transfers -/

@[simp] theorem State.logEvent_hmu (s : State) (ev : Ev) (code source slice data : Nat) :
    (s.logEvent ev code source slice data).hmu = s.hmu := by
  unfold State.logEvent
  dsimp only
  split <;> rfl

@[simp] theorem State.logViolation_hmu (s : State) (code source slice args : Nat) :
    (s.logViolation code source slice args).hmu = s.hmu := by
  unfold State.logViolation
  dsimp only
  split <;> rfl

@[simp] theorem State.noteCode_hmu (s : State) (q : HdpReq) (code : Nat) : (s.noteCode q code).hmu = s.hmu := by
  unfold State.noteCode
  dsimp only
  split_ifs <;> simp [State.count, State.mgmtStatus, State.raiseCounted, State.raise]

@[simp] theorem State.setRoleKey_transfers (s : State) (role : Nat) (k : RoleKey) :
    (s.setRoleKey role k).hmu.transfers = s.hmu.transfers := by
  unfold State.setRoleKey
  split <;> rfl

@[simp] theorem State.answer_transfers (s : State) (m : HdpReq) (dup : Bool) : (s.answer m dup).hmu.transfers = s.hmu.transfers := by
  unfold State.answer State.queueHdp
  dsimp only
  split <;> rfl

@[simp] theorem State.cache_transfers (s : State) (q : HdpReq) (r : Option HdpReq) : (s.cache q r).hmu.transfers = s.hmu.transfers := by
  unfold State.cache
  dsimp only
  repeat' split
  all_goals simp

@[simp] theorem State.declined_transfers (u : State) (q : HdpReq) (code : Nat) : (u.declined q code).hmu.transfers = u.hmu.transfers := by
  simp [State.declined]

theorem State.readOpened_congr {s t : State} (h : t.hmu.transfers = s.hmu.transfers) (q : HdpReq) : t.readOpened q = s.readOpened q := by
  simp only [State.readOpened, State.transfer, h]

/-- A refusal opens no read. -/
@[simp] theorem State.declined_readOpened (u : State) (q r : HdpReq) (code : Nat) : (u.declined r code).readOpened q = u.readOpened q :=
  State.readOpened_congr (u.declined_transfers r code) q

/-! ### A request that a check before the object's own refuses (R424) -/

theorem finish_refused (u : State) (q : HdpReq) {code : Nat} (hc : code ≠ 0) (counts : Bool) :
    (u.refuse code).finish q counts = u.declined q code := by
  simp [Served.finish, State.refuse, State.declined, hc]

theorem hdpReceive_refused {s : State} {q : HdpReq} {code : Nat} {work : State → Served} (g : s.Hears q) (hc : code ≠ 0) (counts : Bool)
    (hw : work (s.heard q) = (s.heard q).refuse code) : s.hdpReceive q counts work = (s.heard q).declined q code := by
  rw [hdpReceive_heard g, hw, finish_refused _ _ hc]

section
variable {u : State} {q : HdpReq} {code : Nat}

theorem readExpWork_refused (h : u.objectCode (reqKey q) (u.roleOf q) false (some false) = code) (hc : code ≠ 0) :
    readExpWork q u = u.refuse code := by
  simp [readExpWork, h, hc]

theorem writeExpWith_refused (h : u.objectCode (reqKey q) (u.roleOf q) true (some false) = code) (hc : code ≠ 0) (coincides : Bool) :
    writeExpWith q coincides u = u.refuse code := by
  simp [writeExpWith, writeExpWork, State.refuse, h, hc]

theorem readSegWork_refused (h : u.objectCode (reqKey q) (u.roleOf q) false (some true) = code) (hc : code ≠ 0) :
    readSegWork q u = u.refuse code := by
  simp [readSegWork, h, hc]

theorem writeSegWork_refused (h : u.objectCode (reqKey q) (u.roleOf q) true (some true) = code) (hc : code ≠ 0) :
    writeSegWork q u = u.refuse code := by
  simp [writeSegWork, h, hc]

theorem subscribeWork_refused (h : u.objectCode (reqKey q) (u.roleOf q) false none = code) (hc : code ≠ 0) :
    subscribeWork q u = u.refuse code := by
  simp [subscribeWork, h, hc]

theorem unsubscribeWork_refused (h : u.objectCode (reqKey q) (u.roleOf q) false none = code) (hc : code ≠ 0) :
    unsubscribeWork q u = u.refuse code := by
  simp [unsubscribeWork, h, hc]

end

/-- A request of one object that a check before the object's own refuses is declined with that check's code, whichever command brings it:
the state that answers is the one that heard it. -/
theorem State.Asks.exec_refused {s : State} {q : HdpReq} {c : Instr} {code : Nat} (a : s.Asks c q) (hc : code ≠ 0)
    (h : (s.heard q).objectCode (reqKey q) q.hdr.role (q.typ == 1 || q.typ == 3) (askKind q) = code) :
    exec c s = .next ((s.heard q).declined q code).after := by
  have g := a.toHears
  rw [← roleOf_heard (q := q) g.firmware] at h
  rcases a.brings with ⟨t, rfl⟩ | ⟨t, r, rfl⟩ | ⟨t, rfl⟩ | ⟨t, rfl⟩ | ⟨t, rfl⟩ | ⟨t, rfl⟩ <;> simp only [t, askKind] at h
  · show settled (doReadExp q s) = _
    rw [doReadExp, if_pos (.inl t), hdpReceive_refused g hc true (readExpWork_refused h hc)]
    rfl
  case inr.inl =>
    show settled (.next (s.receiveWrite q r)) = _
    rw [State.receiveWrite, if_pos t, hdpReceive_refused g hc true (writeExpWith_refused h hc r)]
    rfl
  case inr.inr.inl =>
    show settled (doReadSeg q s) = _
    rw [doReadSeg, if_neg (not_not_intro t), hdpReceive_refused g hc true (readSegWork_refused h hc)]
    simp only [State.declined_readOpened, a.first]
    rfl
  case inr.inr.inr.inl =>
    show settled (doWriteSeg q s) = _
    rw [doWriteSeg, if_pos t, hdpReceive_refused g hc true (writeSegWork_refused h hc)]
    rfl
  case inr.inr.inr.inr.inl =>
    show settled (doSubscribe q s) = _
    rw [doSubscribe, if_pos t, hdpReceive_refused g hc true (subscribeWork_refused h hc)]
    rfl
  case inr.inr.inr.inr.inr =>
    show settled (doUnsubscribe q s) = _
    rw [doUnsubscribe, if_pos t, hdpReceive_refused g hc true (unsubscribeWork_refused h hc)]
    rfl

/-! ### Roles (R10) -/

theorem kind_misfits_iff (kind : Option Bool) (seg : Bool) :
    (kind.isSome = true ∧ kind ≠ some seg) ↔ ¬ ∀ b, kind = some b → seg = b := by
  cases kind <;> simp [eq_comm]

theorem State.objectCode_eq_zero_iff (s : State) (key role : Nat) (write : Bool) (kind : Option Bool) :
    s.objectCode key role write kind = 0 ↔
      objExists key = true ∧ (∀ b, kind = some b → (objRow key).ty.segmented = b) ∧ s.roleGood key role = true ∧
        (write = true → writable key = true) ∧ s.ownerCode key = 0 := by
  simp only [State.objectCode, kind_misfits_iff]
  split_ifs <;> simp_all

theorem State.roleGood_mono {s : State} {key r r' : Nat} (h : r ≤ r') (g : s.roleGood key r = true) : s.roleGood key r' = true := by
  simp only [State.roleGood, Bool.or_eq_true, decide_eq_true_eq] at g ⊢
  exact g.imp_right (le_trans · h)

theorem State.objectCode_mono_role {s : State} {key r r' : Nat} {write : Bool} {kind : Option Bool} (h : r ≤ r')
    (g : s.objectCode key r write kind = 0) : s.objectCode key r' write kind = 0 := by
  rw [State.objectCode_eq_zero_iff] at g ⊢
  obtain ⟨ex, fits, role, access, owner⟩ := g
  exact ⟨ex, fits, State.roleGood_mono h role, access, owner⟩

theorem State.roleGood_of_below {s : State} {key role : Nat} (plain : recordObject key = false) (below : role < (objRow key).role.rank) :
    s.roleGood key role = false := by
  simp [State.roleGood, plain, below]

/-- An object that exists and takes such a message refuses a role that does not suffice, before its access and its owner are looked at. -/
theorem State.objectCode_of_role {s : State} {key role : Nat} {kind : Option Bool} (write : Bool) (ex : objExists key = true)
    (fits : ∀ b, kind = some b → (objRow key).ty.segmented = b) (bad : s.roleGood key role = false) :
    s.objectCode key role write kind = 0x0808 := by
  rw [State.objectCode, if_neg (by simp [ex]), if_neg (mt (kind_misfits_iff ..).mp (not_not_intro fits)), if_pos (by simp [bad])]

/-- Settles O42: the role stands before access and owner in R424's order of checks, and is all that a higher role can change. -/
theorem rolesBelowTheMinimumAreRefused : Obligations.RolesBelowTheMinimumAreRefused := by
  unfold Obligations.RolesBelowTheMinimumAreRefused
  refine ⟨?ranks, ?rights, ?refusal⟩
  case ranks => decide
  case rights => exact fun _ _ _ _ _ _ h g => State.objectCode_mono_role h g
  case refusal =>
    intro s q c a ex plain fits below
    exact a.exec_refused (by decide) (State.objectCode_of_role _ ex fits (State.roleGood_of_below plain below))

end Sys2Proof.Machine
end

section
/-! PROOFS (02_number_formats.md). The arithmetic flag objects of a core (Table 2-11), and a sleeping Reserve's refusal of them (R57). -/

namespace Sys2Proof.Machine

/-! ### Objects that only their owner's state refuses (R424 item 7) -/

/-- An object with a row of its own in the dictionary. -/
theorem objExists_of_dictRow {key : Nat} {r : ObjRow} (own : key % 256 ≠ 0) (row : dictRow key = some r) : objExists key = true := by
  rw [objExists, if_neg own, row]
  rfl

theorem objRow_of_dictRow {key : Nat} {r : ObjRow} (own : key % 256 ≠ 0) (row : dictRow key = some r) : objRow key = r := by
  rw [objRow, if_neg own, row]
  rfl

theorem State.objectCode_eq_ownerCode {s : State} {key role : Nat} {write : Bool} {kind : Option Bool} (ex : objExists key = true)
    (fits : ∀ b, kind = some b → (objRow key).ty.segmented = b) (good : s.roleGood key role = true)
    (access : write = true → writable key = true) : s.objectCode key role write kind = s.ownerCode key := by
  rw [State.objectCode, if_neg (by simp [ex]), if_neg (mt (kind_misfits_iff ..).mp (not_not_intro fits)), if_neg (by simp [good]),
    if_neg (by simpa using access)]

theorem State.roleGood_of_rank_le {s : State} {key role : Nat} (h : (objRow key).role.rank ≤ role) : s.roleGood key role = true := by
  simp [State.roleGood, h]

theorem State.ownerCode_of_sleeping {s : State} {key core : Nat} (owner : coreOfIndex (key / 256) = some core) (own : key % 256 ≠ 0)
    (asleep : s.sleeping core = true) : s.ownerCode key = 0x0805 := by
  simp [State.ownerCode, owner, own, asleep]

/-- Hearing a message wakes no Reserve. -/
@[simp] theorem State.heard_sleeping (s : State) (q : HdpReq) (core : Nat) : (s.heard q).sleeping core = s.sleeping core := by
  simp [State.sleeping, State.coreSt]

theorem isReserve_lt {core : Nat} (h : isReserve core = true) : core < 104 := by
  simp only [isReserve, Bool.or_eq_true, Bool.and_eq_true, decide_eq_true_eq] at h
  omega

/-! ### The flag objects (Table 2-11) -/

/-- The row of Table 2-11 with sub-index `sub`: the flag word (1), or an event counter (2 to 4). -/
def flagRow (sub : Nat) : ObjRow :=
  if sub = 1 then ⟨0x8400, 104, 1, 1, .u32, .w1c, .job, 8, 4⟩ else ⟨0x8400, 104, sub, 1, .u32, .ro, .observer, 0, 4⟩

theorem flagRow_segmented (sub : Nat) : (flagRow sub).ty.segmented = false := by
  unfold flagRow
  split <;> rfl

section
variable {s : State} {key core sub : Nat} (hcore : core < 104) (lo : 1 ≤ sub) (hi : sub ≤ 4) (hkey : key = 0x840000 + 0x100 * core + sub)
include hcore lo hi hkey

theorem coreOfIndex_flag : coreOfIndex (key / 256) = some core := by
  rw [coreOfIndex, if_pos (by omega)]
  congr 1
  omega

theorem dictRow_flag : dictRow key = some (flagRow sub) := by
  have own : key % 256 = sub := by omega
  have row : dictRows.find? (ObjRow.meets 0x8400 0x8468 sub (sub + 1)) = some (flagRow sub) := by
    interval_cases sub <;> decide
  have place : (flagRow sub).base = 0x8400 ∧ (flagRow sub).n = 104 ∧ (flagRow sub).sub = sub ∧ (flagRow sub).subs = 1 := by
    unfold flagRow
    split <;> simp_all
  obtain ⟨base, n, first, subs⟩ := place
  exact find_row dictRows row (by omega) (by omega) (by omega) (by omega) (by omega) (by omega) (by omega) (by omega)

/-- A read of a flag object, or a write of the flag word, gets past every check of R424 but the last: its owner sleeps. -/
theorem State.objectCode_flag_of_sleeping {role : Nat} {write : Bool} (asleep : s.sleeping core = true)
    (good : (objRow key).role.rank ≤ role) (clears : write = true → sub = 1) : s.objectCode key role write (some false) = 0x0805 := by
  have own : key % 256 ≠ 0 := by omega
  have row := dictRow_flag hcore lo hi hkey
  have obj := objRow_of_dictRow own row
  have access : write = true → writable key = true := by
    intro w
    obtain rfl := clears w
    have plain : key ≠ Obj.KEY_SERVICE := by simp only [Obj.KEY_SERVICE]; omega
    simp [writable, obj, flagRow, plain]
  rw [State.objectCode_eq_ownerCode (objExists_of_dictRow own row) (by simp [obj, flagRow_segmented]) (State.roleGood_of_rank_le good) access]
  exact State.ownerCode_of_sleeping (coreOfIndex_flag hcore lo hi hkey) own asleep

end

/-- Settles O44: such a request fails only at its owner's check, and hearing it changes neither the core nor its Reserve. -/
theorem sleepingReservesRefuseTheirFlags : Obligations.SleepingReservesRefuseTheirFlags := by
  unfold Obligations.SleepingReservesRefuseTheirFlags
  intro s core sub q c reserve asleep lo hi a key role
  have refused (write : Bool) (clears : write = true → sub = 1) :
      (s.heard q).objectCode (reqKey q) q.hdr.role write (some false) = 0x0805 :=
    State.objectCode_flag_of_sleeping (isReserve_lt reserve) lo hi key (by simp [asleep]) role clears
  refine ⟨fun read => ?_, fun write word => ?_⟩
  · exact a.exec_refused (by decide) (by simpa [read, askKind] using refused false (by simp))
  · exact a.exec_refused (by decide) (by simpa [write, askKind] using refused true (fun _ => word))

end Sys2Proof.Machine
end

section
/-! PROOFS (05_core_bundles.md). Slots that take effect (R128): what a slot leaves when its predicate or its OP makes it a NOP, and the
issue of a bundle that nothing holds. -/

namespace Sys2Proof.Machine

/-! ### Predicates (R128) -/

@[simp] theorem Core.pred_zero (c : Core) : c.pred 0 = true := rfl

theorem Core.takes_eq (c : Core) (w : Nat) : c.takes w = xor (c.pred (w % 8)) (w.testBit 3) := rfl

/-- The word that a bundle's effective slots hold in the place of `w`: 0, a NOP, where the slot takes no effect. -/
def Core.kept (c : Core) (w : Nat) : Nat := if c.takes w then w else 0

theorem Slots.effective_eq (b : Slots) (c : Core) : b.effective c =
    ⟨c.kept b.scalar, c.kept b.load, c.kept b.store, c.kept b.matrix, c.kept b.vector, c.kept b.sync⟩ := rfl

/-- A function of a slot that treats one without effect as a NOP answers the same for the kept word as for the word. -/
theorem Core.apply_kept {α : Sort*} (f : Nat → α) (c : Core) (w : Nat) (idle : c.takes w = false → f 0 = f w) : f (c.kept w) = f w := by
  unfold Core.kept
  cases h : c.takes w with
  | true => rfl
  | false => exact idle h

/-! ### What a slot without effect leaves -/

section
variable {s : State} {c : Core} {w : Nat}

theorem State.issueLoad_of_idle (core tag : Nat) (h : c.takes w = false ∨ slotOp w = 0) : s.issueLoad core c w tag = s := by
  rcases h with h | h <;> simp [State.issueLoad, h]

theorem State.issueStore_of_idle (core tag : Nat) (h : c.takes w = false ∨ slotOp w = 0) : s.issueStore core c w tag = s := by
  rcases h with h | h <;> simp [State.issueStore, h]

theorem State.issueMatrix_of_idle (core tag : Nat) (h : c.takes w = false ∨ slotOp w = 0) : s.issueMatrix core c w tag = s := by
  rcases h with h | h <;> simp [State.issueMatrix, h]

theorem State.issueVector_of_idle (core tag : Nat) (h : c.takes w = false ∨ vectorOp w = 0) : s.issueVector core c w tag = s := by
  rcases h with h | h <;> simp [State.issueVector, h]

theorem State.issueSync_of_idle (core tag : Nat) (h : c.takes w = false ∨ slotOp w = 0) : s.issueSync core c w tag = s := by
  rcases h with h | h <;> simp [State.issueSync, releases, h]

theorem State.tookSync_of_idle {core : Nat} (h : (s.core core).takes w = false ∨ slotOp w = 0) : s.tookSync core w = s := by
  rcases h with h | h <;> simp [State.tookSync, h]

/-- The part that the scalar slot of a bundle has in its issue, after the other slots': what it writes, from the sources as `r` held them,
and where issue goes on. -/
def State.issueScalar (s r : State) (core : Nat) (c : Core) (w : Nat) : State :=
  let sc := if c.takes w then scalarResult c w (r.source core (scS1 w)) (r.source core (scS2 w)) else .none
  let count := if bit (scD w) 4 then bits (scImm w) 20 11 else r.source core (scS1 w) % 2 ^ 32
  let (c', next, skipped) := ((s.core core).applySc sc).flow w (c.takes w) count (seqOf c.pc)
  (if skipped then s.count 32 (Obj.ZERO_TRIP_LOOPS core) 1 else s).goTo core c' (addrOfSeq next)

/-- The issue of a bundle slot by slot: each slot takes the core `s.core core` as it stood before the bundle (R129). -/
theorem State.issueBundle_eq (s : State) (core : Nat) (b : Slots) : s.issueBundle core b =
    let c := s.core core
    let u := s.setCore core { c with hold := .none, issueNo := c.issueNo + 1, wdog := 0 }
    let u := ((u.issueLoad core c b.load c.issueNo).issueVector core c b.vector c.issueNo).issueStore core c b.store c.issueNo
    let u := (u.issueMatrix core c b.matrix c.issueNo).issueSync core c b.sync c.issueNo
    ((u.setCoreSt core .running).count 64 (Obj.BUNDLES_ISSUED core) 1).issueScalar s core c b.scalar := rfl

/-- Without a LOOP or a BR that takes effect, issue goes on in program sequence with its loops (R137). -/
theorem Core.flow_of_idle {takes : Bool} (count n : Nat) (h : takes = false ∨ slotOp w = 0) :
    c.flow w takes count n = ((c.wrap c.loops n).1, (c.wrap c.loops n).2, false) := by
  rcases h with h | h <;> simp [Core.flow, h]

theorem scalarResult_of_nop (x y : Nat) (h : slotOp w = 0) : scalarResult c w x y = .none := by
  simp [scalarResult, h]

/-- A scalar slot without effect writes nothing, and what it reads is not used. -/
theorem State.issueScalar_of_idle (r : State) (core : Nat) (h : c.takes w = false ∨ slotOp w = 0) :
    s.issueScalar r core c w =
      let next := (s.core core).wrap (s.core core).loops (seqOf c.pc)
      s.goTo core next.1 (addrOfSeq next.2) := by
  have nothing : (if c.takes w then scalarResult c w (r.source core (scS1 w)) (r.source core (scS2 w)) else .none) = .none := by
    rcases h with h | h
    · simp [h]
    · simp [scalarResult_of_nop _ _ h]
  simp only [State.issueScalar, nothing, Core.flow_of_idle _ _ h, Core.applySc, Bool.false_eq_true, if_false]

end

/-! ### A bundle with NOPs in the place of the slots without effect -/

section
variable (s : State) (core : Nat) (c : Core) (w tag : Nat)

theorem State.issueLoad_kept : s.issueLoad core c (c.kept w) tag = s.issueLoad core c w tag :=
  c.apply_kept (s.issueLoad core c · tag) w fun h => by
    rw [State.issueLoad_of_idle core tag (.inr rfl), State.issueLoad_of_idle core tag (.inl h)]

theorem State.issueStore_kept : s.issueStore core c (c.kept w) tag = s.issueStore core c w tag :=
  c.apply_kept (s.issueStore core c · tag) w fun h => by
    rw [State.issueStore_of_idle core tag (.inr rfl), State.issueStore_of_idle core tag (.inl h)]

theorem State.issueMatrix_kept : s.issueMatrix core c (c.kept w) tag = s.issueMatrix core c w tag :=
  c.apply_kept (s.issueMatrix core c · tag) w fun h => by
    rw [State.issueMatrix_of_idle core tag (.inr rfl), State.issueMatrix_of_idle core tag (.inl h)]

theorem State.issueVector_kept : s.issueVector core c (c.kept w) tag = s.issueVector core c w tag :=
  c.apply_kept (s.issueVector core c · tag) w fun h => by
    rw [State.issueVector_of_idle core tag (.inr rfl), State.issueVector_of_idle core tag (.inl h)]

theorem State.issueSync_kept : s.issueSync core c (c.kept w) tag = s.issueSync core c w tag :=
  c.apply_kept (s.issueSync core c · tag) w fun h => by
    rw [State.issueSync_of_idle core tag (.inr rfl), State.issueSync_of_idle core tag (.inl h)]

theorem State.tookSync_kept : s.tookSync core ((s.core core).kept w) = s.tookSync core w :=
  (s.core core).apply_kept (s.tookSync core) w fun h => by
    rw [State.tookSync_of_idle (.inr rfl), State.tookSync_of_idle (.inl h)]

theorem State.issueScalar_kept (r : State) : s.issueScalar r core c (c.kept w) = s.issueScalar r core c w :=
  c.apply_kept (s.issueScalar r core c) w fun h => by
    rw [State.issueScalar_of_idle r core (.inr rfl), State.issueScalar_of_idle r core (.inl h)]

theorem State.issueBundle_effective (b : Slots) : s.issueBundle core (b.effective (s.core core)) = s.issueBundle core b := by
  simp only [State.issueBundle_eq, Slots.effective_eq, State.issueLoad_kept, State.issueVector_kept, State.issueStore_kept,
    State.issueMatrix_kept, State.issueSync_kept, State.issueScalar_kept]

end

/-! ### A wait that is taken leaves the cores (R245, R331) -/

@[simp] theorem State.logEvent_core (s : State) (ev : Ev) (code source slice data core : Nat) :
    (s.logEvent ev code source slice data).core core = s.core core := by
  unfold State.logEvent
  dsimp only
  split <;> rfl

@[simp] theorem State.account_core (s : State) (k core : Nat) : (s.account k).core core = s.core core := by
  simp only [State.account]
  split_ifs <;> simp [State.raise, State.count]

@[simp] theorem State.accounts_core (s : State) (wp core : Nat) : (s.accounts wp).core core = s.core core :=
  List.foldlRecOn (motive := fun t => t.core core = s.core core) _ State.account rfl
    fun t same k _ => (State.account_core t k core).trans same

@[simp] theorem State.tookWait_core (s : State) (wp core : Nat) : (s.tookWait wp).core core = s.core core := by
  simp [State.tookWait, State.count]

@[simp] theorem State.tookSync_core (s : State) (n w core : Nat) : (s.tookSync n w).core core = s.core core := by
  unfold State.tookSync
  dsimp only
  split
  · exact State.tookWait_core ..
  · rfl

/-! ### The issue of a bundle that nothing holds (R154) -/

theorem State.mayIssue.tryBundle_eq {s : State} {core b : Nat} (m : s.mayIssue core b) :
    s.tryBundle core b = (s.tookSync core (Slots.of b).sync).issueBundle core (Slots.of b) := by
  simp only [State.tryBundle, m.legal, m.loop, m.registers, m.queues, m.releases, m.fence, m.addresses, m.waypoint, Bool.or_self,
    Bool.false_eq_true, if_false]

theorem State.Issues.doBundleIssue_eq {s : State} {core b : Nat} (i : s.Issues core b) :
    doBundleIssue core s = .next ((s.tookSync core (Slots.of b).sync).issueBundle core (Slots.of b)) := by
  obtain ⟨line, cached, here⟩ := Option.map_eq_some_iff.mp i.cached
  simp only [doBundleIssue, withCore, i.real, i.runs, i.program, i.layer, i.hold, cached, here, i.whole, i.tryBundle_eq, and_self,
    if_true, Bool.false_eq_true, if_false]

theorem State.Issues.exec_eq {s : State} {core b : Nat} (i : s.Issues core b) :
    exec (.bundleIssue core) s = .next ((s.tookSync core (Slots.of b).sync).issueBundle core (Slots.of b)).after := by
  show settled (doBundleIssue core s) = _
  rw [i.doBundleIssue_eq, settled_next]

/-- Settles O46: every slot does for a word without effect what it does for a NOP, and a WWAIT taken at issue leaves the predicates that
the other slots are judged by. -/
theorem predicatesGateEverySlot : Obligations.PredicatesGateEverySlot := by
  unfold Obligations.PredicatesGateEverySlot
  refine ⟨Core.takes_eq, Core.pred_zero, fun s core b i => ?_⟩
  have sync : s.tookSync core ((Slots.of b).effective (s.core core)).sync = s.tookSync core (Slots.of b).sync :=
    State.tookSync_kept ..
  have issue := State.issueBundle_effective (s.tookSync core (Slots.of b).sync) core (Slots.of b)
  rw [State.tookSync_core] at issue
  simp only [i.exec_eq, sync, issue]

end Sys2Proof.Machine
end

section
/-! PROOFS (09_waypoints_and_chronometer.md). Operations on a Waypoint that nothing watches (R239–R243). -/

namespace Sys2Proof.Machine

/-! ### What an operation leaves on its entry and counts (R241, R242, Table 9-7) -/

theorem State.obj_count_other (s : State) {w key n k : Nat} (h : k ≠ key) : (s.count w key n).obj k = s.obj k :=
  s.obj_setObj_other h

/-- The counters of the Waypoint unit that operations raise (Table 9-7). -/
def wpCounters : List Nat := [Obj.WP_OPS, Obj.WP_OVF_EVENTS, Obj.WP_ERR_EVENTS]

theorem State.countWp_eq (s : State) (k : WpKind) (w : Wp) : s.countWp k w = { s with dict := (s.countWp k w).dict } := by
  cases k with
  | add v =>
    simp only [State.countWp]
    split <;> rfl
  | _ => rfl

theorem State.obj_countWp_other (s : State) (k : WpKind) (w : Wp) {key : Nat} (h : key ∉ wpCounters) :
    (s.countWp k w).obj key = s.obj key := by
  obtain ⟨ops, ovf, err⟩ :
      key ≠ Obj.WP_OPS ∧ key ≠ Obj.WP_OVF_EVENTS ∧ key ≠ Obj.WP_ERR_EVENTS := by simpa [wpCounters] using h
  cases k with
  | add v =>
    simp only [State.countWp]
    split <;> simp only [State.obj_count_other _ ops, State.obj_count_other _ ovf]
  | error c => simp only [State.countWp, State.obj_count_other _ ops, State.obj_count_other _ err]
  | _ => exact State.obj_count_other _ ops

theorem State.applyWp_eq (s : State) (wp : Nat) (k : WpKind) :
    s.applyWp wp k = { s with wps := (s.applyWp wp k).wps, dict := (s.applyWp wp k).dict } := by
  unfold State.applyWp
  rw [State.countWp_eq]
  rfl

theorem State.wp_applyWp (s : State) (wp : Nat) (k : WpKind) (x : Nat) :
    (s.applyWp wp k).wp x = if x = wp then (s.wp wp).apply k s.chr else s.wp x := by
  rw [State.applyWp, State.wp_setWp, State.countWp_eq]
  rfl

@[simp] theorem State.wp_applyWp_self (s : State) (wp : Nat) (k : WpKind) : (s.applyWp wp k).wp wp = (s.wp wp).apply k s.chr := by
  simp [State.wp_applyWp]

theorem State.wp_applyWp_other (s : State) {wp x : Nat} (k : WpKind) (h : x ≠ wp) : (s.applyWp wp k).wp x = s.wp x := by
  simp [State.wp_applyWp, h]

@[simp] theorem State.obj_applyWp (s : State) (wp : Nat) (k : WpKind) (key : Nat) :
    (s.applyWp wp k).obj key = (s.countWp k (s.wp wp)).obj key := rfl

/-- Every operation is counted (Table 9-7). -/
theorem State.applyWp_ops (s : State) (wp : Nat) (k : WpKind) : (s.applyWp wp k).obj Obj.WP_OPS = satInc 64 (s.obj Obj.WP_OPS) 1 := by
  have counted : (s.count 64 Obj.WP_OPS 1).obj Obj.WP_OPS = satInc 64 (s.obj Obj.WP_OPS) 1 := State.obj_setObj_self ..
  rw [State.obj_applyWp]
  cases k with
  | add v =>
    simp only [State.countWp]
    split
    · rw [State.obj_count_other _ (by decide), counted]
    · exact counted
  | error c => rw [State.countWp, State.obj_count_other _ (by decide), counted]
  | _ => exact counted

@[simp] theorem Wp.at_value (w : Wp) (time : Nat) : (w.at time).value = w.value := by unfold Wp.at; split <;> rfl
@[simp] theorem Wp.at_mark (w : Wp) (time : Nat) : (w.at time).mark = w.mark := by unfold Wp.at; split <;> rfl
@[simp] theorem Wp.at_ovf (w : Wp) (time : Nat) : (w.at time).ovf = w.ovf := by unfold Wp.at; split <;> rfl
@[simp] theorem Wp.at_err (w : Wp) (time : Nat) : (w.at time).err = w.err := by unfold Wp.at; split <;> rfl
@[simp] theorem Wp.at_errCode (w : Wp) (time : Nat) : (w.at time).errCode = w.errCode := by unfold Wp.at; split <;> rfl
@[simp] theorem Wp.at_errCount (w : Wp) (time : Nat) : (w.at time).errCount = w.errCount := by unfold Wp.at; split <;> rfl

@[simp] theorem Wp.at_lastTime (w : Wp) (time : Nat) : (w.at time).lastTime = time := by
  unfold Wp.at
  split
  · assumption
  · rfl

/-! ### A Waypoint that nothing watches -/

/-- Operations change nothing of what makes a Waypoint watched. -/
theorem State.Unwatched.applyWp {s : State} {x : Nat} (h : s.Unwatched x) (wp : Nat) (k : WpKind) : (s.applyWp wp k).Unwatched x := by
  have obj {key : Nat} (other : key ∉ wpCounters) : (s.applyWp wp k).obj key = s.obj key := State.obj_countWp_other s k _ other
  have contexts : (s.applyWp wp k).goContexts x = s.goContexts x := by
    refine List.filter_congr fun n hn => ?_
    have idle : (s.applyWp wp k).ctxState n = s.ctxState n := by
      refine obj ?_
      have := List.mem_range.mp hn
      simp only [wpCounters, List.mem_cons, List.not_mem_nil, or_false, Obj.CTX_STATE, Obj.WP_OPS, Obj.WP_OVF_EVENTS, Obj.WP_ERR_EVENTS]
      omega
    rw [idle, State.applyWp_eq]
    rfl
  have slots {key : Nat → Nat} {slot : Nat} (lt : slot < 8) (area : ∀ n < 8, key n < Obj.WP_OPS) : key slot ∉ wpCounters := by
    have := area slot lt
    simp only [wpCounters, List.mem_cons, List.not_mem_nil, or_false, Obj.WP_OPS, Obj.WP_OVF_EVENTS, Obj.WP_ERR_EVENTS] at this ⊢
    omega
  refine ⟨?waiters, ?sealing, ?ending, ?ready, ?contexts, ?accounts⟩
  case waiters =>
    rw [State.applyWp_eq]
    exact h.waiters
  case sealing => rw [obj (by decide)]; exact h.sealing
  case ending => rw [obj (by decide)]; exact h.ending
  case ready => rw [obj (by decide)]; exact h.ready
  case contexts => rw [contexts]; exact h.contexts
  case accounts =>
    intro slot lt active
    rw [State.stageActive, obj (slots lt (by decide))] at active
    rw [obj (slots lt (by decide)), obj (slots lt (by decide))]
    exact h.accounts slot lt active

section
variable {s : State} {wp : Nat} (h : s.Unwatched wp)
include h

theorem State.Unwatched.testWaiters : s.testWaiters wp = s := by
  have unmet {v : Nat} : ∀ w ∈ s.waiters, ¬ (w.wp == wp && decide (w.threshold ≤ v)) = true := fun w m => by simp [h.waiters w m]
  have stay {v : Nat} : s.waiters.filter (fun w => !(w.wp == wp && decide (w.threshold ≤ v))) = s.waiters :=
    List.filter_eq_self.mpr fun w m => by simp [h.waiters w m]
  rw [State.testWaiters, List.filter_eq_nil_iff.mpr unmet, stay]
  rfl

theorem State.Unwatched.faultWaiters : s.faultWaiters wp = s := by
  have nobody : s.waiters.filter (fun w => w.wp == wp) = [] := List.filter_eq_nil_iff.mpr fun w m => by simp [h.waiters w m]
  rw [State.faultWaiters, nobody]
  rfl

theorem State.Unwatched.performWp (k : WpKind) : s.performWp wp k = s.applyWp wp k := by
  have kept := h.applyWp wp k
  cases k with
  | error c => exact kept.faultWaiters
  | _ => exact kept.testWaiters

theorem State.Unwatched.accounts_eq : s.accounts wp = s := by
  have untouched :
      (List.range 8).filter (fun k => s.stageActive k && (s.obj (Obj.CHARGE_WP k) == wp || s.obj (Obj.FREE_WP k) == wp)) = [] := by
    refine List.filter_eq_nil_iff.mpr fun k m => ?_
    have := h.accounts k (List.mem_range.mp m)
    simp only [Bool.and_eq_true, Bool.or_eq_true, beq_iff_eq]
    tauto
  rw [State.accounts, untouched]
  rfl

theorem State.Unwatched.watchers : s.watchers wp = s := by
  simp [State.watchers, h.sealing.symm, h.ending.symm, h.ready.symm, h.contexts, h.accounts_eq]

/-- An operation of one of the module's own units comes to the operation alone, where nothing watches its Waypoint and nothing else
waits. -/
theorem State.Unwatched.askWp_after {slice : Nat} (quiet : s.Quiet) (owned : s.wpCode slice wp = 0) (k : WpKind) :
    (s.askWp .unit slice wp k).after = s.applyWp wp k := by
  have still : (s.applyWp wp k).Quiet := by
    rw [State.applyWp_eq]
    exact ⟨quiet.posts, quiet.swaps, quiet.hosts, quiet.subs⟩
  rw [State.askWp, settle_first quiet.posts, perform_own (.inl rfl) owned, h.performWp, (h.applyWp wp k).watchers,
    State.afterFirst_quiet still]

end

/-! ### Error completions (R241, R243) -/

theorem State.applyWp_error_events (s : State) (wp c : Nat) :
    (s.applyWp wp (.error c)).obj Obj.WP_ERR_EVENTS = satInc 32 (s.obj Obj.WP_ERR_EVENTS) 1 := by
  rw [State.obj_applyWp, State.countWp, State.count, State.obj_setObj_self, State.obj_count_other _ (by decide)]

theorem State.applyWp_error_other (s : State) (wp c : Nat) {k : Nat} (ops : k ≠ Obj.WP_OPS) (errs : k ≠ Obj.WP_ERR_EVENTS) :
    (s.applyWp wp (.error c)).obj k = s.obj k := by
  rw [State.obj_applyWp, State.countWp, State.obj_count_other _ errs, State.obj_count_other _ ops]

/-- On a Waypoint that nothing watches, an error completion comes to its operation alone. -/
theorem exec_errorCompletion {s : State} {slice wp c : Nat} (real : wp < 16384) (code : c < 2 ^ 16) (quiet : s.Quiet)
    (unwatched : s.Unwatched wp) (owned : s.wpCode slice wp = 0) :
    exec (.errorCompletion slice wp c) s = .next (s.applyWp wp (.error c)) := by
  show settled (doErrorCompletion slice wp c s) = _
  rw [doErrorCompletion, withWp, if_pos real, Nat.mod_eq_of_lt code, settled_next, unwatched.askWp_after quiet owned]

/-- Settles O36: the command comes to its operation, whose effect on the entry is read off `Wp.apply`. -/
theorem errorCompletionMarksItsWaypoint : Obligations.ErrorCompletionMarksItsWaypoint := by
  unfold Obligations.ErrorCompletionMarksItsWaypoint
  refine ⟨?completion, ?clear⟩
  case completion =>
    intro s slice wp c real code quiet unwatched owned
    refine ⟨_, exec_errorCompletion real code quiet unwatched owned, ?_, ?_, ?_, s.applyWp_ops wp _, ?_, ?_, s.applyWp_error_events wp c,
      ?_, ?_, fun x other => s.wp_applyWp_other _ other, fun k ops errs => s.applyWp_error_other wp c ops errs, s.applyWp_eq wp _⟩
    all_goals simp [Wp.apply]
  case clear =>
    intro s wp o
    cases o <;> simp [Wp.apply, Wp.clear]

end Sys2Proof.Machine
end

section
/-! PROOFS (09_waypoints_and_chronometer.md). Groups of Waypoints that change their owner (R237). -/

namespace Sys2Proof.Machine

/-! ### What a refusal leaves (R424, R435, R438) -/

/-- The counters and status words of the management unit that a refusal may raise (Table 17-9). -/
def refusalObjects : List Nat :=
  [Obj.HDP_AUTH_FAILS, Obj.HDP_BUSY, Obj.MGMT_STATUS, Obj.MGMT_EVENTS, Obj.LOG_WRAPS, Obj.VIOL_WRAPS]

/-- What a refusal does: it raises management objects, enters the logs, and is answered and remembered by the unit, which keeps its
subscriptions. -/
structure State.Noted (s t : State) : Prop where
  frame : t = { s with dict := t.dict, events := t.events, violations := t.violations, hmu := t.hmu }
  obj   : ∀ k ∉ refusalObjects, t.obj k = s.obj k
  subs  : t.hmu.subs = s.hmu.subs

theorem State.Noted.refl (s : State) : s.Noted s := ⟨rfl, fun _ _ => rfl, rfl⟩

theorem State.Noted.trans {s t u : State} (h : s.Noted t) (g : t.Noted u) : s.Noted u :=
  ⟨by rw [g.frame, h.frame], fun k m => (g.obj k m).trans (h.obj k m), g.subs.trans h.subs⟩

theorem State.Noted.quiet {s t : State} (h : s.Noted t) (k : s.Quiet) : t.Quiet := by
  have subs := h.subs
  rw [h.frame] at subs ⊢
  exact ⟨k.posts, k.swaps, k.hosts, subs.trans k.subs⟩

theorem State.noted_setObj (s : State) {key : Nat} (v : Nat) (m : key ∈ refusalObjects) : s.Noted (s.setObj key v) :=
  ⟨rfl, fun _ other => s.obj_setObj_other fun e => other (e ▸ m), rfl⟩

theorem State.noted_mgmtStatus (s : State) (mask : Nat) : s.Noted (s.mgmtStatus mask) :=
  (s.noted_setObj _ (by decide)).trans (State.noted_setObj _ _ (by decide))

theorem State.noted_logEvent (s : State) (ev : Ev) (code source slice data : Nat) : s.Noted (s.logEvent ev code source slice data) := by
  unfold State.logEvent
  dsimp only
  split
  · exact ((s.noted_setObj _ (by decide)).trans (State.noted_mgmtStatus _ _)).trans ⟨rfl, fun _ _ => rfl, rfl⟩
  · exact ⟨rfl, fun _ _ => rfl, rfl⟩

theorem State.noted_logViolation (s : State) (code source slice args : Nat) : s.Noted (s.logViolation code source slice args) := by
  unfold State.logViolation
  dsimp only
  split
  · exact ((s.noted_setObj _ (by decide)).trans (State.noted_mgmtStatus _ _)).trans ⟨rfl, fun _ _ => rfl, rfl⟩
  · exact ⟨rfl, fun _ _ => rfl, rfl⟩

theorem State.noted_noteCode (s : State) (q : HdpReq) (code : Nat) : s.Noted (s.noteCode q code) := by
  unfold State.noteCode
  dsimp only
  split_ifs
  · exact ((s.noted_setObj _ (by decide)).trans (State.noted_mgmtStatus _ _)).trans (State.noted_logViolation ..)
  · exact s.noted_logViolation ..
  · exact s.noted_setObj _ (by decide)
  · exact s.noted_logEvent ..
  · exact .refl s

theorem State.noted_of_hmu {s : State} {h : HmuUnit} (subs : h.subs = s.hmu.subs) : s.Noted { s with hmu := h } :=
  ⟨rfl, fun _ _ => rfl, subs⟩

theorem State.noted_declined (s : State) (q : HdpReq) (code : Nat) : s.Noted (s.declined q code) := by
  have answer (u : State) (m : HdpReq) : u.Noted (u.answer m false) := by
    obtain ⟨h, e, subs⟩ := u.answer_eq m false
    rw [e]
    exact State.noted_of_hmu subs
  have cache (u : State) (r : Option HdpReq) : u.Noted (u.cache q r) := by
    obtain ⟨h, e, subs⟩ := u.cache_eq q r
    rw [e]
    exact State.noted_of_hmu subs
  exact ((s.noted_noteCode q code).trans (answer _ _)).trans (cache _ _)

/-- A write of a value that the object itself refuses: the state that heard it declines it. -/
theorem writeCommand_declined {s : State} {h : Hdr} {key n v code : Nat} (g : s.GrantsWrite h key v) (hn : (objRow key).size = n)
    (hc : code ≠ 0) (e : (s.heardWrite h key v).performWrite key (leBytes n v) = (s.heardWrite h key v).no code) :
    s.writeCommand h key v = (s.heardWrite h key v).declined (writeReq h key v) code := by
  have k := reqKey_write h key v
  have p : (writeReq h key v).payload = leBytes n v := by rw [← hn]; rfl
  have o := g.object
  rw [k] at o
  refine hdpReceive_refused g.toHears hc true ?_
  rw [writeExpWork, roleOf_heard g.firmware, k, p]
  simp only [show (s.heard (writeReq h key v)).objectCode key (writeReq h key v).hdr.role true (some false) = 0 from o]
  rw [if_neg (by simp)]
  exact congrArg served e

/-! ### The entries and the timed adds of a group (R237, R248) -/

theorem State.admitTimed_of_none {s : State} (h : s.timedHeld = []) : s.admitTimed = s := by
  rw [State.admitTimed, h, State.admitEach, ← h]

/-- Timed adds dropped where all that wait for room are among them: none takes a freed entry. -/
theorem State.dropTimed_eq (s : State) {p : Timed → Bool} (h : ∀ a ∈ s.timedHeld, p a = true) :
    s.dropTimed p = { s.count 32 Obj.TIMED_DROPPED ((s.timed.filter p).length + (s.timedHeld.filter p).length) with
      timed := s.timed.filter (fun a => !p a), timedHeld := [] } := by
  have held : s.timedHeld.filter (fun a => !p a) = [] := List.filter_eq_nil_iff.mpr fun a m => by simp [h a m]
  rw [State.dropTimed, held]
  exact State.admitTimed_of_none rfl

theorem State.clearGroup_eq {s : State} {g : Nat} (held : ∀ a ∈ s.timedHeld, a.wp / 64 = g) :
    ∃ n, s.clearGroup g = { s.count 32 Obj.TIMED_DROPPED n with
      wps := Sparse.eraseRange s.wps (64 * g) 64, timed := s.timed.filter (fun a => a.wp / 64 != g), timedHeld := [] } :=
  ⟨_, State.dropTimed_eq _ fun a m => beq_iff_eq.mpr (held a m)⟩

theorem wp_eraseGroup (s : State) (g wp : Nat) :
    Sparse.get (fun _ => Wp.reset) (Sparse.eraseRange s.wps (64 * g) 64) wp = if wp / 64 = g then Wp.reset else s.wp wp := by
  rw [Sparse.get_eraseRange]
  exact if_congr (by omega) rfl rfl

/-! ### The owners' objects -/

theorem groupSlice_ne {g : Nat} (lt : g < 256) {key : Nat} (other : key < Obj.GROUP_SLICE 0 ∨ Obj.GROUP_SLICE 255 < key) :
    Obj.GROUP_SLICE g ≠ key := by
  simp only [Obj.GROUP_SLICE] at other ⊢
  omega

theorem groupSlice_not_refusal {g : Nat} (lt : g < 256) : Obj.GROUP_SLICE g ∉ refusalObjects := by
  intro m
  simp only [refusalObjects, List.mem_cons, List.not_mem_nil, or_false] at m
  rcases m with e | e | e | e | e | e <;> exact groupSlice_ne lt (by decide) e

/-! ### What hearing a write leaves -/

theorem State.heardWrite_eq (s : State) (h : Hdr) (key v : Nat) : ∃ m, s.heardWrite h key v = { s with hmu := m } := by
  obtain ⟨m, e, -⟩ := s.heard_eq (writeReq h key v)
  exact ⟨m, e⟩

theorem State.heardWrite_quiet {s : State} {h : Hdr} {key v : Nat} (k : s.Quiet) : (s.heardWrite h key v).Quiet := State.heard_quiet k

section
variable (s : State) (h : Hdr) (key v : Nat)

@[simp] theorem State.heardWrite_obj (k : Nat) : (s.heardWrite h key v).obj k = s.obj k := State.heard_obj ..

@[simp] theorem State.heardWrite_wps : (s.heardWrite h key v).wps = s.wps := by
  obtain ⟨m, e⟩ := s.heardWrite_eq h key v
  rw [e]

@[simp] theorem State.heardWrite_timed : (s.heardWrite h key v).timed = s.timed := by
  obtain ⟨m, e⟩ := s.heardWrite_eq h key v
  rw [e]

@[simp] theorem State.heardWrite_timedHeld : (s.heardWrite h key v).timedHeld = s.timedHeld := by
  obtain ⟨m, e⟩ := s.heardWrite_eq h key v
  rw [e]

@[simp] theorem State.heardWrite_groupWaited (g : Nat) : (s.heardWrite h key v).groupWaited g = s.groupWaited g := by
  obtain ⟨m, e⟩ := s.heardWrite_eq h key v
  rw [e]
  rfl

@[simp] theorem State.heardWrite_wp (wp : Nat) : (s.heardWrite h key v).wp wp = s.wp wp := by
  simp only [State.wp, State.heardWrite_wps]

end

/-! ### A group given to a slice (R237) -/

/-- The state in which a group has been given to a slice, and the write that asked for it answered. -/
def State.groupGiven (s : State) (h : Hdr) (group slice : Nat) : State :=
  ((s.setObj (Obj.GROUP_SLICE group) slice).clearGroup group).wrote h (Obj.GROUP_SLICE group) slice

section
variable {s : State} {group : Nat} (quiet : s.Quiet) (held : ∀ a ∈ s.timedHeld, a.wp / 64 = group) (h : Hdr) (slice : Nat)
include quiet held

/-- Besides the owner, the entries and the timed adds of the group, two counters rise. -/
theorem State.groupGiven_eq : ∃ n m, s.groupGiven h group slice =
    { ((s.setObj (Obj.GROUP_SLICE group) slice).count 32 Obj.TIMED_DROPPED n).count 64 Obj.HDP_REQUESTS 1 with
      wps := Sparse.eraseRange s.wps (64 * group) 64, timed := s.timed.filter (fun a => a.wp / 64 != group), timedHeld := []
      hmu := m } := by
  obtain ⟨n, cleared⟩ := State.clearGroup_eq (s := s.setObj (Obj.GROUP_SLICE group) slice) held
  have still : ((s.setObj (Obj.GROUP_SLICE group) slice).clearGroup group).Quiet := by
    rw [cleared]
    exact ⟨quiet.posts, quiet.swaps, quiet.hosts, quiet.subs⟩
  obtain ⟨m, wrote⟩ := State.wrote_quiet h (Obj.GROUP_SLICE group) slice still
  exact ⟨n, m, by rw [State.groupGiven, wrote, cleared]; rfl⟩

theorem State.groupGiven_wp (wp : Nat) : (s.groupGiven h group slice).wp wp = if wp / 64 = group then Wp.reset else s.wp wp := by
  obtain ⟨n, m, e⟩ := State.groupGiven_eq quiet held h slice
  rw [e]
  exact wp_eraseGroup s group wp

theorem State.groupGiven_timed : (s.groupGiven h group slice).timed = s.timed.filter (fun a => a.wp / 64 != group) := by
  obtain ⟨n, m, e⟩ := State.groupGiven_eq quiet held h slice
  rw [e]

theorem State.groupGiven_timedHeld : (s.groupGiven h group slice).timedHeld = [] := by
  obtain ⟨n, m, e⟩ := State.groupGiven_eq quiet held h slice
  rw [e]

theorem State.groupGiven_owner {g : Nat} (lt : g < 256) :
    (s.groupGiven h group slice).obj (Obj.GROUP_SLICE g) = if g = group then slice else s.obj (Obj.GROUP_SLICE g) := by
  obtain ⟨n, m, e⟩ := State.groupGiven_eq quiet held h slice
  calc (s.groupGiven h group slice).obj (Obj.GROUP_SLICE g)
    _ = (((s.setObj (Obj.GROUP_SLICE group) slice).count 32 Obj.TIMED_DROPPED n).count 64 Obj.HDP_REQUESTS 1).obj (Obj.GROUP_SLICE g) := by
      rw [e]
      rfl
    _ = (s.setObj (Obj.GROUP_SLICE group) slice).obj (Obj.GROUP_SLICE g) := by
      rw [State.obj_count_other _ (groupSlice_ne lt (by decide)), State.obj_count_other _ (groupSlice_ne lt (by decide))]
    _ = if g = group then slice else s.obj (Obj.GROUP_SLICE g) := by
      rw [State.obj_setObj]
      exact if_congr (by simp only [Obj.GROUP_SLICE]; omega) rfl rfl

end

/-! ### A write of GROUP_SLICE -/

theorem exec_groupSlice {s : State} {h : Hdr} {group slice : Nat} (real : group < 256) :
    exec (.groupSlice h group slice) s = .next (s.writeCommand h (Obj.GROUP_SLICE group) slice).after := by
  show settled (.next (s.writeCommand h (inRange group 256 (Obj.GROUP_SLICE group)) slice)) = _
  rw [inRange_of real, settled_next]

section
variable {s : State} {h : Hdr} {group slice : Nat} (real : group < 256) (range : slice < 2 ^ 12 ∨ slice = 0xFFFF)
include real range

/-- A value that names a slice, or none, is looked at no further than whether a core waits on the group. -/
theorem performWrite_groupSlice_eq (u : State) : u.performWrite (Obj.GROUP_SLICE group) (leBytes 2 slice) =
    if u.groupWaited group then u.no 0x0805 else ((u.setObj (Obj.GROUP_SLICE group) slice).clearGroup group).ok := by
  rw [performWrite_groupSlice u real (by omega), State.writeGroupSlice, if_neg (by omega)]

variable (g : s.GrantsWrite h (Obj.GROUP_SLICE group) slice)
include g

theorem exec_groupSlice_free (free : s.groupWaited group = false) : exec (.groupSlice h group slice) s =
    .next ((s.heardWrite h (Obj.GROUP_SLICE group) slice).groupGiven h group slice) := by
  have granted : (s.heardWrite h (Obj.GROUP_SLICE group) slice).performWrite (Obj.GROUP_SLICE group) (leBytes 2 slice) =
      (((s.heardWrite h (Obj.GROUP_SLICE group) slice).setObj (Obj.GROUP_SLICE group) slice).clearGroup group, 0) := by
    rw [performWrite_groupSlice_eq real range, State.heardWrite_groupWaited, if_neg (by simp [free])]
    rfl
  rw [exec_groupSlice real, writeCommand_granted g (by rw [objRow_groupSlice _ real]) granted, State.groupGiven]

theorem exec_groupSlice_waited (quiet : s.Quiet) (waited : s.groupWaited group = true) : exec (.groupSlice h group slice) s =
    .next ((s.heardWrite h (Obj.GROUP_SLICE group) slice).declined (writeReq h (Obj.GROUP_SLICE group) slice) 0x0805) := by
  have refused : (s.heardWrite h (Obj.GROUP_SLICE group) slice).performWrite (Obj.GROUP_SLICE group) (leBytes 2 slice) =
      (s.heardWrite h (Obj.GROUP_SLICE group) slice).no 0x0805 := by
    rw [performWrite_groupSlice_eq real range, State.heardWrite_groupWaited, if_pos waited]
  rw [exec_groupSlice real, writeCommand_declined g (by rw [objRow_groupSlice _ real]) (by decide) refused,
    State.after_quiet ((State.noted_declined _ _ _).quiet (State.heardWrite_quiet quiet))]

end

/-- Settles O38: a granted write comes to `State.groupGiven`, and a refusal is noted in nothing that the Waypoint unit holds. -/
theorem groupSliceClearsItsGroup : Obligations.GroupSliceClearsItsGroup := by
  unfold Obligations.GroupSliceClearsItsGroup
  intro s h group slice real range quiet g
  refine ⟨fun free held => ⟨_, exec_groupSlice_free real range g free, ?given⟩,
    fun waited => ⟨_, exec_groupSlice_waited real range g quiet waited, rfl, ?kept⟩⟩
  case given =>
    have still := State.heardWrite_quiet (h := h) (key := Obj.GROUP_SLICE group) (v := slice) quiet
    rw [← s.heardWrite_timedHeld h (Obj.GROUP_SLICE group) slice] at held
    refine ⟨fun wp => ?_, ?_, State.groupGiven_timedHeld still held h slice, ?_, fun k lt other => ?_⟩
    · rw [State.groupGiven_wp still held, State.heardWrite_wp]
    · rw [State.groupGiven_timed still held, State.heardWrite_timed]
    · rw [State.groupGiven_owner still held h slice real, if_pos rfl]
    · rw [State.groupGiven_owner still held h slice lt, if_neg other, State.heardWrite_obj]
  case kept =>
    have noted := State.noted_declined (s.heardWrite h (Obj.GROUP_SLICE group) slice) (writeReq h (Obj.GROUP_SLICE group) slice) 0x0805
    refine ⟨?_, ?_, fun k lt => ?_⟩
    · rw [noted.frame, State.heardWrite_wps]
    · rw [noted.frame, State.heardWrite_timed]
    · rw [noted.obj _ (groupSlice_not_refusal lt), State.heardWrite_obj]

end Sys2Proof.Machine
end

section
/-! PROOFS (10_fabric_routing.md). The place of an arriving frame in its flow: accepted, a duplicate or a gap (R278). -/

namespace Sys2Proof.Machine

/-! ### The receiving state of a flow -/

/-- A flow is looked up by its key, and a flow that has received nothing is made with it. -/
@[simp] theorem State.rxFlow_key (s : State) (k : FlowKey) : (s.rxFlow k).key = k := by
  unfold State.rxFlow
  cases found : s.rxFlows.find? (fun x => x.key == k) with
  | none => rfl
  | some x => simpa using List.find?_some found

/-- Replacing the entries of a key changes neither whether the key is found nor where: the new entry is what is found. -/
theorem RxFlow.find?_replaced (l : List RxFlow) (x : RxFlow) :
    (l.map fun y => if y.key == x.key then x else y).find? (·.key == x.key) = (l.find? (·.key == x.key)).map fun _ => x := by
  induction l with
  | nil => rfl
  | cons y l ih =>
    by_cases same : y.key = x.key
    · simp [same]
    · simpa [same, -List.find?_map] using ih

@[simp] theorem State.rxFlow_setRxFlow_same (s : State) (x : RxFlow) : (s.setRxFlow x).rxFlow x.key = x := by
  unfold State.rxFlow State.setRxFlow
  by_cases known : s.rxFlows.any (fun y => y.key == x.key) = true
  · obtain ⟨y, found⟩ : ∃ y, s.rxFlows.find? (·.key == x.key) = some y := by
      rwa [← Option.isSome_iff_exists, List.find?_isSome, ← List.any_eq_true]
    simp only [known, if_true, RxFlow.find?_replaced, found, Option.map_some, Option.getD_some]
  · have fresh : s.rxFlows.find? (·.key == x.key) = none := by simpa using known
    simp [known, List.find?_append, fresh]

theorem State.expecting_rxFlow (s : State) (f : Frame) :
    (s.expecting f).rxFlow (recvKey f) = { s.rxFlow (recvKey f) with expected := nextSeq f.seq, slice := f.slice } := by
  simpa [State.expecting] using
    s.rxFlow_setRxFlow_same { s.rxFlow (recvKey f) with expected := nextSeq f.seq, slice := f.slice }

/-! ### The comparison of R278 -/

section
variable {x : RxFlow} {seq : Nat}

theorem RxFlow.check_expected (h : seq = x.expected) : x.check seq = .accept := by
  simp [RxFlow.check, h]

theorem RxFlow.check_behind (ne : seq ≠ x.expected) (h : (x.expected + 2 ^ 32 - seq) % 2 ^ 32 < 2 ^ 31) :
    x.check seq = .duplicate := by
  simp only [RxFlow.check, if_neg ne, seqUpTo, decide_eq_true h, if_true]

/-- The distance of a number from itself is 0, so a number ahead is not the expected one. -/
theorem RxFlow.check_ahead (h : 2 ^ 31 ≤ (x.expected + 2 ^ 32 - seq) % 2 ^ 32) : x.check seq = .gap := by
  have ne : seq ≠ x.expected := by
    rintro rfl
    simp at h
  simp only [RxFlow.check, if_neg ne, seqUpTo, decide_eq_false (Nat.not_lt.mpr h), Bool.false_eq_true, if_false]

end

/-! ### A frame that reaches its flow -/

theorem not_linkFrame_of_sequenced {op : Nat} (h : sequenced op = true) : linkFrame op = false := by
  simp only [sequenced, Bool.or_eq_true, Bool.and_eq_true, decide_eq_true_eq] at h
  simp only [linkFrame, Bool.or_eq_false_iff, beq_eq_false_iff_ne]
  omega

/-- Nothing before the check of its place in its flow stops it. -/
theorem State.ReachesFlow.deliver_eq {s : State} {f : Frame} (g : s.ReachesFlow f) (port : Option Nat) :
    s.deliver port f = s.sequenceCheck f := by
  obtain ⟨header, seqd, unfenced, routes, here⟩ := g
  have mine : (!f.mcast && f.dstDev != (s.chart f.epoch).self) = false := by
    rcases here with h | h <;> simp [h]
  simp [State.deliver, header, not_linkFrame_of_sequenced seqd, unfenced, routes, mine, seqd]

section
variable {s : State} {f : Frame}

theorem State.sequenceCheck_bad (bad : payloadGood f = false) :
    s.sequenceCheck f = (s.count 32 Obj.E2E_CRC_ERRORS 1).count 64 Obj.E2E_GAP_DROPS 1 := by
  simp [State.sequenceCheck, bad]

theorem State.sequenceCheck_accept (good : payloadGood f = true) (place : (s.rxFlow (recvKey f)).check f.seq = .accept) :
    s.sequenceCheck f = s.acceptFrame f := by
  simp [State.sequenceCheck, good, place]

theorem State.sequenceCheck_duplicate (good : payloadGood f = true) (place : (s.rxFlow (recvKey f)).check f.seq = .duplicate) :
    s.sequenceCheck f = (s.count 64 Obj.E2E_DUPLICATES 1).sendAck (recvKey f) := by
  simp [State.sequenceCheck, good, place]

theorem State.sequenceCheck_gap (good : payloadGood f = true) (place : (s.rxFlow (recvKey f)).check f.seq = .gap) :
    s.sequenceCheck f = s.count 64 Obj.E2E_GAP_DROPS 1 := by
  simp [State.sequenceCheck, good, place]

theorem State.acceptFrame_taken (formed : wellFormedHeader f = true) (taken : ((s.expecting f).takeFrame f).2 = 0) :
    s.acceptFrame f = ((s.expecting f).takeFrame f).1.noteAccepted (recvKey f) := by
  simp only [State.acceptFrame, formed, Bool.not_true, Bool.false_eq_true, if_false]
  exact if_pos taken

theorem State.acceptFrame_malformed (malformed : wellFormedHeader f = false) :
    s.acceptFrame f = ((s.expecting f).errResp f 0x0809).noteAccepted (recvKey f) := by
  simp [State.acceptFrame, malformed, State.expecting]

end

/-- Settles O50: such a frame comes to the check of its place in its flow, and each clause is one answer of that check. -/
theorem framesAreTakenInSequence : Obligations.FramesAreTakenInSequence := by
  unfold Obligations.FramesAreTakenInSequence
  intro s port f reaches e
  rw [reaches.deliver_eq port]
  refine ⟨fun good next => ?accepted, fun good ne behind => ?duplicate, fun good ahead => ?gap, State.sequenceCheck_bad⟩
  case accepted =>
    rw [State.sequenceCheck_accept good (RxFlow.check_expected next), State.expecting_rxFlow, next]
    exact ⟨rfl, State.acceptFrame_taken, State.acceptFrame_malformed⟩
  case duplicate => exact State.sequenceCheck_duplicate good (RxFlow.check_behind ne behind)
  case gap => exact State.sequenceCheck_gap good (RxFlow.check_ahead ahead)

end Sys2Proof.Machine
end

section
/-! PROOFS (18_dictionary_map.md). Requests for objects that the dictionary does not hold (R445). -/

namespace Sys2Proof.Machine

/-- Existence is the first of the checks of items 4 to 7 of R424: where it fails, neither role nor kind nor access is looked at. -/
theorem State.objectCode_of_absent {s : State} {key : Nat} (absent : objExists key = false) (role : Nat) (write : Bool)
    (kind : Option Bool) : s.objectCode key role write kind = 0x0802 := by
  rw [State.objectCode, if_pos (by simp [absent])]

/-- Settles O43: existence stands before every other check of the object, whichever command brings the request; the tables' edges are
looked up in the rows. -/
theorem absentObjectsAreRefused : Obligations.AbsentObjectsAreRefused := by
  unfold Obligations.AbsentObjectsAreRefused
  refine ⟨?edges, ?refusal⟩
  case edges => decide
  case refusal =>
    intro s q c a absent
    exact a.exec_refused (by decide) (State.objectCode_of_absent absent ..)

end Sys2Proof.Machine
end

section
/-! PROOFS (00_scope.md, 08_hbm_memory.md, 18_dictionary_map.md). What every step keeps, what passes in a nanosecond without a command,
and what reset leaves. -/

namespace Sys2Proof.Machine

/-! ### What every command keeps -/

/-- Each command keeps the queue, true time and the canonical forms, and takes no free value back. -/
theorem exec_keeps (c : Instr) (s : State) : OutKeeps s (exec c s) := by
  cases c with
  | powerOn r => exact execPowerOn_keeps r (.refl s)
  | bundleIssue core => exact execBundleIssue_keeps core (.refl s)
  | ldaWriteback core => exact execLdaWriteback_keeps core (.refl s)
  | lineFill core => exact execLineFill_keeps core (.refl s)
  | releaseBufferPerform core => exact execReleaseBufferPerform_keeps core (.refl s)
  | mcfg core => exact execMcfg_keeps core (.refl s)
  | mwld core => exact execMwld_keeps core (.refl s)
  | checksumWeightsReady core => exact execChecksumWeightsReady_keeps core (.refl s)
  | mstr core => exact execMstr_keeps core (.refl s)
  | mcls core => exact execMcls_keeps core (.refl s)
  | drain core errors => exact execDrain_keeps core errors (.refl s)
  | portStarvationOverride core requester => exact execPortStarvationOverride_keeps core requester (.refl s)
  | chainStart core => exact execChainStart_keeps core (.refl s)
  | gatedUpdate core => exact execGatedUpdate_keeps core (.refl s)
  | chainComplete core => exact execChainComplete_keeps core (.refl s)
  | sealThresh h value => exact execSealThresh_keeps h value (.refl s)
  | arm h core => exact execArm_keeps h core (.refl s)
  | reset h core => exact execReset_keeps h core (.refl s)
  | progGen h core gen => exact execProgGen_keeps h core gen (.refl s)
  | progressWatchdog core => exact execProgressWatchdog_keeps core (.refl s)
  | runWatchdog core => exact execRunWatchdog_keeps core (.refl s)
  | lyrWrite h core reg value => exact execLyrWrite_keeps h core reg value (.refl s)
  | lyrStart h core => exact execLyrStart_keeps h core (.refl s)
  | recordLoad core => exact execRecordLoad_keeps core (.refl s)
  | layerComplete core => exact execLayerComplete_keeps core (.refl s)
  | dmaDescriptorStart core engine errors => exact execDmaDescriptorStart_keeps core engine errors (.refl s)
  | dmaComplete core engine => exact execDmaComplete_keeps core engine (.refl s)
  | scrubRead burst errors => exact execScrubRead_keeps burst errors (.refl s)
  | refresh u busy => exact execRefresh_keeps u busy (.refl s)
  | refreshManagement u => exact execRefreshManagement_keeps u (.refl s)
  | rowRemap group => exact execRowRemap_keeps group (.refl s)
  | stackTempRead readings => exact execStackTempRead_keeps readings (.refl s)
  | cbwCopy page => exact execCbwCopy_keeps page (.refl s)
  | backgroundCopy die => exact execBackgroundCopy_keeps die (.refl s)
  | sxtRun h => exact execSxtRun_keeps h (.refl s)
  | sxtAbort h => exact execSxtAbort_keeps h (.refl s)
  | sxtDone margins => exact execSxtDone_keeps margins (.refl s)
  | waypointAdd slice wp value => exact execWaypointAdd_keeps slice wp value (.refl s)
  | waypointSet slice wp value => exact execWaypointSet_keeps slice wp value (.refl s)
  | waypointWait core wp threshold => exact execWaypointWait_keeps core wp threshold (.refl s)
  | timedAdd slice wp value time => exact execTimedAdd_keeps slice wp value time (.refl s)
  | timedAddDue => exact execTimedAddDue_keeps (.refl s)
  | errorCompletion slice wp code => exact execErrorCompletion_keeps slice wp code (.refl s)
  | waypointMark m => exact execWaypointMark_keeps m (.refl s)
  | waypointClear m together => exact execWaypointClear_keeps m together (.refl s)
  | groupSlice h group slice => exact execGroupSlice_keeps h group slice (.refl s)
  | chronometerExchange => exact execChronometerExchange_keeps (.refl s)
  | timeReq a f => exact execTimeReq_keeps a f (.refl s)
  | timeRsp a f t4 => exact execTimeRsp_keeps a f t4 (.refl s)
  | chrSet h value => exact execChrSet_keeps h value (.refl s)
  | chrParentPort h value => exact execChrParentPort_keeps h value (.refl s)
  | frameRoute arrival f => exact execFrameRoute_keeps arrival f (.refl s)
  | write f => exact execWrite_keeps f (.refl s)
  | read f => exact execRead_keeps f (.refl s)
  | readData f => exact execReadData_keeps f (.refl s)
  | wpAdd f => exact execWpAdd_keeps f (.refl s)
  | ack f => exact execAck_keeps f (.refl s)
  | errResp f => exact execErrResp_keeps f (.refl s)
  | partialNotice f => exact execPartialNotice_keeps f (.refl s)
  | ackTimer k => exact execAckTimer_keeps k (.refl s)
  | e2eResend k => exact execE2eResend_keeps k (.refl s)
  | pathLost k => exact execPathLost_keeps k (.refl s)
  | linkControlBlock port => exact execLinkControlBlock_keeps port (.refl s)
  | nak port seqNo => exact execNak_keeps port seqNo (.refl s)
  | linkReplayTimeout port => exact execLinkReplayTimeout_keeps port (.refl s)
  | frameAgeDrop => exact execFrameAgeDrop_keeps (.refl s)
  | portRetrain r => exact execPortRetrain_keeps r (.refl s)
  | retrainDone port o => exact execRetrainDone_keeps port o (.refl s)
  | portRetry port => exact execPortRetry_keeps port (.refl s)
  | portDisable h port => exact execPortDisable_keeps h port (.refl s)
  | portEnable h port => exact execPortEnable_keeps h port (.refl s)
  | portRetrainCmd h port => exact execPortRetrainCmd_keeps h port (.refl s)
  | laneSwap h port => exact execLaneSwap_keeps h port (.refl s)
  | chartBegin h => exact execChartBegin_keeps h (.refl s)
  | chartLoad h part => exact execChartLoad_keeps h part (.refl s)
  | chartSeal h => exact execChartSeal_keeps h (.refl s)
  | switch h => exact execSwitch_keeps h (.refl s)
  | switchClose h => exact execSwitchClose_keeps h (.refl s)
  | chartAbort h => exact execChartAbort_keeps h (.refl s)
  | chartSwitchTime => exact execChartSwitchTime_keeps (.refl s)
  | chartDrainClose chart => exact execChartDrainClose_keeps chart (.refl s)
  | ctxArm h ctx addr => exact execCtxArm_keeps h ctx addr (.refl s)
  | disarm h ctx => exact execDisarm_keeps h ctx (.refl s)
  | contrib f => exact execContrib_keeps f (.refl s)
  | deadline ctx => exact execDeadline_keeps ctx (.refl s)
  | late f => exact execLate_keeps f (.refl s)
  | result f => exact execResult_keeps f (.refl s)
  | stageEnable h slot => exact execStageEnable_keeps h slot (.refl s)
  | stageDisable h slot => exact execStageDisable_keeps h slot (.refl s)
  | stepBegin h => exact execStepBegin_keeps h (.refl s)
  | endJob h => exact execEndJob_keeps h (.refl s)
  | restore h => exact execRestore_keeps h (.refl s)
  | standby h => exact execStandby_keeps h (.refl s)
  | consortStream => exact execConsortStream_keeps (.refl s)
  | checkTimeout => exact execCheckTimeout_keeps (.refl s)
  | consortTimeout => exact execConsortTimeout_keeps (.refl s)
  | stepVote f => exact execStepVote_keeps f (.refl s)
  | stepCommit f => exact execStepCommit_keeps f (.refl s)
  | stepAbort f => exact execStepAbort_keeps f (.refl s)
  | stepResume f => exact execStepResume_keeps f (.refl s)
  | voteResend => exact execVoteResend_keeps (.refl s)
  | consortData f => exact execConsortData_keeps f (.refl s)
  | consortDone f => exact execConsortDone_keeps f (.refl s)
  | consortAck f => exact execConsortAck_keeps f (.refl s)
  | consortPull f => exact execConsortPull_keeps f (.refl s)
  | consortLoad f => exact execConsortLoad_keeps f (.refl s)
  | moduleFence h => exact execModuleFence_keeps h (.refl s)
  | release h => exact execRelease_keeps h (.refl s)
  | fenceReqDev h dev => exact execFenceReqDev_keeps h dev (.refl s)
  | fixArm h => exact execFixArm_keeps h (.refl s)
  | abandon h => exact execAbandon_keeps h (.refl s)
  | fixEncode die => exact execFixEncode_keeps die (.refl s)
  | fixStripe f => exact execFixStripe_keeps f (.refl s)
  | fixStripeRetry => exact execFixStripeRetry_keeps (.refl s)
  | fixCount f => exact execFixCount_keeps f (.refl s)
  | fixPrepared f => exact execFixPrepared_keeps f (.refl s)
  | fixCommit f => exact execFixCommit_keeps f (.refl s)
  | fixDiscard f => exact execFixDiscard_keeps f (.refl s)
  | fixTimeout => exact execFixTimeout_keeps (.refl s)
  | fixPreparedResend => exact execFixPreparedResend_keeps (.refl s)
  | fixDrainedSlots h value => exact execFixDrainedSlots_keeps h value (.refl s)
  | fixApply h => exact execFixApply_keeps h (.refl s)
  | rebuild h => exact execRebuild_keeps h (.refl s)
  | resolveCommit h => exact execResolveCommit_keeps h (.refl s)
  | resolveDiscard h => exact execResolveDiscard_keeps h (.refl s)
  | fixPull f => exact execFixPull_keeps f (.refl s)
  | fixChunk f => exact execFixChunk_keeps f (.refl s)
  | rsvSwap h core reserve => exact execRsvSwap_keeps h core reserve (.refl s)
  | rsvSwapCancel h core => exact execRsvSwapCancel_keeps h core (.refl s)
  | reserveReady core pass => exact execReserveReady_keeps core pass (.refl s)
  | reserveIdleTimeout core => exact execReserveIdleTimeout_keeps core (.refl s)
  | driftEvaluation canaries xdLost => exact execDriftEvaluation_keeps canaries xdLost (.refl s)
  | driftPersist => exact execDriftPersist_keeps (.refl s)
  | laneSwapRequest port lane => exact execLaneSwapRequest_keeps port lane (.refl s)
  | phaseShed rail => exact execPhaseShed_keeps rail (.refl s)
  | sensorLost site sensor => exact execSensorLost_keeps site sensor (.refl s)
  | sparePressure h value => exact execSparePressure_keeps h value (.refl s)
  | retiredMap h value => exact execRetiredMap_keeps h value (.refl s)
  | inputSample milliVolt milliAmp => exact execInputSample_keeps milliVolt milliAmp (.refl s)
  | pdOn h domain => exact execPdOn_keeps h domain (.refl s)
  | pdOff h domain => exact execPdOff_keeps h domain (.refl s)
  | pdSelfRefresh h domain => exact execPdSelfRefresh_keeps h domain (.refl s)
  | domainPowerGood g => exact execDomainPowerGood_keeps g (.refl s)
  | domainWakeFail domain => exact execDomainWakeFail_keeps domain (.refl s)
  | pllLock die => exact execPllLock_keeps die (.refl s)
  | throttleStepUp die => exact execThrottleStepUp_keeps die (.refl s)
  | siteTempSample readings => exact execSiteTempSample_keeps readings (.refl s)
  | clkCap h die value => exact execClkCap_keeps h die value (.refl s)
  | throttleN => exact execThrottleN_keeps (.refl s)
  | throttleNRelease => exact execThrottleNRelease_keeps (.refl s)
  | epoN => exact execEpoN_keeps (.refl s)
  | epoNRelease => exact execEpoNRelease_keeps (.refl s)
  | fenceN => exact execFenceN_keeps (.refl s)
  | fenceNRelease => exact execFenceNRelease_keeps (.refl s)
  | restart h => exact execRestart_keeps h (.refl s)
  | hmuSleep => exact execHmuSleep_keeps (.refl s)
  | hcWatchdog core => exact execHcWatchdog_keeps core (.refl s)
  | hmuReset => exact execHmuReset_keeps (.refl s)
  | segmentDown seg => exact execSegmentDown_keeps seg (.refl s)
  | neighborSolicitation link target => exact execNeighborSolicitation_keeps link target (.refl s)
  | readExp q => exact execReadExp_keeps q (.refl s)
  | objectWrite q => exact execObjectWrite_keeps q (.refl s)
  | readSeg q => exact execReadSeg_keeps q (.refl s)
  | writeSeg q => exact execWriteSeg_keeps q (.refl s)
  | segment q => exact execSegment_keeps q (.refl s)
  | response q => exact execResponse_keeps q (.refl s)
  | segmentResend transfer => exact execSegmentResend_keeps transfer (.refl s)
  | transferTimeout transfer => exact execTransferTimeout_keeps transfer (.refl s)
  | hdpAbort q => exact execHdpAbort_keeps q (.refl s)
  | subscribe q => exact execSubscribe_keeps q (.refl s)
  | unsubscribe q => exact execUnsubscribe_keeps q (.refl s)
  | notify slot => exact execNotify_keeps slot (.refl s)
  | leaseExpiry slot => exact execLeaseExpiry_keeps slot (.refl s)
  | keyWrite h key value => exact execKeyWrite_keeps h key value (.refl s)
  | beacon => exact execBeacon_keeps (.refl s)
  | immediateBeacon => exact execImmediateBeacon_keeps (.refl s)
  | logFlush programFails => exact execLogFlush_keeps programFails (.refl s)
  | arithFlagsClear h core m => exact execArithFlagsClear_keeps h core m (.refl s)
  | chkStatusClear h core m => exact execChkStatusClear_keeps h core m (.refl s)
  | stackHealthClear h stack m => exact execStackHealthClear_keeps h stack m (.refl s)
  | actStatusClear h slot m => exact execActStatusClear_keeps h slot m (.refl s)
  | stepStatusClear h m => exact execStepStatusClear_keeps h m (.refl s)
  | healthClear h m => exact execHealthClear_keeps h m (.refl s)
  | pwrStatusClear h m => exact execPwrStatusClear_keeps h m (.refl s)
  | mgmtStatusClear h m => exact execMgmtStatusClear_keeps h m (.refl s)
  | alertSummaryClear h m => exact execAlertSummaryClear_keeps h m (.refl s)
  | portHealthClear h port m => exact execPortHealthClear_keeps h port m (.refl s)
  | assign h slot => exact execAssign_keeps h slot (.refl s)
  | sliceRelease h slot => exact execSliceRelease_keeps h slot (.refl s)
  | dictDefaults h => exact execDictDefaults_keeps h (.refl s)
  | dictDefaultsCancel h => exact execDictDefaultsCancel_keeps h (.refl s)
  | rdmaWrite m => exact execRdmaWrite_keeps m (.refl s)
  | rdmaRead m errors => exact execRdmaRead_keeps m errors (.refl s)
  | atomicFetchAdd m => exact execAtomicFetchAdd_keeps m (.refl s)
  | cnp conn => exact execCnp_keeps conn (.refl s)
  | cnpRateRestore conn => exact execCnpRateRestore_keeps conn (.refl s)
  | qpOpen h conn => exact execQpOpen_keeps h conn (.refl s)
  | qpClose h conn => exact execQpClose_keeps h conn (.refl s)
  | fwBegin h => exact execFwBegin_keeps h (.refl s)
  | fwChunk h data => exact execFwChunk_keeps h data (.refl s)
  | verify h => exact execVerify_keeps h (.refl s)
  | fwCommit h => exact execFwCommit_keeps h (.refl s)
  | fwCommitDone => exact execFwCommitDone_keeps (.refl s)
  | activate h => exact execActivate_keeps h (.refl s)
  | cancel h => exact execCancel_keeps h (.refl s)
  | cfgBegin h => exact execCfgBegin_keeps h (.refl s)
  | cfgChunk h data => exact execCfgChunk_keeps h data (.refl s)
  | cfgApply h => exact execCfgApply_keeps h (.refl s)
  | attGenerate h => exact execAttGenerate_keeps h (.refl s)
  | attDone => exact execAttDone_keeps (.refl s)
  | bistRun h => exact execBistRun_keeps h (.refl s)
  | bistDone failed => exact execBistDone_keeps failed (.refl s)
  | segmentUp seg => exact execSegmentUp_keeps seg (.refl s)
  | linkControlBlockReceived port acked credits => exact execLinkControlBlockReceived_keeps port acked credits (.refl s)
  | hostPortCtrl h port value => exact execHostPortCtrl_keeps h port value (.refl s)
  | hostLinkUp port => exact execHostLinkUp_keeps port (.refl s)
  | hostLinkDown port => exact execHostLinkDown_keeps port (.refl s)
  | fixApplyDone => exact execFixApplyDone_keeps (.refl s)
  | transmitOpportunity seg => exact execTransmitOpportunity_keeps seg (.refl s)

/-- Settles O32: it is what `exec_keeps` says of the next state. -/
theorem commandsKeepQueueAndTime : Obligations.CommandsKeepQueueAndTime := by
  unfold Obligations.CommandsKeepQueueAndTime
  intro c s t done
  have k := exec_keeps c s t done
  exact ⟨k.pending, k.now, k.free⟩

/-! ### What a step keeps -/

/-- A nanosecond keeps what a command keeps, but for true time. -/
theorem tick_keeps (s : State) : ({ s with now := s.now + 1 } : State).Keeps (tick s) := by
  have h := State.Keeps.refl { s with now := s.now + 1 }
  rw [tick]
  split
  · exact h
  · exact State.timeCounters_keeps _ (State.chrTick_keeps h)

theorem step_idle {s : State} (idle : s.pending = []) : step s = .next (tick s) := by
  rw [step, idle]

theorem step_command {s : State} {c : Instr} {rest : List Instr} (front : s.pending = c :: rest) :
    step s = exec c { s with pending := rest } := by
  rw [step, front]

/-- Settles O30: a step is a nanosecond or a command, and both keep the canonical forms. -/
theorem everyStepKeepsTheCanonicalForms : Obligations.EveryStepKeepsTheCanonicalForms := by
  unfold Obligations.EveryStepKeepsTheCanonicalForms
  intro s t done mem dict
  match front : s.pending with
  | [] =>
    rw [step_idle front] at done
    obtain rfl := Host.Outcome.next.inj done
    have k := tick_keeps s
    exact ⟨k.mem mem, k.dict dict⟩
  | c :: rest =>
    rw [step_command front] at done
    have k := exec_keeps c _ t done
    exact ⟨k.mem mem, k.dict dict⟩

/-- Settles O28: the queue's front is what `step` looks at. -/
theorem stepRunsTheFrontCommand : Obligations.StepRunsTheFrontCommand :=
  fun _ _ _ => rfl

/-! ### What passes in a nanosecond -/

/-- Only objects, cores and ports have changed. -/
def State.CountersPassed (s t : State) : Prop := t = { s with dict := t.dict, cores := t.cores, ports := t.ports }

theorem State.CountersPassed.refl (s : State) : s.CountersPassed s := rfl

theorem State.CountersPassed.trans {s t u : State} (h : s.CountersPassed t) (g : t.CountersPassed u) : s.CountersPassed u := by
  rw [State.CountersPassed] at *
  rw [g, h]

theorem State.CountersPassed.foldl {α : Type} {f : State → α → State} (step : ∀ (u : State) a, u.CountersPassed (f u a)) (l : List α) (s : State) :
    s.CountersPassed (l.foldl f s) :=
  List.foldlRecOn (motive := s.CountersPassed) l f (.refl s) fun u h a _ => h.trans (step u a)

theorem State.portTick_passed (s : State) (p : Nat) : s.CountersPassed (s.portTick p) := by
  unfold State.portTick
  dsimp only
  split
  · split <;> rfl
  · split <;> rfl
  · split <;> rfl
  · split <;> rfl
  · rfl

theorem State.watchdogTick_passed (s : State) (core : Nat) : s.CountersPassed (s.watchdogTick core) := by
  unfold State.watchdogTick
  split <;> rfl

theorem State.idleTick_passed (n : Nat) (s : State) (core : Nat) : s.CountersPassed (s.idleTick n core) := by
  unfold State.idleTick
  split <;> rfl

theorem State.timeCounters_passed (s : State) (n : Nat) : s.CountersPassed (s.timeCounters n) := by
  have clocks : s.CountersPassed ((s.clockTick 0).clockTick 1) := rfl
  have cores (u : State) (core : Nat) : u.CountersPassed (State.coreTick n u core) :=
    (u.watchdogTick_passed core).trans (State.idleTick_passed n _ core)
  unfold State.timeCounters
  split
  · exact (clocks.trans (.foldl State.portTick_passed _ _)).trans (.foldl cores _ _)
  · rfl

/-- The Chronometer's own advance touches its count and what it has still to slew. -/
theorem State.chrTick_eq (s : State) : s.chrTick = { s with chr := s.chrTick.chr, chrU := s.chrTick.chrU } := by
  unfold State.chrTick
  dsimp only
  split_ifs <;> rfl

theorem State.chrTick_chr (s : State) : s.chrTick.chr =
    if s.chrU.slew = 0 ∨ s.now % 10000 ≠ 0 then (s.chr + 1) % 2 ^ 64
    else if 0 < s.chrU.slew then (s.chr + 2) % 2 ^ 64 else s.chr := by
  unfold State.chrTick
  dsimp only
  split_ifs <;> rfl

theorem tick_dead {s : State} (dead : s.dead = true) : tick s = { s with now := s.now + 1 } := by
  rw [tick, if_pos dead]

theorem tick_alive {s : State} (alive : s.dead = false) :
    (({ s with now := s.now + 1 } : State).chrTick).CountersPassed (tick s) := by
  rw [tick, if_neg (by simp [alive])]
  exact State.timeCounters_passed _ _

theorem tick_alive_chr {s : State} (alive : s.dead = false) : (tick s).chr = ({ s with now := s.now + 1 } : State).chrTick.chr := by
  rw [tick_alive alive]

/-- Settles O29: the Chronometer's advance, and then counters alone. -/
theorem idleStepPassesTime : Obligations.IdleStepPassesTime := by
  unfold Obligations.IdleStepPassesTime
  intro s idle
  refine ⟨fun dead => by rw [step_idle idle, tick_dead dead], fun alive => ⟨tick s, step_idle idle, ?frame, ?count⟩⟩
  case frame =>
    have passed := tick_alive alive
    rw [State.CountersPassed, State.chrTick_eq] at passed
    rw [passed]
  case count => rw [tick_alive_chr alive, State.chrTick_chr]

/-! ### What reset leaves -/

/-- Settles O31: memory and dictionary list nothing, and nothing waits. -/
theorem resetIsCanonical : Obligations.ResetIsCanonical := by
  unfold Obligations.ResetIsCanonical
  refine ⟨Sparse.wf_nil _, Sparse.wf_nil _, rfl, rfl, rfl, ?_, rfl⟩
  intro e m
  exact absurd m List.not_mem_nil

theorem State.obj_reset (key : Nat) : State.reset.obj key = dictDefault key := rfl

/-- An object whose default stands in its row. -/
theorem dictDefault_of_row {key lo hi sub : Nat} {r : ObjRow} (row : dictRows.find? (ObjRow.meets lo hi sub (sub + 1)) = some r)
    (place : r.base ≤ lo ∧ hi ≤ r.base + r.n ∧ r.sub ≤ sub ∧ sub + 1 ≤ r.sub + r.subs) (index : lo ≤ key / 256 ∧ key / 256 < hi)
    (subindex : key % 256 = sub) (plain : specialDefault key = none) : dictDefault key = r.dflt := by
  obtain ⟨base, n, first, subs⟩ := place
  have found : dictRow key = some r := find_row dictRows row index.1 index.2 (by omega) (by omega) base n first subs
  rw [dictDefault, plain, found]

/-- Outside the cores' states and the host link, only identity objects have a default of their own. -/
theorem specialDefault_none {key : Nat} (core : 0x8768 ≤ key / 256 ∨ key / 256 < 0x8700 ∨ key % 256 ≠ 2) (ident : 0x1000 < key / 256)
    (host : key / 256 < 0xA008 ∨ key % 256 = 2) (boot : key / 256 < 0xF100) : specialDefault key = none := by
  simp only [specialDefault]
  rw [if_neg (by omega), if_neg (by omega), if_neg (by omega), if_neg (by omega), if_neg (by omega), if_neg (by omega), if_neg (by omega),
    if_neg (by omega)]

theorem coreSt_reset {n : Nat} (h : n < 104) : State.reset.coreSt n = if isReserve n then .off else .idle := by
  rw [State.coreSt, State.obj_reset]
  have index : Obj.CORE_STATE n / 256 = 0x8700 + n := by simp only [Obj.CORE_STATE]; omega
  have subindex : Obj.CORE_STATE n % 256 = 2 := by simp only [Obj.CORE_STATE]; omega
  have index' : 0x8700 ≤ Obj.CORE_STATE n / 256 ∧ Obj.CORE_STATE n / 256 < 0x8768 := by omega
  have row : dictRow (Obj.CORE_STATE n) = some ⟨0x8700, 104, 0x02, 1, .u8, .ro, .observer, 1, 1⟩ :=
    find_row (lo := 0x8700) (hi := 0x8768) (slo := 2) (shi := 3) dictRows (by decide) index'.1 index'.2 (by omega) (by omega)
      (by decide) (by decide) (by decide) (by decide)
  have special : specialDefault (Obj.CORE_STATE n) = if isReserve n then some 0 else none := by
    simp only [specialDefault, index, subindex, isReserve, Bool.or_eq_true, Bool.and_eq_true, decide_eq_true_eq]
    rw [if_pos ⟨by omega, by omega, trivial⟩, Nat.add_sub_cancel_left]
  rw [dictDefault, special, row]
  split_ifs <;> rfl

/-- Settles O33: what reads at reset is each object's default, which its row gives; the Reserves' states have one of their own. -/
theorem resetLeaves : Obligations.ResetLeaves := by
  unfold Obligations.ResetLeaves
  have ports (p : Nat) (h : p < 16) : State.reset.obj (Obj.PORT_STATE p) = 0 :=
    dictDefault_of_row (lo := 0x5100) (hi := 0x5110) (sub := 3) (r := ⟨0x5100, 16, 0x03, 1, .u8, .ro, .observer, 0, 1⟩) (by decide)
      (by decide) (by simp only [Obj.PORT_STATE]; omega) (by simp only [Obj.PORT_STATE]; omega)
      (specialDefault_none (by simp only [Obj.PORT_STATE]; omega) (by simp only [Obj.PORT_STATE]; omega)
        (by simp only [Obj.PORT_STATE]; omega) (by simp only [Obj.PORT_STATE]; omega))
  have contexts (n : Nat) (h : n < 128) : State.reset.ctxState n = 0 :=
    dictDefault_of_row (lo := 0x5410) (hi := 0x5490) (sub := 1) (r := ⟨0x5410, 128, 0x01, 1, .u8, .ro, .observer, 0, 1⟩) (by decide)
      (by decide) (by simp only [Obj.CTX_STATE]; omega) (by simp only [Obj.CTX_STATE]; omega)
      (specialDefault_none (by simp only [Obj.CTX_STATE]; omega) (by simp only [Obj.CTX_STATE]; omega)
        (by simp only [Obj.CTX_STATE]; omega) (by simp only [Obj.CTX_STATE]; omega))
  have conns (k : Nat) (h : k < 240) : State.reset.obj (Obj.QP_STATE k) = 0 :=
    dictDefault_of_row (lo := 0xA010) (hi := 0xA100) (sub := 2) (r := ⟨0xA010, 240, 0x02, 1, .u8, .ro, .observer, 0, 1⟩) (by decide)
      (by decide) (by simp only [Obj.QP_STATE]; omega) (by simp only [Obj.QP_STATE]; omega)
      (specialDefault_none (by simp only [Obj.QP_STATE]; omega) (by simp only [Obj.QP_STATE]; omega)
        (by simp only [Obj.QP_STATE]; omega) (by simp only [Obj.QP_STATE]; omega))
  refine ⟨fun _ => rfl, rfl, rfl, rfl, rfl, rfl, ?_, ?_, ?_, ?_, ?_, ?_, ?_, rfl, rfl, fun n => coreSt_reset, ports, contexts, conns⟩
  all_goals decide

end Sys2Proof.Machine
end

section
/-! PROOFS (04_vector_engine.md, 05_core_bundles.md, 06_layer_descriptors.md). Writes of a core's control, program, layer and threshold
objects. -/

namespace Sys2Proof.Machine

/-! ### Commands that write an object of one of several units -/

/-- A command that writes an object of a unit that the module has completes where the object's operation takes the value. -/
theorem WriteCompletes.ofUnit {c : Instr} {s : State} {h : Hdr} {key n v i lim : Nat} {ok : State → Prop} {effect : State → State}
    (real : i < lim) (hx : exec c s = settled (.next (s.writeCommand h (inRange i lim key) v))) (hn : (objRow key).size = n)
    (he : ∀ u, ok u → u.performWrite key (leBytes n v) = (effect u, 0)) : WriteCompletes c s h key v ok effect :=
  .of (by rw [hx, inRange_of real]) hn he

/-! ### ARM, RESET and PROG_GEN -/

section
variable {u : State} {core : Nat}

/-- ARM's own checks passed: the core is ARMED and its launch Waypoint answers it. -/
theorem State.mayArm.armed_eq (m : u.mayArm core) : u.arm core =
    match u.launchAns core with
    | .satisfied => (((u.armedCore core).tookWait (u.obj (Obj.LAUNCH_WP core))).launchCore core).ok
    | .held => (((u.armedCore core).tookWait (u.obj (Obj.LAUNCH_WP core))).addWaiter core (u.obj (Obj.LAUNCH_WP core))
        ((u.armedCore core).obj (Obj.LAUNCH_THRESH core)) .launch).ok
    | ans => ((u.armedCore core).failWait core (u.obj (Obj.LAUNCH_WP core)) .launch ans).ok := by
  have right : ¬ (u.obj (Obj.CORE_MODE core) = 0 ∧ (!u.kernelRight core) = true) := fun ⟨mode, no⟩ => by simp [(m.kernel mode).1] at no
  have entry : ¬ (u.obj (Obj.CORE_MODE core) = 0 ∧ (!bundleAddr (u.obj (Obj.ENTRY_PC core))) = true) :=
    fun ⟨mode, no⟩ => by simp [(m.kernel mode).2] at no
  have record : ¬ (u.obj (Obj.CORE_MODE core) ≠ 0 ∧ u.obj (Obj.ENTRY_PC core) % 512 ≠ 0) := fun ⟨mode, no⟩ => no (m.layers mode)
  have owner : ¬ (u.sliceOfCore core = 0xFFFF ∨ u.wpOwner (u.obj (Obj.LAUNCH_WP core)) ≠ u.sliceOfCore core) := by
    simp [m.sliced, m.owned]
  rw [State.arm]
  dsimp only
  rw [if_neg (not_not_intro m.idle), if_neg right, if_neg entry, if_neg record, if_neg owner]
  rfl

theorem State.writeCoreCtrl_arm (u : State) (core : Nat) : u.writeCoreCtrl core 1 = u.arm core := rfl

theorem State.writeCoreCtrl_reset (h : u.coreSt core ≠ .off ∧ u.coreSt core ≠ .fenced) :
    u.writeCoreCtrl core 2 = ((u.coreReset core).setCoreSt core .idle, 0) := by
  obtain ⟨off, fenced⟩ := h
  show u.resetCore core = _
  rw [State.resetCore]
  cases st : u.coreSt core with
  | off => exact absurd st off
  | fenced => exact absurd st fenced
  | _ => rfl

theorem State.writeProgGen_idle {gen : Nat} (h : u.coreSt core = .idle) : u.writeProgGen core gen =
    ((u.setObj (Obj.PROG_GEN core) gen).setCore core { u.core core with icache := [], demand := none, ahead := [] }, 0) := by
  rw [State.writeProgGen, if_neg (not_not_intro h)]
  rfl

/-! ### Layers and the seal -/

theorem State.writeLyr_idle {reg v : Nat} (h : u.coreSt core = .idle ∧ u.obj (Obj.CORE_MODE core) = 1) :
    u.writeLyr core reg v = (u.setLyr core reg v, 0) := by
  rw [State.writeLyr, if_pos h]
  rfl

theorem State.writeLyrStart_idle (h : u.coreSt core = .idle ∧ u.obj (Obj.CORE_MODE core) = 1) :
    u.writeLyrStart core 1 = (u.startLayer core, 0) := by
  rw [State.writeLyrStart, if_neg (by decide), if_pos h]
  rfl

theorem State.writeSeal_thresh {v : Nat} (h : bit (u.obj Obj.STEP_NF) 1 = false) :
    u.writeSeal Obj.SEAL_THRESH v = ((u.setObj Obj.SEAL_THRESH v).sealTest, 0) := by
  rw [State.writeSeal, if_neg (fun both => absurd both.1 (by decide)), if_neg (by simp [h]), if_pos rfl]
  rfl

end

/-- Settles O1: each command is a write of its object, and each object's own operation takes the value where its condition holds. -/
theorem coreWritesComplete : Obligations.CoreWritesComplete := by
  unfold Obligations.CoreWritesComplete
  intro s h core real
  have ctrl := objRow_coreCtrl core real
  refine ⟨?satisfied, ?held, ?reset, ?progGen, ?lyrWrite, ?lyrStart, ?sealThresh⟩
  case satisfied =>
    refine .ofUnit real rfl (by rw [ctrl]) fun u ⟨may, ans⟩ => ?_
    rw [performWrite_coreCtrl u real (by decide), State.writeCoreCtrl_arm, may.armed_eq, ans]
    rfl
  case held =>
    refine .ofUnit real rfl (by rw [ctrl]) fun u ⟨may, ans⟩ => ?_
    rw [performWrite_coreCtrl u real (by decide), State.writeCoreCtrl_arm, may.armed_eq, ans]
    rfl
  case reset =>
    refine .ofUnit real rfl (by rw [ctrl]) fun u ok => ?_
    rw [performWrite_coreCtrl u real (by decide), State.writeCoreCtrl_reset ok]
  case progGen =>
    intro gen lt
    refine .ofUnit real rfl (by rw [objRow_progGen _ real]) fun u idle => ?_
    rw [performWrite_progGen u real lt, State.writeProgGen_idle idle]
  case lyrWrite =>
    intro reg reg_lt v lt
    refine .ofUnit real (inRange_of reg_lt (Obj.LYR core reg) ▸ rfl) (by rw [objRow_lyr real reg_lt]) fun u ok => ?_
    rw [performWrite_lyr u real reg_lt lt, State.writeLyr_idle ok]
  case lyrStart =>
    refine .ofUnit real rfl (by rw [objRow_lyrStart _ real]) fun u ⟨idle, mode, _⟩ => ?_
    rw [performWrite_lyrStart u real (by decide), State.writeLyrStart_idle ⟨idle, mode⟩]
  case sealThresh =>
    intro v lt
    refine .of (n := 8) rfl (by decide) fun u unsealed => ?_
    rw [performWrite_sealThresh u lt, State.writeSeal_thresh unsealed]

end Sys2Proof.Machine
end

section
/-! PROOFS (10_fabric_routing.md). Writes of port and Chart objects. -/

namespace Sys2Proof.Machine

section
variable {u : State}

/-! ### PORT_CTRL (Table 10-10) -/

theorem State.writePortCtrl_disable (u : State) (p : Nat) : u.writePortCtrl p 0 =
    ((if u.obj (Obj.PORT_STATE p) = 0 then u else u.portOut p 0).setObj (Obj.PORT_CTRL p) 0, 0) := by
  rw [State.writePortCtrl]
  split <;> rfl

theorem State.writePortCtrl_enable (u : State) (p : Nat) : u.writePortCtrl p 1 =
    ((if u.obj (Obj.PORT_STATE p) = 0 then (u.setPortState p 1).setPort p { u.port p with trainAt := u.now } else u).setObj
      (Obj.PORT_CTRL p) 1, 0) := by
  rw [State.writePortCtrl]
  split <;> rfl

theorem State.writePortCtrl_retrain {p : Nat} (on : u.obj (Obj.PORT_STATE p) ≠ 0) : u.writePortCtrl p 2 =
    ((if u.obj (Obj.PORT_STATE p) = 2 then u.portOut p 3 else (u.setPortState p 3).setPort p { u.port p with trainAt := u.now }).setObj
      (Obj.PORT_CTRL p) 2, 0) := by
  rw [State.writePortCtrl, if_neg on]
  rfl

theorem State.writePortCtrl_swap {p : Nat} (spare : u.obj (Obj.PORT_STATE p) = 2 ∧ u.spareFree p = true) : u.writePortCtrl p 3 =
    (((u.takeSpare p (u.obj (Obj.PORT_CTRL_LANE p))).portOut p 5).setObj (Obj.PORT_CTRL p) 3, 0) := by
  rw [State.writePortCtrl, if_pos spare]
  rfl

/-! ### CHART_CTRL, CHART_LOAD and CHART_SELF (R282, R286, R302) -/

theorem State.chartBegin_closed (closed : u.chartState u.chartSel = 0) : u.chartBegin =
    ((({ u with
        txFlows := u.txFlows.filter (fun x => x.key.epoch != u.chartSel)
        rxFlows := u.rxFlows.filter (fun x => x.key.epoch != u.chartSel) } : State).setChart u.chartSel
          { u.chart u.chartSel with entries := [] }).setChartState u.chartSel 1, 0) := by
  rw [State.chartBegin, if_neg (not_not_intro closed)]
  rfl

theorem State.chartSeal_loading (loading : u.chartState u.chartSel = 1) : u.chartSeal =
    ((u.setObj Obj.CHART_DIGEST
        (if u.chartSel = 0 then u.obj Obj.CHART_DIGEST / 2 ^ 256 * 2 ^ 256 + (u.chart u.chartSel).digest
          else u.obj Obj.CHART_DIGEST % 2 ^ 256 + (u.chart u.chartSel).digest * 2 ^ 256)).setChartState u.chartSel 2, 0) := by
  rw [State.chartSeal, if_neg (not_not_intro loading)]
  rfl

theorem State.chartSwitch_sealed {close : Bool} (sealed : u.chartState u.chartSel = 2 ∧ u.switchAt = none) : u.chartSwitch close =
    (let w : PendSwitch := { chart := u.chartSel, close, time := u.obj Obj.CHART_SWITCH_AT }
      if w.time ≤ u.chr then u.performSwitch w else { u with switchAt := some w }, 0) := by
  rw [State.chartSwitch, if_neg (by simp [sealed])]
  dsimp only
  split <;> rfl

theorem State.chartAbort_inactive (inactive : u.chartState u.chartSel = 1 ∨ u.chartState u.chartSel = 2) : u.chartAbort =
    (({ u with switchAt := u.switchAt.filter (fun w => w.chart != u.chartSel) } : State).setChartState u.chartSel 0, 0) := by
  rw [State.chartAbort, if_pos inactive]
  cases pending : u.switchAt with
  | none =>
    have same : ({ u with switchAt := none } : State) = u := by rw [← pending]
    rw [Option.filter_none, same]
    rfl
  | some w =>
    by_cases own : w.chart = u.chartSel
    · rw [Option.filter_some, if_neg (by simp [own])]
      simp only [own, if_true]
      rfl
    · have same : ({ u with switchAt := some w } : State) = u := by rw [← pending]
      rw [Option.filter_some, if_pos (by simp [own]), same]
      simp only [own, if_false]
      rfl

theorem State.writeChartLoad_loading {first : Nat} {words : List Nat} (fits : first + words.length ≤ 16384)
    (loading : u.chartState u.chartSel = 1) : u.writeChartLoad first words =
      (u.setChart u.chartSel { u.chart u.chartSel with
        entries := Sparse.setRun entryReset (u.chart u.chartSel).entries first (words.map (fun w => w &&& entryMask)) }, 0) := by
  rw [State.writeChartLoad, if_neg (Nat.not_lt.mpr fits), if_neg (not_not_intro loading)]
  rfl

theorem State.writeChartSelf_loading {dev : Nat} (lt : dev < 16384) (loading : u.chartState u.chartSel = 1) :
    u.writeChartSelf dev = (u.setChart u.chartSel { u.chart u.chartSel with self := dev }, 0) := by
  rw [State.writeChartSelf, if_neg (Nat.not_le.mpr lt), if_neg (not_not_intro loading)]
  rfl

end

/-- Settles O2: each command is a write of PORT_CTRL, CHART_CTRL, CHART_LOAD or CHART_SELF that the object's own operation takes. -/
theorem fabricWritesComplete : Obligations.FabricWritesComplete := by
  unfold Obligations.FabricWritesComplete
  intro s h
  refine ⟨fun p real => ⟨?disable, ?enable, ?retrain, ?swap⟩, ?begin, ?load, ?self, ?sealing, ?switch, ?switchClose, ?abort⟩
  case disable =>
    refine .ofUnit real rfl (by rw [objRow_portCtrl _ real]) fun u _ => ?_
    rw [performWrite_portCtrl u real (by decide), State.writePortCtrl_disable]
  case enable =>
    refine .ofUnit real rfl (by rw [objRow_portCtrl _ real]) fun u _ => ?_
    rw [performWrite_portCtrl u real (by decide), State.writePortCtrl_enable]
  case retrain =>
    refine .ofUnit real rfl (by rw [objRow_portCtrl _ real]) fun u on => ?_
    rw [performWrite_portCtrl u real (by decide), State.writePortCtrl_retrain on]
  case swap =>
    refine .ofUnit real rfl (by rw [objRow_portCtrl _ real]) fun u spare => ?_
    rw [performWrite_portCtrl u real (by decide), State.writePortCtrl_swap spare]
  case load =>
    intro first words fits entries lt
    refine .of rfl fun u loading => ?_
    rw [performWrite_chartLoad u lt entries, State.writeChartLoad_loading fits loading]
  case self =>
    intro dev lt
    refine .of (n := 2) rfl (by decide) fun u loading => ?_
    rw [performWrite_chartSelf u (lt.trans (by decide)), State.writeChartSelf_loading lt loading]
  case begin =>
    refine .of (n := 1) rfl (by decide) fun u closed => ?_
    rw [performWrite_chartCtrl u (by decide)]
    exact State.chartBegin_closed closed
  case sealing =>
    refine .of (n := 1) rfl (by decide) fun u loading => ?_
    rw [performWrite_chartCtrl u (by decide)]
    exact State.chartSeal_loading loading
  case switch =>
    refine .of (n := 1) rfl (by decide) fun u sealed => ?_
    rw [performWrite_chartCtrl u (by decide)]
    exact State.chartSwitch_sealed sealed
  case switchClose =>
    refine .of (n := 1) rfl (by decide) fun u sealed => ?_
    rw [performWrite_chartCtrl u (by decide)]
    exact State.chartSwitch_sealed sealed
  case abort =>
    refine .of (n := 1) rfl (by decide) fun u inactive => ?_
    rw [performWrite_chartCtrl u (by decide)]
    exact State.chartAbort_inactive inactive

end Sys2Proof.Machine
end

section
/-! PROOFS (08_hbm_memory.md, 09_waypoints_and_chronometer.md). Writes of Sextant, Waypoint-group and Chronometer objects. -/

namespace Sys2Proof.Machine

section
variable {u : State}

theorem State.writeSxtCtrl_run (free : u.noSliceHoldsCores = true ∧ u.sextant = none) : u.writeSxtCtrl 1 =
    ((({ u with
        sextant := some { target := u.obj Obj.SXT_TARGET, axis := u.obj Obj.SXT_AXIS, full := u.obj Obj.SXT_MODE == 1, since := u.now } } :
          State).setStacks (u.obj Obj.SXT_TARGET) 3).setObj Obj.SXT_STATE 1, 0) := by
  show u.sextantRun = _
  rw [State.sextantRun, if_neg (by simp [free])]
  rfl

theorem State.writeSxtCtrl_abort {x : Sextant} (run : u.sextant = some x) : u.writeSxtCtrl 2 =
    (((({ u with sextant := none } : State).setStacks x.target 2).setObj Obj.SXT_STATE 3).releaseHeld, 0) := by
  show u.sextantAbort = _
  rw [State.sextantAbort, run]
  rfl

theorem State.writeChrSet_root {v : Nat} (lt : v < 2 ^ 64) (root : u.chrState = 4 ∧ u.noSliceHoldsCores = true) :
    u.writeChrSet v = (({ u with chr := v } : State).count 32 Obj.CHR_STEPS 1, 0) := by
  rw [State.writeChrSet, if_pos root, Nat.mod_eq_of_lt lt]
  rfl

theorem chrPortValue_lt {v : Nat} (good : chrPortValue v = true) : v < 256 := by
  simp only [chrPortValue, Bool.or_eq_true, decide_eq_true_eq, beq_iff_eq] at good
  omega

/-- A good value of CHR_PARENT_PORT: the root's, none, a first parent or another parent (R261, Table 9-6). -/
theorem State.writeChrParent_good {v : Nat} (good : chrPortValue v = true) : u.writeChrParent v =
    (let w := u.setObj Obj.CHR_PARENT_PORT v
      if v = 0xFF then w.chrMove 4
      else if v = 0xFE ∨ u.obj Obj.CHR_PARENT_PORT = 0xFF ∨ u.obj Obj.CHR_PARENT_PORT = 0xFE then
        ({ w with chrU := { w.chrU with sent := none, good := 0 } } : State).chrMove 0
      else { w with chrU := { w.chrU with sent := none } }, 0) := by
  rw [State.writeChrParent, if_neg (by simp [good])]
  dsimp only
  by_cases root : v = 0xFF
  · rw [if_pos root, if_pos root]
    rfl
  · rw [if_neg root, if_neg root]
    by_cases none : v = 0xFE
    · rw [if_pos none, if_pos (.inl none)]
      rfl
    · rw [if_neg none]
      by_cases first : u.obj Obj.CHR_PARENT_PORT = 0xFF ∨ u.obj Obj.CHR_PARENT_PORT = 0xFE
      · rw [if_pos first, if_pos (.inr first)]
        rfl
      · rw [if_neg first, if_neg (by tauto)]
        rfl

end

/-- Settles O3: each command is a write that the object's own operation takes; that of CHR_PARENT_PORT enters the journal. -/
theorem serviceWritesComplete : Obligations.ServiceWritesComplete := by
  unfold Obligations.ServiceWritesComplete
  intro s h
  refine ⟨?run, fun x => ?abort, fun group real slice range => ?group, fun v lt => ?set, fun v good => ?parent⟩
  case run =>
    refine .of (n := 1) rfl (by decide) fun u free => ?_
    rw [performWrite_sxtCtrl u (by decide), State.writeSxtCtrl_run free]
  case abort =>
    refine .of (n := 1) rfl (by decide) fun u run => ?_
    rw [performWrite_sxtCtrl u (by decide), State.writeSxtCtrl_abort run]
  case group =>
    refine .ofUnit real rfl (by rw [objRow_groupSlice _ real]) fun u free => ?_
    rw [performWrite_groupSlice_eq real range, if_neg (by simp [free])]
    rfl
  case set =>
    refine .of (n := 8) rfl (by decide) fun u root => ?_
    rw [performWrite_chrSet u lt, State.writeChrSet_root lt root]
  case parent =>
    refine .of (n := 1) rfl (by decide) fun u _ => ?_
    rw [performWrite_chrParentPort u (chrPortValue_lt good), State.writeChrParent_good good]
    rfl

end Sys2Proof.Machine
end

section
/-! PROOFS (11_collectives_and_gradients.md, 12_pipeline_mapping.md, 13_step_check_and_replay.md). Writes of context, stage, step,
restore and fence objects. -/

namespace Sys2Proof.Machine

section
variable {u : State}

theorem State.writeCtxArm_idle {n a : Nat} (lt : a < 0xC000000000) (aligned : a % 128 = 0)
    (owned : u.ctxState n = 0 ∧ u.ownerOf a ≠ 0xFFFF) : u.writeCtxArm n a = (u.ctxArm n a (u.ownerOf a) none, 0) := by
  rw [State.writeCtxArm, if_neg (not_not_intro owned.1), if_neg (not_not_intro aligned), if_neg (Nat.not_le.mpr lt), if_neg owned.2]
  rfl

theorem State.writeCtxCtrl_disarm {n : Nat} (armed : u.ctxState n = 1 ∨ u.ctxState n = 5) : u.writeCtxCtrl n 1 = (u.ctxIdle n, 0) := by
  rw [State.writeCtxCtrl, if_neg (by decide), if_pos armed]
  rfl

theorem State.writeStgCtrl_enable {k : Nat} (free : u.stageActive k = false ∧ u.stageCode k = 0) : u.writeStgCtrl k 1 =
    (u.setObjs [(Obj.STG_STATE k, 1), (Obj.ACT_HIGH k, 0), (Obj.ACT_STATUS k, 0)], 0) := by
  rw [State.writeStgCtrl, if_neg (by simp [free]), if_neg (not_not_intro free.2)]
  rfl

theorem State.writeStgCtrl_disable {k : Nat} (active : u.stageActive k = true) :
    u.writeStgCtrl k 2 = (u.setObj (Obj.STG_STATE k) 0, 0) := by
  rw [State.writeStgCtrl, if_pos active]
  rfl

theorem State.stepBegin_idle (idle : u.stepSt = 0 ∧ u.beginGood = true) : u.stepBegin =
    (let w := u.setObjs [(Obj.STEP_NUM, u.obj Obj.STEP_FIRST), (Obj.STEP_ATTEMPT, 0)];
      ({ w with fixU := { w.fixU with firstAfterBegin := true } } : State).freshWake.stepEntry 0, 0) := by
  rw [State.stepBegin, if_neg (not_not_intro idle.1), if_neg (by simp [idle])]
  rfl

theorem State.endJob_unfenced (job : u.stepSt ≠ 8) : u.endJob = (u.leaveJob, 0) := by
  rw [State.endJob, if_neg job]
  rfl

theorem State.spareRestore_standby (standby : u.stepSt = 1) : u.spareRestore =
    ((({ u with stepU := { u.stepU with spare := true, kept := [], rolled := false } } : State).setObj Obj.WAKE_STATE 3).startRestore, 0) := by
  rw [State.spareRestore, if_neg (not_not_intro standby)]
  rfl

theorem State.writeStepCtrl_standby (idle : u.stepSt = 0) : u.writeStepCtrl 4 =
    (({ u with stepU := { u.stepU with standby := u.selfId } } : State).setStepSt 1, 0) := by
  rw [State.writeStepCtrl, if_pos idle]
  rfl

theorem State.writeFenceCtrl_fence (open_ : u.obj Obj.FENCE_STATE = 0) : u.writeFenceCtrl 1 = (u.fenceModule 1 0, 0) := by
  rw [State.writeFenceCtrl, if_neg (not_not_intro open_)]
  rfl

theorem State.writeFenceCtrl_release (fenced : u.obj Obj.FENCE_STATE ≠ 0 ∧ u.power.fencePin = false) :
    u.writeFenceCtrl 2 = (u.liftFence, 0) := by
  show u.releaseFence = _
  rw [State.releaseFence, if_neg (by simp [fenced])]
  rfl

theorem State.writeFenceReq_dev {dev : Nat} (range : dev < 2 ^ 14 ∨ dev = 0xFFFF) : u.writeFenceReq dev =
    ({ (u.setObj Obj.FENCE_REQ_DEV dev).logEvent .fenceRequest 0 (srcCode 0 0) u.stepSlice dev with
      beaconDue := u.beaconDue || u.obj Obj.FENCE_REQ_DEV != dev }, 0) := by
  rw [State.writeFenceReq, if_neg (by omega)]
  rfl

end

/-- Settles O4: each command is a write that the object's own operation takes. -/
theorem jobWritesComplete : Obligations.JobWritesComplete := by
  unfold Obligations.JobWritesComplete
  intro s h
  refine ⟨fun n real => ⟨fun a lt aligned => ?arm, ?disarm⟩, fun k real => ⟨?enable, ?disable⟩, ?begin, ?endJob, ?restore, ?standby,
    ?fence, ?release, fun dev range => ?request⟩
  case arm =>
    refine .ofUnit real rfl (by rw [objRow_ctxArm _ real]) fun u owned => ?_
    rw [performWrite_ctxArm u real (by omega), State.writeCtxArm_idle lt aligned owned]
  case disarm =>
    refine .ofUnit real rfl (by rw [objRow_ctxCtrl _ real]) fun u armed => ?_
    rw [performWrite_ctxCtrl u real (by decide), State.writeCtxCtrl_disarm armed]
  case enable =>
    refine .ofUnit real rfl (by rw [objRow_stgCtrl _ real]) fun u free => ?_
    rw [performWrite_stgCtrl u real (by decide), State.writeStgCtrl_enable free]
  case disable =>
    refine .ofUnit real rfl (by rw [objRow_stgCtrl _ real]) fun u active => ?_
    rw [performWrite_stgCtrl u real (by decide), State.writeStgCtrl_disable active]
  case begin =>
    refine .of (n := 1) rfl (by decide) fun u idle => ?_
    rw [performWrite_stepCtrl u (by decide)]
    exact State.stepBegin_idle idle
  case endJob =>
    refine .of (n := 1) rfl (by decide) fun u job => ?_
    rw [performWrite_stepCtrl u (by decide)]
    exact State.endJob_unfenced job
  case restore =>
    refine .of (n := 1) rfl (by decide) fun u standby => ?_
    rw [performWrite_stepCtrl u (by decide)]
    exact State.spareRestore_standby standby
  case standby =>
    refine .of (n := 1) rfl (by decide) fun u idle => ?_
    rw [performWrite_stepCtrl u (by decide), State.writeStepCtrl_standby idle]
  case fence =>
    refine .of (n := 1) rfl (by decide) fun u open_ => ?_
    rw [performWrite_fenceCtrl u (by decide), State.writeFenceCtrl_fence open_]
  case release =>
    refine .of (n := 1) rfl (by decide) fun u fenced => ?_
    rw [performWrite_fenceCtrl u (by decide), State.writeFenceCtrl_release fenced]
  case request =>
    refine .of (n := 2) rfl (by decide) fun u _ => ?_
    rw [performWrite_fenceReqDev u (by omega), State.writeFenceReq_dev range]

end Sys2Proof.Machine
end

section
/-! PROOFS (14_fixes.md). Writes of Fix control and service objects. -/

namespace Sys2Proof.Machine

section
variable {u : State}

theorem State.fixArm_good (good : u.fixArmCode u.fixFull = 0) : u.fixArm = (u.armFix u.fixFull, 0) := by
  rw [State.fixArm]
  exact if_pos good

theorem State.fixAbandon_armed (armed : u.fixState = 1 ∨ u.fixState = 2) : u.fixAbandon = ((u.fixDiscard 5).sendPrepared 5, 0) := by
  rw [State.fixAbandon]
  rcases armed with st | st <;> rw [st] <;> rfl

theorem State.writeDrained_rising {v : Nat} (rises : u.obj Obj.FIX_DRAINED_SLOTS ≤ v) : u.writeDrained v =
    (let w := u.setObj Obj.FIX_DRAINED_SLOTS v;
      (if w.fixU.commitDue then w.fixCommit else w).post .fixTest, 0) := by
  rw [State.writeDrained, if_neg (Nat.not_lt.mpr rises)]
  rfl

/-- A commit record that FIX_APPLY takes: mapped, whole, of this device, and full or the successor of the Fix last committed (R380). -/
theorem State.fixApply_good
    (ok :
      let a := u.obj Obj.FIX_APPLY_ADDR
      let r := leNat (u.bytes (u.home a) 128)
      let w := u.noteRead 3 (u.home a) (128 + bits r 191 128)
      u.obj Obj.STEP_STATE = 0 ∧ u.fixState = 0 ∧ u.rangeMapped a 128 = true ∧ u.rangeMapped a (128 + bits r 191 128) = true ∧
        bits r 575 320 = shake256 (w.applyStream a) ∧ bits r 291 278 = w.selfId ∧
        (bit r 264 = true ∨ (bits r 31 0 = w.obj Obj.FIX_LAST_ID + 1 ∧ bits r 63 32 = w.obj Obj.FIX_BASE_ID))) :
    u.fixApply =
      (let a := u.obj Obj.FIX_APPLY_ADDR
       let w := u.noteRead 3 (u.home a) (128 + bits (leNat (u.bytes (u.home a) 128)) 191 128);
       ({ w with fixU := { w.fixU with apply := some a } } : State).setFixState 4, 0) := by
  obtain ⟨step, idle, header, stream, digest, dev, link⟩ := ok
  rw [State.fixApply]
  dsimp only
  rw [if_neg (by simp [step, idle]), if_neg (by simp [header]), if_neg (by simp [stream])]
  refine if_neg ?_
  rintro (no | no | no)
  · exact no digest
  · exact no dev
  · simp only [Bool.not_eq_true', Bool.or_eq_false_iff, Bool.and_eq_false_iff, beq_eq_false_iff_ne] at no
    rcases link with full | ⟨next, base⟩
    · simp [full] at no
    · rcases no.2 with other | other
      · exact other next
      · exact other base

/-- REBUILD of a position of the Fix last committed (R381). -/
theorem State.fixRebuild_last {last : FixLast} {n : Nat}
    (ok :
      let pos := u.obj Obj.FIX_REBUILD_POS
      u.obj Obj.STEP_STATE = 0 ∧ u.fixState = 0 ∧ pos ≤ u.fixD ∧ u.fixU.last = some last ∧ last.id = u.obj Obj.FIX_LAST_ID ∧
        last.counts.find? (fun c => c.1 == pos) = some (pos, n)) :
    u.fixRebuild = (u.startRebuild last (u.obj Obj.FIX_REBUILD_POS) n, 0) := by
  obtain ⟨step, idle, range, known, current, count⟩ := ok
  rw [State.fixRebuild]
  rw [if_neg (by simp [step, idle]), if_neg (Nat.not_lt.mpr range), known]
  simp only [count]
  exact if_pos current

end

/-- Settles O5: each command is a write that the object's own operation takes. -/
theorem fixWritesComplete : Obligations.FixWritesComplete := by
  unfold Obligations.FixWritesComplete
  intro s h
  refine ⟨?arm, ?abandon, fun v lt => ?drained, ?apply, fun last n => ?rebuild, ?commit, ?discard⟩
  case arm =>
    refine .of (n := 1) rfl (by decide) fun u good => ?_
    rw [performWrite_fixCtrl u (by decide)]
    exact State.fixArm_good good
  case abandon =>
    refine .of (n := 1) rfl (by decide) fun u armed => ?_
    rw [performWrite_fixCtrl u (by decide)]
    exact State.fixAbandon_armed armed
  case drained =>
    refine .of (n := 8) rfl (by decide) fun u rises => ?_
    rw [performWrite_fixDrainedSlots u lt, State.writeDrained_rising rises]
  case apply =>
    refine .of (n := 1) rfl (by decide) fun u ok => ?_
    rw [performWrite_fixSvc u (by decide)]
    exact State.fixApply_good ok
  case rebuild =>
    refine .of (n := 1) rfl (by decide) fun u ok => ?_
    rw [performWrite_fixSvc u (by decide)]
    exact State.fixRebuild_last ok
  case commit =>
    refine .of (n := 1) rfl (by decide) fun u unresolved => ?_
    rw [performWrite_fixSvc u (by decide)]
    exact if_pos unresolved
  case discard =>
    refine .of (n := 1) rfl (by decide) fun u unresolved => ?_
    rw [performWrite_fixSvc u (by decide)]
    exact if_pos unresolved

end Sys2Proof.Machine
end

section
/-! PROOFS (15_reserves_and_drift.md, 16_power_clocks_thermal.md). Writes of Reserve, power-domain and clock objects. -/

namespace Sys2Proof.Machine

/-! ### The fields of RSV_SWAP and PD_CTRL -/

/-- RSV_SWAP holds a core, a Reserve and the mark of a withdrawal (Table 15-6). -/
theorem rsvSwap_fields {core r : Nat} (hc : core < 128) (hr : r < 128) :
    bits (core + r * 256) 6 0 = core ∧ bits (core + r * 256) 14 8 = r ∧ bit (core + r * 256) 15 = false := by
  simp only [bits, bit, Nat.shiftRight_eq_div_pow, Nat.testBit_eq_decide_div_mod_eq, decide_eq_false_iff_not]
  omega

theorem rsvSwap_cancel_fields {core : Nat} (hc : core < 128) : bits (core + 0x8000) 6 0 = core ∧ bit (core + 0x8000) 15 = true := by
  simp only [bits, bit, Nat.shiftRight_eq_div_pow, Nat.testBit_eq_decide_div_mod_eq, decide_eq_true_eq]
  omega

/-- PD_CTRL holds a domain and an action (Table 16-4). -/
theorem pdCtrl_fields {d act : Nat} (hd : d < 128) (ha : act < 4) : bits (d + act * 256) 6 0 = d ∧ bits (d + act * 256) 9 8 = act := by
  simp only [bits, Nat.shiftRight_eq_div_pow]
  omega

theorem reservesOf_lt {core r : Nat} (m : r ∈ reservesOf (dieOfCore core)) : r < 104 := by
  simp only [reservesOf, List.mem_map, List.mem_range, reserveCore, dieOfCore] at m
  obtain ⟨i, lt, rfl⟩ := m
  split_ifs <;> omega

section
variable {u : State}

/-! ### RSV_SWAP (R390) -/

theorem State.writeRsvSwap_any {core : Nat} (real : core < 104)
    (ok : u.maySwap core = true ∧ (reservesOf (dieOfCore core)).any u.rsvFree = true) :
    u.writeRsvSwap (core + 0x7F00) = ((u.enterSwap core).findReserve core, 0) := by
  obtain ⟨low, high, keeps⟩ := rsvSwap_fields (core := core) (r := 0x7F) (by omega) (by decide)
  rw [State.writeRsvSwap, show 0x7F00 = 0x7F * 256 from rfl, low, high, keeps]
  rw [if_neg (by omega), if_neg (by decide), if_neg (by simp), if_neg (by simp [ok.1]), if_pos rfl, if_pos ok.2]
  rfl

theorem State.writeRsvSwap_named {core r : Nat} (real : core < 104) (mem : r ∈ reservesOf (dieOfCore core))
    (ok : u.maySwap core = true ∧ u.rsvFree r = true ∧ ∀ w, u.swapOf r = some w → u.needsFirst core w.core = true) :
    u.writeRsvSwap (core + r * 256) = ((u.enterSwap core).giveReserve core r, 0) := by
  obtain ⟨may, free, first⟩ := ok
  have lt := reservesOf_lt mem
  obtain ⟨low, high, keeps⟩ := rsvSwap_fields (core := core) (r := r) (by omega) (by omega)
  rw [State.writeRsvSwap, low, high, keeps]
  rw [if_neg (by omega), if_neg (by decide), if_neg (by simp [mem, free]), if_neg (by simp [may]), if_neg (by omega)]
  cases taken : u.swapOf r with
  | none => rfl
  | some w => exact if_pos (first w taken)

theorem State.writeRsvSwap_cancel {core : Nat} (real : core < 104) (queued : u.health.swaps.any (fun w => w.core == core) = true) :
    u.writeRsvSwap (core + 0x8000) = (u.cancelSwap core, 0) := by
  obtain ⟨low, cancels⟩ := rsvSwap_cancel_fields (core := core) (by omega)
  rw [State.writeRsvSwap, low, cancels]
  rw [if_neg (by omega), if_pos rfl, if_pos queued]
  rfl

/-! ### PD_CTRL (R405, R407) -/

theorem State.writePdCtrl_on {d : Nat} (real : d < 78) (ok : (d < 52 → u.pairSleeps d = false) ∧ u.pd d ≠ 4 ∧ u.staysOff = false) :
    u.writePdCtrl (d + 0x100) = (u.wakeAll d, 0) := by
  obtain ⟨awake, sound, on⟩ := ok
  obtain ⟨low, act⟩ := pdCtrl_fields (d := d) (act := 1) (by omega) (by decide)
  rw [State.writePdCtrl, show 0x100 = 1 * 256 from rfl, low, act]
  rw [if_neg (by omega), if_neg (by simpa using awake), if_neg (by simp [sound, on])]
  rfl

theorem State.writePdCtrl_off {d : Nat} (real : d < 78) (ok : (d < 52 → u.pairSleeps d = false) ∧ u.pd d ≠ 4 ∧ u.mayGoOff d = true) :
    u.writePdCtrl d = (u.domainOff d, 0) := by
  obtain ⟨awake, sound, unused⟩ := ok
  obtain ⟨low, act⟩ := pdCtrl_fields (d := d) (act := 0) (by omega) (by decide)
  simp only [Nat.zero_mul, Nat.add_zero] at low act
  rw [State.writePdCtrl, low, act]
  rw [if_neg (by omega), if_neg (by simpa using awake), if_neg (by simp [sound]), if_pos unused]
  rfl

theorem State.writePdCtrl_selfRefresh {d : Nat} (lo : 52 ≤ d) (hi : d < 64)
    (ok : u.dieFree (dieOfDomain d) = true ∧ u.pd d ≠ 4 ∧ u.staysOff = false) : u.writePdCtrl (d + 0x200) = (u.selfRefresh d, 0) := by
  obtain ⟨free, sound, on⟩ := ok
  obtain ⟨low, act⟩ := pdCtrl_fields (d := d) (act := 2) (by omega) (by decide)
  rw [State.writePdCtrl, show 0x200 = 2 * 256 from rfl, low, act]
  rw [if_neg (by simp [lo, hi]; omega), if_neg (by omega), if_neg (by simp [sound, on]), if_pos free]
  rfl

/-! ### SPARE_PRESSURE, RETIRED_MAP, CLK_CAP and POWER_CTRL (R395, R399, R410, R413) -/

theorem State.writeSparePressure_eq {v : Nat} (lt : v < 2 ^ 32) :
    u.writeSparePressure v = (u.setObjs [(Obj.SPARE_PRESSURE, v), (Obj.SPARE_PRESSURE_AT, u.chr)], 0) := by
  rw [State.writeSparePressure, Nat.mod_eq_of_lt lt]
  rfl

theorem State.writeRetiredMap_idle {v : Nat} (idle : u.obj Obj.STEP_STATE = 0) : u.writeRetiredMap v =
    (({ u with health := { u.health with retiredLost := false } } : State).setObj Obj.RETIRED_MAP (v % 2 ^ 104), 0) := by
  rw [State.writeRetiredMap, if_neg (not_not_intro idle)]
  rfl

theorem State.writeClkCap_step {die v : Nat} (le : v ≤ 4) :
    u.writeClkCap die v = ((u.setObj (Obj.CLK_CAP die) v).setRequest die 0 v, 0) := by
  rw [State.writeClkCap, if_neg (Nat.not_lt.mpr le)]
  rfl

theorem State.writePowerCtrl_restart (off : u.power.epoPin = false ∧ u.obj Obj.EPO_STATE ≠ 0) :
    u.writePowerCtrl 1 = (u.post .restart, 0) := by
  rw [State.writePowerCtrl, if_neg (by decide), if_neg (by simp [off])]
  rfl

end

/-- Settles O6: each command is a write that the object's own operation takes; RETIRED_MAP enters the journal. -/
theorem healthWritesComplete : Obligations.HealthWritesComplete := by
  unfold Obligations.HealthWritesComplete
  intro s h
  refine ⟨fun core real => ⟨?any, fun r mem => ?named, ?cancel⟩, fun v lt => ?pressure, fun v lt => ?retired,
    fun d real => ⟨?on, ?off⟩, fun i real => ?selfRefresh, fun die real v le => ?cap, ?restart⟩
  case any =>
    refine .of (n := 2) (by simp only [exec, execRsvSwap, Nat.mod_eq_of_lt (show core < 128 by omega)]; rfl) (by decide) fun u ok => ?_
    rw [performWrite_rsvSwap u (by omega), State.writeRsvSwap_any real ok]
  case named =>
    have lt := reservesOf_lt mem
    refine .of (n := 2) (by simp only [exec, execRsvSwap, Nat.mod_eq_of_lt (show core < 128 by omega),
      Nat.mod_eq_of_lt (show r < 128 by omega)]; rfl) (by decide) fun u ok => ?_
    rw [performWrite_rsvSwap u (by omega), State.writeRsvSwap_named real mem ok]
  case cancel =>
    refine .of (n := 2) (by simp only [exec, execRsvSwapCancel, Nat.mod_eq_of_lt (show core < 128 by omega)]; rfl) (by decide)
      fun u queued => ?_
    rw [performWrite_rsvSwap u (by omega), State.writeRsvSwap_cancel real queued]
  case pressure =>
    refine .of (n := 4) rfl (by decide) fun u _ => ?_
    rw [performWrite_sparePressure u lt, State.writeSparePressure_eq lt]
  case retired =>
    refine .of rfl fun u idle => ?_
    rw [performWrite_retiredMap u lt, State.writeRetiredMap_idle idle]
    rfl
  case on =>
    refine .of (n := 2) (by simp only [exec, execPdOn, Nat.mod_eq_of_lt (show d < 128 by omega)]; rfl) (by decide) fun u ok => ?_
    rw [performWrite_pdCtrl u (by omega), State.writePdCtrl_on real ok]
  case off =>
    refine .of (n := 2) (by simp only [exec, execPdOff, Nat.mod_eq_of_lt (show d < 128 by omega)]; rfl) (by decide) fun u ok => ?_
    rw [performWrite_pdCtrl u (by omega), State.writePdCtrl_off real ok]
  case selfRefresh =>
    refine .of (n := 2) (by simp only [exec, execPdSelfRefresh, Nat.mod_eq_of_lt (show 52 + i < 128 by omega)]; rfl) (by decide)
      fun u ok => ?_
    rw [performWrite_pdCtrl u (by omega), State.writePdCtrl_selfRefresh (by omega) (by omega) ok]
  case cap =>
    refine .ofUnit real rfl (by rw [objRow_clkCap _ real]) fun u _ => ?_
    rw [performWrite_clkCap u real (by omega), State.writeClkCap_step le]
  case restart =>
    refine .of (n := 1) rfl (by decide) fun u off => ?_
    rw [performWrite_powerCtrl u (by decide), State.writePowerCtrl_restart off]

end Sys2Proof.Machine
end

section
/-! PROOFS (18_dictionary_map.md, 17_management_unit.md). Clearing writes of the status words. -/

namespace Sys2Proof.Machine

/-- A clearing command of a word of a unit that the module has completes where the word's own operation takes the mask. -/
theorem ClearCompletes.ofUnit {c : Instr} {s : State} {h : Hdr} {key n i lim : Nat} {m : ClearMask} {effect : State → State}
    {sets : State → Nat → State} (real : i < lim) (hx : exec c s = clearCommand h (inRange i lim key) m sets s) (hn : (objRow key).size = n)
    (he : ∀ u, u.performWrite key (leBytes n m.mask) = (effect u, 0)) : ClearCompletes c s h key m effect sets :=
  .of (by rw [hx, inRange_of real]) hn he

/-- Settles O7: each command is the clear of its word, and the word's row gives the write's length. -/
theorem clearWritesComplete : Obligations.ClearWritesComplete := by
  unfold Obligations.ClearWritesComplete
  intro s h sets mask lt
  refine ⟨fun n real => ?arith, fun n real => ?check, fun n real => ?stack, fun n real => ?act, fun n real => ?port, ?step, ?health,
    ?pwr, ?mgmt, ?alert⟩
  case arith => exact .ofUnit real rfl (by rw [objRow_arithFlags _ real]) fun u => performWrite_arithFlags u real lt
  case check => exact .ofUnit real rfl (by rw [objRow_chkStatus _ real]) fun u => performWrite_chkStatus u real lt
  case stack => exact .ofUnit real rfl (by rw [objRow_stackHealth _ real]) fun u => performWrite_stackHealth u real lt
  case act => exact .ofUnit real rfl (by rw [objRow_actStatus _ real]) fun u => performWrite_actStatus u real lt
  case port => exact .ofUnit real rfl (by rw [objRow_portHealth _ real]) fun u => performWrite_portHealth u real lt
  case step => exact .of rfl (by decide) fun u => performWrite_stepStatus u lt
  case health => exact .of rfl (by decide) fun u => performWrite_moduleHealth u lt
  case pwr => exact .of rfl (by decide) fun u => performWrite_pwrStatus u lt
  case mgmt => exact .of rfl (by decide) fun u => performWrite_mgmtStatus u lt
  case alert => exact .of rfl (by decide) fun u => performWrite_alertSummary u lt

end Sys2Proof.Machine
end

section
/-! PROOFS (17_management_unit.md, 18_dictionary_map.md, 19_host_link.md). Writes of slice, defaults, connection, host-port and key
objects. -/

namespace Sys2Proof.Machine

section
variable {u : State}

/-! ### Slices and defaults (R450, R451, R454) -/

theorem State.assign_good {n : Nat}
    (ok : u.slotAssigned n = false ∧ u.sliceValues n = true ∧ u.sliceCoresFree n = true ∧ u.chrU.everSync = true) :
    u.assign n = (u.setObj (Obj.SLICE_STATE n) 1, 0) := by
  obtain ⟨free, values, cores, sync⟩ := ok
  rw [State.assign, if_neg (by simp [free]), if_neg (by simp [values]), if_neg (by simp [cores]), if_neg (by simp [sync])]
  rfl

theorem State.releaseSlice_unused {n : Nat} (ok : u.slotAssigned n = true ∧ u.sliceBusy n = false) :
    u.releaseSlice n = (u.freeSlice n, 0) := by
  rw [State.releaseSlice, if_neg (by simp [ok])]
  rfl

theorem State.writeDictDefaults_request (idle : u.obj Obj.STEP_STATE = 0) :
    u.writeDictDefaults 1 = (u.setObj Obj.DICT_DEFAULTS_PENDING 1, 0) := by
  rw [State.writeDictDefaults, if_neg (not_not_intro idle)]
  rfl

theorem State.writeDictDefaults_withdraw (pending : u.obj Obj.DICT_DEFAULTS_PENDING ≠ 0) :
    u.writeDictDefaults 2 = (u.setObj Obj.DICT_DEFAULTS_PENDING 0, 0) := by
  rw [State.writeDictDefaults, if_neg pending]
  rfl

/-! ### Connections and host ports (R464, R472) -/

theorem State.qpOpen_good {k : Nat}
    (ok : u.obj (Obj.QP_STATE k) = 0 ∧ u.obj (Obj.QP_SLICE_SLOT k) < 8 ∧ u.slotAssigned (u.obj (Obj.QP_SLICE_SLOT k)) = true ∧
      ((u.progRange k).2 = 0 ∨ ((u.progRange k).1 + (u.progRange k).2 ≤ 0xC000000000 ∧
        u.hbmOwnedBy (u.connSlice k) (u.progRange k).1 (u.progRange k).2 = true)) ∧
      3 ≤ u.mtuCode k ∧ u.mtuCode k ≤ 5 ∧ 1 ≤ u.rdAtomic k ∧ u.rdAtomic k ≤ 16) :
    u.qpOpen k = ((u.setConn k { u.conn k with
      rate := hostRate, cnpSent := none, cnpAt := u.now, unbind := false, replays := []
      expPsn := bits (u.obj (Obj.QP_REMOTE k)) 215 192 }).setObj (Obj.QP_STATE k) 1, 0) := by
  obtain ⟨closed, slot, assigned, prog, mtuLo, mtuHi, rdLo, rdHi⟩ := ok
  have progOk : ((u.progRange k).2 == 0 || (decide ((u.progRange k).1 + (u.progRange k).2 ≤ 0xC000000000) &&
      u.hbmOwnedBy (u.connSlice k) (u.progRange k).1 (u.progRange k).2)) = true := by simpa using prog
  rw [State.qpOpen]
  dsimp only
  rw [progOk, if_neg (not_not_intro closed), if_neg (by simp [assigned]; omega), if_neg (by simp; omega)]
  rfl

theorem State.writeHostPortCtrl_off (u : State) (p : Nat) : u.writeHostPortCtrl p 0 =
    (u.setObjs [(Obj.HOST_PORT_CTRL p, 0), (Obj.HOST_PORT_STATE p, 0)], 0) := rfl

theorem State.writeHostPortCtrl_on (u : State) (p : Nat) : u.writeHostPortCtrl p 1 =
    (if u.obj (Obj.HOST_PORT_STATE p) = 0 ∧ u.pd 68 = 2 then
      u.setObjs [(Obj.HOST_PORT_CTRL p, 1), (Obj.HOST_PORT_STATE p, 1)] else u.setObj (Obj.HOST_PORT_CTRL p) 1, 0) := by
  have domain : (u.setObj (Obj.HOST_PORT_CTRL p) 1).pd 68 = u.pd 68 :=
    State.obj_setObj_other u (by simp only [Obj.PD_STATE, Obj.HOST_PORT_CTRL]; omega)
  rw [State.writeHostPortCtrl]
  rw [domain]
  split <;> rfl

/-! ### Role keys (R430) -/

theorem State.writeKey_good {role : Nat} {l : List Byte} (length : l.length = 32)
    (between : role = 2 → u.obj Obj.STEP_STATE < 2 ∨ 7 < u.obj Obj.STEP_STATE) : u.writeKey role l =
      ({ u.count 32 Obj.KEY_CHANGES 1 with hmu := { u.hmu with keyDue := some (role, l) } }, 0) := by
  have free : ¬ (role = 2 ∧ 2 ≤ u.obj Obj.STEP_STATE ∧ u.obj Obj.STEP_STATE ≤ 7) := fun ⟨job, lo, hi⟩ => by
    have := between job
    omega
  rw [State.writeKey, if_neg (not_not_intro length), if_neg free]
  rfl

/-- The keys of Observer and Operator are kept in flash, that of Job is not. -/
theorem State.performWrite_key {role : Nat} {l : List Byte} (lt : role < 3) (length : l.length = 32) {v : State}
    (good : u.writeKey role l = (v, 0)) :
    u.performWrite (Obj.KEY_OBSERVER + role) l = (if role = 2 then v else v.flashWrite, 0) := by
  have fits : lengthFits (Obj.KEY_OBSERVER + role) l.length = true := by
    rw [length]
    interval_cases role <;> decide
  have fitted : u.writeFitted (Obj.KEY_OBSERVER + role) l = (v, 0) := by
    rw [← good]
    interval_cases role <;> rfl
  have plain : (objRow (Obj.KEY_OBSERVER + role)).acc ≠ .rwp := by interval_cases role <;> decide
  have kept : keptKey (Obj.KEY_OBSERVER + role) = decide (role ≠ 2) := by interval_cases role <;> decide
  rw [State.performWrite, fits, fitted, kept]
  simp only [Bool.not_true, Bool.false_eq_true, if_false, plain, and_false, true_and, decide_eq_true_eq]
  by_cases job : role = 2
  · rw [if_neg (not_not_intro job), if_pos job]
  · rw [if_pos job, if_neg job]
    rfl

/-- A command that writes the whole bytes of an object of one of several units completes where the object's operation takes them. -/
theorem BlobCompletes.ofUnit {c : Instr} {s : State} {h : Hdr} {key i lim : Nat} {l : List Byte} {ok : State → Prop}
    {effect : State → State} (real : i < lim) (hx : exec c s = settled (.next (s.blobCommand h (inRange i lim key) l)))
    (he : ∀ u, ok u → u.performWrite key l = (effect u, 0)) : BlobCompletes c s h key l ok effect :=
  .of (by rw [hx, inRange_of real]) he

end

/-- Settles O8: each command is a write that the object's own operation takes. -/
theorem sliceWritesComplete : Obligations.SliceWritesComplete := by
  unfold Obligations.SliceWritesComplete
  intro s h
  refine ⟨fun n real => ⟨?assign, ?release⟩, ?defaults, ?withdraw, fun k real => ⟨?opens, ?closes⟩, fun p real => ⟨?off, ?on⟩,
    fun role lt l length => ?key⟩
  case assign =>
    refine .ofUnit real rfl (by rw [objRow_sliceCtrl _ real]) fun u ok => ?_
    rw [performWrite_sliceCtrl u real (by decide)]
    exact State.assign_good ok
  case release =>
    refine .ofUnit real rfl (by rw [objRow_sliceCtrl _ real]) fun u ok => ?_
    rw [performWrite_sliceCtrl u real (by decide)]
    exact State.releaseSlice_unused ok
  case defaults =>
    refine .of (n := 1) rfl (by decide) fun u idle => ?_
    rw [performWrite_dictDefaults u (by decide), State.writeDictDefaults_request idle]
  case withdraw =>
    refine .of (n := 1) rfl (by decide) fun u pending => ?_
    rw [performWrite_dictDefaults u (by decide), State.writeDictDefaults_withdraw pending]
  case opens =>
    refine .ofUnit real rfl (by rw [objRow_qpCtrl _ real]) fun u ok => ?_
    rw [performWrite_qpCtrl u real (by decide)]
    exact State.qpOpen_good ok
  case closes =>
    refine .ofUnit real rfl (by rw [objRow_qpCtrl _ real]) fun u _ => ?_
    rw [performWrite_qpCtrl u real (by decide)]
    rfl
  case off =>
    refine .ofUnit real rfl (by rw [objRow_hostPortCtrl _ real]) fun u _ => ?_
    rw [performWrite_hostPortCtrl u real (by decide), State.writeHostPortCtrl_off]
  case on =>
    refine .ofUnit real rfl (by rw [objRow_hostPortCtrl _ real]) fun u _ => ?_
    rw [performWrite_hostPortCtrl u real (by decide), State.writeHostPortCtrl_on]
  case key =>
    exact .ofUnit (lt.trans (by decide : 3 < 4)) rfl fun u between => State.performWrite_key lt length (State.writeKey_good length between)

end Sys2Proof.Machine
end

section
/-! PROOFS (20_start_up_and_firmware.md). Writes of firmware, record, attestation and self-test objects. -/

namespace Sys2Proof.Machine

/-! ### Objects whose writes are long (R482, R483) -/

theorem State.performWrite_fwChunk (u : State) {l : List Byte} (length : l.length = 2048) :
    u.performWrite Obj.FW_CHUNK l = u.writeFwChunk l := by
  have fits : lengthFits Obj.FW_CHUNK l.length = true := by
    rw [length]
    decide
  have plain : (objRow Obj.FW_CHUNK).acc ≠ .rwp := by decide
  rw [State.performWrite, fits, show u.writeFitted Obj.FW_CHUNK l = u.writeFwChunk l by simp [State.writeFitted], show keptKey Obj.FW_CHUNK = false by decide]
  simp [plain]

theorem State.performWrite_cfgChunk (u : State) {l : List Byte} (length : l.length = 256) :
    u.performWrite Obj.CFG_CHUNK l = u.writeCfgChunk l := by
  have fits : lengthFits Obj.CFG_CHUNK l.length = true := by
    rw [length]
    decide
  have plain : (objRow Obj.CFG_CHUNK).acc ≠ .rwp := by decide
  rw [State.performWrite, fits, show u.writeFitted Obj.CFG_CHUNK l = u.writeCfgChunk l by simp [State.writeFitted], show keptKey Obj.CFG_CHUNK = false by decide]
  simp [plain]

section
variable {u : State}

/-! ### The firmware's update (R482) -/

theorem State.fwBegin_ready (ready : u.fwState = 0 ∨ u.fwState = 4 ∨ u.fwState = 5 ∨ u.fwState = 6) : u.fwBegin =
    (({ u with fw := { u.fw with staging := [] } } : State).setObjs [(Obj.FW_OFFSET, 0), (Obj.FW_STAGED_DIGEST, 0), (Obj.FW_STATE, 1)],
      0) := by
  rw [State.fwBegin, if_pos ready]
  rfl

theorem State.writeFwChunk_receiving {l : List Byte} (ok : u.fwState = 1 ∧ u.obj Obj.FW_OFFSET + 2048 ≤ 6291456) : u.writeFwChunk l =
    (let staging := Sparse.set (fun _ => List.replicate 2048 0#8) u.fw.staging (u.obj Obj.FW_OFFSET / 2048) l;
      ({ u with fw := { u.fw with staging } } : State).setObj Obj.FW_OFFSET (u.obj Obj.FW_OFFSET + 2048), 0) := by
  rw [State.writeFwChunk, if_neg (Nat.not_lt.mpr ok.2), if_neg (not_not_intro ok.1)]
  rfl

theorem State.fwVerify_receiving (receiving : u.fwState = 1) : u.fwVerify =
    (let b := u.stagedBytes;
      let w := u.setObj Obj.FW_STAGED_DIGEST (if imageLength b ≤ 6291200 then leNat (imageDigest b) else 0);
      if w.imageGood b then w.setObj Obj.FW_STATE 2 else w.setObjs [(Obj.FW_STATE, 5), (Obj.FW_LAST_ERROR, 0x080A)], 0) := by
  rw [State.fwVerify, if_neg (not_not_intro receiving)]
  exact (apply_ite State.ok _ _ _).symm

theorem State.fwCommit_verified (verified : u.fwState = 2) :
    u.fwCommit = (({ u with fw := { u.fw with flash := .torn } } : State).setObj Obj.FW_STATE 3, 0) := by
  rw [State.fwCommit, if_neg (not_not_intro verified)]
  rfl

theorem State.fwActivate_idle (idle : u.fwState = 4 ∧ u.noSliceHoldsCores = true ∧ u.obj Obj.STEP_STATE = 0) :
    u.fwActivate = (u.post .restart, 0) := by
  rw [State.fwActivate, if_pos idle]
  rfl

theorem State.fwCancel_pending (pending : u.fwState = 1 ∨ u.fwState = 2) : u.fwCancel = (u.setObj Obj.FW_STATE 0, 0) := by
  rw [State.fwCancel, if_pos pending]
  rfl

/-! ### The record, the report and the self-test (R481, R483, R485) -/

theorem slice_all {l : List Byte} {n : Nat} (length : l.length = n) : slice l 0 n = l := by
  simp [slice, ← length]

theorem State.writeCfgChunk_half {l : List Byte} (length : l.length = 256) : u.writeCfgChunk l =
    (let buffer := u.fw.buffer.take (u.obj Obj.CFG_OFFSET) ++ l ++ u.fw.buffer.drop (u.obj Obj.CFG_OFFSET + 256);
      ({ u with fw := { u.fw with buffer } } : State), 0) := by
  rw [State.writeCfgChunk, slice_all length]
  rfl

theorem State.cfgApply_good
    (ok : u.recordGood u.fw.buffer = true ∧ (u.fw.inForce = true → u.obj Obj.CFG_SEQ < recordSeq u.fw.buffer) ∧
      u.obj Obj.PUF_STATUS ≠ 2) :
    u.cfgApply =
      (let r := u.fw.buffer;
        let fw := if u.recordChoice = some true then { u.fw with copy1 := r } else { u.fw with copy0 := r };
        (({ u with fw, hmu := { u.hmu with keyDue := some (3, u.unwrap r) } } : State).showRecord r).flashWrite, 0) := by
  obtain ⟨good, newer, puf⟩ := ok
  have fresh : ¬ (u.fw.inForce = true ∧ recordSeq u.fw.buffer ≤ u.obj Obj.CFG_SEQ) := fun ⟨inForce, old⟩ =>
    absurd (newer inForce) (Nat.not_lt.mpr old)
  rw [State.cfgApply]
  dsimp only
  rw [if_neg (by simp [good]), if_neg fresh, if_neg puf]
  rfl

theorem State.writeAttCtrl_ready (ready : u.obj Obj.PUF_STATUS ≠ 2 ∧ u.obj Obj.ATT_STATE ≠ 1) : u.writeAttCtrl 1 =
    (({ u with fw := { u.fw with report := u.reportBytes } } : State).setObj Obj.ATT_STATE 1, 0) := by
  rw [State.writeAttCtrl, if_neg (by decide), if_neg (by simp [ready])]
  rfl

theorem State.writeBistCtrl_free
    (ok : u.obj Obj.BIST_STATE ≠ 1 ∧
      ∀ n ∈ u.bistTargets, (u.coreSt n = .idle ∨ u.coreSt n = .off) ∧ (u.slotOfCore n).isNone = true) :
    u.writeBistCtrl 1 =
      ((u.bistTargets.foldl (fun (t : State) n => t.setCoreSt n .off)
        { u with fw := { u.fw with bist := u.bistTargets.map (fun n => (n, (u.coreSt n).code)) } }).setObj Obj.BIST_STATE 1, 0) := by
  obtain ⟨still, targets⟩ := ok
  have free : u.bistTargets.all (fun n => (u.coreSt n == .idle || u.coreSt n == .off) && (u.slotOfCore n).isNone) = true :=
    List.all_eq_true.mpr fun n m => by simpa using targets n m
  rw [State.writeBistCtrl]
  dsimp only
  rw [if_neg (by decide), free, if_neg (by simp [still])]
  rfl

end

/-- Settles O9: each command is a write that the object's own operation takes. -/
theorem serviceRecordWritesComplete : Obligations.ServiceRecordWritesComplete := by
  unfold Obligations.ServiceRecordWritesComplete
  intro s h
  refine ⟨?begin, fun l length => ?chunk, ?verify, ?commit, ?activate, ?cancel, ?record, fun l length => ?half, ?apply, ?report, ?bist⟩
  case begin =>
    refine .of (n := 1) rfl (by decide) fun u ready => ?_
    rw [performWrite_fwCtrl u (by decide)]
    exact State.fwBegin_ready ready
  case chunk =>
    refine .of rfl fun u ok => ?_
    rw [State.performWrite_fwChunk u length]
    exact State.writeFwChunk_receiving ok
  case verify =>
    refine .of (n := 1) rfl (by decide) fun u receiving => ?_
    rw [performWrite_fwCtrl u (by decide)]
    exact State.fwVerify_receiving receiving
  case commit =>
    refine .of (n := 1) rfl (by decide) fun u verified => ?_
    rw [performWrite_fwCtrl u (by decide)]
    exact State.fwCommit_verified verified
  case activate =>
    refine .of (n := 1) rfl (by decide) fun u idle => ?_
    rw [performWrite_fwCtrl u (by decide)]
    exact State.fwActivate_idle idle
  case cancel =>
    refine .of (n := 1) rfl (by decide) fun u pending => ?_
    rw [performWrite_fwCtrl u (by decide)]
    exact State.fwCancel_pending pending
  case record =>
    refine .of (n := 1) rfl (by decide) fun u _ => ?_
    rw [performWrite_cfgCtrl u (by decide)]
    rfl
  case half =>
    refine .of rfl fun u _ => ?_
    rw [State.performWrite_cfgChunk u length]
    exact State.writeCfgChunk_half length
  case apply =>
    refine .of (n := 1) rfl (by decide) fun u ok => ?_
    rw [performWrite_cfgCtrl u (by decide)]
    exact State.cfgApply_good ok
  case report =>
    refine .of (n := 1) rfl (by decide) fun u ready => ?_
    rw [performWrite_attCtrl u (by decide)]
    exact State.writeAttCtrl_ready ready
  case bist =>
    refine .of (n := 1) rfl (by decide) fun u ok => ?_
    rw [performWrite_bistCtrl u (by decide)]
    exact State.writeBistCtrl_free ok

end Sys2Proof.Machine
end

section
/-! PROOFS (05_core_bundles.md). Commands of a core's issue. -/

namespace Sys2Proof.Machine

theorem withCore_real {s : State} {core : Nat} {o : Out} (real : core < 104) : withCore s core o = o := if_pos real

section
variable {s : State} {core : Nat} (real : core < 104)
include real

theorem exec_ldaWriteback {d n : Nat} {v : AddrReg} {rest : List (Nat × AddrReg × Nat)} (oldest : (s.core core).lda = (d, v, n) :: rest) :
    exec (.ldaWriteback core) s = .next (s.setCore core { (s.core core).setReg d v.toNat with lda := rest }) := by
  show withCore s core _ = _
  rw [withCore_real real, oldest]

/-- A line that issue waits for and that is of the program's generation is in the cache then (R147, R160). -/
theorem doLineFill_demanded {line : Nat} (demand : (s.core core).demand = some line) {u : State}
    (hu : (s.noteRead 0 (line * 512) 512).noteRead 0 (line * 512 / 65536 * 65536) 64 = u)
    (gen : leNat (u.bytes (line * 512 / 65536 * 65536) 4) = u.obj (Obj.PROG_GEN core)) :
    doLineFill core s = .next ((u.setCore core { s.core core with demand := none }).fillLine core line (u.obj (Obj.PROG_GEN core))) := by
  rw [doLineFill, withCore_real real]
  simp only [demand, hu, gen, if_true]

/-! ### The release buffer's oldest entry (R150, R151) -/

section
variable {e : RelEntry} {r : List RelEntry} (oldest : (s.core core).rel = e :: r) (before : (s.core core).allBefore e.tag = true)
  (free : s.frameWaits s.selfId = false)
include oldest before free

theorem doReleaseBufferPerform_add {wp v : Nat} (kind : e.kind = .add wp v) : doReleaseBufferPerform core s =
    .next ((s.setCore core { s.core core with rel := r }).post
      (.wp { asker := .core core 5, slice := s.sliceOfCore core, wp, kind := .add v })) := by
  rw [doReleaseBufferPerform, withCore_real real]
  simp only [oldest, before, free, kind, Bool.not_true, Bool.or_self, Bool.false_eq_true, if_false]

theorem doReleaseBufferPerform_set {wp v : Nat} (kind : e.kind = .set wp v) : doReleaseBufferPerform core s =
    .next ((s.setCore core { s.core core with rel := r }).post
      (.wp { asker := .core core 5, slice := s.sliceOfCore core, wp, kind := .set v })) := by
  rw [doReleaseBufferPerform, withCore_real real]
  simp only [oldest, before, free, kind, Bool.not_true, Bool.or_self, Bool.false_eq_true, if_false]

theorem doReleaseBufferPerform_addRemote {dev wp v : Nat} (kind : e.kind = .addRemote dev wp v) : doReleaseBufferPerform core s =
    .next (((s.setCore core { s.core core with rel := r }).setCore core { s.core core with rel := r, remote := (s.core core).remote + 1 }).inject
      (.remoteAdd core (s.core core).resets) none (remoteAddFrame core dev wp v (s.sliceOfCore core % 2 ^ 12))) := by
  rw [doReleaseBufferPerform, withCore_real real]
  simp only [oldest, before, free, kind, Bool.not_true, Bool.or_self, Bool.false_eq_true, if_false, State.core_setCore, if_true]

theorem doReleaseBufferPerform_addTimed {wp v t : Nat} (kind : e.kind = .addTimed wp v t) (own : s.wpCode (s.sliceOfCore core) wp = 0)
    (room : s.timed.length < timedSlots) : doReleaseBufferPerform core s =
      .next ((s.setCore core { s.core core with rel := r }).registerTimed { wp, value := v, time := t, slice := s.sliceOfCore core }) := by
  rw [doReleaseBufferPerform, withCore_real real]
  simp only [oldest, before, free, kind, own, Nat.not_le.mpr room, Bool.not_true, Bool.or_self, Bool.false_eq_true, if_false, ne_eq, not_true]

theorem doReleaseBufferPerform_done {wp v : Nat} (kind : e.kind = .done wp v) (own : s.wpCode (s.sliceOfCore core) wp = 0) :
    doReleaseBufferPerform core s =
      .next (let idle := ((s.setCore core { s.core core with rel := r }).setCore core
          { s.core core with rel := r, hold := .none, loops := [] }).setCoreSt core .idle
        if v = 0 then idle else idle.post (.wp { asker := .core core 5, slice := s.sliceOfCore core, wp, kind := .add v })) := by
  rw [doReleaseBufferPerform, withCore_real real]
  simp only [oldest, before, free, kind, own, Bool.not_true, Bool.or_self, Bool.false_eq_true, if_false, ne_eq, not_true, State.core_setCore, if_true]
  split <;> rfl

end
end

/-- Settles O10: each command meets the case of its own that the hypotheses pick out, and what it has set going follows. -/
theorem issueCompletes : Obligations.IssueCompletes := by
  unfold Obligations.IssueCompletes
  intro s core real
  refine ⟨fun b runs program layer hold cached may => ?_, fun d v n rest oldest => exec_ldaWriteback real oldest,
    fun line demand => ?_, fun e r oldest before free => ⟨fun wp v kind => ?_, fun wp v kind => ?_, fun dev wp v kind => ?_,
      fun wp v t kind own room => ?_, fun wp v kind own => ?_⟩⟩
  · exact State.Issues.exec_eq { may with real, runs, program, layer, hold, cached }
  · intro u gen
    exact congrArg settled (doLineFill_demanded real demand rfl gen)
  · exact congrArg settled (doReleaseBufferPerform_add real oldest before free kind)
  · exact congrArg settled (doReleaseBufferPerform_set real oldest before free kind)
  · exact congrArg settled (doReleaseBufferPerform_addRemote real oldest before free kind)
  · exact congrArg settled (doReleaseBufferPerform_addTimed real oldest before free kind own room)
  · exact congrArg settled (doReleaseBufferPerform_done real oldest before free kind own)

end Sys2Proof.Machine
end

section
/-! PROOFS (03_matrix_array.md). Commands of the matrix array. -/

namespace Sys2Proof.Machine

/-- An array whose weights stream is not one that waits for its checksum weights. -/
theorem ArrayUnit.not_waits_of_canStream {a : ArrayUnit} (can : a.canStream = true) : (a.fresh && !a.ready) = false := by
  have weights := (Bool.and_eq_true_iff.mp can).1
  cases fresh : a.fresh <;> simp_all

section
variable {s : State} {core : Nat} (real : core < 104)
include real

theorem doMcfg_valid {op : MatOp} (head : (s.core core).matHead .mcfg = some op) (fits : op.off + 32 ≤ spSize)
    (valid : (MatCfg.ofBytes (s.spBytes core op.off 32)).2 = true) : doMcfg core s =
      .next (((s.noteRead 0 (spBase core + op.off) 32).setCore core
        ((s.core core).matDone { (s.core core).array with pend := (MatCfg.ofBytes (s.spBytes core op.off 32)).1 })).progressed core) := by
  rw [doMcfg, withCore_real real]
  simp only [head, Nat.not_lt.mpr fits, valid, if_false, if_true]

theorem doMwld_valid {op : MatOp} (head : (s.core core).matHead .mwld = some op) (format : (s.core core).array.pend.opfmtOk = true)
    (arrangement : (s.core core).array.pend.arrOk = true) (fits : (s.core core).array.pend.loadEnd op.off ≤ spSize)
    (scales : (s.core core).array.pend.bMx = true → (s.core core).array.pend.scaleEnd op.soff ≤ spSize) : doMwld core s =
      .next (((s.noteSpans 0 ((s.core core).array.pend.loadSpans (spBase core + op.off) (spBase core + op.soff))).setCore core
        ((s.core core).matDone { (s.core core).array with
          shadow := loadBank s core op (s.core core).array.pend (s.core core).array.shadow, fresh := true, ready := false })).progressed
        core) := by
  have valid : ((s.core core).array.pend.opfmtOk && (s.core core).array.pend.arrOk &&
      decide ((s.core core).array.pend.loadEnd op.off ≤ spSize) &&
      (!(s.core core).array.pend.bMx || decide ((s.core core).array.pend.scaleEnd op.soff ≤ spSize))) = true := by
    cases mx : (s.core core).array.pend.bMx <;> simp_all
  rw [doMwld, withCore_real real]
  simp only [head, valid, if_true]

theorem exec_checksumWeightsReady (fresh : (s.core core).array.fresh = true) (unready : (s.core core).array.ready = false) :
    exec (.checksumWeightsReady core) s = .next ((s.setCore core { s.core core with array := { (s.core core).array with
      shadow := if (s.core core).array.shadow.undef then (s.core core).array.shadow
        else (s.core core).array.shadow.formed (s.core core).array.shadow.cfg,
      ready := true } }).progressed core) := by
  show withCore s core _ = _
  rw [withCore_real real]
  simp only [fresh, unready, Bool.not_false, Bool.and_self, if_true]

theorem doMstr_streams {op : MatOp} (head : (s.core core).matHead .mstr = some op) (can : (s.core core).array.canStream = true)
    (valid : streams op (s.core core).array.turned (s.core core).array.turned.openTile = true) :
    doMstr core s = .next (s.streamStep core op (s.core core).array.turned (s.core core).array.turned.openTile) := by
  rw [doMstr, withCore_real real]
  simp only [head, ArrayUnit.not_waits_of_canStream can, can, valid, if_true, Bool.false_eq_true, Bool.not_true, if_false]

theorem exec_mcls_open {op : MatOp} {t : Tile} (head : (s.core core).matHead .mcls = some op) (open_ : (s.core core).array.tile = some t) :
    exec (.mcls core) s = .next ((s.setCore core ((s.core core).matDone { (s.core core).array with
      tile := none, drain := (s.core core).array.drain ++ [{ tile := t, off := op.off, tag := op.tag }] })).progressed core) := by
  show withCore s core _ = _
  rw [withCore_real real]
  simp only [head, open_]

theorem doDrain_drains {d : Closed} {rest : List Closed} {errors : List StoredError} (oldest : (s.core core).array.drain = d :: rest)
    (valid : drains d = true) : doDrain core errors s =
      .next ((((s.strikes errors).setCore core { s.core core with array := { (s.core core).array with drain := rest } }).progressed
        core).drainTile core d) := by
  rw [doDrain, withCore_real real]
  simp only [oldest, valid, if_true]

end

/-- Settles O11: each command meets the case of its own that the hypotheses pick out. -/
theorem arrayCompletes : Obligations.ArrayCompletes := by
  unfold Obligations.ArrayCompletes
  intro s core real c a
  refine ⟨fun op head fits valid => ?_, fun op head format arrangement fits scales => ?_, exec_checksumWeightsReady real,
    fun op head can valid => ?_, fun op t => exec_mcls_open real, fun d rest errors oldest valid => ?_, fun r => ?_⟩
  · exact congrArg settled (doMcfg_valid real head fits valid)
  · exact congrArg settled (doMwld_valid real head format arrangement fits scales)
  · exact congrArg settled (doMstr_streams real head can valid)
  · exact congrArg settled (doDrain_drains real oldest valid)
  · show withCore s core _ = _
    rw [withCore_real real]
    split <;> rfl

end Sys2Proof.Machine
end

section
/-! PROOFS (05_core_bundles.md). Commands of a core's vector unit, layers, DMA engines and watchdogs. -/

namespace Sys2Proof.Machine

section
variable {s : State} {core : Nat} (real : core < 104)
include real

/-! ### The vector unit (R100–R102, R121–R124) -/

theorem State.mayChain.doChainStart_eq {ch : Chain} {c : Core} (m : s.mayChain core ch c) :
    doChainStart core s = .next ((s.setCore core c).runChain core ch) := by
  have sealable : ((ChainDesc.of ch.desc).gate && ch.unsealable) = false := by
    cases gate : (ChainDesc.of ch.desc).gate with
    | false => rfl
    | true => exact (m.gated gate).1
  have sealed_ : ((ChainDesc.of ch.desc).gate && !bit (s.obj Obj.STEP_NF) 1) = false := by
    cases gate : (ChainDesc.of ch.desc).gate with
    | false => rfl
    | true => simp [(m.gated gate).2]
  rw [doChainStart, withCore_real real]
  simp only [m.open_, m.next, m.ok, m.free, sealable, sealed_, Option.isSome_none, Bool.true_and, Bool.false_eq_true, if_false]

theorem doGatedUpdate_chain {ch : Chain} (sealed_ : bit (s.obj Obj.STEP_NF) 1 = true) (gate : (s.core core).vec.gate = some ch)
    (free : chainConflicts ((ChainDesc.of ch.desc).under (bit (s.obj Obj.STEP_NF) 0)) (s.core core).vec.running = false) :
    doGatedUpdate core s = .next ((s.countFree 64 (Obj.GATE_WAIT_CYCLES core) 0).runChain core ch) := by
  rw [doGatedUpdate, withCore_real real]
  simp only [sealed_, gate, free, Bool.not_true, Bool.false_eq_true, if_false]

theorem doGatedUpdate_layer (sealed_ : bit (s.obj Obj.STEP_NF) 1 = true) (gate : (s.core core).vec.gate = none)
    (layer : (s.core core).layer = .gated) :
    doGatedUpdate core s = .next ((s.countFree 64 (Obj.GATE_WAIT_CYCLES core) 0).performLayer core) := by
  rw [doGatedUpdate, withCore_real real]
  simp only [sealed_, gate, layer, Bool.not_true, Bool.false_eq_true, if_false]

theorem doChainComplete_running {r : ChainRun} {rest : List ChainRun} (running : (s.core core).vec.running = r :: rest) :
    doChainComplete core s = .next (
      let d := ChainDesc.of r.chain.desc;
      let u := (s.setCore core { s.core core with vec := { (s.core core).vec with running := rest } }).progressed core;
      let v := ((u.count 64 (Obj.CHAINS_DONE core) 1).count 64 (Obj.ELEM_CYCLES core) r.cycles).countFree 64 (Obj.PORT_WAIT_CYCLES core) 0;
      let w := v.flagEvent core r.flags;
      if d.doneEn then w.postCoreWp core d.doneWp (.add 1) else w) := by
  rw [doChainComplete, withCore_real real]
  simp only [running]

/-! ### Layers (R168–R170, R182) -/

theorem doRecordLoad_owned {a : Nat} (layer : (s.core core).layer = .loading a) (mapped : s.rangeMapped a 512 = true) (hbm : a < 0xC000000000)
    (sliced : s.sliceOfCore core ≠ 0xFFFF) (owned : s.hbmOwnedBy (s.sliceOfCore core) a 512 = true) : doRecordLoad core s = .next (
      let u := s.noteRead 0 a 512;
      let w := (u.setRecord core (u.bytes a 512)).setObj (Obj.CUR_RECORD core) a;
      (w.setCore core { w.core core with pc := a }).startLayer core) := by
  rw [doRecordLoad, withCore_real real]
  simp only [layer, mapped, owned, sliced, Nat.not_le.mpr hbm, Bool.not_true, Bool.false_or, decide_false, Bool.false_eq_true, or_self, if_false]

theorem doLayerComplete_done (layer : (s.core core).layer = .worked 0) (written : s.writeWaits (.layer core) = false) :
    doLayerComplete core s = .next (
      let d := s.lyr core 3;
      let u := if bit d 30 then s.postCoreWp core (s.lyRelWp core) (.add 1) else s;
      (if bit d 14 then u.postCoreWp core (u.lyDoneWp core) (.add (bits d 63 32)) else u).post (.layerNext core)) := by
  rw [doLayerComplete, withCore_real real]
  simp only [layer, written, Bool.false_eq_true, if_false, ne_eq, not_true]

/-! ### The DMA engines (R193–R195, R203) -/

section
variable {e : Nat} (engine : e < 2)
include engine

theorem doDmaDescriptorStart_done {op : DmaOp} {rest : List DmaOp} {errors : List StoredError} (head : (s.core core).dmaQ e = op :: rest)
    (ordered : (DmaDesc.of op.desc).ord = true → (s.core core).dmaRun e = []) (valid : (DmaDesc.of op.desc).ok = true) {u : State}
    (hu : ((s.strikes errors).setCore core ((s.core core).setDma e rest ((s.core core).dmaRun e))).progressed core = u)
    (sound : u.firstFailure core (if (DmaDesc.of op.desc).rows = 0 then [] else (DmaDesc.of op.desc).ranges u core) = none)
    (good : (u.doDma core (.dma core e op.tag) (DmaDesc.of op.desc)).2.2.2 = 0) : doDmaDescriptorStart core e errors s = .next (
      let r := u.doDma core (.dma core e op.tag) (DmaDesc.of op.desc);
      r.1.setCore core ((r.1.core core).setDma e ((r.1.core core).dmaQ e)
        ((r.1.core core).dmaRun e ++ [{ op, bytes := r.2.1, flags := r.2.2.1 }]))) := by
  have turn : ((DmaDesc.of op.desc).ord && !((s.core core).dmaRun e).isEmpty) = false := by
    cases ord : (DmaDesc.of op.desc).ord with
    | false => rfl
    | true => simp [ordered ord]
  rw [doDmaDescriptorStart, if_neg (Nat.not_le.mpr engine), withCore_real real]
  simp only [head, turn, valid, hu, sound, good, Bool.not_true, Bool.false_eq_true, if_false, ne_eq, not_true]

theorem doDmaComplete_done {r : DmaRun} {rest : List DmaRun} (running : (s.core core).dmaRun e = r :: rest)
    (written : s.writeWaits (.dma core e r.op.tag) = false) : doDmaComplete core e s = .next (
      let d := DmaDesc.of r.op.desc;
      let u := (s.setCore core ((s.core core).setDma e ((s.core core).dmaQ e) rest)).progressed core;
      let w := ((u.count 64 (if e = 0 then Obj.DMA0_DESCRIPTORS core else Obj.DMA1_DESCRIPTORS core) 1).count 64
        (Obj.DMA_BYTES core) r.bytes).flagEvent core r.flags;
      if d.doneEn then w.postCoreWp core d.doneWp (.add 1) else w) := by
  rw [doDmaComplete, if_neg (Nat.not_le.mpr engine), withCore_real real]
  simp only [running, written, Bool.false_eq_true, if_false]

end

/-! ### The watchdogs (R163, R184) -/

theorem doProgressWatchdog_expired (watched : s.watched core = true) (expired : s.obj (Obj.WDOG_LIMIT core) ≤ (s.core core).wdog / 100) :
    doProgressWatchdog core s = .next (s.faultNoAddr core 5 0x0805 0xFF) := by
  rw [doProgressWatchdog, withCore_real real, if_pos ⟨watched, expired⟩]

theorem doRunWatchdog_expired (limited : s.obj (Obj.RUN_LIMIT core) ≠ 0) (runs : s.coreSt core = .running ∨ s.coreSt core = .waiting)
    (expired : s.obj (Obj.RUN_LIMIT core) ≤ s.now - (s.core core).launch) :
    doRunWatchdog core s = .next (s.faultNoAddr core 6 0x0805 0xFF) := by
  rw [doRunWatchdog, withCore_real real]
  exact if_pos ⟨limited, runs, expired⟩

end

/-- Settles O12: each command meets the case of its own that the hypotheses pick out. -/
theorem workCompletes : Obligations.WorkCompletes := by
  unfold Obligations.WorkCompletes
  intro s core real
  refine ⟨fun ch c may => ?_, fun ch sealed_ gate free => ?_, fun sealed_ gate layer => ?_, fun r rest running => ?_,
    fun a layer mapped hbm sliced owned => ?_, fun layer written => ?_, fun e engine => ⟨fun op rest errors head ordered valid => ?_,
      fun r rest running written => ?_⟩, fun watched expired => ?_, fun limited runs expired => ?_⟩
  · exact congrArg settled (may.doChainStart_eq real)
  · exact congrArg settled (doGatedUpdate_chain real sealed_ gate free)
  · exact congrArg settled (doGatedUpdate_layer real sealed_ gate layer)
  · exact congrArg settled (doChainComplete_running real running)
  · intro u w x _
    exact congrArg settled (doRecordLoad_owned real layer mapped hbm sliced owned)
  · exact congrArg settled (doLayerComplete_done real layer written)
  · intro d u r sound good
    exact congrArg settled (doDmaDescriptorStart_done real engine head ordered valid rfl sound good)
  · exact congrArg settled (doDmaComplete_done real engine running written)
  · exact congrArg settled (doProgressWatchdog_expired real watched expired)
  · exact congrArg settled (doRunWatchdog_expired real limited runs expired)

end Sys2Proof.Machine
end

section
/-! PROOFS (08_hbm_memory.md). Commands of the memory's upkeep. -/

namespace Sys2Proof.Machine

section
variable {s : State}

/-! ### Scrubbing (R212–R214) -/

section
variable {b : Nat} {errors : List StoredError} (real : b < hbmBursts) (awake : s.obj (Obj.STACK_STATE (decodeHbm (b * 32)).stack) ≠ 3)
include real awake

theorem doScrubRead_correctable {n : Nat} (stored : (s.strikes errors).errAt b = .correctable n) :
    doScrubRead b errors s = .next (((s.strikes errors).noteError 3 b).setErr b .none) := by
  rw [doScrubRead, if_neg (Nat.not_le.mpr real), if_neg awake]
  simp only [stored]

theorem doScrubRead_other (stored : ∀ n, (s.strikes errors).errAt b ≠ .correctable n) :
    doScrubRead b errors s = .next ((s.strikes errors).noteError 3 b) := by
  rw [doScrubRead, if_neg (Nat.not_le.mpr real), if_neg awake]
  dsimp only
  split
  next n found => exact absurd found (stored n)
  next => rfl

end

/-! ### Refresh and refresh management (R216–R218) -/

section
variable {bank : Nat} (real : bank < hbmBanks) (blocked : List Blocking) (acts : Nat)
include real

theorem doRefresh_performed : doRefresh ⟨bank, blocked, acts⟩ false s = .next (
    let u := blocked.foldl (State.blocked (stackOfBank bank)) s;
    ({ u with postponed := Sparse.set (fun _ => 0) u.postponed bank 0 } : State).setActs bank (u.activated bank acts - Config.rfmRefresh)) := by
  rw [doRefresh, if_neg (Nat.not_le.mpr real)]
  rfl

theorem doRefresh_postponed : doRefresh ⟨bank, blocked, acts⟩ true s = .next (
    let u := blocked.foldl (State.blocked (stackOfBank bank)) s;
    let n := Sparse.get (fun _ => 0) u.postponed bank;
    ({ u with postponed := Sparse.set (fun _ => 0) u.postponed bank (min 4 (n + 1)) } : State).setActs bank
      (if n < 4 then u.activated bank acts else u.activated bank acts - Config.rfmRefresh)) := by
  rw [doRefresh, if_neg (Nat.not_le.mpr real)]
  simp only [true_and, if_true]

theorem doRefreshManagement_reached
    (reached : Config.rfmInitial ≤ (blocked.foldl (State.blocked (stackOfBank bank)) s).activated bank acts) :
    doRefreshManagement ⟨bank, blocked, acts⟩ s = .next (
      let u := blocked.foldl (State.blocked (stackOfBank bank)) s;
      (u.setActs bank (u.activated bank acts - Config.rfmInitial)).count 64 (Obj.RFM_COUNT (stackOfBank bank)) 1) := by
  rw [doRefreshManagement, if_neg (Nat.not_le.mpr real)]
  exact if_neg (Nat.not_lt.mpr reached)

theorem doRefreshManagement_below
    (below : (blocked.foldl (State.blocked (stackOfBank bank)) s).activated bank acts < Config.rfmInitial) :
    doRefreshManagement ⟨bank, blocked, acts⟩ s = .next (
      let u := blocked.foldl (State.blocked (stackOfBank bank)) s;
      u.setActs bank (u.activated bank acts)) := by
  rw [doRefreshManagement, if_neg (Nat.not_le.mpr real)]
  exact if_pos below

end

theorem doRowRemap_marked {g : Nat} (marked : g ∈ s.marked) (real : g < hbmBanks * 4096) (idle : s.obj Obj.STEP_STATE = 0) :
    doRowRemap g s = .next (s.remapGroup g) :=
  (if_neg (Nat.not_le_of_lt real)).trans (if_pos ⟨idle, marked⟩)

/-! ### Copies before and besides writes (R380, R381) -/

section
variable {page : Nat} (waited : s.held.any (fun w => w.page == page) = true)
include waited

theorem doCbwCopy_marked {t : State} (marked : s.pageMarked page = true) (active : s.obj Obj.CBW_ACTIVE = 1) (copied : s.copyPage 0 page = some t) :
    doCbwCopy page s = .next t := by
  rw [doCbwCopy, if_pos waited, if_pos ⟨marked, active⟩, copied]
  rfl

theorem doCbwCopy_unmarked (done : s.pageMarked page = false ∨ s.obj Obj.CBW_ACTIVE ≠ 1) : doCbwCopy page s = .next s.releaseHeld := by
  rw [doCbwCopy, if_pos waited, if_neg]
  rintro ⟨marked, active⟩
  rcases done with done | done
  · exact absurd marked (by simp [done])
  · exact done active

end

theorem doBackgroundCopy_room {die page : Nat} {t : State} (real : die < 2) (active : s.obj Obj.CBW_ACTIVE = 1)
    (first : s.firstMarked die = some page) (room : 64 < s.stageRoom die - (s.staged die).length) (copied : s.copyPage 3 page = some t) :
    doBackgroundCopy die s = .next t.marksDone := by
  rw [doBackgroundCopy, if_neg (Nat.not_le.mpr real), if_neg (not_not_intro active)]
  simp only [first, Nat.not_le.mpr room, copied, if_false, Option.elim_some]

/-! ### The end of a Sextant run (R228–R233) -/

theorem doSxtDone_running {x : Sextant} (margins : List LaneMargin) (running : s.sextant = some x) : doSxtDone margins s = .next (
    let chs := sextantChannels x.target;
    let unmeasured := if x.axis = 3 then 0 else Config.freeNat s.free;
    let record := (chs.map (fun ch =>
      channelRecord margins unmeasured ch (s.obj Obj.HBM_RATE_ACTIVE) x.full x.axis (s.obj Obj.SXT_MIN_UI))).flatten;
    ((({ s with sextant := none, free := s.free + 1 } : State).setStacks x.target 2).setObjs
      [(Obj.SXT_STATE, 2), (Obj.SXT_RESULT, leNat record)]).pendFailing x.full x.axis
        ((chs.map (fun ch => (List.range 68).map (marginOf margins ch))).flatten) |>.releaseHeld) := by
  rw [doSxtDone, running]

end

/-- Settles O13: each command meets the case of its own that the hypotheses pick out. -/
theorem upkeepCompletes : Obligations.UpkeepCompletes := by
  unfold Obligations.UpkeepCompletes
  intro s
  refine ⟨fun b real errors awake => ⟨fun n stored => ?_, fun stored => ?_⟩,
    fun bank real blocked acts => ⟨?_, ?_, fun reached => ?_, fun below => ?_⟩, fun g marked real idle => ?_, fun readings => rfl,
    fun page t waited marked active copied => ?_, fun page waited done => ?_, fun die real page t active first room copied => ?_,
    fun x margins running => ?_⟩
  · exact congrArg settled (doScrubRead_correctable real awake stored)
  · exact congrArg settled (doScrubRead_other real awake stored)
  · exact congrArg settled (doRefresh_performed real blocked acts)
  · exact congrArg settled (doRefresh_postponed real blocked acts)
  · exact congrArg settled (doRefreshManagement_reached real blocked acts reached)
  · exact congrArg settled (doRefreshManagement_below real blocked acts below)
  · exact congrArg settled (doRowRemap_marked marked real idle)
  · exact congrArg settled (doCbwCopy_marked waited marked active copied)
  · exact congrArg settled (doCbwCopy_unmarked waited done)
  · exact congrArg settled (doBackgroundCopy_room real active first room copied)
  · exact congrArg settled (doSxtDone_running margins running)

end Sys2Proof.Machine
end

section
/-! PROOFS (09_waypoints_and_chronometer.md). Operations on Waypoints complete. -/

namespace Sys2Proof.Machine

section
variable {s : State} {wp : Nat}

theorem withWp_real {o : Out} (real : wp < 16384) : withWp s wp o = o := if_pos real

theorem withConn_real {k : Nat} {o : Out} (real : k < 240) : withConn s k o = o := if_pos real

/-- An operation that a unit or a timed add of the Waypoint's slice asks for, with nothing else set going, is performed and what watches
the entry is told. -/
theorem State.askWp_performs {a : Asker} {slice : Nat} (alone : s.posts = []) (asker : a = .unit ∨ a = .timed)
    (own : s.wpCode slice wp = 0) (k : WpKind) : (s.askWp a slice wp k).after = ((s.performWp wp k).watchers wp).afterFirst := by
  rw [State.askWp, settle_first alone, perform_own asker own]

/-! ### Waits (R245) -/

section
variable {core th : Nat} (entry : wp < 16384) (real : core < 104) (value : th < 2 ^ 64) (runs : s.coreSt core = .running)
  (unheld : (s.core core).hold = .none)
include entry real value runs unheld

theorem doWaypointWait_satisfied (satisfied : s.waitAns (s.sliceOfCore core) wp th = .satisfied) :
    doWaypointWait core wp th s = .next ((s.tookWait wp).setCore core { (s.tookWait wp).core core with hold := .woken }) := by
  rw [doWaypointWait, if_neg (Nat.not_le_of_lt real), withWp_real entry, if_pos ⟨runs, unheld⟩, Nat.mod_eq_of_lt value, satisfied]

theorem doWaypointWait_held (held : s.waitAns (s.sliceOfCore core) wp th = .held) : doWaypointWait core wp th s = .next (
    let u := ((s.tookWait wp).addWaiter core wp th .wwait).setCoreSt core .waiting;
    u.setCore core { u.core core with hold := .wwait wp th }) := by
  rw [doWaypointWait, if_neg (Nat.not_le_of_lt real), withWp_real entry, if_pos ⟨runs, unheld⟩, Nat.mod_eq_of_lt value, held]

end

/-! ### Timed adds (R247) -/

section
variable {slice v : Nat} (time : Nat) (entry : wp < 16384) (value : v < 2 ^ 64) (own : s.wpCode slice wp = 0)
include entry value own

theorem doTimedAdd_registered (room : s.timed.length < timedSlots) :
    doTimedAdd slice wp v time s = .next (s.registerTimed { wp, value := v, time, slice }) := by
  rw [doTimedAdd, withWp_real entry, Nat.mod_eq_of_lt value, own]
  exact if_neg (Nat.not_le_of_lt room)

theorem doTimedAdd_full (full : timedSlots ≤ s.timed.length) : doTimedAdd slice wp v time s =
    .next { s.count 32 Obj.TIMED_FULL_WAITS 1 with timedHeld := s.timedHeld ++ [({ wp, value := v, time, slice } : Timed)] } := by
  rw [doTimedAdd, withWp_real entry, Nat.mod_eq_of_lt value, own]
  exact if_pos full

end

theorem doTimedAddDue_due {t : Timed} (next : earliest s.timed = some t) (due : t.time ≤ s.chr) : doTimedAddDue s =
    .next (({ s with timed := s.timed.erase t } : State).askWp .timed t.slice t.wp (.add t.value)).admitTimed := by
  rw [doTimedAddDue, next]
  exact if_pos due

/-- A due timed add of a Waypoint that its slice owns is performed as an ADD where no other waits for room. -/
theorem State.dueAdd_performs {t : Timed} (none : s.timedHeld = []) (alone : s.posts = []) (own : s.wpCode t.slice t.wp = 0) :
    (({ s with timed := s.timed.erase t } : State).askWp .timed t.slice t.wp (.add t.value)).admitTimed.after =
      ((({ s with timed := s.timed.erase t } : State).performWp t.wp (.add t.value)).watchers t.wp).afterFirst := by
  have still : (({ s with timed := s.timed.erase t } : State).askWp .timed t.slice t.wp (.add t.value)).timedHeld = [] := none
  rw [State.admitTimed_of_none still]
  exact State.askWp_performs (s := { s with timed := s.timed.erase t }) alone (.inr rfl) own _

/-! ### A host's MARK and CLEAR (R466) -/

section
variable {m : HostMsg} (accepts : s.HostAccepts .write m)
include accepts

theorem doWaypointMark_accepted (target : wordTarget m 1 = true) :
    doWaypointMark m s = .next (((s.hostHeard m).takePsn .write m).hostAccept .write m false) := by
  rw [doWaypointMark, withConn_real accepts.conn, if_pos target, State.hostRequest_accepts accepts]

theorem doWaypointClear_accepted (together : Bool) (target : wordTarget m 3 = true) :
    doWaypointClear m together s = .next (((s.hostHeard m).takePsn .write m).hostAccept .write m together) := by
  rw [doWaypointClear, withConn_real accepts.conn, if_pos target, State.hostRequest_accepts accepts]

end
end

/-- Settles O14: each command meets the case of its own that the hypotheses pick out. -/
theorem waypointsComplete : Obligations.WaypointsComplete := by
  unfold Obligations.WaypointsComplete
  intro s wp entry
  refine ⟨fun slice alone own => ⟨fun v value => ?add, fun v value => ?set, fun c code => ?error⟩,
    fun core real th value runs unheld => ⟨fun satisfied => ?_, fun held => ?_⟩, fun slice v time value own room => ?_,
    fun slice v time value own full => ?_, fun t next due => ?_, fun t next due none alone own => ?due,
    fun m accepts => ⟨fun target => ?_, fun together target => ?_⟩⟩
  case add =>
    show settled (withWp s wp (.next (s.askWp .unit slice wp (.add (v % 2 ^ 64))))) = _
    rw [withWp_real entry, Nat.mod_eq_of_lt value, settled_next, State.askWp_performs alone (.inl rfl) own]
  case set =>
    show settled (withWp s wp (.next (s.askWp .unit slice wp (.set (v % 2 ^ 64))))) = _
    rw [withWp_real entry, Nat.mod_eq_of_lt value, settled_next, State.askWp_performs alone (.inl rfl) own]
  case error =>
    show settled (withWp s wp (.next (s.askWp .unit slice wp (.error (c % 2 ^ 16))))) = _
    rw [withWp_real entry, Nat.mod_eq_of_lt code, settled_next, State.askWp_performs alone (.inl rfl) own]
  case due =>
    show settled (doTimedAddDue s) = _
    rw [doTimedAddDue_due next due, settled_next, State.dueAdd_performs none alone own]
  · exact congrArg settled (doWaypointWait_satisfied entry real value runs unheld satisfied)
  · exact congrArg settled (doWaypointWait_held entry real value runs unheld held)
  · exact congrArg settled (doTimedAdd_registered time entry value own room)
  · exact congrArg settled (doTimedAdd_full time entry value own full)
  · exact congrArg settled (doTimedAddDue_due next due)
  · exact congrArg settled (doWaypointMark_accepted accepts target)
  · exact congrArg settled (doWaypointClear_accepted accepts together target)

end Sys2Proof.Machine
end

section
/-! PROOFS (10_fabric_routing.md). Frames that move data and a flow's own timers complete. -/

namespace Sys2Proof.Machine

/-! ### What a frame's opcode has taken (Table 10-3) -/

section
variable {f : Frame} {u : State}

theorem State.takeFrame_data (op : f.opcode = 1 ∨ f.opcode = 3) : State.takeFrame f u = u.takeData f := by
  rcases op with op | op <;> simp only [State.takeFrame, op]

theorem State.takeFrame_read (op : f.opcode = 2) : State.takeFrame f u = u.takeRead f := by simp only [State.takeFrame, op]

theorem State.takeFrame_wpAdd (op : f.opcode = 4) : State.takeFrame f u = u.takeWpAdd f := by simp only [State.takeFrame, op]

theorem State.takeData_remote (length : 0 < f.len ∧ f.len ≤ 4096) (target : u.frameTarget f (frameAddr f) f.len = 0)
    (remote : f.srcDev ≠ u.selfId) : u.takeData f =
      (let (discarded, w) := u.wakeWrite (frameAddr f) f.len;
        if discarded then w else w.write (.frame f.srcDev f.cls) (frameAddr f) f.payload, 0) := by
  rw [State.takeData, if_neg (by omega), if_neg (not_not_intro target), if_neg remote]
  exact (apply_ite State.ok _ _ _).symm

theorem State.takeData_own (length : 0 < f.len ∧ f.len ≤ 4096) (target : u.frameTarget f (frameAddr f) f.len = 0)
    (own : f.srcDev = u.selfId) (open_ : u.wakeReadOnly (frameAddr f) f.len = false) :
    u.takeData f = (u.write (.frame f.srcDev f.cls) (frameAddr f) f.payload, 0) := by
  rw [State.takeData, if_neg (by omega), if_neg (not_not_intro target), if_pos own, open_]
  rfl

theorem State.takeRead_found (length : f.len = 8 ∧ f.aux < 4096) (target : u.frameTarget f (frameAddr f) (f.aux % 4096 + 1) = 0) :
    u.takeRead f =
      (let back := fabricTarget (leNat f.payload % 2 ^ 40);
        let from_ := u.home (frameAddr f);
        (u.noteRead 1 from_ (f.aux % 4096 + 1)).inject .read (some (frameAddr f))
          { unitFrame 3 f.cls f.srcDev f.slice 0 back.2 (u.bytes from_ (f.aux % 4096 + 1)) with dstCore := back.1 }, 0) := by
  rw [State.takeRead, if_neg (by omega), if_neg (not_not_intro target)]
  rfl

theorem State.takeWpAdd_owned (length : f.len = 8) (own : u.wpCode f.slice (f.aux % 2 ^ 14) = 0) : u.takeWpAdd f =
    (u.post (.wp { asker := .frame f.srcDev f.srcCore, slice := f.slice, wp := f.aux % 2 ^ 14, kind := .add (leNat f.payload) }), 0) := by
  rw [State.takeWpAdd, if_neg (not_not_intro length), own]
  rfl

/-! ### Answers to a flow's frames (R280, R290, R293) -/

section
variable (payload : payloadGood f = true) (formed : wellFormedHeader f = true)
include payload formed

theorem State.unsequenced_ack (op : f.opcode = 5) : u.unsequenced none f = if f.mcast then u.ackMulticast f else u.ackUnicast f := by
  simp only [State.unsequenced, payload, formed, op, Bool.not_true, Bool.false_eq_true, if_false]

theorem State.unsequenced_errResp (op : f.opcode = 6) : u.unsequenced none f = u.noteErrResp f := by
  simp only [State.unsequenced, payload, formed, op, Bool.not_true, Bool.false_eq_true, if_false]

theorem State.unsequenced_partial (op : f.opcode = 7) : u.unsequenced none f = (u.notePartial f).ctxPartial f := by
  simp only [State.unsequenced, payload, formed, op, Bool.not_true, Bool.false_eq_true, if_false]

end
end

/-! ### A flow's own timers (R279–R281) -/

section
variable {s : State} {k : FlowKey}

theorem doAckTimer_due (owed : 0 < (s.rxFlow k).uncovered) (due : (s.rxFlow k).since + 1000 ≤ s.now) : doAckTimer k s = .next (s.sendAck k) :=
  if_pos ⟨owed, due⟩

theorem doE2eResend_due (unacked : (s.txFlow k).unacked ≠ []) (due : (s.txFlow k).resentAt + s.obj Obj.E2E_RTO * 1000 ≤ s.now) :
    doE2eResend k s = .next ((s.txFlow k).unacked.foldl (fun (t : State) y => t.emitFlow k (t.reread y))
      ((s.setTxFlow { s.txFlow k with resentAt := s.now }).count 64 Obj.E2E_RETRANSMITS (s.txFlow k).unacked.length)) :=
  if_pos ⟨unacked, due⟩

theorem doPathLost_due (unacked : (s.txFlow k).unacked ≠ []) (held : (s.txFlow k).lost = false)
    (due : (s.txFlow k).progress + 2000000 ≤ s.now) : doPathLost k s = .next (s.losePath (s.txFlow k)) :=
  if_pos ⟨unacked, by simp [held], due⟩

end

/-- Settles O15: each sequenced frame completes by what its opcode takes, the others by what they tell the flows they speak of, and the
timers by their cases. -/
theorem framesComplete : Obligations.FramesComplete := by
  unfold Obligations.FramesComplete
  intro s
  refine ⟨fun f => ⟨fun c op arrival => ⟨?remote, ?own⟩, ?read, ?wpAdd, fun formed g => ?ack, fun formed g => ?errResp,
    fun formed g => ?partial_⟩, fun k => ⟨fun owed due => ?_, fun unacked due => ?_, fun unacked held due => ?_⟩⟩
  case remote =>
    obtain ⟨arrives, opcode⟩ : exec c s = settled (s.arrive op f) ∧ (op = 1 ∨ op = 3) := by
      rcases arrival with ⟨rfl, rfl⟩ | ⟨rfl, rfl⟩
      · exact ⟨rfl, .inl rfl⟩
      · exact ⟨rfl, .inr rfl⟩
    refine FrameCompletes.of arrives (by rcases opcode with rfl | rfl <;> rfl) fun u ok same => ?_
    obtain ⟨positive, fits, target, remote⟩ := ok
    rw [State.takeFrame_data (same ▸ opcode), State.takeData_remote ⟨positive, fits⟩ target remote]
  case own =>
    obtain ⟨arrives, opcode⟩ : exec c s = settled (s.arrive op f) ∧ (op = 1 ∨ op = 3) := by
      rcases arrival with ⟨rfl, rfl⟩ | ⟨rfl, rfl⟩
      · exact ⟨rfl, .inl rfl⟩
      · exact ⟨rfl, .inr rfl⟩
    refine FrameCompletes.of arrives (by rcases opcode with rfl | rfl <;> rfl) fun u ok same => ?_
    obtain ⟨positive, fits, target, own, open_⟩ := ok
    rw [State.takeFrame_data (same ▸ opcode), State.takeData_own ⟨positive, fits⟩ target own open_]
  case read =>
    refine FrameCompletes.of rfl rfl fun u ok op => ?_
    obtain ⟨length, count, target⟩ := ok
    rw [State.takeFrame_read op, State.takeRead_found ⟨length, count⟩ target]
  case wpAdd =>
    refine FrameCompletes.of rfl rfl fun u ok op => ?_
    obtain ⟨length, own⟩ := ok
    rw [State.takeFrame_wpAdd op, State.takeWpAdd_owned length own]
  case ack => rw [arrive_unsequenced (c := .ack f) rfl (.inl rfl) g, State.unsequenced_ack g.payload formed g.opcode]
  case errResp => rw [arrive_unsequenced (c := .errResp f) rfl (.inr (.inl rfl)) g, State.unsequenced_errResp g.payload formed g.opcode]
  case partial_ =>
    rw [arrive_unsequenced (c := .partialNotice f) rfl (.inr (.inr rfl)) g, State.unsequenced_partial g.payload formed g.opcode]
  · exact congrArg settled (doAckTimer_due owed due)
  · exact congrArg settled (doE2eResend_due unacked due)
  · exact congrArg settled (doPathLost_due unacked held due)

end Sys2Proof.Machine
end

section
/-! PROOFS (10_fabric_routing.md). Frames under way and the links complete. -/

namespace Sys2Proof.Machine

section
variable {s : State}

theorem withPort_real {p : Nat} {o : Out} (real : p < 16) : withPort s p o = o := if_pos real

/-! ### A unit's frame enters the fabric (R263, R264) -/

section
variable {g : Frame}

theorem State.sendFrame_unit (unit : 104 ≤ g.srcCore ∨ sequenced g.opcode = false) : s.sendFrame g = s.inject .none none g := by
  rw [State.sendFrame, if_neg]
  rintro ⟨core, seq⟩
  rcases unit with unit | unit
  · exact absurd core (Nat.not_lt_of_le unit)
  · exact absurd seq (by simp [unit])

theorem State.sendFrame_core (core : g.srcCore < 104) (seq : sequenced g.opcode = true) : s.sendFrame g =
    (s.setCore g.srcCore { s.core g.srcCore with remote := (s.core g.srcCore).remote + 1 }).inject
      (.remoteFrame g.srcCore (s.core g.srcCore).resets) none g :=
  if_pos ⟨core, seq⟩

end

/-! ### A port takes a frame from its link (R267, R271, R274) -/

theorem State.closeWindow_eq (s : State) : s.closeWindow = { s with health := s.closeWindow.health } := by
  rw [State.closeWindow]
  split <;> rfl

/-- Counting a lane's errors is a matter of the health records alone. -/
theorem State.laneSymbols_eq (s : State) (p : Nat) (l : List Nat) : s.laneSymbols p l = { s with health := (s.laneSymbols p l).health } := by
  unfold State.laneSymbols
  exact List.foldlRecOn (motive := fun t : State => t = { s with health := t.health }) _ _ s.closeWindow_eq fun t same _ _ => by rw [same]

theorem State.laneSymbols_now (s : State) (p : Nat) (l : List Nat) : (s.laneSymbols p l).now = s.now := by rw [State.laneSymbols_eq]
theorem State.laneSymbols_chr (s : State) (p : Nat) (l : List Nat) : (s.laneSymbols p l).chr = s.chr := by rw [State.laneSymbols_eq]
theorem State.laneSymbols_chrU (s : State) (p : Nat) (l : List Nat) : (s.laneSymbols p l).chrU = s.chrU := by rw [State.laneSymbols_eq]

/-- The state in which a port has taken a frame from its link. -/
def State.linkTaken (s : State) (a : Arrival) (f : Frame) : State :=
  let u := ((s.count 64 (Obj.FEC_CORRECTED a.port) a.corrected).count 64 (Obj.FEC_UNCORRECTED a.port) 0).laneSymbols a.port a.symbols
  ((u.setPort a.port { s.port a.port with expLink := ((s.port a.port).expLink + 1) % 4096 }).count 64 (Obj.RX_FRAMES a.port) 1).count 64
    (Obj.RX_BYTES a.port) f.len

section
variable (a : Arrival) (f : Frame)

@[simp] theorem State.linkTaken_now : (s.linkTaken a f).now = s.now := State.laneSymbols_now ..
@[simp] theorem State.linkTaken_chr : (s.linkTaken a f).chr = s.chr := State.laneSymbols_chr ..
@[simp] theorem State.linkTaken_chrU : (s.linkTaken a f).chrU = s.chrU := State.laneSymbols_chrU ..

end

theorem State.LinkTakes.linkReceive_eq {a : Arrival} {f : Frame} (t : s.LinkTakes a f) : s.linkReceive a f = (true, s.linkTaken a f) := by
  have port : (((s.count 64 (Obj.FEC_CORRECTED a.port) a.corrected).count 64 (Obj.FEC_UNCORRECTED a.port) 0).laneSymbols a.port
      a.symbols).port a.port = s.port a.port := by
    rw [State.laneSymbols_eq]
    rfl
  simp only [State.linkReceive, t.whole, t.header, t.payload, port, t.next, ne_eq, not_true, decide_false, Bool.not_true, Bool.or_self,
    Bool.false_eq_true, if_false]
  rfl

theorem State.LinkTakes.doFrameRoute_eq {a : Arrival} {f : Frame} (t : s.LinkTakes a f) :
    doFrameRoute (some a) f s = .next ((s.linkTaken a f).accepted a.port f) := by
  rw [doFrameRoute, withPort_real t.port, t.up, t.linkReceive_eq]
  rfl

/-- A frame that is no link's own, has hops left and is not kept out by a fence is routed. -/
theorem State.accepted_routes {p : Nat} {f : Frame} (request : f.opcode ≠ 8) (response : f.opcode ≠ 9) (hops : f.hops ≠ 15)
    (open_ : (s.fenced && sequenced f.opcode) = false) : s.accepted p f = s.route s.now (some p) f := by
  simp only [State.accepted, request, response, hops, open_, or_self, Bool.false_eq_true, if_false]

/-! ### Control blocks, replays and training of a port in service (R274–R276, R296–R298) -/

section
variable {p : Nat} (real : p < 16)
include real

section
variable (up : s.portUp p = true)
include up

theorem doLinkControlBlock_up : doLinkControlBlock p s = .next ((s.setPort p { s.port p with owed := [] }).send
    (.control p (((s.port p).expLink + 4095) % 4096) (s.port p).owed none)) := by
  rw [doLinkControlBlock, withPort_real real]
  exact if_pos up

theorem doLinkControlBlockReceived_up (acked : Nat) (credits : List (Nat × Nat)) : doLinkControlBlockReceived p acked credits s = .next (
    let q := s.port p;
    let left := q.retry.filter (fun r => !linkUpTo r.seqNo acked);
    let used := credits.foldl (fun m c => Sparse.set (fun _ => 0) m c.1 (Sparse.get (fun _ => 0) m c.1 - c.2)) q.used;
    let progress := if left.length < q.retry.length then s.now else q.progress;
    (s.setPort p { q with retry := left, used, progress }).pump q.queue.length p) := by
  rw [doLinkControlBlockReceived, withPort_real real]
  exact if_pos up

theorem doNak_held {n : Nat} (fits : n < 4096) {r : Retry} (held : r ∈ (s.port p).retry) (seq : r.seqNo = n) :
    doNak p n s = .next (s.replayFrom p n) := by
  have found : (s.port p).retry.any (fun r => r.seqNo == n) = true := List.any_eq_true.mpr ⟨r, held, by simp [seq]⟩
  rw [doNak, withPort_real real, Nat.mod_eq_of_lt fits, up, found]
  rfl

theorem doLinkReplayTimeout_due {r : Retry} {rest : List Retry} (oldest : (s.port p).retry = r :: rest)
    (due : max (s.port p).progress (s.port p).replayAt + 2000 ≤ s.now) : doLinkReplayTimeout p s = .next (s.replayFrom p r.seqNo) := by
  rw [doLinkReplayTimeout, withPort_real real, oldest]
  exact if_pos ⟨up, due⟩

theorem doPortRetrain_failing {lost : Bool} (failing : (lost || (s.port p).failing s.now) = true) : doPortRetrain p lost s =
    .next (((s.count 32 (Obj.LINK_DOWN_EVENTS p) 1).portHealth p 1).portOut p 3) := by
  rw [doPortRetrain, withPort_real real, up, failing]
  rfl

end

theorem doRetrainDone_training (o : TrainOutcome)
    (training : s.obj (Obj.PORT_STATE p) = 1 ∨ s.obj (Obj.PORT_STATE p) = 3 ∨ s.obj (Obj.PORT_STATE p) = 5) :
    doRetrainDone p o s = .next (s.trained p o) := by
  rw [doRetrainDone, withPort_real real]
  exact if_pos training

theorem doPortRetry_due (failed : s.obj (Obj.PORT_STATE p) = 4) (due : (s.port p).trainAt + 100000000 ≤ s.now) :
    doPortRetry p s = .next ((s.setPortState p 3).setPort p { s.port p with trainAt := s.now }) := by
  rw [doPortRetry, withPort_real real, if_pos ⟨failed, due⟩]

end
end

/-- Settles O16: each command meets the case of its own that the hypotheses pick out. -/
theorem linksComplete : Obligations.LinksComplete := by
  unfold Obligations.LinksComplete
  intro s
  refine ⟨fun f => ⟨fun unit => ?_, fun core seq => ?_⟩, rfl, fun a f takes => ⟨?_, fun request response hops open_ => ?_⟩,
    fun p real => ⟨fun up => ⟨?_, fun acked credits => ?_, fun n fits r held seq => ?_, fun r rest oldest due => ?_, fun lost failing => ?_⟩,
      fun o training => ?_, fun failed due => ?_⟩⟩
  · exact congrArg (fun u : State => settled (.next u)) (State.sendFrame_unit unit)
  · exact congrArg (fun u : State => settled (.next u)) (State.sendFrame_core core seq)
  · exact congrArg settled takes.doFrameRoute_eq
  · have routed := State.accepted_routes (s := s.linkTaken a f) (p := a.port) request response hops open_
    rw [State.linkTaken_now] at routed
    exact congrArg settled (takes.doFrameRoute_eq.trans (congrArg Host.Outcome.next routed))
  · exact congrArg settled (doLinkControlBlock_up real up)
  · exact congrArg settled (doLinkControlBlockReceived_up real up acked credits)
  · exact congrArg settled (doNak_held real up fits held seq)
  · exact congrArg settled (doLinkReplayTimeout_due real up oldest due)
  · exact congrArg settled (doPortRetrain_failing real up failing)
  · exact congrArg settled (doRetrainDone_training real o training)
  · exact congrArg settled (doPortRetry_due real failed due)

end Sys2Proof.Machine
end

section
/-! PROOFS (09_waypoints_and_chronometer.md). The Chronometer's exchanges and the Charts' own times complete. -/

namespace Sys2Proof.Machine

section
variable {s : State}

/-! ### Exchanges of time (R254, R256) -/

theorem doChronometerExchange_due {p : Nat} (running : s.chrState ≠ 4) (parent : s.obj Obj.CHR_PARENT_PORT < 16)
    (due : s.chrU.phase + s.obj Obj.CHR_SYNC_PERIOD * 1000 ≤ s.now) {u v : State} (hu : (if s.chrU.sent.isSome then s.chrFailed else s) = u)
    (hv : ({ u with chrU := { u.chrU with phase := u.now } } : State) = v) (port : v.chrPort = some p) : doChronometerExchange s =
      .next (({ v with chrU := { v.chrU with sent := some (v.chr, p) } } : State).toPort p v.now none (v.timeFrame 8 (leBytes 8 v.chr))) := by
  have ready : ¬ (s.chrState = 4 ∨ 16 ≤ s.obj Obj.CHR_PARENT_PORT ∨ s.now < s.chrU.phase + s.obj Obj.CHR_SYNC_PERIOD * 1000) := by
    rintro (held | none | early)
    · exact running held
    · exact absurd parent (Nat.not_lt_of_le none)
    · exact absurd due (Nat.not_le_of_lt early)
  rw [doChronometerExchange, if_neg ready]
  subst hv
  simp only [hu, port]

/-- A frame of time that a port takes from its link in turn reaches the Chronometer in a state that owes its credit. -/
theorem State.LinkTakes.timeArrives_eq {a : Arrival} {f : Frame} (t : s.LinkTakes a f) (t4 : Nat) :
    s.timeArrives f.opcode a f t4 = .next (((s.linkReceive a f).2.owe (some a.port) f).timeTaken a.port f t4) := by
  rw [State.timeArrives, withPort_real t.port, if_pos ⟨rfl, t.up⟩, t.linkReceive_eq]
  rfl

theorem State.timeTaken_request {p t4 : Nat} {f : Frame} (formed : wellFormedHeader f = true) (op : f.opcode = 8) (length : f.payload.length = 8) :
    s.timeTaken p f t4 = s.toPort p s.now none (s.timeFrame 9 (f.payload ++ leBytes 8 s.chr ++ leBytes 8 s.chr)) := by
  simp only [State.timeTaken, State.timeReq, formed, op, length, Bool.not_true, Bool.false_eq_true, if_false, if_true]

theorem State.timeTaken_response {p t1 t4 : Nat} {f : Frame} (formed : wellFormedHeader f = true) (op : f.opcode = 9)
    (sent : s.chrU.sent = some (t1, p)) (length : f.payload.length = 24) (echo : leNat (slice f.payload 0 8) = t1) :
    s.timeTaken p f t4 = s.chrExchange (theta t1 (leNat (slice f.payload 8 8)) (leNat (slice f.payload 16 8)) t4
      (toSigned 32 (s.obj (Obj.CHR_PORT_CAL p)))) := by
  have other : f.opcode ≠ 8 := by omega
  rw [State.timeTaken, if_neg (by simp [formed]), if_neg other, State.timeRsp, sent]
  exact if_pos ⟨rfl, length, echo⟩

section
variable {a : Arrival} {f : Frame} (t : s.LinkTakes a f)
include t

/-- Owing the credit of the frame changes neither the Chronometer nor the time. -/
theorem State.LinkTakes.owing_chr : ((s.linkReceive a f).2.owe (some a.port) f).chr = s.chr := by
  rw [t.linkReceive_eq]
  exact State.linkTaken_chr a f

theorem State.LinkTakes.owing_now : ((s.linkReceive a f).2.owe (some a.port) f).now = s.now := by
  rw [t.linkReceive_eq]
  exact State.linkTaken_now a f

theorem State.LinkTakes.owing_chrU : ((s.linkReceive a f).2.owe (some a.port) f).chrU = s.chrU := by
  rw [t.linkReceive_eq]
  exact State.linkTaken_chrU a f

end

/-! ### The Charts' times (R284, R286, R287) -/

theorem doChartSwitchTime_due {w : PendSwitch} (pending : s.switchAt = some w) (due : w.time ≤ s.chr) :
    doChartSwitchTime s = .next (s.performSwitch w) := by
  rw [doChartSwitchTime, pending]
  exact if_pos due

theorem doChartDrainClose_due {e : Nat} (real : e < 2) (draining : s.chartState e = 4) (due : (s.chart e).drainAt + 4000000 ≤ s.chr) :
    doChartDrainClose e s = .next (s.closeChart e) := by
  rw [doChartDrainClose, if_neg (Nat.not_le_of_lt real), if_pos ⟨draining, due⟩]

end

/-- Settles O17: each command meets the case of its own that the hypotheses pick out. -/
theorem timeCompletes : Obligations.TimeCompletes := by
  unfold Obligations.TimeCompletes
  intro s
  refine ⟨fun p running parent due => ?exchange, fun a f takes formed => ⟨fun op length => ?request, fun t1 t4 op sent length echo => ?response⟩,
    fun w pending due => ?_, fun e real draining due => ?_⟩
  case request =>
    have taken := takes.timeArrives_eq s.chr
    rw [op, State.timeTaken_request formed op length, takes.owing_chr, takes.owing_now] at taken
    exact congrArg settled taken
  case response =>
    have taken := takes.timeArrives_eq t4
    rw [op, State.timeTaken_response formed op (by rw [takes.owing_chrU]; exact sent) length echo] at taken
    exact congrArg settled taken
  case exchange =>
    intro u v port
    exact congrArg settled (doChronometerExchange_due running parent due rfl rfl port)
  · exact congrArg settled (doChartSwitchTime_due pending due)
  · exact congrArg settled (doChartDrainClose_due real draining due)

end Sys2Proof.Machine
end

section
/-! PROOFS (11_collectives_and_gradients.md). The frames and the deadline of a collective complete. -/

namespace Sys2Proof.Machine

section
variable {f : Frame} {u : State}

theorem State.takeFrame_contrib (op : f.opcode = 0x10) : State.takeFrame f u = u.takeContrib f := by simp only [State.takeFrame, op]
theorem State.takeFrame_result (op : f.opcode = 0x11) : State.takeFrame f u = u.takeResult f := by simp only [State.takeFrame, op]
theorem State.takeFrame_late (op : f.opcode = 0x12) : State.takeFrame f u = u.takeLate f := by simp only [State.takeFrame, op]

/-- A live context is one in use. -/
theorem State.ctxLive_ne_zero {n : Nat} (live : u.ctxLive n = true) : u.ctxState n ≠ 0 := by
  intro idle
  simp [State.ctxLive, idle] at live

theorem State.TakesContrib.takeContrib_eq {d : Nat} (t : u.TakesContrib f d) : u.takeContrib f =
    (let c := u.ctx (frameCtx f);
      let m := c.payloadElems f.payload;
      ((u.accumulate (frameCtx f) (u.ctxInst (frameCtx f) + d) (c.payloadValues f.addr f.payload)).setMember (frameCtx f) (frameRank f)
        (fun x => if d = 0 then { x with got := x.got + m } else { x with gotNext := x.gotNext + m })).post (.context (frameCtx f)), 0) := by
  have formed : (!(u.ctx (frameCtx f)).reduces || f.mcast) = false := by simp [t.reduces, t.single]
  have whole : (if (u.ctx (frameCtx f)).comp = 0 then f.len * 8 % (u.ctx (frameCtx f)).cF.storeBits == 0
      else f.len % (u.ctx (frameCtx f)).recordLen == 0 && f.addr % 4096 == 0) = true := by
    have := t.whole
    split at this <;> simp_all
  have timely : ¬ (d = 0 ∧ (((u.ctx (frameCtx f)).member (frameRank f)).late ∨
      ((u.ctx (frameCtx f)).closed ∧ u.ctxState (frameCtx f) = 3))) := by
    rintro ⟨present, late | closed⟩
    · exact absurd late (by simp [(t.timely present).1])
    · exact (t.timely present).2 closed
  have sized : ¬ (f.len = 0 ∨ 4096 < f.len ∨
      (u.ctx (frameCtx f)).count < f.addr + (u.ctx (frameCtx f)).payloadElems f.payload) := by
    have := t.length
    have := t.chunk
    omega
  simp only [State.takeContrib, State.ctxLive_ne_zero t.live, t.slice, t.live, formed, t.sender, whole, t.inst, timely, if_false, ne_eq,
    not_true, Bool.not_true, Bool.false_eq_true, false_or, sized]
  rfl

theorem State.TakesResult.takeResult_eq {d : Nat} (t : u.TakesResult f d) : u.takeResult f =
    (let c := u.ctx (frameCtx f);
      let m := f.len * 8 / c.dF.storeBits;
      ((u.ctxWrite (frameCtx f) (c.dst + f.addr * c.dF.storeBits / 8) f.payload).setMember (frameCtx f) (frameRank f)
        (fun x => if d = 0 then { x with res := x.res + m } else { x with resNext := x.resNext + m })).post (.context (frameCtx f)), 0) := by
  have gives : ¬ ((u.ctx (frameCtx f)).op = 0 ∨ ((u.ctx (frameCtx f)).op = 3 ∧ frameRank f ≠ (u.ctx (frameCtx f)).root)) := by
    rintro (none | ⟨broadcast, other⟩)
    · exact t.gives none
    · exact other (t.root broadcast)
  have present : ¬ (d = 0 ∧ ((u.ctx (frameCtx f)).member (frameRank f)).absent = true) := by
    rintro ⟨now, absent⟩
    exact absurd absent (by simp [t.present now])
  have sized : ¬ (f.len = 0 ∨ 4096 < f.len ∨ f.len * 8 % (u.ctx (frameCtx f)).dF.storeBits ≠ 0 ∨
      f.addr < (if (u.ctx (frameCtx f)).op = 3 then 0 else frameRank f * (u.ctx (frameCtx f)).count) ∨
      (if (u.ctx (frameCtx f)).op = 3 then 0 else frameRank f * (u.ctx (frameCtx f)).count) + (u.ctx (frameCtx f)).count <
        f.addr + f.len * 8 / (u.ctx (frameCtx f)).dF.storeBits ∨ f.addr * (u.ctx (frameCtx f)).dF.storeBits % 8 ≠ 0) := by
    have := t.length
    have := t.whole
    have range := t.range
    dsimp only at range
    omega
  rw [State.takeResult, if_neg (State.ctxLive_ne_zero t.live), if_neg (not_not_intro t.slice), if_neg (by simp [t.live]), if_neg gives,
    if_neg (by simp [t.sender]), if_neg t.other]
  dsimp only
  rw [if_neg sized, t.inst]
  exact if_neg present

/-- A LATE whose context is not in use, or whose collective is over, is only counted (R321). -/
theorem State.takeLate_stale (formed : f.len = 16 ∧ f.mcast = false ∧ f.addr = 0)
    (stale : u.ctxState (frameCtx f) = 0 ∨
      f.slice = u.ctxSlice (frameCtx f) ∧ (u.ctxLive (frameCtx f) = false ∨ u.instanceOf (frameCtx f) f = none)) :
    u.takeLate f = ((u.count 32 Obj.LATE_RECEIVED 1).count 32 Obj.STALE_LATE 1, 0) := by
  rw [State.takeLate, if_neg (by simp [formed])]
  split
  · rfl
  · rename_i used
    obtain ⟨own, past⟩ := stale.resolve_left used
    rw [if_neg (not_not_intro own)]
    rcases past with dead | past
    · rw [dead]
      rfl
    · rw [past]
      split <;> rfl

theorem State.takeLate_live {d : Nat} (formed : f.len = 16 ∧ f.mcast = false ∧ f.addr = 0) (live : u.ctxLive (frameCtx f) = true)
    (inst : u.instanceOf (frameCtx f) f = some d) (slice_ : f.slice = u.ctxSlice (frameCtx f)) (reduces : (u.ctx (frameCtx f)).reduces = true)
    (sender : (u.ctx (frameCtx f)).sender f = true)
    (present : d ≠ 1 → u.ctxState (frameCtx f) ≠ 1 → ((u.ctx (frameCtx f)).member (frameRank f)).absent = false) : u.takeLate f =
      (let upto := leNat (slice f.payload 0 5);
        let w := u.count 32 Obj.LATE_RECEIVED 1;
        if d = 1 then w.setMember (frameCtx f) (frameRank f) (fun m => { m with lateNext := some upto })
        else if u.ctxState (frameCtx f) = 1 then w.setMember (frameCtx f) (frameRank f) (fun m => { m with lateAt := some upto })
        else ((w.stopSending (frameCtx f) (frameRank f)).foldRange (frameCtx f) (frameRank f) upto (u.ctx (frameCtx f)).count).post
          (.context (frameCtx f)), 0) := by
  have idle : (u.count 32 Obj.LATE_RECEIVED 1).ctxState (frameCtx f) = u.ctxState (frameCtx f) := by
    refine State.obj_count_other _ ?_
    simp only [Obj.CTX_STATE, Obj.LATE_RECEIVED]
    omega
  rw [State.takeLate, if_neg (by simp [formed]), if_neg (State.ctxLive_ne_zero live), if_neg (not_not_intro slice_), if_neg (by simp [live]),
    inst]
  dsimp only
  rw [if_neg (by simp [reduces]), if_neg (by simp [sender]), idle]
  by_cases next : d = 1
  · rw [if_pos next, if_pos next]
    rfl
  · rw [if_neg next, if_neg next]
    by_cases armed : u.ctxState (frameCtx f) = 1
    · rw [if_pos armed, if_pos armed]
      rfl
    · rw [if_neg armed, if_neg armed, if_neg (by simp [present next armed])]
      rfl

end

theorem doDeadline_due {s : State} {k : Nat} (real : k < 128) (running : s.ctxState k = 2) (timed : (s.ctx k).dlEn = true)
    (reduces : (s.ctx k).reduces = true) (due : (s.ctx k).due ≤ s.chr) :
    doDeadline k s = .next (((s.tardy k).foldl (State.declareLate k (s.ctx k)) s).post (.context k)) := by
  rw [doDeadline, if_neg (Nat.not_le_of_lt real)]
  exact if_pos ⟨running, timed, reduces, due⟩

/-- Settles O18: each frame completes by what its opcode takes, and the deadline by its case. -/
theorem collectivesComplete : Obligations.CollectivesComplete := by
  unfold Obligations.CollectivesComplete
  intro s f n r
  refine ⟨fun d => ?contrib, fun d => ?result, fun d => ?late, ?stale, fun k real running timed reduces due => ?deadline⟩
  case contrib =>
    refine FrameCompletes.of rfl rfl fun u takes op => ?_
    rw [State.takeFrame_contrib op, takes.takeContrib_eq]
  case result =>
    refine FrameCompletes.of rfl rfl fun u takes op => ?_
    rw [State.takeFrame_result op, takes.takeResult_eq]
  case late =>
    refine FrameCompletes.of rfl rfl fun u ok op => ?_
    obtain ⟨length, single, addr, live, inst, slice_, reduces, sender, present⟩ := ok
    rw [State.takeFrame_late op, State.takeLate_live ⟨length, single, addr⟩ live inst slice_ reduces sender present]
  case stale =>
    refine FrameCompletes.of rfl rfl fun u ok op => ?_
    obtain ⟨length, single, addr, stale⟩ := ok
    rw [State.takeFrame_late op, State.takeLate_stale ⟨length, single, addr⟩ stale]
  case deadline => exact congrArg settled (doDeadline_due real running timed reduces due)

end Sys2Proof.Machine
end

section
/-! PROOFS (13_step_check_and_replay.md). The step check's clocks, votes, decisions and the Consort's stream complete. -/

namespace Sys2Proof.Machine

section
variable {s : State}

/-! ### The step unit's own events (R341, R344, R353, R354) -/

theorem doConsortStream_open (check : s.stepSt = 3) (holds : s.conditionsHold = true) (idle : s.obj Obj.CONSORT_STATE = 0) :
    doConsortStream s = .next s.openStream := by
  rw [doConsortStream, if_neg (by simp [check, holds, idle])]

theorem doCheckTimeout_expired {t : Nat} (checking : s.stepU.checkAt = some t) (limited : s.obj Obj.CHECK_TIMEOUT ≠ 0)
    (expired : t + s.obj Obj.CHECK_TIMEOUT * 1000000 ≤ s.now) :
    doCheckTimeout s = .next (({ s with stepU := { s.stepU with checkAt := none } } : State).stepFail 6 0) := by
  simp only [doCheckTimeout, checking]
  exact if_pos ⟨limited, expired⟩

/-- A stream under way fails its condition when it ends without the image (R354). -/
theorem State.consortFail_streaming (streaming : s.obj Obj.CONSORT_STATE = 1 ∨ s.obj Obj.CONSORT_STATE = 2) :
    s.consortFail = ((s.abandonStream).setObj Obj.CONSORT_STATE 4).stepFail 5 0 :=
  if_pos streaming

theorem doConsortTimeout_expired (streaming : s.obj Obj.CONSORT_STATE = 1 ∨ s.obj Obj.CONSORT_STATE = 2)
    (expired : s.stepU.streamAt + s.obj Obj.CONSORT_TIMEOUT * 1000000 ≤ s.now) :
    doConsortTimeout s = .next (((s.abandonStream).setObj Obj.CONSORT_STATE 4).stepFail 5 0) := by
  rw [← State.consortFail_streaming streaming]
  exact if_pos ⟨streaming, expired⟩

theorem doVoteResend_pending {v : Vote} (vote : s.stepU.lastVote = some v) (pending : s.stepU.resend = true)
    (voted : s.stepSt = 4 ∨ s.stepSt = 5 ∨ s.stepSt = 6) :
    doVoteResend s = .next (({ s with stepU := { s.stepU with resend := false } } : State).sendVote v) := by
  simp only [doVoteResend, vote]
  exact if_pos ⟨pending, voted⟩

end

/-- Settles O19: each command meets the case of its own that the hypotheses pick out. -/
theorem stepClocksComplete : Obligations.StepClocksComplete := by
  unfold Obligations.StepClocksComplete
  refine fun s => ⟨fun check holds idle => ?_, fun t checking limited expired => ?_, fun streaming expired => ?_,
    fun v vote pending voted => ?_⟩
  · exact congrArg settled (doConsortStream_open check holds idle)
  · exact congrArg settled (doCheckTimeout_expired checking limited expired)
  · exact congrArg settled (doConsortTimeout_expired streaming expired)
  · exact congrArg settled (doVoteResend_pending vote pending voted)

section
variable {f : Frame} {u : State}

theorem State.takeFrame_stepVote (op : f.opcode = 0x23) : State.takeFrame f u = u.takeStepVote f := by simp only [State.takeFrame, op]
theorem State.takeFrame_decision (op : f.opcode = 0x24) : State.takeFrame f u = u.takeDecision f := by simp only [State.takeFrame, op]
theorem State.takeFrame_consortData (op : f.opcode = 0x20) : State.takeFrame f u = u.takeConsortData f := by simp only [State.takeFrame, op]
theorem State.takeFrame_consortDone (op : f.opcode = 0x21) : State.takeFrame f u = u.takeConsortDone f := by simp only [State.takeFrame, op]
theorem State.takeFrame_consortAck (op : f.opcode = 0x22) : State.takeFrame f u = u.takeConsortAck f := by simp only [State.takeFrame, op]
theorem State.takeFrame_consortPull (op : f.opcode = 0x25) : State.takeFrame f u = u.takeConsortPull f := by simp only [State.takeFrame, op]
theorem State.takeFrame_consortLoad (op : f.opcode = 0x26) : State.takeFrame f u = u.takeConsortLoad f := by simp only [State.takeFrame, op]

/-! ### Votes at the root (R344, R345) -/

/-- A vote that the root takes: of its step's module set, whole, while the step unit is in use, and for a tally not yet decided. -/
structure State.TakesVote (u : State) (f : Frame) (t : Tally) : Prop where
  length    : f.len = 16
  member    : u.otherStep f = false
  used      : u.stepSt ≠ 0
  unfenced  : u.stepSt ≠ 8
  undecided : t.decision = none
  tally     : (u.openTally (leNat (slice f.payload 0 8)) (leNat (slice f.payload 8 4))).stepU.tallies.find?
    (fun t => t.step == leNat (slice f.payload 0 8) && t.attempt == leNat (slice f.payload 8 4)) = some t

/-- A tally with a vote of a kind from a device noted (R345). -/
def Tally.noting (t : Tally) (kind dev : Nat) : Tally :=
  match kind with
  | 0 => { t with commits := addOnce t.commits dev }
  | 2 => { t with readies := addOnce t.readies dev }
  | _ => t

section
variable {t : Tally} (v : u.TakesVote f t)
include v

/-- What is left of a vote's reception is its tally. -/
theorem State.TakesVote.takeStepVote_eq (known : leNat (slice f.payload 12 4) % 4 ≠ 3) : u.takeStepVote f =
    (let kind := leNat (slice f.payload 12 4) % 4
     let t' := t.noting kind f.srcDev
     let w := (u.openTally (leNat (slice f.payload 0 8)) (leNat (slice f.payload 8 4))).setTally (leNat (slice f.payload 0 8))
      (leNat (slice f.payload 8 4)) t'
     if kind = 1 then (w.tallyDecide t' 1 f.srcDev (bits (leNat (slice f.payload 12 4)) 31 16)).ok
     else if kind = 0 ∧ w.obj Obj.MEMBERS ≤ t'.commits.length then (w.tallyDecide t' 0 0 0).ok
     else if kind = 2 ∧ w.obj Obj.MEMBERS ≤ t'.readies.length then (w.tallyDecide t' 2 0 0).ok
     else w.ok) := by
  rw [State.takeStepVote, if_neg (by simp [v.member]), if_neg (by simp [v.length, known]), if_neg (by simp [v.used, v.unfenced])]
  dsimp only
  rw [v.tally]
  dsimp only
  rw [if_neg (by simp [v.undecided])]
  rfl

theorem State.TakesVote.takeStepVote_commit (kind : leNat (slice f.payload 12 4) % 4 = 0) : u.takeStepVote f =
    (let t' := { t with commits := addOnce t.commits f.srcDev };
      let w := (u.openTally (leNat (slice f.payload 0 8)) (leNat (slice f.payload 8 4))).setTally (leNat (slice f.payload 0 8))
        (leNat (slice f.payload 8 4)) t';
      if w.obj Obj.MEMBERS ≤ t'.commits.length then w.tallyDecide t' 0 0 0 else w, 0) := by
  rw [v.takeStepVote_eq (by omega)]
  simp only [kind, Tally.noting, Nat.zero_ne_one, if_false, true_and, OfNat.zero_ne_ofNat, false_and]
  exact (apply_ite State.ok _ _ _).symm

theorem State.TakesVote.takeStepVote_abort (kind : leNat (slice f.payload 12 4) % 4 = 1) : u.takeStepVote f =
    (((u.openTally (leNat (slice f.payload 0 8)) (leNat (slice f.payload 8 4))).setTally (leNat (slice f.payload 0 8))
      (leNat (slice f.payload 8 4)) t).tallyDecide t 1 f.srcDev (bits (leNat (slice f.payload 12 4)) 31 16), 0) := by
  rw [v.takeStepVote_eq (by omega)]
  simp only [kind, Tally.noting, if_true]
  rfl

theorem State.TakesVote.takeStepVote_ready (kind : leNat (slice f.payload 12 4) % 4 = 2) : u.takeStepVote f =
    (let t' := { t with readies := addOnce t.readies f.srcDev };
      let w := (u.openTally (leNat (slice f.payload 0 8)) (leNat (slice f.payload 8 4))).setTally (leNat (slice f.payload 0 8))
        (leNat (slice f.payload 8 4)) t';
      if w.obj Obj.MEMBERS ≤ t'.readies.length then w.tallyDecide t' 2 0 0 else w, 0) := by
  rw [v.takeStepVote_eq (by omega)]
  simp only [kind, Tally.noting, OfNat.ofNat_ne_one, OfNat.ofNat_ne_zero, if_false, true_and, false_and]
  exact (apply_ite State.ok _ _ _).symm

end

/-! ### Decisions (R346) -/

/-- What a member does on a decision of its step. -/
def State.decided (u : State) : Nat → State
  | 0 => u.commitStep
  | 1 => u.abortStep
  | _ => u.stepEntry 0

/-- The step and the attempt that a spare takes from a decision of a step and an attempt. -/
def standbyKey (step attempt : Nat) : Nat → Nat × Nat
  | 0 => ((step + 1) % 2 ^ 64, attempt)
  | 1 => (step, (attempt + 1) % 2 ^ 32)
  | _ => (step, attempt)

section
variable {d : Nat} (length : f.len = 16) (member : u.otherStep f = false) (decision : leNat (slice f.payload 12 4) % 4 = d) (known : d < 3)
include length member decision known

theorem State.takeDecision_member (active : u.stepSt ≠ 1) (current : (leNat (slice f.payload 0 8), leNat (slice f.payload 8 4)) = u.stepKey)
    (fits : u.decisionFits d = true) : u.takeDecision f = (u.decided d, 0) := by
  simp only [State.takeDecision, decision]
  rw [if_neg (by simp [member]), if_neg (by omega), if_neg active, if_neg (by simp [current, fits])]
  rcases d with _ | _ | d <;> rfl

theorem State.takeDecision_standby (standby : u.stepSt = 1) : u.takeDecision f =
    (u.setObjs [(Obj.STEP_NUM, (standbyKey (leNat (slice f.payload 0 8)) (leNat (slice f.payload 8 4)) d).1),
      (Obj.STEP_ATTEMPT, (standbyKey (leNat (slice f.payload 0 8)) (leNat (slice f.payload 8 4)) d).2)], 0) := by
  simp only [State.takeDecision, decision]
  rw [if_neg (by simp [member]), if_neg (by omega), if_pos standby]
  rcases d with _ | _ | d <;> rfl

end

/-- Settles O20: each frame completes by what its opcode takes. -/
theorem votesComplete : Obligations.VotesComplete := by
  unfold Obligations.VotesComplete
  intro s f step attempt word
  refine ⟨fun t => ?votes, fun c d act num att brought decision => ?decisions⟩
  case votes =>
    intro votes
    have takes {u : State} (ok : votes u) : u.TakesVote f t := by
      obtain ⟨length, member, used, unfenced, undecided, tally⟩ := ok
      exact ⟨length, member, used, unfenced, undecided, tally⟩
    refine ⟨FrameCompletes.of rfl rfl fun u ok op => ?_, FrameCompletes.of rfl rfl fun u ok op => ?_,
      FrameCompletes.of rfl rfl fun u ok op => ?_⟩
    · rw [State.takeFrame_stepVote op, (takes ok.1).takeStepVote_commit ok.2]
    · rw [State.takeFrame_stepVote op, (takes ok.1).takeStepVote_abort ok.2]
    · rw [State.takeFrame_stepVote op, (takes ok.1).takeStepVote_ready ok.2]
  case decisions =>
    obtain ⟨known, arrives, performs, key⟩ : d < 3 ∧ exec c s = settled (s.arriveStep d f) ∧ act = (fun u => u.decided d) ∧
        (num, att) = standbyKey step attempt d := by
      rcases brought with ⟨rfl, rfl, rfl, rfl, rfl⟩ | ⟨rfl, rfl, rfl, rfl, rfl⟩ | ⟨rfl, rfl, rfl, rfl, rfl⟩ <;>
        exact ⟨by decide, rfl, rfl, rfl⟩
    have arrived : exec c s = settled (s.arrive 0x24 f) := arrives.trans (congrArg settled (if_pos decision))
    refine ⟨FrameCompletes.of arrived rfl fun u ok op => ?_, FrameCompletes.of arrived rfl fun u ok op => ?_⟩
    · obtain ⟨length, member, active, current, fits⟩ := ok
      rw [State.takeFrame_decision op, State.takeDecision_member length member decision known active current fits, performs]
    · obtain ⟨length, member, standby⟩ := ok
      rw [State.takeFrame_decision op, State.takeDecision_standby length member decision known standby, ← key]

end

end Sys2Proof.Machine
end

section
/-! PROOFS (13_step_check_and_replay.md). The frames of the Consort's stream complete. -/

namespace Sys2Proof.Machine

section
variable {f : Frame} {u : State}

theorem State.streamDone_answered (sender : f.srcDev = u.obj Obj.CONSORT_OF) (used : u.stepSt ≠ 0) (unfenced : u.stepSt ≠ 8) :
    (u.streamDone f).2 = 0 := by
  rw [State.streamDone, if_neg (not_not_intro sender), if_neg (by simp [used, unfenced])]
  rfl

variable (member : u.otherStep f = false)
include member

theorem State.takeConsortData_kept (sender : f.srcDev = u.obj Obj.CONSORT_OF) (used : u.stepSt ≠ 0) (unfenced : u.stepSt ≠ 8)
    (whole : wholeBlocks f = true) (owned : u.checkRange u.stepSlice (u.slotBase u.pendingSlot + f.addr)
      (f.payload.take (6 * u.obj Obj.MIRROR_PARAMS - f.addr)).length = 0) : u.takeConsortData f =
    (let keep := f.payload.take (6 * u.obj Obj.MIRROR_PARAMS - f.addr);
      let w := u.write (.frame f.srcDev f.cls) (u.slotBase u.pendingSlot + f.addr) keep;
      { w with stepU := { w.stepU with received := some { u.streamOf f with bytes := (u.streamOf f).bytes + f.len } } }, 0) := by
  rw [State.takeConsortData, if_neg (by simp [member, sender]), if_neg (by simp [used, unfenced]), if_neg (by simp [whole])]
  dsimp only
  rw [if_neg (not_not_intro owned)]
  rfl

theorem State.takeConsortDone_stream (length : f.len = 20) (class_ : f.cls ≠ 6) : u.takeConsortDone f = u.streamDone f := by
  rw [State.takeConsortDone, if_neg (by simp [member]), if_neg (not_not_intro length), if_neg class_]

theorem State.takeConsortDone_restore {r : Stream13} (length : f.len = 20) (class_ : f.cls = 6) (restoring : u.stepU.restore = some r)
    (partner : f.srcDev = u.obj Obj.CONSORT_PARTNER) (step : leNat (slice f.payload 0 8) = r.step)
    (bytes : leNat (slice f.payload 8 8) = r.bytes) (whole : r.bytes = 6 * u.obj Obj.SHARD_PARAMS) :
    u.takeConsortDone f = (u.restoreEnd, 0) := by
  rw [State.takeConsortDone, if_neg (by simp [member]), if_neg (not_not_intro length), if_pos class_, restoring]
  dsimp only
  rw [if_neg (not_not_intro partner), if_pos ⟨step, bytes, whole⟩]
  rfl

theorem State.takeConsortAck_streaming (length : f.len = 16) (partner : f.srcDev = u.obj Obj.CONSORT_PARTNER)
    (current : (leNat (slice f.payload 0 8), leNat (slice f.payload 10 4)) = u.stepKey)
    (streaming : u.obj Obj.CONSORT_STATE = 1 ∨ u.obj Obj.CONSORT_STATE = 2) : u.takeConsortAck f =
    (let code := leNat (slice f.payload 8 2);
      let w := u.setObj Obj.CONSORT_LAST
        (u.obj Obj.CONSORT_LAST % 2 ^ 64 + u.chr * 2 ^ 64 + leNat (slice f.payload 0 8) * 2 ^ 128 + code * 2 ^ 192);
      if code ≠ 0 then w.consortFail
      else
        let x := ({ w with stepU := { w.stepU with guard := [] } } : State).setObj Obj.CONSORT_STATE 3;
        if x.stepSt = 3 then x.checkedTest else x, 0) := by
  have stream : ¬ (f.srcDev ≠ u.obj Obj.CONSORT_PARTNER ∨ (leNat (slice f.payload 0 8), leNat (slice f.payload 10 4)) ≠ u.stepKey ∨
      (u.obj Obj.CONSORT_STATE ≠ 1 ∧ u.obj Obj.CONSORT_STATE ≠ 2)) := by
    rintro (other | stale | ⟨idle, done⟩)
    · exact other partner
    · exact stale current
    · exact streaming.elim idle done
  rw [State.takeConsortAck, if_neg (by simp [member]), if_neg (not_not_intro length)]
  dsimp only
  rw [if_neg stream]
  exact (apply_ite State.ok _ _ _).symm

theorem State.takeConsortPull_active (length : f.len = 8) (active : u.obj Obj.MIRROR_ACTIVE ≤ 1) (step : u.obj Obj.MIRROR_STEP = leNat f.payload) :
    u.takeConsortPull f =
      (let a := u.home (u.slotBase (u.obj Obj.MIRROR_ACTIVE));
        let n := 6 * u.obj Obj.MIRROR_PARAMS;
        (u.noteRead 3 a n).sendImage 0x26 6 f.srcDev (leNat f.payload) 0 (u.bytes a n), 0) := by
  rw [State.takeConsortPull, if_neg (by simp [member]), if_neg (not_not_intro length)]
  dsimp only
  rw [if_neg (by simp [active, step])]
  rfl

theorem State.takeConsortLoad_restoring {r : Stream13} (restoring : u.stepU.restore = some r) (partner : f.srcDev = u.obj Obj.CONSORT_PARTNER)
    (whole : wholeBlocks f = true) : u.takeConsortLoad f =
    (let w := ((chunks 192 (f.len / 192 + 1) f.payload).zipIdx).foldl (fun (t : State) x =>
        if f.addr / 192 + x.2 < t.obj Obj.SHARD_PARAMS / 32 then t.restoreBlock (f.addr / 192 + x.2) x.1 else t) u;
      { w with stepU := { w.stepU with restore := some { r with bytes := r.bytes + f.len } } }, 0) := by
  rw [State.takeConsortLoad, if_neg (by simp [member]), restoring]
  dsimp only
  rw [if_neg (not_not_intro partner), if_neg (by simp [whole])]
  rfl

end

/-- Settles O21: each frame completes by what its opcode takes. -/
theorem consortComplete : Obligations.ConsortComplete := by
  unfold Obligations.ConsortComplete
  intro s f step
  refine ⟨?data, ?done, fun r => ?restored, ?ack, ?pull, fun r => ?load⟩ <;> refine FrameCompletes.of rfl rfl fun u ok op => ?_
  case data =>
    obtain ⟨member, sender, used, unfenced, whole, owned⟩ := ok
    rw [State.takeFrame_consortData op, State.takeConsortData_kept member sender used unfenced whole owned]
  case done =>
    obtain ⟨member, length, class_, sender, used, unfenced⟩ := ok
    rw [State.takeFrame_consortDone op, State.takeConsortDone_stream member length class_]
    exact Prod.ext rfl (State.streamDone_answered sender used unfenced)
  case restored =>
    obtain ⟨member, length, class_, restoring, partner, same, bytes, whole⟩ := ok
    rw [State.takeFrame_consortDone op, State.takeConsortDone_restore member length class_ restoring partner same bytes whole]
  case ack =>
    obtain ⟨member, length, partner, current, streaming⟩ := ok
    rw [State.takeFrame_consortAck op, State.takeConsortAck_streaming member length partner current streaming]
  case pull =>
    obtain ⟨member, length, active, same⟩ := ok
    rw [State.takeFrame_consortPull op, State.takeConsortPull_active member length active same]
  case load =>
    obtain ⟨member, restoring, partner, whole⟩ := ok
    rw [State.takeFrame_consortLoad op, State.takeConsortLoad_restoring member restoring partner whole]

end Sys2Proof.Machine
end

section
/-! PROOFS (14_fixes.md). Commands of a Fix under way complete. -/

namespace Sys2Proof.Machine

section
variable {s : State}

/-! ### Encoding (R370, R371) -/

section
variable {die : Nat} (real : die < 2) (encoding : s.fixState = 2) (open_ : s.fixU.ended = false) (flushed : s.flushRecords = some s)
include real encoding open_ flushed

theorem doFixEncode_staged {x : Staged} {rest : List Staged} (staged : s.staged die = x :: rest)
    (sound : s.hasUncorrectable (s.stageAddr die x.slot) 65536 = false) : doFixEncode die s = .next (
      let a := s.stageAddr die x.slot;
      let r := (s.noteRead 3 a 65536).pageRecords x.page (s.bytes a 65536);
      let t := ({ r.2 with fixU := { r.2.fixU with records := r.1.foldl (fun l x => putRecord x l) r.2.fixU.records } } : State).setStaged
        die rest;
      t.flushRecords.getD t) := by
  rw [doFixEncode, if_neg (Nat.not_le_of_lt real), if_neg (by simp [encoding, open_]), flushed]
  dsimp only
  rw [staged]
  exact if_neg (by simp [sound])

theorem doFixEncode_done {t : State} (staged : s.staged die = []) (copied : s.obj Obj.CBW_ACTIVE = 0) (none0 : s.fixU.staged0 = [])
    (none1 : s.fixU.staged1 = []) (closed : s.closeStream = some t) : doFixEncode die s = .next t := by
  rw [doFixEncode, if_neg (Nat.not_le_of_lt real), if_neg (by simp [encoding, open_]), flushed]
  dsimp only
  rw [staged]
  dsimp only
  rw [if_pos ⟨copied, none0, none1⟩, closed]
  rfl

end

/-! ### The engine's own times (R371, R375, R376) -/

theorem doFixStripeRetry_due (encoding : s.fixState = 2) (due : (s.fixU.retries.filter (fun r => decide (r.due ≤ s.now))) ≠ []) :
    doFixStripeRetry s = .next ((s.fixU.retries.filter (fun r => decide (r.due ≤ s.now))).foldl (fun (t : State) r => t.fixSend r.frame)
      { s with fixU := { s.fixU with retries := s.fixU.retries.filter (fun r => !decide (r.due ≤ s.now)) } }) := by
  refine if_neg ?_
  rintro (empty | other)
  · exact due (List.isEmpty_iff.mp empty)
  · exact other encoding

theorem doFixTimeout_expired (encoding : s.fixState = 2) (expired : s.fixU.since + s.obj Obj.FIX_TIMEOUT * 1000000 ≤ s.now) :
    doFixTimeout s = .next (s.post (.fixEnd 2)) :=
  if_pos ⟨encoding, expired⟩

theorem doFixPreparedResend_prepared (pending : s.fixU.resend = true) (prepared : s.fixState = 3) :
    doFixPreparedResend s = .next (({ s with fixU := { s.fixU with resend := false } } : State).sendPrepared 0) := by
  rw [doFixPreparedResend, if_pos pending]
  exact congrArg Host.Outcome.next (if_pos prepared)

theorem doFixApplyDone_applying {a : Nat} (record : s.fixU.apply = some a) (applying : s.fixState = 4) :
    doFixApplyDone s = .next (s.applyFix a) := by
  rw [doFixApplyDone, record]
  exact if_neg (not_not_intro applying)

end

/-! ### A Fix's frames (R371, R374, R375, R381) -/

section
variable {f : Frame} {u : State}

theorem State.takeFrame_stripe (op : f.opcode = 0x30) : State.takeFrame f u = u.takeStripe f := by simp only [State.takeFrame, op]
theorem State.takeFrame_count (op : f.opcode = 0x31) : State.takeFrame f u = u.takeCount f := by simp only [State.takeFrame, op]
theorem State.takeFrame_prepared (op : f.opcode = 0x32) : State.takeFrame f u = u.takePrepared f := by simp only [State.takeFrame, op]
theorem State.takeFrame_decide (op : f.opcode = 0x33) : State.takeFrame f u = u.takeDecide f := by simp only [State.takeFrame, op]
theorem State.takeFrame_pull (op : f.opcode = 0x34) : State.takeFrame f u = u.takePull f := by simp only [State.takeFrame, op]
theorem State.takeFrame_chunk (op : f.opcode = 0x35) : State.takeFrame f u = u.takeChunk f := by simp only [State.takeFrame, op]

section
variable (own : f.slice = u.obj Obj.STEP_SLICE)
include own

theorem State.takeStripe_folded {p d : Nat} {x : ParityRow} {t : State} (current : u.fixCurrent = true)
    (id : bits f.addr 39 24 = u.fixU.id % 2 ^ 16) (sender : u.fixGroup.zipIdx.find? (fun x => x.1 == f.srcDev) = some (d, p))
    (holder : holderOf u.fixD f.aux = u.fixPos) (other : p ≠ u.fixPos) (length : 0 < f.len ∧ f.len ≤ 4096)
    (fits : f.addr % 2 ^ 20 + f.len ≤ 2 ^ 20) (row : u.parityRow f.aux = some (x, t)) : u.takeStripe f =
    (let a := t.slotAddr x.slot + f.addr % 2 ^ 20;
      let v := if t.hasUncorrectable (t.home a) f.len then t.post (.fixEnd 8) else t;
      let w := (v.noteRead 3 (v.home a) f.len).write .unit a (List.zipWith (· ^^^ ·) (v.bytes (v.home a) f.len) f.payload);
      let got := Sparse.set (fun _ => 0) x.got p (Sparse.get (fun _ => 0) x.got p + f.len);
      let rows := w.fixU.rows.map (fun y => if y.row = x.row then { y with got := got } else y);
      ({ w with fixU := { w.fixU with rows } } : State).closeRows.post .fixTest, 0) := by
  have formed : ¬ (holderOf u.fixD f.aux ≠ u.fixPos ∨ p = u.fixPos ∨ f.len = 0 ∨ 4096 < f.len ∨ 2 ^ 20 < f.addr % 2 ^ 20 + f.len) := by
    omega
  rw [State.takeStripe, if_neg (not_not_intro own), if_neg (by simp [current, id]), sender]
  dsimp only
  rw [if_neg formed, row]
  rfl

theorem State.takeCount_noted (length : f.len = 16) (current : u.fixCurrent = true) (id : leNat (slice f.payload 0 4) = u.fixU.id)
    (sender : u.fixGroup.getD (leNat (slice f.payload 8 1) % 16) 0x4000 = f.srcDev) : u.takeCount f =
    (let p := leNat (slice f.payload 8 1) % 16;
      let counts := (p, leNat (slice f.payload 4 4)) :: u.fixU.counts.filter (fun x => x.1 != p);
      ({ u with fixU := { u.fixU with counts } } : State).closeRows.post .fixTest, 0) := by
  rw [State.takeCount, if_neg (not_not_intro own), if_neg (not_not_intro length), if_neg (by simp [current, id]), if_neg (not_not_intro sender)]
  rfl

theorem State.takePrepared_tallied {tally : FixTally} (id : tally.id = leNat (slice f.payload 0 4)) (step : tally.step = leNat (slice f.payload 4 8))
    (length : f.len = 24) (root : u.obj Obj.COMMIT_ROOT = u.selfId)
    (undecided : u.fixU.decisions.find? (fun d => d.id == leNat (slice f.payload 0 4)) = none) (good : leNat (slice f.payload 12 1) = 0)
    (current : u.fixU.tally.getD { id := leNat (slice f.payload 0 4), step := leNat (slice f.payload 4 8), devs := [] } = tally) :
    u.takePrepared f =
      (let devs := if tally.devs.contains f.srcDev then tally.devs else tally.devs ++ [f.srcDev];
        let w : State := { u with fixU := { u.fixU with tally := some { tally with devs } } };
        if devs.length = w.obj Obj.MEMBERS then
          w.fixDecide { id := leNat (slice f.payload 0 4), step := leNat (slice f.payload 4 8), discard := false }
        else w, 0) := by
  rw [State.takePrepared, if_neg (not_not_intro own), if_neg (not_not_intro length), if_neg (not_not_intro root), undecided]
  dsimp only
  rw [current, if_neg (by simp [good, id, step])]
  rfl

theorem State.takeDecide_current {d : Nat} (decision : leNat (slice f.payload 12 4) % 2 = d) (length : f.len = 16)
    (deciding : u.fixState = 2 ∨ u.fixState = 3) (id : leNat (slice f.payload 0 4) = u.fixU.id) : u.takeDecide f =
      (if d = 1 then u.fixDiscard 7 else if u.fixState = 2 then u.clearMarks.fixCommit else u.fixCommit, 0) := by
  rw [State.takeDecide, if_neg (not_not_intro own), if_neg (not_not_intro length), if_pos ⟨deciding, id⟩, decision]
  simp only [beq_iff_eq]
  rfl

theorem State.takePull_stored {k : Nat} (length : f.len = 8)
    (stored : u.storeSlot (leNat (slice f.payload 0 4)) (leNat (slice f.payload 4 4)) = some k) : u.takePull f =
    (let w := u.noteDir;
      (List.range 256).foldl (fun (t : State) i => t.fixSend (unitFrame 0x35 6 f.srcDev 0 (leNat (slice f.payload 4 4))
        (i * 4096 + leNat (slice f.payload 0 4) % 2 ^ 16 * 2 ^ 24) (slice (w.bytes (w.home (w.slotAddr k)) (2 ^ 20)) (i * 4096) 4096)))
        (w.noteRead 3 (w.home (w.slotAddr k)) (2 ^ 20)), 0) := by
  rw [State.takePull, if_neg (not_not_intro own), if_neg (not_not_intro length), stored]
  rfl

theorem State.takeChunk_folded {b : Rebuild} (rebuilding : u.fixU.rebuild = some b) (state : u.fixState = 5)
    (id : bits f.addr 39 24 = b.id % 2 ^ 16) (length : 0 < f.len ∧ f.len ≤ 4096) (fits : f.addr % 2 ^ 20 + f.len ≤ 2 ^ 20)
    (row : b.rows.any (fun r => r.1 == f.aux) = true) : u.takeChunk f =
      (({ u with fixU := { u.fixU with rebuild := some (b.addChunk u.fixD f) } } : State).post .fixTest, 0) := by
  have formed : ¬ (f.len = 0 ∨ 4096 < f.len ∨ 2 ^ 20 < f.addr % 2 ^ 20 + f.len ∨ (!(b.rows.any (fun r => r.1 == f.aux))) = true) := by
    rw [row]
    simp only [Bool.not_true, Bool.false_eq_true, or_false]
    omega
  rw [State.takeChunk, if_neg (not_not_intro own), rebuilding]
  dsimp only
  rw [if_neg (by simp [state, id]), if_neg formed]
  rfl

end
end

/-- Settles O22: each frame completes by what its opcode takes, and the engine's own events by their cases. -/
theorem fixesComplete : Obligations.FixesComplete := by
  unfold Obligations.FixesComplete
  intro s f id own
  refine ⟨fun die real encoding open_ => ⟨fun x rest staged sound => ?encode, fun t flushed staged copied none0 none1 closed => ?close⟩,
    fun p d x t => ?stripe, ?count, fun encoding due => ?retry, fun tally same step => ?prepared, fun c d brought decision => ?decide,
    fun encoding expired => ?timeout, fun pending prepared => ?resend, fun k => ?pull, fun b => ?chunk, fun a record applying => ?apply⟩
  case encode =>
    intro a r t flushed
    exact congrArg settled (doFixEncode_staged real encoding open_ flushed staged sound)
  case close => exact congrArg settled (doFixEncode_done real encoding open_ flushed staged copied none0 none1 closed)
  case stripe =>
    refine FrameCompletes.of rfl rfl fun u ok op => ?_
    obtain ⟨sliced, current, same, sender, holder, other, positive, short, fits, row⟩ := ok
    rw [State.takeFrame_stripe op, State.takeStripe_folded sliced current same sender holder other ⟨positive, short⟩ fits row]
  case count =>
    refine FrameCompletes.of rfl rfl fun u ok op => ?_
    obtain ⟨sliced, length, current, same, sender⟩ := ok
    rw [State.takeFrame_count op, State.takeCount_noted sliced length current same sender]
  case prepared =>
    refine FrameCompletes.of rfl rfl fun u ok op => ?_
    obtain ⟨sliced, length, root, undecided, good, current⟩ := ok
    rw [State.takeFrame_prepared op, State.takePrepared_tallied sliced same step length root undecided good current]
  case decide =>
    have arrives : exec c s = settled (s.arriveFix d f) := by
      rcases brought with ⟨rfl, rfl⟩ | ⟨rfl, rfl⟩ <;> rfl
    refine FrameCompletes.of (arrives.trans (congrArg settled (if_pos decision))) rfl fun u ok op => ?_
    obtain ⟨sliced, length, deciding, same⟩ := ok
    rw [State.takeFrame_decide op, State.takeDecide_current sliced decision length deciding same]
  case pull =>
    refine FrameCompletes.of rfl rfl fun u ok op => ?_
    obtain ⟨sliced, length, stored⟩ := ok
    rw [State.takeFrame_pull op, State.takePull_stored sliced length stored]
  case chunk =>
    refine FrameCompletes.of rfl rfl fun u ok op => ?_
    obtain ⟨sliced, rebuilding, state, same, positive, short, fits, row⟩ := ok
    rw [State.takeFrame_chunk op, State.takeChunk_folded sliced rebuilding state same ⟨positive, short⟩ fits row]
  case retry => exact congrArg settled (doFixStripeRetry_due encoding due)
  case timeout => exact congrArg settled (doFixTimeout_expired encoding expired)
  case resend => exact congrArg settled (doFixPreparedResend_prepared pending prepared)
  case apply => exact congrArg settled (doFixApplyDone_applying record applying)

end Sys2Proof.Machine
end

section
/-! PROOFS (15_reserves_and_drift.md). Commands of the Reserves, the Drift and health signs complete. -/

namespace Sys2Proof.Machine

section
variable {s : State}

/-! ### A Reserve's test (R389–R392) -/

section
variable {core : Nat} (real : core < 104) (reserve : isReserve core = true)
include real reserve

theorem not_other_reserve : ¬ (isReserve core = false ∨ 104 ≤ core) := by
  simp [reserve, real]

section
variable (waking : s.rsv core = 1) (powered : s.pd (core / 2) = 2) {u : State}
include waking powered

theorem doReserveReady_passed_for {w : Swap} (hu : ((s.coreReset core).setCoreSt core .off).setRsv core 2 = u) (swap : u.swapOf core = some w) :
    doReserveReady core true s = .next (((u.setObjs [(Obj.CORE_MODE core, u.obj (Obj.CORE_MODE w.core)),
      (Obj.ENTRY_PC core, u.obj (Obj.ENTRY_PC w.core)), (Obj.PROG_GEN core, u.obj (Obj.PROG_GEN w.core))]).preload core w.core).post
        .bringIn) := by
  rw [doReserveReady, if_neg (not_other_reserve real reserve), if_neg (by simp [waking, powered])]
  simp only [if_true, hu, swap]

theorem doReserveReady_passed_free (hu : ((s.coreReset core).setCoreSt core .off).setRsv core 2 = u) (free : u.swapOf core = none) :
    doReserveReady core true s = .next ((u.setIdleSince core (some u.now)).findAgain) := by
  rw [doReserveReady, if_neg (not_other_reserve real reserve), if_neg (by simp [waking, powered])]
  simp only [if_true, hu, free]

theorem doReserveReady_failed_for {w : Swap}
    (hu : (((s.setRsv core 4).moduleHealth 32).driftEvent 20 0 1).logEvent .reserveFailed 0 (srcCode 1 core) 0xFFFF 0 = u)
    (swap : u.swapOf core = some w) : doReserveReady core false s = .next ((u.setSwaps (u.health.swaps.map
      (fun x => if x.core = w.core then { x with reserve := none } else x))).findReserve w.core) := by
  rw [doReserveReady, if_neg (not_other_reserve real reserve), if_neg (by simp [waking, powered])]
  simp only [Bool.false_eq_true, if_false, hu, swap]

theorem doReserveReady_failed_free
    (hu : (((s.setRsv core 4).moduleHealth 32).driftEvent 20 0 1).logEvent .reserveFailed 0 (srcCode 1 core) 0xFFFF 0 = u)
    (free : u.swapOf core = none) : doReserveReady core false s = .next u := by
  rw [doReserveReady, if_neg (not_other_reserve real reserve), if_neg (by simp [waking, powered])]
  simp only [Bool.false_eq_true, if_false, hu, free]

end

theorem doReserveIdleTimeout_idle (ready : s.rsv core = 2) (free : s.swapOf core = none)
    (long : heldFor (Sparse.get (fun _ => none) s.health.idleSince core) s.now 60000000000 = true) :
    doReserveIdleTimeout core s = .next ((((s.setRsv core 0).setIdleSince core none).coreOff core).pairOff core) := by
  rw [doReserveIdleTimeout, if_neg (not_other_reserve real reserve)]
  exact if_pos ⟨ready, by simp [free], long⟩

end

/-! ### The Drift (R394, R398) -/

theorem doDriftEvaluation_due (canaries : List (Nat × Int)) (lost : Nat) (started : 2 ≤ s.obj Obj.START_STATE)
    (due : s.health.evaluateDue = true ∨ s.health.evaluated + 1000000000 ≤ s.now) : doDriftEvaluation canaries lost s = .next (
      let h := s.hmuWork;
      let u : State := { h with health := { h.health with xdLost := lost, evaluated := h.now, evaluateDue := false } };
      let v := canaries.foldl (fun (t : State) (c : Nat × Int) =>
        if c.1 < 104 ∧ !t.sleeping c.1 then t.setObj (Obj.CANARY_PS c.1) (ofSigned 32 c.2) else t) u;
      (((List.range 104).foldl State.evalCore v).autoSwaps (fun n => v.obj (Obj.CORE_DRIFT_STATE n))).findAgain.evalModule) := by
  rw [doDriftEvaluation, if_neg (Nat.not_lt_of_le started)]
  exact if_pos due

theorem doDriftPersist_due (due : s.health.saved + 3600000000000 ≤ s.now) : doDriftPersist s =
    .next ({ s with health := { s.health with saved := s.now, savedInputs := s.drift } } : State).flashWrite :=
  if_pos due

/-! ### Lanes, phases and sensors (R387, R388, R396) -/

theorem doLaneSwapRequest_above {p lane : Nat} (real : p < 16) (inPort : lane < 4) (above : 10 ≤ s.closeWindow.laneRun (p * 4 + lane))
    (spare : s.closeWindow.spareFree p = true) (new : p * 4 + lane ∉ s.closeWindow.health.lanePending) : doLaneSwapRequest p lane s = .next (
      let u := s.closeWindow;
      ({ u with health := { u.health with lanePending := u.health.lanePending ++ [p * 4 + lane] } } : State).post .bringIn) := by
  rw [doLaneSwapRequest, withPort_real real, Nat.mod_eq_of_lt inPort]
  dsimp only
  rw [if_neg (by simp [above, spare, new])]

/-- How many phases a rail has lost with the one that is now shed. -/
def State.phasesShed (s : State) (rail : Rail) : Nat := Sparse.get (fun _ => 0) s.health.phases (railNo rail) + 1

/-- The shedding of a phase counted and noted. -/
def State.shedding (s : State) (rail : Rail) : State :=
  let phases := Sparse.set (fun _ => 0) s.health.phases (railNo rail) (s.phasesShed rail)
  (({ s with health := { s.health with phases } } : State).count 8 Obj.PHASE_SHED 1).moduleHealth 128

theorem doPhaseShed_die {d : Nat} (real : d < 2) : doPhaseShed (.die d) s =
    .next (if s.phasesShed (.die d) < 2 then s.shedding (.die d) else (s.shedding (.die d)).setRequest d 7 3) := by
  obtain rfl | rfl : d = 0 ∨ d = 1 := by omega
  all_goals
    rw [apply_ite Host.Outcome.next]
    rfl

theorem doPhaseShed_shared {rail : Rail} (shared : rail = .xd ∨ rail = .hbm) : doPhaseShed rail s =
    .next (if s.phasesShed rail < 2 then s.shedding rail else (s.shedding rail).setRequests 7 3) := by
  obtain rfl | rfl := shared
  all_goals
    rw [apply_ite Host.Outcome.next]
    rfl

theorem doSensorLost_silent {site k : Nat} (real : site < 28) (two : k < 2) (new : 2 * site + k ∉ s.health.sensorsLost)
    (silent : Sparse.get (fun _ => 0) s.health.sensorSeen (2 * site + k) + 1000000 ≤ s.now) : doSensorLost site k s =
      .next (({ s with health := { s.health with sensorsLost := s.health.sensorsLost ++ [2 * site + k] } } : State).moduleHealth
        0x200).sensorRequest := by
  rw [doSensorLost, if_neg (by omega)]
  refine if_neg ?_
  rintro (known | seen)
  · exact new known
  · exact absurd silent (Nat.not_le_of_lt seen)

end

/-- Settles O23: each command meets the case of its own that the hypotheses pick out. -/
theorem reservesComplete : Obligations.ReservesComplete := by
  unfold Obligations.ReservesComplete
  intro s
  refine ⟨fun core real reserve => ⟨fun waking powered => ⟨⟨fun w swap => ?_, fun free => ?_⟩, ⟨fun w swap => ?_, fun free => ?_⟩⟩,
    fun ready free long => ?_⟩, fun canaries lost started due => ?_, fun due => ?_, fun p real lane inPort => ?lane,
    fun rail => ⟨fun d real same => ?die, fun shared => ?_⟩, fun site real k two new silent => ?_⟩
  · exact congrArg settled (doReserveReady_passed_for real reserve waking powered rfl swap)
  · exact congrArg settled (doReserveReady_passed_free real reserve waking powered rfl free)
  · exact congrArg settled (doReserveReady_failed_for real reserve waking powered rfl swap)
  · exact congrArg settled (doReserveReady_failed_free real reserve waking powered rfl free)
  · exact congrArg settled (doReserveIdleTimeout_idle real reserve ready free long)
  · exact congrArg settled (doDriftEvaluation_due canaries lost started due)
  · exact congrArg settled (doDriftPersist_due due)
  case lane =>
    intro u above spare new
    exact congrArg settled (doLaneSwapRequest_above real inPort above spare new)
  case die =>
    subst same
    exact congrArg settled (doPhaseShed_die real)
  · exact congrArg settled (doPhaseShed_shared shared)
  · exact congrArg settled (doSensorLost_silent real two new silent)

end Sys2Proof.Machine
end

section
/-! PROOFS (16_power_clocks_thermal.md). Commands of power, clocks, temperature and pins complete. -/

namespace Sys2Proof.Machine

section
variable {s : State}

/-! ### Samples of the input (R402–R404) -/

section
variable (mv ma : Nat)

theorem doInputSample_on (closed : s.power.open_ = false) (light : s.power.dark = false) :
    doInputSample mv ma s = .next (s.wakeOn (((s.recordSample mv ma).voltage mv).powerLimit (mv * ma / 1000))) := by
  simp only [doInputSample, closed, light, Bool.false_eq_true, if_false]

theorem doInputSample_dark (closed : s.power.open_ = false) (dark : s.power.dark = true) :
    doInputSample mv ma s = .next { s with power := { s.power with dark := decide (mv < 20000) } } := by
  rw [doInputSample, if_neg (by simp [closed]), if_pos dark]

theorem doInputSample_open (isOpen : s.power.open_ = true) : doInputSample mv ma s = .next (
    let inRange := heldSince s.power.inRange s.now (decide (30000 ≤ mv) && decide (mv ≤ 40000));
    { s with power := if heldFor inRange s.now 1000000000 then
        { PowerUnit.reset with epoPin := s.power.epoPin, fencePin := s.power.fencePin, thrPin := s.power.thrPin }
      else { s.power with inRange := inRange } }) := by
  rw [doInputSample, if_pos isOpen]
  dsimp only
  split <;> rfl

end

/-! ### Domains (R406, R407) -/

theorem withDomain_real {d : Nat} {o : Out} (real : d < 78) : withDomain s d o = o := if_pos (by omega)

theorem withDie_real {die : Nat} {o : Out} (real : die < 2) : withDie s die o = o := if_pos real

section
variable {d : Nat} (real : d < 78)
include real

theorem doDomainPowerGood_waking (waking : s.power.waking.any (fun w => w.1 == d) = true) : doDomainPowerGood d s =
    .next ((({ s with power := { s.power with waking := s.power.waking.filter (fun w => w.1 != d) } } : State).domainOn d).nextRamps) := by
  rw [doDomainPowerGood, withDomain_real real]
  exact if_pos waking

/-- A stack that comes out of off has its lanes tested once it is on (R233). -/
theorem doPowerGood_waking (margins : List LaneMargin) (waking : s.power.waking.any (fun w => w.1 == d) = true) :
    doPowerGood ⟨d, margins⟩ s = .next (
      let t := (({ s with power := { s.power with waking := s.power.waking.filter (fun w => w.1 != d) } } : State).domainOn d).nextRamps;
      if 52 ≤ d ∧ d < 64 ∧ s.obj (Obj.STACK_STATE (d - 52)) = 0 then
        t.pendFailing false 3 (margins.filter (fun m => m.stack == d - 52))
      else t) := by
  rw [doPowerGood]
  simp only [doDomainPowerGood_waking real waking, waking, Bool.and_true, Bool.and_eq_true, decide_eq_true_eq, beq_iff_eq, and_assoc]

theorem doDomainWakeFail_late (late : s.power.waking.any (fun w => w.1 == d && decide (w.2 ≤ s.now)) = true) : doDomainWakeFail d s = .next (
    let v : State := { s.setPd d 4 with power := { s.power with waking := s.power.waking.filter (fun w => w.1 != d) } };
    ((((v.pwrStatus 0x80).alert 2).logEvent .domainFail 0 (srcCode 0 0) 0xFFFF d).dropWaiting d).nextRamps) := by
  rw [doDomainWakeFail, withDomain_real real]
  exact if_pos late

end

/-! ### Clocks (R409–R411) -/

section
variable {die : Nat} (real : die < 2)
include real

theorem doPllLock_switching {t : Nat} (relock : (s.pll die).relock = some t) : doPllLock die s = .next (s.switchStep die t) := by
  rw [doPllLock, withDie_real real]
  simp only [relock]

theorem doPllLock_locked (steady : (s.pll die).relock = none) (running : (s.pll die).idle = false) :
    doPllLock die s = .next (s.setPll die { s.pll die with idle := true }) := by
  rw [doPllLock, withDie_real real]
  simp only [steady, running, Bool.false_eq_true, if_false]

theorem doThrottleStepUp_due {t : Nat} (up : (s.pll die).upSince = some t) (slower : s.slowest die < s.clkStep die)
    (due : t + 10000000 ≤ s.now) (steady : (s.pll die).relock = none) : doThrottleStepUp die s =
      .next ((s.setPll die { s.pll die with upSince := some s.now }).toStep die (s.clkStep die - 1)) := by
  rw [doThrottleStepUp, withDie_real real]
  simp only [up]
  exact if_pos ⟨slower, due, by simp [steady]⟩

end

theorem doSiteTempSample_alive (readings : List (Option Int × Option Int)) (alive : s.dead = false) : doSiteTempSample readings s = .next (
    let u := (((readings.take 28).zipIdx).foldl (fun (t : State) r => t.readSite r.2 r.1) s).sensorRequest;
    s.wakeOn ((List.range 104).foldl State.excursion ((u.actDie 0).actDie 1).actXd)) := by
  rw [doSiteTempSample, if_neg (by simp [alive])]

/-! ### Pins (R358, R412, R413) -/

/-- A pin of a module that is dead is only kept. -/
theorem settled_of_dead {p t : State} (dead : p.dead = true) : settled (.next (if p.dead then p else t)) = .next p.after := by
  rw [if_pos dead]
  rfl

theorem settled_of_alive {p t : State} (alive : p.dead = false) : settled (.next (if p.dead then p else t)) = .next t.after := by
  rw [if_neg (ne_true_of_eq_false alive)]
  rfl

section
variable (alive : s.dead = false)
include alive

/-- FENCE_N of a module that runs and is not fenced fences it. -/
theorem doFenceN_fences {u : State} (hu : ({ s with power := { s.power with fencePin := true } } : State).hmuWork = u)
    (on : s.obj Obj.EPO_STATE = 0) (unfenced : s.obj Obj.FENCE_STATE = 0) (started : s.obj Obj.START_STATE = 4) :
    doFenceN s = .next (u.fenceModule 2 0) := by
  have objects (k : Nat) : u.obj k = s.obj k := by
    rw [← hu]
    rfl
  rw [doFenceN]
  dsimp only
  rw [if_neg (show ¬ ({ s with power := { s.power with fencePin := true } } : State).dead = true from ne_true_of_eq_false alive), hu,
    objects, objects, objects, on, unfenced, started]
  rfl

theorem doFenceN_deepens {u : State} (hu : ({ s with power := { s.power with fencePin := true } } : State).hmuWork = u)
    (on : s.obj Obj.EPO_STATE = 0) (fenced : s.obj Obj.FENCE_STATE = 1) :
    doFenceN s = .next { u.setObj Obj.FENCE_STATE 2 with beaconDue := true } := by
  have objects (k : Nat) : u.obj k = s.obj k := by
    rw [← hu]
    rfl
  rw [doFenceN]
  dsimp only
  rw [if_neg (show ¬ ({ s with power := { s.power with fencePin := true } } : State).dead = true from ne_true_of_eq_false alive), hu,
    objects, objects, on, fenced]
  rfl

end
end

/-- Settles O24: each command meets the case of its own that the hypotheses pick out; a pin acts where the module is not dead. -/
theorem powerCompletes : Obligations.PowerCompletes := by
  unfold Obligations.PowerCompletes
  intro s
  refine ⟨fun mv ma => ⟨fun closed light => ?_, fun closed dark => ?_, fun isOpen => ?_⟩,
    fun d real => ⟨fun margins waking => ?good, fun late => ?_⟩,
    fun die real => ⟨fun t relock => ?_, fun steady running => ?_, fun t up slower due steady => ?_⟩, fun readings alive => ?_, ?pins,
    fun alive => ?fence⟩
  · exact congrArg settled (doInputSample_on mv ma closed light)
  · exact congrArg settled (doInputSample_dark mv ma closed dark)
  · exact congrArg settled (doInputSample_open mv ma isOpen)
  case good =>
    intro t
    exact congrArg settled (doPowerGood_waking real margins waking)
  · exact congrArg settled (doDomainWakeFail_late real late)
  · exact congrArg settled (doPllLock_switching real relock)
  · exact congrArg settled (doPllLock_locked real steady running)
  · exact congrArg settled (doThrottleStepUp_due real up slower due steady)
  · exact congrArg settled (doSiteTempSample_alive readings alive)
  case pins =>
    intro pins epo fence thr
    have dead (e f t : Bool) : (pins e f t).dead = s.dead := rfl
    refine ⟨fun isDead => ⟨?_, ?_, ?_, ?_, congrArg settled (if_pos ((dead epo true thr).trans isDead)), ?_⟩,
      fun alive => ⟨?_, ?_, ?_, ?_, ?_⟩⟩
    · exact settled_of_dead (p := pins epo fence true) isDead
    · exact settled_of_dead (p := pins epo fence false) isDead
    · exact settled_of_dead (p := pins true fence thr) isDead
    · exact settled_of_dead (p := pins false fence thr) isDead
    · exact settled_of_dead (p := pins epo false thr) isDead
    · exact settled_of_alive (p := pins epo fence true) alive
    · exact settled_of_alive (p := pins epo fence false) alive
    · exact settled_of_alive (p := pins true fence thr) alive
    · exact settled_of_alive (p := pins false fence thr) alive
    · exact settled_of_alive (p := pins epo false thr) alive
  case fence =>
    intro u
    exact ⟨fun on unfenced started => congrArg settled (doFenceN_fences alive rfl on unfenced started),
      fun on fenced => congrArg settled (doFenceN_deepens alive rfl on fenced)⟩

end Sys2Proof.Machine
end

section
/-! PROOFS (17_management_unit.md). Messages of the dictionary protocol complete. -/

namespace Sys2Proof.Machine

section
variable {s : State} {q : HdpReq}

/-! ### What a granted message is served with (R424–R428) -/

/-- An object's checks, passed when a message is granted, are passed by the role that its work takes. -/
theorem State.Grants.roleCode {write : Bool} {kind : Option Bool} (g : s.Grants q write kind) :
    (s.heard q).objectCode (reqKey q) ((s.heard q).roleOf q) write kind = 0 := by
  rw [roleOf_heard g.firmware]
  exact g.object

theorem State.Grants.readExpWork_eq (g : s.Grants q false (some false)) (length : q.len = 0) : readExpWork q (s.heard q) =
    { state := s.heard q, code := 0, payload := (s.heard q).viewBytes (reqKey q) (objRow (reqKey q)).size, segno := 0, silent := false } := by
  rw [readExpWork, if_neg (not_not_intro g.roleCode), if_neg (not_not_intro length)]

theorem State.Grants.writeExpWork_eq (g : s.Grants q true (some false)) :
    writeExpWork q (s.heard q) = served ((s.heard q).performWrite (reqKey q) q.payload) := by
  rw [writeExpWork, if_neg (not_not_intro g.roleCode)]

/-- A transfer that a READ_SEG opens. -/
def State.openedRead (u : State) (q : HdpReq) : Transfer :=
  { opener := q, write := false, total := (objRow (reqKey q)).size, bytes := u.viewBytes (reqKey q) (objRow (reqKey q)).size, done := 0, sent := 0,
    progress := u.now, resentAt := u.now }

/-- A transfer that a WRITE_SEG opens. -/
def State.openedWrite (u : State) (q : HdpReq) : Transfer :=
  { opener := q, write := true, total := leNat q.payload, bytes := [], done := 0, sent := 0, progress := u.now, resentAt := u.now }

theorem State.Grants.readSegWork_eq {t : Nat} (g : s.Grants q false (some true)) (free : (s.heard q).freeTransfer = some t) :
    readSegWork q (s.heard q) =
      { state := (s.heard q).setTransfer t (some ((s.heard q).openedRead q)), code := 0, payload := leBytes 8 (objRow (reqKey q)).size,
        segno := 0, silent := false } := by
  rw [readSegWork, if_neg (not_not_intro g.roleCode), free]
  rfl

theorem State.Grants.writeSegWork_eq {t : Nat} (g : s.Grants q true (some true)) (length : q.len = 8) (fits : leNat q.payload ≤ 2 ^ 24)
    (free : (s.heard q).freeTransfer = some t) (alone : (s.heard q).writeOpen (reqKey q) = false) :
    writeSegWork q (s.heard q) = served ((s.heard q).setTransfer t (some ((s.heard q).openedWrite q)), 0) := by
  rw [writeSegWork, if_neg (not_not_intro g.roleCode), if_neg (by omega), free, alone]
  rfl

/-- A transfer with its next segment taken. -/
def State.segmentTaken (u : State) (q : HdpReq) (x : Transfer) : Transfer :=
  { x with bytes := x.bytes ++ q.payload, done := x.done + 1, progress := u.now }

theorem State.applyTransfer_whole {u : State} {x : Transfer} {role : Nat} (segno : Nat) (whole : x.bytes.length = x.total)
    (granted : u.objectCode (reqKey x.opener) role true (some true) = 0) : u.applyTransfer x role segno =
      { served (u.performWrite (reqKey x.opener) x.bytes) with segno } := by
  rw [State.applyTransfer, if_neg (not_not_intro whole), if_neg (not_not_intro granted)]

section
variable {u : State} {t : Nat} {x : Transfer} (found : u.transferOf q true = some (t, x)) (next : q.segno = x.done)
include found next

theorem segmentWork_more (full : q.len = 1024) (more : (u.segmentTaken q x).bytes.length < (u.segmentTaken q x).total) : segmentWork q u =
    { served ((u.setTransfer t (some (u.segmentTaken q x))).ok) with
      segno := q.segno, silent := (u.segmentTaken q x).done % 8 != 0 } := by
  rw [segmentWork, found]
  dsimp only
  rw [if_neg (by omega), if_neg (by omega), if_neg]
  · rfl
  · rintro (short | done)
    · omega
    · exact absurd more (Nat.not_lt_of_le done)

theorem segmentWork_last (whole : (u.segmentTaken q x).bytes.length = (u.segmentTaken q x).total)
    (granted : (u.setTransfer t none).objectCode (reqKey x.opener) (u.roleOf q) true (some true) = 0) : segmentWork q u =
    { served ((u.setTransfer t none).performWrite (reqKey x.opener) (u.segmentTaken q x).bytes) with segno := q.segno } := by
  rw [segmentWork, found]
  dsimp only
  rw [if_neg (by omega), if_neg (by omega), if_pos (.inr (Nat.le_of_eq whole.symm))]
  exact State.applyTransfer_whole _ whole granted

end

theorem responseWork_found {u : State} {t : Nat} {x : Transfer} (found : u.transferOf q false = some (t, x)) : responseWork q u =
    { served ((u.pushRead t { x with
        done := max x.done (min (q.segno + 1) x.sent), progress := if x.done < q.segno + 1 then u.now else x.progress }).ok) with
      silent := true } := by
  rw [responseWork, found]

/-! ### Subscriptions (R427) -/

section
variable (g : s.Grants q false none) (length : q.len = 8) (interval : 10 ≤ subInterval q ∧ subInterval q ≤ 60000)
  (lease : 1 ≤ subLease q ∧ subLease q ≤ 3600) (small : (objRow (reqKey q)).size ≤ 1024) {n : Nat}
include g length interval lease small

theorem State.Grants.subscribeWork_renews (held : (s.heard q).subOf q = some n) : subscribeWork q (s.heard q) =
    served ((s.heard q).setSub n (((s.heard q).sub n).map
      (fun x => { x with req := q, expires := (s.heard q).now + subLease q * 1000000000 })), 0) := by
  rw [subscribeWork, if_neg (not_not_intro g.roleCode), if_neg (by simp [length, interval, lease, small]), held]
  rfl

theorem State.Grants.subscribeWork_opens (new : (s.heard q).subOf q = none)
    (free : (List.range 64).find? (fun n => ((s.heard q).sub n).isNone) = some n) : subscribeWork q (s.heard q) =
    served ((s.heard q).setSub n (some
      { req := q, seen := (s.heard q).view (reqKey q), dirty := false, last := none, segno := 0,
        expires := (s.heard q).now + subLease q * 1000000000 }), 0) := by
  rw [subscribeWork, if_neg (not_not_intro g.roleCode), if_neg (by simp [length, interval, lease, small]), new, free]
  rfl

end

theorem State.Grants.unsubscribeWork_eq {n : Nat} (g : s.Grants q false none) (held : (s.heard q).subOf q = some n) :
    unsubscribeWork q (s.heard q) = served ((s.heard q).setSub n none, 0) := by
  rw [unsubscribeWork, if_neg (not_not_intro g.roleCode), held]
  rfl

end

/-- Settles O25: each message is heard, and what its work makes of it is answered. -/
theorem messagesComplete : Obligations.MessagesComplete := by
  unfold Obligations.MessagesComplete
  intro s q u key
  refine ⟨fun typ length g => ?readExp, fun w typ g written => ?writeExp, fun t typ g free => ?readSeg,
    fun t typ g length fits free alone => ?writeSeg, fun t x typ hears found next => ?segment, fun t x typ hears found => ?response,
    fun typ hears => ?abort, fun typ g length low high short long small => ?subscribe, fun n typ g held => ?unsubscribe⟩
  case readExp =>
    show settled (.next (if q.typ = 0 ∨ 12 ≤ q.typ then s.hdpReceive q true (readExpWork q) else s)) = _
    rw [if_pos (.inl typ), hdpReceive_heard g.toHears, g.readExpWork_eq length, finish_answered _ q rfl rfl, settled_next]
  case writeExp =>
    show settled (.next (s.receiveWrite q false)) = _
    rw [State.receiveWrite, if_pos typ, writeExpWith_alone, hdpReceive_heard g.toHears, g.writeExpWork_eq, written,
      finish_answered _ q rfl rfl, settled_next]
    rfl
  case readSeg =>
    intro n x w
    show settled (doReadSeg q s) = _
    have read : s.hdpReceive q true (readSegWork q) = w := by
      rw [hdpReceive_heard g.toHears, g.readSegWork_eq free, finish_answered _ q rfl rfl]
      rfl
    rw [doReadSeg, if_neg (not_not_intro typ), read]
    dsimp only
    cases w.readOpened q <;> rfl
  case writeSeg =>
    show settled (doWriteSeg q s) = _
    rw [doWriteSeg, if_pos typ, hdpReceive_heard g.toHears, g.writeSegWork_eq length fits free alone, finish_answered _ q rfl rfl,
      settled_next]
    rfl
  case segment =>
    intro y
    have takes : exec (.segment q) s = settled (.next ((segmentWork q u).finish q false)) := by
      show settled (doSegment q s) = _
      rw [doSegment, if_pos typ, hdpReceive_heard hears]
    refine ⟨fun full more whole => ?_, fun full more part => ?_, fun w whole granted written => ?_⟩
    · rw [takes, segmentWork_more found next full more, finish_replied _ q rfl (bne_eq_false_iff_eq.mpr whole) rfl, settled_next]
      rfl
    · rw [takes, segmentWork_more found next full more, finish_silent _ q rfl (bne_iff_ne.mpr part), settled_next]
      rfl
    · have role : (u.setTransfer t none).objectCode (reqKey x.opener) (u.roleOf q) true (some true) = 0 := by
        rw [roleOf_heard hears.firmware]
        exact granted
      have performed : (u.setTransfer t none).performWrite (reqKey x.opener) (u.segmentTaken q x).bytes = (w, 0) := written
      rw [takes, segmentWork_last found next whole role, performed, finish_replied _ q rfl rfl rfl, settled_next]
      rfl
  case response =>
    show settled (doResponse q s) = _
    rw [doResponse, if_pos typ, hdpReceive_heard hears, responseWork_found found, finish_silent _ q rfl rfl, settled_next]
    rfl
  case abort =>
    show settled (doHdpAbort q s) = _
    rw [doHdpAbort, if_pos typ, hdpReceive_heard hears, finish_silent _ q rfl rfl, settled_next]
    rfl
  case subscribe =>
    have takes : exec (.subscribe q) s = settled (.next ((subscribeWork q u).finish q true)) := by
      show settled (doSubscribe q s) = _
      rw [doSubscribe, if_pos typ, hdpReceive_heard g.toHears]
    refine ⟨fun n held => ?_, fun n new free => ?_⟩
    · rw [takes, g.subscribeWork_renews length ⟨low, high⟩ ⟨short, long⟩ small held, finish_answered _ q rfl rfl, settled_next]
      rfl
    · rw [takes, g.subscribeWork_opens length ⟨low, high⟩ ⟨short, long⟩ small new free, finish_answered _ q rfl rfl, settled_next]
      rfl
  case unsubscribe =>
    show settled (doUnsubscribe q s) = _
    rw [doUnsubscribe, if_pos typ, hdpReceive_heard g.toHears, g.unsubscribeWork_eq held, finish_answered _ q rfl rfl, settled_next]
    rfl

end Sys2Proof.Machine
end

section
/-! PROOFS (17_management_unit.md). What the management unit does of itself completes. -/

namespace Sys2Proof.Machine

section
variable {s : State}

/-- What waits from a last time on is due where it has never been done. -/
theorem due_of_last {last : Option Nat} {now wait : Nat} (due : ∀ t, last = some t → t + wait ≤ now) :
    (last.map (fun t => decide (t + wait ≤ now))).getD true = true := by
  cases last with
  | none => rfl
  | some t => simpa using due t rfl

/-! ### Transfers (R425, R426) -/

section
variable {t : Nat} (slot : t < 4) {x : Transfer} (held : s.transfer t = some x)
include slot held

theorem doSegmentResend_due (read : x.write = false) (unacked : x.done < x.sent) (due : max x.progress x.resentAt + 20000000 ≤ s.now) :
    doSegmentResend t s = .next ((s.hmuWork.sendSegments x x.done x.sent).setTransfer t (some { x with resentAt := s.now })) := by
  rw [doSegmentResend, withTransfer, if_pos slot, held]
  exact if_pos ⟨by simp [read], unacked, due⟩

theorem doTransferTimeout_due (due : x.progress + 1000000000 ≤ s.now) : doTransferTimeout t s =
    .next (((s.setTransfer t none).count 32 Obj.HDP_BUSY 1).emitHdp false (answerTo x.opener 11 0x080B 0 [])) := by
  rw [doTransferTimeout, withTransfer, if_pos slot, held]
  exact if_pos due

end

/-! ### Subscriptions (R427) -/

section
variable {n : Nat} (real : n < 64) {x : Subscription}
include real

theorem doNotify_due (held : (s.noteSub n).sub n = some x) (dirty : x.dirty = true)
    (due : ∀ t, x.last = some t → t + subInterval x.req * 1000000 ≤ s.now) (serves : s.hmuServes = true) : doNotify n s = .next (
      let u := ((s.noteSub n).setSub n (some { x with dirty := false, last := some s.now, segno := x.segno + 1 })).nextCounter;
      u.2.emitHdp true (notifyMsg x u.1 (u.2.viewBytes (reqKey x.req) (objRow (reqKey x.req)).size))) := by
  rw [doNotify, withSub, if_pos real, held]
  dsimp only
  rw [due_of_last due, dirty, serves]
  rfl

theorem doLeaseExpiry_due (held : s.sub n = some x) (due : x.expires ≤ s.now) : doLeaseExpiry n s = .next (s.setSub n none) := by
  rw [doLeaseExpiry, withSub, if_pos real, held]
  exact congrArg Host.Outcome.next (if_pos due)

end

/-! ### Beacons (R441, R442) -/

theorem doBeacon_due (serves : s.hmuServes = true) (due : ∀ t, s.hmu.beaconAt = some t → t + s.beaconPeriod ≤ s.now) :
    doBeacon s = .next ({ s with hmu := { s.hmu with beaconAt := some s.now } }.sendBeacon true) :=
  if_pos ⟨serves, due_of_last due⟩

theorem doImmediateBeacon_due (wanted : s.beaconDue = true) (due : ∀ t, s.hmu.immediateAt = some t → t + 5000000 ≤ s.now)
    (serves : s.hmuServes = true) (started : s.obj Obj.START_STATE ≠ 1) : doImmediateBeacon s =
      .next ({ s with beaconDue := false, hmu := { s.hmu with immediateAt := some s.now } }.sendBeacon false) :=
  if_pos ⟨wanted, due_of_last due, serves, started⟩

/-! ### The logs (R437–R439) -/

theorem State.blockFailed_spare (spare : s.health.flashUsed < 256) : s.blockFailed =
    (let u : State := { s with health := { s.health with flashUsed := s.health.flashUsed + 1 } };
      if 256 - (s.health.flashUsed + 1) < 64 then u.moduleHealth 0x800 else u) := by
  rw [State.blockFailed, if_neg (by omega)]

section
variable (pending : s.events.unflushed ≠ 0 ∨ s.violations.unflushed ≠ 0)
include pending

theorem logs_pending : ¬ (s.events.unflushed = 0 ∧ s.violations.unflushed = 0) := fun ⟨events, violations⟩ =>
  pending.elim (· events) (· violations)

theorem doLogFlush_programs : doLogFlush false s = .next s.flushed := by
  rw [doLogFlush, if_neg (logs_pending pending)]
  rfl

theorem doLogFlush_fails (spare : s.health.flashUsed < 256) : doLogFlush true s = .next (
    let u : State := { s with health := { s.health with flashUsed := s.health.flashUsed + 1 } };
    (if 256 - (s.health.flashUsed + 1) < 64 then u.moduleHealth 0x800 else u).flushed) := by
  rw [doLogFlush, if_neg (logs_pending pending), if_neg (by decide), if_pos spare, State.blockFailed_spare spare]

theorem doLogFlush_worn (worn : 256 ≤ s.health.flashUsed) : doLogFlush true s = .next (s.alert 0x20) := by
  rw [doLogFlush, if_neg (logs_pending pending), if_neg (by decide), if_neg (Nat.not_lt_of_le worn), State.blockFailed, if_pos (by omega)]

end

/-! ### The unit's own states (R416–R420) -/

theorem doHmuSleep_due (awake : s.hmu.asleep = false) (due : s.hmu.lastWork + 10000000 ≤ s.now) (queueA : s.hmu.queueA = [])
    (queueB : s.hmu.queueB = []) (ndA : s.hmu.ndA = []) (ndB : s.hmu.ndB = []) :
    doHmuSleep s = .next { s with hmu := { s.hmu with asleep := true } } :=
  if_pos ⟨by simp [awake], due, by simp [queueA], by simp [queueB], by simp [ndA], by simp [ndB]⟩

theorem doHcWatchdog_running {c : Nat} (real : c < 2) (running : bit (s.obj Obj.HMU_STATUS) c = true) :
    doHcWatchdog c s = .next ((s.setObj Obj.HMU_STATUS (clearBit (s.obj Obj.HMU_STATUS) c)).alert 16) := by
  rw [doHcWatchdog, if_neg (Nat.not_le_of_lt real), if_pos running]

theorem doHmuReset_stopped (stopped : s.obj Obj.HMU_STATUS = 0) : doHmuReset s = .next (
    let h := s.hmu;
    let u : State := { s with
      hmu := { h.afresh s.now with
        beaconNo := h.beaconNo, beaconAt := h.beaconAt, immediateAt := h.immediateAt, taken := h.taken, hostPhys := h.hostPhys } };
    ((u.setObj Obj.HMU_STATUS 3).count 32 Obj.HMU_RESETS 1).resetUpdate) :=
  if_neg (not_not_intro stopped)

/-! ### The segments (R422, R433) -/

theorem doSegmentDown_up {g : Seg} (up : s.segUp g = true) : doSegmentDown g s = .next ((s.setSeg g false).mgmtStatus (2 ^ segNo g)) :=
  congrArg Host.Outcome.next (if_pos up)

theorem doSegmentUp_down {g : Seg} {slot mac : Bool} (down : s.segUp g = false) (serves : s.hmuServes = true) :
    doSegmentUp ⟨g, slot, mac⟩ s = .next ((s.setSeg g true).detect g slot mac) :=
  congrArg Host.Outcome.next (if_pos ⟨by simp [down], serves⟩)

theorem doNeighborSolicitation_segment {g : Seg} {target : Nat} (own : (s.addresses (.seg g)).contains target = true) :
    doNeighborSolicitation (.seg g) target s = .next (s.hmuWork.queueNd g (.advert target)) :=
  congrArg Host.Outcome.next (if_pos own)

theorem doNeighborSolicitation_host {p : Nat} {target : Nat} (own : (s.addresses (.host p)).contains target = true) :
    doNeighborSolicitation (.host p) target s = .next (s.send (.neighborAdvert (.host p) target)) :=
  congrArg Host.Outcome.next (if_pos own)

/-! ### Transmit opportunities (R420, R442) -/

/-- What waits for a segment: messages, and what answers its solicitations. -/
def State.queueOf (s : State) : Seg → List HdpOut
  | .a => s.hmu.queueA
  | .b => s.hmu.queueB

def State.ndOf (s : State) : Seg → List NdOut
  | .a => s.hmu.ndA
  | .b => s.hmu.ndB

theorem doTransmitOpportunity_message {g : Seg} {o : HdpOut} (up : s.segUp g = true) (next : nextOut (s.queueOf g) = some o)
    (turn : o.low = false ∨ s.ndOf g = []) : doTransmitOpportunity g s = .next (s.sendQueued g o) := by
  have first : ¬ (o.low && !(s.ndOf g).isEmpty) = true := by rcases turn with turn | turn <;> simp [turn]
  cases g
  all_goals
    rw [State.queueOf] at next
    rw [doTransmitOpportunity, if_neg (by simp [up]), next]
    exact congrArg Host.Outcome.next (if_neg first)

theorem State.sendNd_advert {target : Nat} {rest : List NdOut} (waiting : s.hmu.ndA = .advert target :: rest) : s.sendNd .a =
    ({ s with hmu := { s.hmu with ndA := rest } } : State).send (.neighborAdvert (.seg .a) target) := by
  rw [State.sendNd]
  dsimp only
  rw [waiting]

theorem doTransmitOpportunity_advert {target : Nat} {rest : List NdOut} (up : s.segUp .a = true)
    (waiting : s.hmu.ndA = .advert target :: rest) (low : ∀ o, nextOut s.hmu.queueA = some o → o.low = true) :
    doTransmitOpportunity .a s = .next (({ s with hmu := { s.hmu with ndA := rest } } : State).send (.neighborAdvert (.seg .a) target)) := by
  rw [doTransmitOpportunity, if_neg (by simp [up]), ← State.sendNd_advert waiting]
  cases next : nextOut s.hmu.queueA with
  | none => rfl
  | some o => exact congrArg Host.Outcome.next (if_pos (by simp [low o next, waiting]))

end

/-- Settles O26: each command meets the case of its own that the hypotheses pick out. -/
theorem managementCompletes : Obligations.ManagementCompletes := by
  unfold Obligations.ManagementCompletes
  intro s
  refine ⟨fun t slot x held => ⟨fun read unacked due => ?_, fun due => ?_⟩,
    fun n real => ⟨fun x held dirty due serves => ?_, fun x held due => ?_⟩, fun serves due => ?_, fun wanted due serves started => ?_,
    fun pending => ⟨?_, fun spare => ?_, fun worn => ?_⟩, fun awake due queueA queueB ndA ndB => ?_, fun c real running => ?_,
    fun stopped => ?_, fun g => ⟨fun up => ?_, fun slot mac down serves => ?_⟩, fun target => ⟨fun g own => ?_, fun p own => ?_⟩,
    fun o => ⟨fun up next turn => ?_, fun up next turn => ?_⟩, fun target rest up waiting low => ?_⟩
  · exact congrArg settled (doSegmentResend_due slot held read unacked due)
  · exact congrArg settled (doTransferTimeout_due slot held due)
  · exact congrArg settled (doNotify_due real held dirty due serves)
  · exact congrArg settled (doLeaseExpiry_due real held due)
  · exact congrArg settled (doBeacon_due serves due)
  · exact congrArg settled (doImmediateBeacon_due wanted due serves started)
  · exact congrArg settled (doLogFlush_programs pending)
  · exact congrArg settled (doLogFlush_fails pending spare)
  · exact congrArg settled (doLogFlush_worn pending worn)
  · exact congrArg settled (doHmuSleep_due awake due queueA queueB ndA ndB)
  · exact congrArg settled (doHcWatchdog_running real running)
  · exact congrArg settled (doHmuReset_stopped stopped)
  · exact congrArg settled (doSegmentDown_up up)
  · exact congrArg settled (doSegmentUp_down down serves)
  · exact congrArg settled (doNeighborSolicitation_segment own)
  · exact congrArg settled (doNeighborSolicitation_host own)
  · exact congrArg settled (doTransmitOpportunity_message (g := .a) up next turn)
  · exact congrArg settled (doTransmitOpportunity_message (g := .b) up next turn)
  · exact congrArg settled (doTransmitOpportunity_advert up waiting low)

end Sys2Proof.Machine
end

section
/-! PROOFS (19_host_link.md). Requests of hosts, start-up and the records' events complete. -/

namespace Sys2Proof.Machine

section
variable {s : State}

/-! ### Requests of a connection (R463–R466) -/

/-- What a request that its connection hears in form becomes, by its place behind the connection's next (R464). -/
theorem State.hostRequest_heard {op : HostOp} {m : HostMsg} (hears : (s.hostFec m).hostHears m.conn = true)
    (frame : (s.hostFec m).hostFrames m = true) (together : Bool) : s.hostRequest op m together =
      if (s.hostHeard m).psnBehind m = 0 then (s.hostHeard m).hostFresh op m together
      else if (s.hostHeard m).psnBehind m ≤ 2 ^ 23 then (s.hostHeard m).hostRepeat op m together
      else (s.hostHeard m).send (.rdmaNak m.conn ((s.hostHeard m).conn m.conn).expPsn nakSequence) := by
  rw [State.hostRequest, if_neg (by simp [hears, frame])]
  rfl

section
variable {m : HostMsg}

theorem doRdmaWrite_accepted (accepts : s.HostAccepts .write m) :
    doRdmaWrite m s = .next (((s.hostHeard m).takePsn .write m).hostAccept .write m false) := by
  rw [doRdmaWrite, withConn_real accepts.conn, State.hostRequest_accepts accepts]

theorem doRdmaRead_accepted (errors : List StoredError) (accepts : (s.strikes errors).HostAccepts .read m) :
    doRdmaRead m errors s = .next ((((s.strikes errors).hostHeard m).takePsn .read m).hostAccept .read m false) := by
  rw [doRdmaRead, withConn_real accepts.conn, State.hostRequest_accepts accepts]

theorem doAtomicFetchAdd_accepted (accepts : s.HostAccepts .add m) :
    doAtomicFetchAdd m s = .next (((s.hostHeard m).takePsn .add m).hostAccept .add m false) := by
  rw [doAtomicFetchAdd, withConn_real accepts.conn, State.hostRequest_accepts accepts]

section
variable (real : m.conn < 240) (hears : (s.hostFec m).hostHears m.conn = true) (frame : (s.hostFec m).hostFrames m = true)
  (behind : 0 < (s.hostHeard m).psnBehind m)
include real hears frame behind

theorem doRdmaWrite_repeated (had : (s.hostHeard m).psnBehind m ≤ 2 ^ 23) :
    doRdmaWrite m s = .next ((s.hostHeard m).hostRepeat .write m false) := by
  rw [doRdmaWrite, withConn_real real, State.hostRequest_heard hears frame, if_neg (Nat.ne_of_gt behind), if_pos had]

theorem doRdmaWrite_gap (gap : 2 ^ 23 < (s.hostHeard m).psnBehind m) : doRdmaWrite m s =
    .next ((s.hostHeard m).send (.rdmaNak m.conn ((s.hostHeard m).conn m.conn).expPsn nakSequence)) := by
  rw [doRdmaWrite, withConn_real real, State.hostRequest_heard hears frame, if_neg (Nat.ne_of_gt behind), if_neg (Nat.not_le_of_lt gap)]

end
end

/-! ### Rates and links (R467–R469) -/

section
variable {k : Nat} (real : k < 240)
include real

theorem doCnp_heard (hears : s.hostHears k = true) : doCnp k s =
    .next ((s.setConn k { s.conn k with rate := (s.conn k).rate / 2, cnpAt := s.now }).count 32
      (Obj.HOST_CNP_RECEIVED (s.obj (Obj.QP_PORT k))) 1) := by
  rw [doCnp, withConn_real real]
  exact if_pos hears

theorem doCnpRateRestore_due (slowed : (s.conn k).rate < hostRate) (due : (s.conn k).cnpAt + 55000 ≤ s.now) : doCnpRateRestore k s =
    .next (s.setConn k { s.conn k with rate := min hostRate ((s.conn k).rate + hostRate / 10), cnpAt := s.now }) := by
  rw [doCnpRateRestore, withConn_real real]
  exact if_pos ⟨slowed, due⟩

end

section
variable {p : Nat} (real : p < 4)
include real

theorem doHostLinkUp_training (training : s.obj (Obj.HOST_PORT_STATE p) = 1 ∨ s.obj (Obj.HOST_PORT_STATE p) = 3) :
    doHostLinkUp p s = .next (s.hostTrained p) := by
  rw [doHostLinkUp, withHostPort, if_pos real]
  exact congrArg Host.Outcome.next (if_pos training)

theorem doHostLinkDown_on (on : s.obj (Obj.HOST_PORT_STATE p) = 1 ∨ s.obj (Obj.HOST_PORT_STATE p) = 2) :
    doHostLinkDown p s = .next (s.setObj (Obj.HOST_PORT_STATE p) 3) := by
  rw [doHostLinkDown, withHostPort, if_pos real]
  exact congrArg Host.Outcome.next (if_pos on)

end

/-! ### Start-up and the records' events (R478, R479, R481, R482, R485) -/

theorem doPowerOn_starts {r : StartReadings} (alive : s.dead = false) {u : State} (hu : (if s.fw.loader then s else s.coldStart true).load r = u)
    (good : u.obj Obj.START_STATE ≠ 1) (on : u.power.epoPin = false) : doPowerOn r s = .next ((u.bringUp r).heedPins) := by
  rw [doPowerOn, if_neg (by simp [alive])]
  dsimp only
  rw [hu, if_neg good, if_neg (by simp [on])]

theorem doFwCommitDone_erasing (erasing : s.fwState = 3) : doFwCommitDone s = .next (
    let image := Image.programmed s.stagedBytes;
    let u := { s with fw := { s.fw with flash := image } }.setObjs [(Obj.FW_STATE, 4), (Obj.FW_FLASH_RELEASE, image.release)];
    (if s.obj Obj.START_STATE = 1 then u.post .restart else u).flashProgram s.stagedBytes.length) :=
  if_neg (not_not_intro erasing)

theorem doAttDone_signing (signing : s.obj Obj.ATT_STATE = 1) : doAttDone s = .next (s.setObjs
    [(Obj.ATT_REPORT, leNat (s.fw.report ++ Ed448.sign s.identityPrivate (shakeBytes 64 s.fw.report))), (Obj.ATT_STATE, 2)]) :=
  if_neg (not_not_intro signing)

theorem doBistDone_running (failed : List Nat) (running : s.obj Obj.BIST_STATE = 1) : doBistDone failed s =
    .next ((s.fw.bist.foldl State.bistEnd { s with fw := { s.fw with bist := [] } }).setObjs
      [(Obj.BIST_RESULT, maskOf ((s.fw.bist.map (·.1)).filter (fun n => failed.contains n))), (Obj.BIST_STATE, 2)]) :=
  if_neg (not_not_intro running)

end

/-- Settles O27: each command meets the case of its own that the hypotheses pick out. -/
theorem hostsComplete : Obligations.HostsComplete := by
  unfold Obligations.HostsComplete
  intro s
  refine ⟨fun m => ⟨fun accepts => ?_, fun errors accepts => ?_, fun accepts => ?_,
      fun real hears frame behind => ⟨fun had => ?_, fun gap => ?_⟩⟩,
    fun k real => ⟨fun hears => ?_, fun slowed due => ?_⟩, fun p real => ⟨fun training => ?_, fun on => ?_⟩, fun r alive => ?start,
    fun erasing => ?_, fun signing => ?_, fun failed running => ?_⟩
  · exact congrArg settled (doRdmaWrite_accepted accepts)
  · exact congrArg settled (doRdmaRead_accepted errors accepts)
  · exact congrArg settled (doAtomicFetchAdd_accepted accepts)
  · exact congrArg settled (doRdmaWrite_repeated real hears frame behind had)
  · exact congrArg settled (doRdmaWrite_gap real hears frame behind gap)
  · exact congrArg settled (doCnp_heard real hears)
  · exact congrArg settled (doCnpRateRestore_due real slowed due)
  · exact congrArg settled (doHostLinkUp_training real training)
  · exact congrArg settled (doHostLinkDown_on real on)
  case start =>
    intro u good on
    exact congrArg settled (doPowerOn_starts alive rfl good on)
  · exact congrArg settled (doFwCommitDone_erasing erasing)
  · exact congrArg settled (doAttDone_signing signing)
  · exact congrArg settled (doBistDone_running failed running)

end Sys2Proof.Machine
end

section
/-! PROOFS (09_waypoints_and_chronometer.md). ADD and SET of a Waypoint that nothing watches; the order of timed adds. -/

namespace Sys2Proof.Machine

section
variable {s : State} {wp v : Nat}

/-! ### ADD (R240) and SET (Table 9-3) -/

theorem Wp.apply_add_value (w : Wp) (v time : Nat) : (w.apply (.add v) time).value = min (2 ^ 64 - 1) (w.value + v) := by
  rw [Wp.apply]
  rw [Wp.at_value]
  split
  next exceeds => exact (Nat.min_eq_left (Nat.sub_le_of_le_add (Nat.le_succ_of_le exceeds))).symm
  next fits => exact (Nat.min_eq_right (Nat.le_sub_one_of_lt (Nat.lt_of_not_le fits))).symm

/-- An ADD sets OVF where the sum exceeds the largest value, and leaves it otherwise. -/
theorem Wp.apply_add_ovf (w : Wp) (v time : Nat) : (w.apply (.add v) time).ovf = (w.ovf || decide (2 ^ 64 ≤ w.value + v)) := by
  rw [Wp.apply]
  rw [Wp.at_value]
  split
  · next exceeds => simp only [exceeds, decide_true, Bool.or_true]
  · next fits => simp only [fits, decide_false, Bool.or_false, Wp.at_ovf]

/-- What an ADD leaves of an entry: all but VALUE and OVF, but for LAST_TIME. -/
theorem Wp.apply_add_rest (w : Wp) (v time : Nat) : (w.apply (.add v) time).mark = w.mark ∧ (w.apply (.add v) time).err = w.err ∧
    (w.apply (.add v) time).errCode = w.errCode ∧ (w.apply (.add v) time).errCount = w.errCount ∧
    (w.apply (.add v) time).lastTime = time := by
  simp only [Wp.apply]
  split <;> simp

theorem State.applyWp_add_overflows (s : State) (wp v : Nat) : (s.applyWp wp (.add v)).obj Obj.WP_OVF_EVENTS =
    if 2 ^ 64 ≤ (s.wp wp).value + v then satInc 32 (s.obj Obj.WP_OVF_EVENTS) 1 else s.obj Obj.WP_OVF_EVENTS := by
  rw [State.obj_applyWp, State.countWp]
  split
  · rw [State.count, State.obj_setObj_self, State.obj_count_other _ (by decide)]
  · exact State.obj_count_other _ (by decide)

theorem State.applyWp_add_other (s : State) (wp v : Nat) {k : Nat} (ops : k ≠ Obj.WP_OPS) (overflows : k ≠ Obj.WP_OVF_EVENTS) :
    (s.applyWp wp (.add v)).obj k = s.obj k := by
  rw [State.obj_applyWp, State.countWp]
  split
  · rw [State.obj_count_other _ overflows, State.obj_count_other _ ops]
  · exact State.obj_count_other _ ops

/-- An operation that no counter but that of operations tells: a SET, a MARK or a CLEAR. -/
def WpKind.plain : WpKind → Bool
  | .add _ | .error _ => false
  | _ => true

theorem State.applyWp_plain_other (s : State) (wp : Nat) {kind : WpKind} (plain : kind.plain = true) {k : Nat} (ops : k ≠ Obj.WP_OPS) :
    (s.applyWp wp kind).obj k = s.obj k := by
  rw [State.obj_applyWp]
  cases kind with
  | add _ | error _ => cases plain
  | set _ | mark _ | clear _ _ _ => exact State.obj_count_other _ ops

section
variable {slice : Nat} (entry : wp < 16384) (value : v < 2 ^ 64) (quiet : s.Quiet) (unwatched : s.Unwatched wp) (own : s.wpCode slice wp = 0)
include entry value quiet unwatched own

theorem exec_waypointAdd : exec (.waypointAdd slice wp v) s = .next (s.applyWp wp (.add v)) := by
  show settled (doWaypointAdd slice wp v s) = _
  rw [doWaypointAdd, withWp_real entry, Nat.mod_eq_of_lt value, settled_next, unwatched.askWp_after quiet own]

theorem exec_waypointSet : exec (.waypointSet slice wp v) s = .next (s.applyWp wp (.set v)) := by
  show settled (doWaypointSet slice wp v s) = _
  rw [doWaypointSet, withWp_real entry, Nat.mod_eq_of_lt value, settled_next, unwatched.askWp_after quiet own]

end

/-- Settles O34: the command comes to its operation, whose effect on the entry is that of `Wp.apply`. -/
theorem waypointAddSaturates : Obligations.WaypointAddSaturates := by
  unfold Obligations.WaypointAddSaturates
  intro s slice wp v entry value quiet unwatched own
  obtain ⟨mark, err, errCode, errCount, time⟩ := (s.wp wp).apply_add_rest v s.chr
  refine ⟨_, exec_waypointAdd entry value quiet unwatched own, ?_⟩
  rw [State.wp_applyWp_self]
  exact ⟨Wp.apply_add_value .., Wp.apply_add_ovf .., mark, err, errCode, errCount, time, s.applyWp_ops wp _, s.applyWp_add_overflows wp v,
    fun x other => s.wp_applyWp_other _ other, fun k ops overflows => s.applyWp_add_other wp v ops overflows, s.applyWp_eq wp _⟩

/-- Settles O35: the command comes to its operation, whose effect on the entry is that of `Wp.apply`. -/
theorem waypointSetStores : Obligations.WaypointSetStores := by
  unfold Obligations.WaypointSetStores
  intro s slice wp v entry value quiet unwatched own
  refine ⟨_, exec_waypointSet entry value quiet unwatched own, ?_⟩
  rw [State.wp_applyWp_self]
  exact ⟨Nat.mod_eq_of_lt value, Wp.at_ovf .., Wp.at_mark .., Wp.at_err .., Wp.at_errCode .., Wp.at_errCount .., Wp.at_lastTime ..,
    s.applyWp_ops wp _, fun x other => s.wp_applyWp_other _ other, fun k ops => s.applyWp_plain_other wp rfl ops, s.applyWp_eq wp _⟩

/-! ### Timed adds in order (R247) -/

theorem earliest_eq_none {l : List Timed} : earliest l = none ↔ l = [] := by
  cases l with
  | nil => exact ⟨fun _ => rfl, fun _ => rfl⟩
  | cons t l =>
    simp only [earliest, reduceCtorEq, iff_false]
    split
    · split <;> exact Option.some_ne_none _
    · exact Option.some_ne_none _

/-- The earliest of a list is in it, after later ones only and before none that is earlier. -/
theorem earliest_first {l : List Timed} {t : Timed} (first : earliest l = some t) :
    ∃ a b, l = a ++ t :: b ∧ (∀ x ∈ a, t.time < x.time) ∧ ∀ x ∈ b, t.time ≤ x.time := by
  induction l generalizing t with
  | nil => cases first
  | cons x l ih =>
    rw [earliest] at first
    cases rest : earliest l with
    | none =>
      rw [rest] at first
      obtain rfl := Option.some.inj first
      rw [earliest_eq_none.mp rest]
      exact ⟨[], [], rfl, by simp, by simp⟩
    | some u =>
      rw [rest] at first
      dsimp only at first
      obtain ⟨a, b, split, before, after⟩ := ih rest
      by_cases earlier : u.time < x.time
      · rw [if_pos earlier] at first
        obtain rfl := Option.some.inj first
        refine ⟨x :: a, b, by rw [split]; rfl, fun y member => ?_, after⟩
        exact (List.mem_cons.mp member).elim (fun same => same ▸ earlier) (before y)
      · rw [if_neg earlier] at first
        obtain rfl := Option.some.inj first
        have least : x.time ≤ u.time := Nat.le_of_not_lt earlier
        refine ⟨[], l, rfl, by simp, fun y member => ?_⟩
        rw [split] at member
        rcases List.mem_append.mp member with early | late
        · exact least.trans (before y early).le
        · exact (List.mem_cons.mp late).elim (fun same => same ▸ least) fun later => least.trans (after y later)

end

/-- Settles O40. -/
theorem earliestTimedAddIsNext : Obligations.EarliestTimedAddIsNext := fun _ _ => earliest_first

end Sys2Proof.Machine
end

section
/-! PROOFS (19_host_link.md). A host's MARK and CLEAR of a Waypoint that nothing watches. -/

namespace Sys2Proof.Machine

/-! ### Entries of sparse maps -/

namespace Sparse

section
variable {α : Type} {m : Sparse α} {k : Nat} {v : α}

theorem mem_put {e : Nat × α} (mem : e ∈ put m k v) : e = (k, v) ∨ e ∈ m := by
  induction m with
  | nil => exact .inl (List.mem_singleton.mp mem)
  | cons x m ih =>
    rw [put] at mem
    split at mem
    · exact List.mem_cons.mp mem
    · split at mem
      · exact (List.mem_cons.mp mem).imp_right (List.mem_cons_of_mem x)
      · rcases List.mem_cons.mp mem with rfl | mem
        · exact .inr List.mem_cons_self
        · exact (ih mem).imp_right (List.mem_cons_of_mem x)

theorem mem_put_self (m : Sparse α) (k : Nat) (v : α) : (k, v) ∈ put m k v := by
  induction m with
  | nil => exact List.mem_singleton.mpr rfl
  | cons x m ih =>
    rw [put]
    split
    · exact List.mem_cons_self
    · split
      · exact List.mem_cons_self
      · exact List.mem_cons_of_mem x ih

theorem put_put (m : Sparse α) (k : Nat) (v v' : α) : put (put m k v) k v' = put m k v' := by
  induction m with
  | nil => simp [put]
  | cons x m ih =>
    obtain ⟨j, y⟩ := x
    by_cases below : k < j
    · simp [put, below]
    · by_cases same : k = j <;> simp [put, below, same, ih]

theorem erase_put (m : Sparse α) (k : Nat) (v : α) : erase (put m k v) k = erase m k := by
  induction m with
  | nil => simp [put, erase]
  | cons x m ih =>
    obtain ⟨j, y⟩ := x
    simp only [erase] at ih ⊢
    by_cases below : k < j
    · simp [put, below]
    · by_cases same : k = j <;> simp [put, below, same, ih, List.filter_cons]

theorem get_of_forall (d : Nat → α) {p : α → Prop} (k : Nat) (all : ∀ e ∈ m, p e.2) (unlisted : p (d k)) : p (m.get d k) := by
  induction m with
  | nil => exact unlisted
  | cons x m ih =>
    rw [get]
    split
    · exact all x List.mem_cons_self
    · exact ih fun e mem => all e (List.mem_cons_of_mem x mem)

variable [DecidableEq α] (d : Nat → α)

theorem mem_set {e : Nat × α} (mem : e ∈ set d m k v) : e = (k, v) ∨ e ∈ m := by
  unfold set at mem
  split at mem
  · exact .inr (List.mem_filter.mp mem).1
  · exact mem_put mem

theorem mem_set_self (listed : v ≠ d k) : (k, v) ∈ set d m k v := by
  rw [set, if_neg listed]
  exact mem_put_self m k v

/-- Of two values set at a key the second stands, as if the first had not been set. -/
theorem set_set (m : Sparse α) (v' : α) (listed : v ≠ d k) : set d (set d m k v) k v' = set d m k v' := by
  rw [set, set, if_neg listed, put_put, erase_put, ← set]

end
end Sparse

/-- What a list finds first where all that its members give is the same. -/
theorem findSome?_eq_of_forall {α β : Type} {l : List α} {f : α → Option β} {x : α} {b : β} (mem : x ∈ l) (gives : f x = some b)
    (others : ∀ y ∈ l, f y = none ∨ f y = some b) : l.findSome? f = some b := by
  cases found : l.findSome? f with
  | none => exact absurd (List.findSome?_eq_none_iff.mp found x mem) (by simp [gives])
  | some c =>
    obtain ⟨y, listed, given⟩ := List.exists_of_findSome?_eq_some found
    exact (others y listed).elim (fun none => absurd given (by simp [none])) fun same => by rw [← given, same]

section
variable {s u : State}

/-! ### Quiet states and unwatched Waypoints under updates -/

/-- Nothing waits on a connection of a quiet state. -/
theorem State.Quiet.conn_waits (quiet : s.Quiet) (k : Nat) : (s.conn k).waits = [] :=
  Sparse.get_of_forall (p := fun c : HostConn => c.waits = []) _ k quiet.hosts rfl

theorem State.Quiet.setConn (quiet : s.Quiet) {k : Nat} {c : HostConn} (none : c.waits = []) : (s.setConn k c).Quiet := by
  refine ⟨quiet.posts, quiet.swaps, fun e mem => ?_, quiet.subs⟩
  have listed : e ∈ Sparse.set (fun _ => HostConn.fresh) s.hosts k c := mem
  rcases Sparse.mem_set _ listed with same | mem
  · rw [same]
    exact none
  · exact quiet.hosts e mem

/-- The objects that say what watches Waypoints, and those of the Waypoints' own unit, come before the hosts' (Table 18-1). -/
theorem State.Unwatched.of_below {t : State} {wp : Nat} (h : s.Unwatched wp) (waiters : t.waiters = s.waiters) (ctxs : t.ctxs = s.ctxs)
    (obj : ∀ k < 0x900000, t.obj k = s.obj k) : t.Unwatched wp := by
  have contexts : t.goContexts wp = s.goContexts wp := by
    refine List.filter_congr fun n hn => ?_
    have real := List.mem_range.mp hn
    have idle : t.ctxState n = s.ctxState n := obj _ (by simp only [Obj.CTX_STATE]; omega)
    rw [idle, State.ctx, State.ctx, ctxs]
  refine ⟨waiters ▸ h.waiters, ?_, ?_, ?_, contexts ▸ h.contexts, fun k lt active => ?_⟩
  · rw [obj _ (by decide)]; exact h.sealing
  · rw [obj _ (by decide)]; exact h.ending
  · rw [obj _ (by decide)]; exact h.ready
  · have stage (key : Nat → Nat) (area : ∀ n < 8, key n < 0x900000) : t.obj (key k) = s.obj (key k) := obj _ (area k lt)
    rw [State.stageActive, stage Obj.STG_STATE (by decide)] at active
    rw [stage Obj.CHARGE_WP (by decide), stage Obj.FREE_WP (by decide)]
    exact h.accounts k lt active

/-! ### What hearing a host's frame leaves (R461, R468) -/

theorem State.hostFec_eq (s : State) (m : HostMsg) : s.hostFec m = { s with dict := (s.hostFec m).dict } := by
  unfold State.hostFec
  dsimp only
  split <;> rfl

theorem State.hostFec_quiet (quiet : s.Quiet) (m : HostMsg) : (s.hostFec m).Quiet := by
  rw [State.hostFec_eq]
  exact ⟨quiet.posts, quiet.swaps, quiet.hosts, quiet.subs⟩

theorem State.sendCnp_eq (s : State) (k : Nat) : s.sendCnp k = { s with hosts := (s.sendCnp k).hosts, out := (s.sendCnp k).out } := by
  unfold State.sendCnp
  dsimp only
  split <;> rfl

theorem State.sendCnp_quiet (quiet : s.Quiet) (k : Nat) : (s.sendCnp k).Quiet := by
  unfold State.sendCnp
  dsimp only
  split
  · exact quiet
  · have sent := quiet.setConn (k := k) (c := { s.conn k with cnpSent := some s.now }) (quiet.conn_waits k)
    exact ⟨sent.posts, sent.swaps, sent.hosts, sent.subs⟩

/-- Hearing a host's frame is a matter of counters, connections and what is sent. -/
theorem State.hostHeard_eq (s : State) (m : HostMsg) : s.hostHeard m =
    { s with dict := (s.hostHeard m).dict, hosts := (s.hostHeard m).hosts, out := (s.hostHeard m).out } := by
  unfold State.hostHeard
  split
  · rw [State.sendCnp_eq, State.hostFec_eq]
  · rw [State.hostFec_eq]

theorem State.hostHeard_quiet (quiet : s.Quiet) (m : HostMsg) : (s.hostHeard m).Quiet := by
  unfold State.hostHeard
  split
  · exact State.sendCnp_quiet (State.hostFec_quiet quiet m) m.conn
  · exact State.hostFec_quiet quiet m

@[simp] theorem State.hostHeard_wp (s : State) (m : HostMsg) (wp : Nat) : (s.hostHeard m).wp wp = s.wp wp := by
  rw [State.hostHeard_eq]
  rfl

@[simp] theorem State.hostHeard_chr (s : State) (m : HostMsg) : (s.hostHeard m).chr = s.chr := by rw [State.hostHeard_eq]

/-! ### A connection's operation on a Waypoint (R466) -/

/-- The wait that a connection keeps for its request's operation. -/
def State.hostOp (u : State) (m : HostMsg) (kind : WpKind) : HostWait :=
  .op ((m.va - 0xE000000000) / 32) (u.connSlice m.conn) m.psn kind false

/-- A request's connection with what it keeps of it. -/
def State.hostKeeps (u : State) (m : HostMsg) (waits : List HostWait) : HostConn :=
  { u.conn m.conn with next := (u.conn m.conn).next + 1, waits }

/-- A connection that keeps one operation of a request, with nothing else waiting. -/
def State.hostAsks (u : State) (m : HostMsg) (kind : WpKind) : State :=
  (u.setConn m.conn (u.hostKeeps m [u.hostOp m kind])).count 64 Obj.HOST_BYTES_IN m.len

/-- A connection that has answered the operation of its request and keeps nothing. -/
def State.hostAnswers (u : State) (m : HostMsg) : State :=
  (((u.setConn m.conn (u.hostKeeps m [])).count 64 Obj.HOST_BYTES_IN m.len).count 64
    (Obj.QP_REQUESTS m.conn) 1).send (.rdmaAck m.conn m.psn)

theorem State.hostWrite_window (quiet : u.Quiet) {m : HostMsg} (window : 0xE000000000 ≤ m.va) (together : Bool) :
    u.hostWrite m together = u.hostAsks m (windowWrite (m.va - 0xE000000000) (leNat (slice m.data 0 m.len)) together) := by
  rw [State.hostWrite]
  simp only [window, if_true, quiet.conn_waits, List.nil_append]
  rfl

theorem State.setConn_setConn (s : State) {k : Nat} {c : HostConn} (c' : HostConn) (listed : c ≠ HostConn.fresh) :
    (s.setConn k c).setConn k c' = s.setConn k c' := by
  simp only [State.setConn, Sparse.set_set (fun _ => HostConn.fresh) s.hosts c' listed]

theorem State.settleUnbind_bound {k : Nat} (bound : (s.conn k).unbind = false) : s.settleUnbind k = s := by
  rw [State.settleUnbind]
  exact if_neg (by simp [bound])

section
variable (quiet : u.Quiet) (m : HostMsg) (kind : WpKind)
include quiet

/-- The operation that a connection keeps is the first that is ready: it is answered, and its Waypoint asked. -/
theorem State.hostAsks_drains (bound : (u.conn m.conn).unbind = false) : (u.hostAsks m kind).hostDrain = some ((u.hostAnswers m).post
    (.wp { asker := .host m.conn, slice := u.connSlice m.conn, wp := (m.va - 0xE000000000) / 32, kind })) := by
  have listed : u.hostKeeps m [u.hostOp m kind] ≠ HostConn.fresh := fun same =>
    absurd (congrArg HostConn.waits same) (List.cons_ne_nil _ _)
  have hosts : (u.hostAsks m kind).hosts = Sparse.set (fun _ => HostConn.fresh) u.hosts m.conn (u.hostKeeps m [u.hostOp m kind]) := rfl
  have first : (u.hostAsks m kind).hosts.findSome? (fun e => ((u.hostAsks m kind).takeReady e.1 [] e.2.waits).map (fun x => (e.1, x))) =
      some (m.conn, u.hostOp m kind, []) := by
    rw [hosts]
    refine findSome?_eq_of_forall (x := (m.conn, u.hostKeeps m [u.hostOp m kind])) (Sparse.mem_set_self _ listed) rfl fun e mem => ?_
    rcases Sparse.mem_set _ mem with same | mem
    · right
      rw [same]
      rfl
    · left
      rw [quiet.hosts e mem]
      rfl
  have kept : (u.hostAsks m kind).conn m.conn = u.hostKeeps m [u.hostOp m kind] := by
    show (u.setConn m.conn (u.hostKeeps m [u.hostOp m kind])).conn m.conn = _
    rw [State.conn_setConn, if_pos rfl]
  have emptied : (u.hostAsks m kind).setConn m.conn (u.hostKeeps m []) =
      (u.setConn m.conn (u.hostKeeps m [])).count 64 Obj.HOST_BYTES_IN m.len := by
    rw [← State.setConn_setConn u (u.hostKeeps m []) listed]
    rfl
  have unbound : (((u.hostAsks m kind).setConn m.conn (u.hostKeeps m [])).performWait m.conn (u.hostOp m kind)).conn m.conn =
      u.hostKeeps m [] := by
    show ((u.hostAsks m kind).setConn m.conn (u.hostKeeps m [])).conn m.conn = _
    rw [State.conn_setConn, if_pos rfl]
  rw [State.hostDrain, first]
  show some ((((u.hostAsks m kind).setConn m.conn { (u.hostAsks m kind).conn m.conn with waits := [] }).performWait m.conn
    (u.hostOp m kind)).settleUnbind m.conn) = _
  rw [kept]
  show some ((((u.hostAsks m kind).setConn m.conn (u.hostKeeps m [])).performWait m.conn (u.hostOp m kind)).settleUnbind m.conn) = _
  rw [State.settleUnbind_bound (by rw [unbound]; exact bound), emptied]
  rfl

theorem State.hostAnswers_quiet : (u.hostAnswers m).Quiet := by
  have answered := quiet.setConn (k := m.conn) (c := u.hostKeeps m []) rfl
  exact ⟨answered.posts, answered.swaps, answered.hosts, answered.subs⟩

end

/-! ### MARK and CLEAR as a whole (R243, R466) -/

/-- An object that neither counts a connection's requests nor their bytes reads as it did. -/
theorem State.obj_hostAnswers_other (u : State) (m : HostMsg) {k : Nat} (bytes : k ≠ Obj.HOST_BYTES_IN)
    (requests : k ≠ Obj.QP_REQUESTS m.conn) : (u.hostAnswers m).obj k = u.obj k := by
  show (((u.setConn m.conn (u.hostKeeps m [])).count 64 Obj.HOST_BYTES_IN m.len).count 64 (Obj.QP_REQUESTS m.conn) 1).obj k = _
  rw [State.obj_count_other _ requests, State.obj_count_other _ bytes]
  rfl

theorem State.obj_hostAnswers_bytes (u : State) (m : HostMsg) :
    (u.hostAnswers m).obj Obj.HOST_BYTES_IN = satInc 64 (u.obj Obj.HOST_BYTES_IN) m.len := by
  show (((u.setConn m.conn (u.hostKeeps m [])).count 64 Obj.HOST_BYTES_IN m.len).count 64 (Obj.QP_REQUESTS m.conn) 1).obj _ = _
  rw [State.obj_count_other _ (by simp only [Obj.HOST_BYTES_IN, Obj.QP_REQUESTS]; omega), State.count, State.obj_setObj_self]
  rfl

theorem State.obj_hostAnswers_requests (u : State) (m : HostMsg) :
    (u.hostAnswers m).obj (Obj.QP_REQUESTS m.conn) = satInc 64 (u.obj (Obj.QP_REQUESTS m.conn)) 1 := by
  show (((u.setConn m.conn (u.hostKeeps m [])).count 64 Obj.HOST_BYTES_IN m.len).count 64 (Obj.QP_REQUESTS m.conn) 1).obj _ = _
  rw [State.count, State.obj_setObj_self, State.obj_count_other _ (by simp only [Obj.HOST_BYTES_IN, Obj.QP_REQUESTS]; omega)]
  rfl

theorem State.conn_hostAnswers_other (u : State) (m : HostMsg) {k : Nat} (other : k ≠ m.conn) : (u.hostAnswers m).conn k = u.conn k := by
  show (u.setConn m.conn (u.hostKeeps m [])).conn k = _
  rw [State.conn_setConn, if_neg other]

/-- With nothing set going and no swap due, what a connection has ready follows. -/
theorem State.settle_drain {s t : State} (n : Nat) (alone : s.posts = []) (idle : s.swapDue = false) (drains : s.hostDrain = some t) :
    s.settle (n + 1) = t.settle n := by
  simp only [State.settle, alone, idle, drains, Bool.false_eq_true, if_false]

/-- What alone is set going follows first. -/
theorem State.settle_post {s : State} {p : Post} (n : Nat) (alone : s.posts = []) : (s.post p).settle (n + 1) = (s.perform p).settle n := by
  have unset : ({ s.post p with posts := [] } : State) = s := by rw [← alone]; rfl
  have first : (s.post p).posts = [p] := by rw [State.post, alone]; rfl
  rw [State.settle, first]
  exact congrArg (fun t : State => (t.perform p).settle n) unset

/-- The whole of a request's operation on a Waypoint that nothing watches, where nothing else waits. -/
theorem State.hostAsks_after {m : HostMsg} {kind : WpKind} (quiet : u.Quiet) (bound : (u.conn m.conn).unbind = false)
    (plain : kind.plain = true) (unwatched : u.Unwatched ((m.va - 0xE000000000) / 32)) :
    (u.hostAsks m kind).after = (u.hostAnswers m).applyWp ((m.va - 0xE000000000) / 32) kind := by
  have answers := State.hostAnswers_quiet quiet m
  have watch : (u.hostAnswers m).Unwatched ((m.va - 0xE000000000) / 32) := unwatched.of_below rfl rfl fun k below =>
    State.obj_hostAnswers_other u m (by simp only [Obj.HOST_BYTES_IN]; omega) (by simp only [Obj.QP_REQUESTS]; omega)
  have still : ((u.hostAnswers m).applyWp ((m.va - 0xE000000000) / 32) kind).Quiet := by
    rw [State.applyWp_eq]
    exact ⟨answers.posts, answers.swaps, answers.hosts, answers.subs⟩
  have performed : (u.hostAnswers m).performReq
      { asker := .host m.conn, slice := u.connSlice m.conn, wp := (m.va - 0xE000000000) / 32, kind } =
        (u.hostAnswers m).applyWp ((m.va - 0xE000000000) / 32) kind := by
    have whole : ((u.hostAnswers m).performWp ((m.va - 0xE000000000) / 32) kind).watchers ((m.va - 0xE000000000) / 32) =
        (u.hostAnswers m).applyWp ((m.va - 0xE000000000) / 32) kind := by
      rw [watch.performWp, (watch.applyWp _ kind).watchers]
    cases kind with
    | add _ | error _ => cases plain
    | set _ | mark _ | clear _ _ _ => exact whole
  have idle : (u.hostAsks m kind).swapDue = false := by
    rw [State.swapDue, show (u.hostAsks m kind).health.swaps = [] from quiet.swaps]
    simp
  show (u.hostAsks m kind).settle (65534 + 1 + 1) = _
  rw [State.settle_drain (s := u.hostAsks m kind) _ quiet.posts idle (State.hostAsks_drains quiet m kind bound), State.settle_post _ answers.posts]
  show ((u.hostAnswers m).performReq _).settle 65534 = _
  rw [performed, State.settle_quiet still]

/-- Where a request aims in the Waypoint window: the entry is one there is, and the word is the one that `windowWrite` looks at. -/
theorem wordTarget_place {m : HostMsg} {n : Nat} (target : wordTarget m n = true) :
    0xE000000000 ≤ m.va ∧ (m.va - 0xE000000000) % 32 / 8 = n := by
  simp only [wordTarget, Bool.and_eq_true, decide_eq_true_eq, beq_iff_eq] at target
  exact ⟨target.1.1, target.2⟩

/-- A connection whose request is answered with code 0 is bound (R450). -/
theorem State.HostAccepts.bound {op : HostOp} {m : HostMsg} (accepts : s.HostAccepts op m) :
    ((s.hostHeard m).conn m.conn).unbind = false := by
  by_contra leaving
  have code := accepts.code
  rw [State.hostAnswer, if_pos (.inr (by simpa using leaving))] at code
  exact absurd code (by decide)

section
variable {m : HostMsg} (accepts : s.HostAccepts .write m) (quiet : s.Quiet)
  (unwatched : (s.hostHeard m).Unwatched ((m.va - 0xE000000000) / 32))
include accepts quiet unwatched

/-- An accepted request whose operation is a SET, a MARK or a CLEAR comes to that operation and its answer. -/
theorem State.hostRequest_window {together : Bool} {kind : WpKind} (window : 0xE000000000 ≤ m.va)
    (operation : windowWrite (m.va - 0xE000000000) (leNat (slice m.data 0 m.len)) together = kind) (plain : kind.plain = true) :
    (((s.hostHeard m).takePsn .write m).hostAccept .write m together).after =
      (((s.hostHeard m).takePsn .write m).hostAnswers m).applyWp ((m.va - 0xE000000000) / 32) kind := by
  have heard := State.hostHeard_quiet quiet m
  have placed : ((s.hostHeard m).takePsn .write m).Quiet := heard.setConn (heard.conn_waits m.conn)
  have bound : (((s.hostHeard m).takePsn .write m).conn m.conn).unbind = false := by
    rw [State.takePsn, State.conn_setConn, if_pos rfl]
    exact accepts.bound
  have watch : ((s.hostHeard m).takePsn .write m).Unwatched ((m.va - 0xE000000000) / 32) := unwatched.of_below rfl rfl fun _ _ => rfl
  have asks : ((s.hostHeard m).takePsn .write m).hostAccept .write m together = ((s.hostHeard m).takePsn .write m).hostAsks m kind :=
    (State.hostWrite_window placed window together).trans (by rw [operation])
  rw [asks, State.hostAsks_after placed bound plain watch]

end

/-- What a host's operation on a Waypoint leaves beside the word that it aims at. -/
structure State.HostFrame (u : State) (m : HostMsg) (t : State) : Prop where
  value    : (t.wp ((m.va - 0xE000000000) / 32)).value = (u.wp ((m.va - 0xE000000000) / 32)).value
  time     : (t.wp ((m.va - 0xE000000000) / 32)).lastTime = u.chr
  entries  : ∀ x ≠ (m.va - 0xE000000000) / 32, t.wp x = u.wp x
  ops      : t.obj Obj.WP_OPS = satInc 64 (u.obj Obj.WP_OPS) 1
  bytes    : t.obj Obj.HOST_BYTES_IN = satInc 64 (u.obj Obj.HOST_BYTES_IN) m.len
  requests : t.obj (Obj.QP_REQUESTS m.conn) = satInc 64 (u.obj (Obj.QP_REQUESTS m.conn)) 1
  objects  : ∀ k, k ≠ Obj.WP_OPS → k ≠ Obj.HOST_BYTES_IN → k ≠ Obj.QP_REQUESTS m.conn → t.obj k = u.obj k
  conns    : ∀ k ≠ m.conn, t.conn k = u.conn k
  rest     : t = { u with wps := t.wps, dict := t.dict, hosts := t.hosts, out := .rdmaAck m.conn m.psn :: u.out }

/-! #### What a CLEAR leaves of an entry (Table 9-3, R243) -/

section
variable (w : Wp) (o e : Bool)

@[simp] theorem Wp.clear_value : (w.clear o e).value = w.value := by cases o <;> cases e <;> rfl
@[simp] theorem Wp.clear_lastTime : (w.clear o e).lastTime = w.lastTime := by cases o <;> cases e <;> rfl
@[simp] theorem Wp.clear_mark : (w.clear o e).mark = w.mark := by cases o <;> cases e <;> rfl
@[simp] theorem Wp.clear_ovf : (w.clear o e).ovf = (w.ovf && !o) := by cases o <;> cases e <;> simp [Wp.clear]
@[simp] theorem Wp.clear_err : (w.clear o e).err = (w.err && !e) := by cases o <;> cases e <;> simp [Wp.clear]
@[simp] theorem Wp.clear_errCode : (w.clear o e).errCode = if e then 0 else w.errCode := by cases o <;> cases e <;> rfl
@[simp] theorem Wp.clear_errCount : (w.clear o e).errCount = if e then 0 else w.errCount := by cases o <;> cases e <;> rfl

@[simp] theorem Wp.clearTogether_value : (w.clearTogether o e).value = w.value := by
  cases now : w.nowErr <;> cases o <;> cases e <;> simp [Wp.clearTogether, now]

@[simp] theorem Wp.clearTogether_lastTime : (w.clearTogether o e).lastTime = w.lastTime := by
  cases now : w.nowErr <;> cases o <;> cases e <;> simp [Wp.clearTogether, now]

@[simp] theorem Wp.clearTogether_mark : (w.clearTogether o e).mark = w.mark := by
  cases now : w.nowErr <;> cases o <;> cases e <;> simp [Wp.clearTogether, now]

@[simp] theorem Wp.clearTogether_ovf : (w.clearTogether o e).ovf = if o then w.nowOvf else w.ovf := by
  cases now : w.nowErr <;> cases o <;> cases e <;> simp [Wp.clearTogether, now]

@[simp] theorem Wp.clearTogether_err : (w.clearTogether o e).err = if e then w.nowErr.isSome else w.err := by
  cases now : w.nowErr <;> cases o <;> cases e <;> simp [Wp.clearTogether, now]

end

/-- A host's MARK or CLEAR: an operation that leaves VALUE. -/
def WpKind.hosts : WpKind → Bool
  | .mark _ | .clear _ _ _ => true
  | _ => false

theorem WpKind.plain_of_hosts {kind : WpKind} (host : kind.hosts = true) : kind.plain = true := by
  cases kind with
  | add _ | set _ | error _ => cases host
  | mark _ | clear _ _ _ => rfl

theorem Wp.apply_hosts {kind : WpKind} (host : kind.hosts = true) (w : Wp) (time : Nat) :
    (w.apply kind time).value = w.value ∧ (w.apply kind time).lastTime = time := by
  cases kind with
  | add _ | set _ | error _ => cases host
  | mark n => exact ⟨Wp.at_value .., Wp.at_lastTime ..⟩
  | clear o e together => cases together <;> simp [Wp.apply]

theorem State.count_frame (s : State) (w key n : Nat) : ∃ dict, s.count w key n = { s with dict } := ⟨_, rfl⟩

theorem State.hostAnswers_frame (u : State) (m : HostMsg) : ∃ dict hosts,
    (u.takePsn .write m).hostAnswers m = { u with dict, hosts, out := .rdmaAck m.conn m.psn :: u.out } := by
  obtain ⟨bytes, counted⟩ := ((u.takePsn .write m).setConn m.conn ((u.takePsn .write m).hostKeeps m [])).count_frame 64
    Obj.HOST_BYTES_IN m.len
  rw [State.hostAnswers, counted]
  generalize Obj.QP_REQUESTS m.conn = key
  obtain ⟨requests, answered⟩ := ({ (u.takePsn .write m).setConn m.conn ((u.takePsn .write m).hostKeeps m []) with
    dict := bytes } : State).count_frame 64 key 1
  rw [answered]
  exact ⟨_, _, rfl⟩

/-- The answered connection of a request in its place leaves Waypoints and the Chronometer. -/
theorem State.hostAnswers_wp (u : State) (m : HostMsg) (x : Nat) : ((u.takePsn .write m).hostAnswers m).wp x = u.wp x := by
  obtain ⟨dict, hosts, answered⟩ := u.hostAnswers_frame m
  rw [answered]
  rfl

theorem State.hostAnswers_chr (u : State) (m : HostMsg) : ((u.takePsn .write m).hostAnswers m).chr = u.chr := by
  obtain ⟨dict, hosts, answered⟩ := u.hostAnswers_frame m
  rw [answered]

theorem State.hostFrame_applyWp (u : State) (m : HostMsg) {kind : WpKind} (host : kind.hosts = true) :
    u.HostFrame m (((u.takePsn .write m).hostAnswers m).applyWp ((m.va - 0xE000000000) / 32) kind) := by
  have plain := WpKind.plain_of_hosts host
  obtain ⟨value, time⟩ := Wp.apply_hosts host (u.wp ((m.va - 0xE000000000) / 32)) u.chr
  refine ⟨?value, ?time, fun x other => ?entries, ?ops, ?bytes, ?requests,
    fun k ops bytes requests => ?objects, fun k other => ?conns, ?rest⟩
  case value => rw [State.wp_applyWp_self, State.hostAnswers_wp, State.hostAnswers_chr, value]
  case time => rw [State.wp_applyWp_self, State.hostAnswers_wp, State.hostAnswers_chr, time]
  case entries => rw [State.wp_applyWp_other _ kind other, State.hostAnswers_wp]
  case ops =>
    rw [State.applyWp_ops, State.obj_hostAnswers_other _ _ (by decide) (by simp only [Obj.WP_OPS, Obj.QP_REQUESTS]; omega)]
    rfl
  case bytes => rw [State.applyWp_plain_other _ _ plain (by decide), State.obj_hostAnswers_bytes]; rfl
  case requests =>
    rw [State.applyWp_plain_other _ _ plain (by simp only [Obj.WP_OPS, Obj.QP_REQUESTS]; omega), State.obj_hostAnswers_requests]
    rfl
  case objects => rw [State.applyWp_plain_other _ _ plain ops, State.obj_hostAnswers_other _ _ bytes requests]; rfl
  case conns =>
    rw [State.applyWp_eq]
    show ((u.takePsn .write m).hostAnswers m).conn k = _
    rw [State.conn_hostAnswers_other _ _ other, State.takePsn, State.conn_setConn, if_neg other]
  case rest =>
    obtain ⟨dict, hosts, answered⟩ := u.hostAnswers_frame m
    rw [State.applyWp_eq, answered]

end

/-- Settles O37: the request comes to its operation, whose effect on the entry is that of `Wp.apply`, and its answer. -/
theorem hostMarksAndClears : Obligations.HostMarksAndClears := by
  unfold Obligations.HostMarksAndClears
  intro s m wp word w now u frame accepts quiet unwatched
  have entry : u.wp wp = w := State.hostHeard_wp s m wp
  have framed {t : State} (h : u.HostFrame m t) : frame t :=
    ⟨h.value.trans (congrArg Wp.value entry), h.time.trans (State.hostHeard_chr s m),
      fun x other => (h.entries x other).trans (State.hostHeard_wp s m x), h.ops, h.bytes, h.requests, h.objects, h.conns, h.rest⟩
  have applied (kind : WpKind) : (((u.takePsn .write m).hostAnswers m).applyWp wp kind).wp wp = w.apply kind s.chr := by
    rw [State.wp_applyWp_self, State.hostAnswers_wp, State.hostAnswers_chr, entry, State.hostHeard_chr]
  have performs {together : Bool} {kind : WpKind} (window : 0xE000000000 ≤ m.va)
      (operation : windowWrite (m.va - 0xE000000000) word together = kind) (host : kind.hosts = true) :
      ((u.takePsn .write m).hostAccept .write m together).after = ((u.takePsn .write m).hostAnswers m).applyWp wp kind :=
    State.hostRequest_window accepts quiet unwatched window operation (WpKind.plain_of_hosts host)
  refine ⟨fun target => ?mark, fun target => ⟨?clear, ?together⟩⟩
  case mark =>
    obtain ⟨window, place⟩ := wordTarget_place target
    have operation : windowWrite (m.va - 0xE000000000) word false = .mark word := by simp only [windowWrite, place]
    refine ⟨_, (congrArg settled (doWaypointMark_accepted accepts target)).trans
      (congrArg Host.Outcome.next (performs window operation rfl)), framed (State.hostFrame_applyWp u m rfl), ?_⟩
    rw [applied]
    exact ⟨rfl, Wp.at_ovf .., Wp.at_err .., Wp.at_errCode .., Wp.at_errCount ..⟩
  case clear =>
    obtain ⟨window, place⟩ := wordTarget_place target
    have operation : windowWrite (m.va - 0xE000000000) word false = .clear (bit word 0) (bit word 1) false := by
      simp only [windowWrite, place]
    refine ⟨_, (congrArg settled (doWaypointClear_accepted accepts false target)).trans
      (congrArg Host.Outcome.next (performs window operation rfl)), framed (State.hostFrame_applyWp u m rfl), ?_⟩
    rw [applied]
    simp [Wp.apply]
  case together =>
    obtain ⟨window, place⟩ := wordTarget_place target
    have operation : windowWrite (m.va - 0xE000000000) word true = .clear (bit word 0) (bit word 1) true := by
      simp only [windowWrite, place]
    refine ⟨_, (congrArg settled (doWaypointClear_accepted accepts true target)).trans
      (congrArg Host.Outcome.next (performs window operation rfl)), framed (State.hostFrame_applyWp u m rfl), ?_⟩
    rw [applied]
    simp [Wp.apply, now]

end Sys2Proof.Machine
end

section
/-! PROOFS (09_waypoints_and_chronometer.md). What drops registered timed adds, and what does not (R248). -/

namespace Sys2Proof.Machine

section
variable {s : State}

/-! ### What a core's end leaves (R159, R162) -/

theorem State.count_timed (s : State) (w key n : Nat) : (s.count w key n).timed = s.timed := rfl
theorem State.count_timedHeld (s : State) (w key n : Nat) : (s.count w key n).timedHeld = s.timedHeld := rfl

theorem State.setCoreSt_timed (s : State) (core : Nat) (c : CoreSt) : (s.setCoreSt core c).timed = s.timed := rfl

theorem State.dropWaits_timed (s : State) (core : Nat) : (s.dropWaits core).timed = s.timed := rfl

theorem State.postCoreWp_timed (s : State) (core wp : Nat) (k : WpKind) : (s.postCoreWp core wp k).timed = s.timed := rfl

@[simp] theorem State.logEvent_timed (s : State) (ev : Ev) (code source slice data : Nat) :
    (s.logEvent ev code source slice data).timed = s.timed := by
  unfold State.logEvent
  dsimp only
  split <;> rfl

@[simp] theorem State.logEvent_timedHeld (s : State) (ev : Ev) (code source slice data : Nat) :
    (s.logEvent ev code source slice data).timedHeld = s.timedHeld := by
  unfold State.logEvent
  dsimp only
  split <;> rfl

@[simp] theorem State.loadLanes_timed (s : State) (core : Nat) : (s.loadLanes core).timed = s.timed := by
  unfold State.loadLanes
  dsimp only
  split <;> rfl

theorem State.coreReset_timed (s : State) (core : Nat) : (s.coreReset core).timed = s.timed := by
  rw [State.coreReset, State.loadLanes_timed]
  rfl

theorem State.faultPark_timed (s : State) (core cause code slot addr gen : Nat) : (s.faultPark core cause code slot addr gen).timed = s.timed := by
  rw [State.faultPark, State.postCoreWp_timed, State.count_timed, State.logEvent_timed, State.setCoreSt_timed, State.setObj_timed, State.dropWaits_timed,
    State.setCore_timed]

/-! ### What a fence drops (R360) -/

theorem State.owe_timed (s : State) (arrival : Option Nat) (f : Frame) :
    (s.owe arrival f).timed = s.timed ∧ (s.owe arrival f).timedHeld = s.timedHeld := by
  cases arrival <;> exact ⟨rfl, rfl⟩

theorem State.fencePort_timed (s : State) (p : Nat) : (s.fencePort p).timed = s.timed ∧ (s.fencePort p).timedHeld = s.timedHeld :=
  List.foldlRecOn (motive := fun t : State => t.timed = s.timed ∧ t.timedHeld = s.timedHeld) _ _ ⟨rfl, rfl⟩ fun t same h _ =>
    ⟨(t.owe_timed h.arrival h.frame).1.trans same.1, (t.owe_timed h.arrival h.frame).2.trans same.2⟩

theorem State.fencePorts_timed (s : State) (l : List Nat) :
    (l.foldl State.fencePort s).timed = s.timed ∧ (l.foldl State.fencePort s).timedHeld = s.timedHeld :=
  List.foldlRecOn (motive := fun t : State => t.timed = s.timed ∧ t.timedHeld = s.timedHeld) _ _ ⟨rfl, rfl⟩ fun t same p _ =>
    ⟨(t.fencePort_timed p).1.trans same.1, (t.fencePort_timed p).2.trans same.2⟩

theorem State.dropTimed_all (s : State) : (s.dropTimed (fun _ => true)).timed = [] ∧ (s.dropTimed (fun _ => true)).timedHeld = [] := by
  rw [State.dropTimed_eq s fun _ _ => rfl]
  exact ⟨List.filter_eq_nil_iff.mpr (by simp), rfl⟩

/-- The last of a fence (R360): the step unit at rest, the fence's state, cause and record, and a Beacon that is due. -/
def State.fenceNoted (t : State) (how cause : Nat) : State :=
  let s := { t with stepU := { t.stepU with
    kept := [], spare := false, restore := none, pullDue := false, lastVote := none, replaying := false, checkAt := none } }
  let s := s.setObjs [(Obj.WAKE_STATE, 0), (Obj.STEP_STATE, 8), (Obj.FENCE_STATE, how), (Obj.FENCE_CAUSE, cause),
    (Obj.FENCE_LAST, s.chr + how * 2 ^ 64 + cause * 2 ^ 80)]
  let s := s.count 32 Obj.FENCE_EVENTS 1
  { s.logEvent (if how = 3 then .selfFence else .moduleFence) 0 (srcCode 0 0) s.stepSlice (how + cause * 2 ^ 8) with beaconDue := true }

/-- What a fence has done before it drops the timed adds. -/
def State.fenceStarted (s : State) : State :=
  let s := (List.range 104).foldl State.fenceCore s
  let s := (List.range 128).foldl State.ctxAbandon s
  ((List.range 8).foldl (fun t k => t.setObj (Obj.STG_STATE k) 0) s.abandonStream).fixEnd 4

theorem State.fenceModule_eq (s : State) (how cause : Nat) : s.fenceModule how cause =
    ((List.range 16).foldl State.fencePort (s.fenceStarted.dropTimed (fun _ => true))).fenceNoted how cause := by
  simp only [State.fenceModule, State.fenceNoted, State.fenceStarted]

theorem State.fenceNoted_timed (t : State) (how cause : Nat) :
    (t.fenceNoted how cause).timed = t.timed ∧ (t.fenceNoted how cause).timedHeld = t.timedHeld := by
  rw [State.fenceNoted]
  dsimp only
  rw [State.logEvent_timed, State.logEvent_timedHeld, State.count_timed, State.count_timedHeld, State.setObjs_timed, State.setObjs_timedHeld]
  exact ⟨rfl, rfl⟩

theorem State.fenceModule_timed (s : State) (how cause : Nat) :
    (s.fenceModule how cause).timed = [] ∧ (s.fenceModule how cause).timedHeld = [] := by
  obtain ⟨timed, held⟩ := State.fencePorts_timed (s.fenceStarted.dropTimed (fun _ => true)) (List.range 16)
  rw [State.fenceModule_eq, (State.fenceNoted_timed ..).1, (State.fenceNoted_timed ..).2, timed, held]
  exact State.dropTimed_all _

theorem State.clearGroup_timed {g : Nat} (none : s.timedHeld = []) : (s.clearGroup g).timed = s.timed.filter (fun a => a.wp / 64 != g) := by
  obtain ⟨n, cleared⟩ := State.clearGroup_eq (s := s) (g := g) (by simp [none])
  rw [cleared]

/-! ### Adds that wait for room (log 157) -/

theorem State.admitEach_obj (l : List Timed) (s : State) (k : Nat) : (State.admitEach l s).obj k = s.obj k := by
  induction l generalizing s with
  | nil => rfl
  | cons t l ih =>
    rw [State.admitEach]
    split
    · rw [ih, State.registerTimed]
      split <;> rfl
    · rfl

theorem State.registerTimed_chr (s : State) (t : Timed) : (s.registerTimed t).chr = s.chr := by
  rw [State.registerTimed]
  split <;> rfl

/-- Of the waiting adds a first part is admitted, each into a slot unless its time has come, and the rest wait on, with no slot free. -/
theorem State.admitEach_admits (l : List Timed) (s : State) : ∃ a b, l = a ++ b ∧
    (State.admitEach l s).timed = s.timed ++ a.filter (fun t => decide (s.chr < t.time)) ∧ (State.admitEach l s).timedHeld = s.timedHeld ++ b ∧
      (b ≠ [] → timedSlots ≤ (State.admitEach l s).timed.length) ∧
        (s.timed.length ≤ timedSlots → (State.admitEach l s).timed.length ≤ timedSlots) := by
  induction l generalizing s with
  | nil => exact ⟨[], [], rfl, (List.append_nil _).symm, (List.append_nil _).symm, fun h => absurd rfl h, id⟩
  | cons t l ih =>
    rw [State.admitEach]
    by_cases room : s.timed.length < timedSlots
    · rw [if_pos room]
      obtain ⟨a, b, split, timed, held, full, bound⟩ := ih (s.registerTimed t)
      rw [State.registerTimed_chr] at timed
      by_cases come : t.time ≤ s.chr
      · rw [State.registerTimed, if_pos come] at timed held bound ⊢
        rw [State.registerTimed, if_pos come] at full
        refine ⟨t :: a, b, congrArg (t :: ·) split, ?_, held, full, bound⟩
        rw [List.filter_cons_of_neg (by simpa using come)]
        exact timed
      · rw [State.registerTimed, if_neg come] at timed held bound ⊢
        rw [State.registerTimed, if_neg come] at full
        refine ⟨t :: a, b, congrArg (t :: ·) split, ?_, held, full, fun _ => bound ?_⟩
        · rw [List.filter_cons_of_pos (by simpa using come)]
          exact timed.trans (List.append_assoc ..)
        · rw [List.length_append]
          exact room
    · rw [if_neg room]
      exact ⟨[], t :: l, rfl, (List.append_nil _).symm, rfl, fun _ => Nat.le_of_not_lt room, id⟩

/-- A drop as what it keeps of the registered adds, then the admission of those kept of the waiting ones. -/
theorem State.dropTimed_admits (s : State) (p : Timed → Bool) : ∃ t : State, s.dropTimed p = State.admitEach (s.timedHeld.filter (fun t => !p t)) t ∧
    t.timed = s.timed.filter (fun t => !p t) ∧ t.timedHeld = [] ∧ t.chr = s.chr ∧
      ∀ k, t.obj k = (s.count 32 Obj.TIMED_DROPPED ((s.timed.filter p).length + (s.timedHeld.filter p).length)).obj k :=
  ⟨_, rfl, rfl, rfl, rfl, fun _ => rfl⟩

end

/-- Settles O39: RESET and faults leave the unit of timed adds; a fence drops all, and each drop admits what waits. -/
theorem timedAddsOutliveTheirCore : Obligations.TimedAddsOutliveTheirCore := by
  unfold Obligations.TimedAddsOutliveTheirCore
  refine ⟨fun s core => ?reset, State.faultPark_timed, State.fenceModule_timed, fun s g => State.clearGroup_timed, fun s p => ?drop⟩
  case reset => rw [State.setCoreSt_timed, State.coreReset_timed]
  case drop =>
    intro kept wait
    obtain ⟨t, dropped, timed, held, chr, obj⟩ := s.dropTimed_admits p
    obtain ⟨a, b, split, registered, waiting, full, bound⟩ := State.admitEach_admits wait t
    rw [timed, chr] at registered
    rw [held, List.nil_append] at waiting
    rw [timed] at bound
    rw [dropped]
    refine ⟨⟨a, b, split, registered, waiting, full, bound⟩, ?_⟩
    rw [State.admitEach_obj, obj, State.count, State.obj_setObj_self]

end Sys2Proof.Machine
end

section
/-! PROOFS (08_hbm_memory.md). The decoding of HBM addresses has an inverse (R210). -/

namespace Sys2Proof.Machine

/-- The address that R210 decodes to a place: the place's fields put back where the decoding takes them from. -/
def HbmLoc.address (l : HbmLoc) : Nat :=
  let j := l.row * 128 + l.col / 256 * 32 + (l.bank ^^^ l.row % 32)
  l.stack / 6 * 0x6000000000 + (j * 192 + (6 * l.pc + l.stack % 6)) * 256 + l.col % 256

/-- A place that a stack has. -/
structure HbmLoc.inStack (l : HbmLoc) : Prop where
  stack : l.stack < 12
  pc    : l.pc < 32
  bank  : l.bank < 32
  row   : l.row < 65536
  col   : l.col < 1024

theorem xor_lt_32 {x y : Nat} (hx : x < 32) (hy : y < 32) : x ^^^ y < 32 := Nat.xor_lt_two_pow (n := 5) hx hy

/-- The decoding of an address in its die's half of the stacks. -/
theorem decodeHbm_eq {die off : Nat} (hdie : die < 2) (hoff : off < 0x6000000000) :
    decodeHbm (die * 0x6000000000 + off) =
      { stack := 6 * die + off / 256 % 192 % 6, pc := off / 256 % 192 / 6,
        bank := (off / 256 / 192 % 32) ^^^ (off / 256 / 192 / 128 % 32), row := off / 256 / 192 / 128 % 65536,
        col := 256 * (off / 256 / 192 / 32 % 4) + off % 256 } := by
  have hhalf : (if 0x6000000000 ≤ die * 0x6000000000 + off then 1 else 0) = die := by split <;> omega
  have hrest : die * 0x6000000000 + off - die * 0x6000000000 = off := by omega
  unfold decodeHbm
  simp [hhalf, hrest, bits, Nat.shiftRight_eq_div_pow]

/-- Every address below the end of the stacks lies in one die's half. -/
theorem hbm_halves {a : Nat} (h : a < 0xC000000000) :
    ∃ die off, die < 2 ∧ off < 0x6000000000 ∧ a = die * 0x6000000000 + off :=
  ⟨a / 0x6000000000, a % 0x6000000000, by omega, by omega, by omega⟩

theorem decodeHbm_inStack {a : Nat} (h : a < 0xC000000000) : (decodeHbm a).inStack := by
  obtain ⟨die, off, hdie, hoff, rfl⟩ := hbm_halves h
  rw [decodeHbm_eq hdie hoff]
  exact ⟨by dsimp only; omega, by dsimp only; omega, xor_lt_32 (by omega) (by omega), by dsimp only; omega, by dsimp only; omega⟩

/-- The fields of a place put back give the address that was decoded. -/
theorem address_decodeHbm {a : Nat} (h : a < 0xC000000000) : (decodeHbm a).address = a := by
  obtain ⟨die, off, hdie, hoff, rfl⟩ := hbm_halves h
  rw [decodeHbm_eq hdie hoff]
  generalize hj : off / 256 / 192 = j
  have hrow : j / 128 % 65536 % 32 = j / 128 % 32 := by omega
  have hbank : (j % 32 ^^^ j / 128 % 32) ^^^ j / 128 % 65536 % 32 = j % 32 := by rw [hrow, Nat.xor_assoc, Nat.xor_self, Nat.xor_zero]
  unfold HbmLoc.address
  dsimp only
  rw [hbank]
  omega

/-- The address of a place that a stack has decodes to it. -/
theorem decodeHbm_address {l : HbmLoc} (h : l.inStack) : decodeHbm l.address = l := by
  obtain ⟨hstack, hpc, hbank, hrow, hcol⟩ := h
  obtain ⟨stack, pc, bank, row, col⟩ := l
  dsimp only at hstack hpc hbank hrow hcol
  have hx : (bank ^^^ row % 32) < 32 := xor_lt_32 hbank (by omega)
  have hback : (bank ^^^ row % 32) ^^^ row % 32 = bank := by rw [Nat.xor_assoc, Nat.xor_self, Nat.xor_zero]
  unfold HbmLoc.address
  dsimp only
  generalize hxe : (bank ^^^ row % 32) = x at hx hback
  rw [Nat.add_assoc, decodeHbm_eq (by omega) (by omega)]
  generalize hj : row * 128 + col / 256 * 32 + x = j
  have h1 : ((j * 192 + (6 * pc + stack % 6)) * 256 + col % 256) / 256 / 192 = j := by omega
  have h2 : ((j * 192 + (6 * pc + stack % 6)) * 256 + col % 256) / 256 % 192 = 6 * pc + stack % 6 := by omega
  have h3 : j % 32 = x := by omega
  have h4 : j / 128 = row := by omega
  rw [h1, h2, h3, h4, hback]
  congr 1 <;> omega

theorem HbmLoc.address_lt {l : HbmLoc} (h : l.inStack) : l.address < 0xC000000000 := by
  obtain ⟨hstack, hpc, hbank, hrow, hcol⟩ := h
  have hx : (l.bank ^^^ l.row % 32) < 32 := xor_lt_32 hbank (by omega)
  unfold HbmLoc.address
  dsimp only
  omega

/-- Settles O52: the decoding has an inverse on the addresses of the stacks. -/
theorem hbmAddressesDecodeOneToOne : Obligations.HbmAddressesDecodeOneToOne := by
  refine ⟨fun a b ha hb h => ?_, fun a ha => ?_, fun stack hs pc hp bank hb row hr col hc => ?_⟩
  · rw [← address_decodeHbm ha, h, address_decodeHbm hb]
  · obtain ⟨hstack, hpc, hbank, hrow, hcol⟩ := decodeHbm_inStack ha
    exact ⟨hstack, hpc, hbank, hrow, hcol⟩
  · have hl : HbmLoc.inStack ⟨stack, pc, bank, row, col⟩ := ⟨hs, hp, hb, hr, hc⟩
    exact ⟨_, HbmLoc.address_lt hl, decodeHbm_address hl⟩

end Sys2Proof.Machine
end

section
/-! PROOFS (17_management_unit.md). The window of counters that a key has accepted (R429). -/

namespace Sys2Proof.Machine

/-- A key's window after it has accepted the counters `l`, from an empty one: its top is the greatest of them, and it remembers those
of the 64 below. -/
structure RoleKey.Window (k : RoleKey) (l : List Nat) : Prop where
  empty : k.top = none → l = []
  top   : ∀ t, k.top = some t → t ∈ l ∧ ∀ x ∈ l, x ≤ t
  seen  : ∀ x, x ∈ k.seen ↔ x ∈ l ∧ ∃ t, k.top = some t ∧ t ≤ x + 64 ∧ x ≠ t

namespace RoleKey

variable {k k' : RoleKey} {l : List Nat} {c : Nat}

theorem window_nil (htop : k.top = none) (hseen : k.seen = []) : k.Window [] :=
  ⟨fun _ => rfl, fun t h => by simp [htop] at h, fun x => by simp [hseen]⟩

theorem take_floor : (k.take c).floor = k.floor := rfl

theorem take_top : (k.take c).top = some (max c (k.top.getD 0)) := rfl

theorem mem_take_seen {x : Nat} : x ∈ (k.take c).seen ↔
    (x = c ∨ x ∈ k.seen ∨ k.top = some x) ∧ max c (k.top.getD 0) ≤ x + 64 ∧ x ≠ max c (k.top.getD 0) := by
  simp [RoleKey.take, Option.mem_toList]

/-- A window whose top is `t` takes a counter: the greater of the two is the top. -/
theorem Window.take (h : k.Window l) : (k.take c).Window (c :: l) := by
  obtain ⟨hempty, htop, hseen⟩ := h
  cases ht : k.top with
  | none =>
    obtain rfl := hempty ht
    refine ⟨fun h => by simp [take_top] at h, fun t h => ?_, fun x => ?_⟩
    · have htc : t = c := by simpa [take_top, ht] using h.symm
      simp [htc]
    · simp [mem_take_seen, take_top, ht, hseen]
  | some t =>
    obtain ⟨hmem, hmax⟩ := htop t ht
    refine ⟨fun h => by simp [take_top] at h, fun m h => ?_, fun x => ?_⟩
    · obtain rfl : max c t = m := by simpa [take_top, ht] using h
      refine ⟨?_, fun x hx => ?_⟩
      · rcases Nat.le_total c t with hct | hct
        · rw [Nat.max_eq_right hct]; exact List.mem_cons_of_mem _ hmem
        · rw [Nat.max_eq_left hct]; exact List.mem_cons_self
      · rcases List.mem_cons.1 hx with rfl | hx
        · exact Nat.le_max_left _ _
        · exact (hmax x hx).trans (Nat.le_max_right _ _)
    · simp only [mem_take_seen, take_top, ht, hseen, Option.getD_some, Option.some.injEq, List.mem_cons, exists_eq_left']
      constructor
      · rintro ⟨rfl | ⟨hx, -⟩ | rfl, hnear⟩
        exacts [⟨.inl rfl, hnear⟩, ⟨.inr hx, hnear⟩, ⟨.inr hmem, hnear⟩]
      · rintro ⟨rfl | hx, hnear⟩
        · exact ⟨.inl rfl, hnear⟩
        · refine ⟨.inr ?_, hnear⟩
          by_cases hxt : x = t
          · exact .inr hxt.symm
          · exact .inl ⟨hx, by omega, hxt⟩

/-- A run of accepted counters leaves the floor and extends the window by them. -/
theorem Window.accepted {l' : List Nat} (hrun : Accepted k l' k') (h : k.Window l) : k'.Window (l'.reverse ++ l) ∧ k'.floor = k.floor := by
  induction hrun generalizing l with
  | nil k => exact ⟨h, rfl⟩
  | cons _ _ ih =>
    obtain ⟨hwindow, hfloor⟩ := ih h.take
    exact ⟨by simpa using hwindow, hfloor⟩

/-- What a window accepts: above the floor, and neither met before nor more than 64 below the top. -/
theorem Window.accepts_iff (h : k.Window l) :
    k.accepts c = true ↔ (∀ f, k.floor = some f → f < c) ∧ ∀ x ∈ l, c ≠ x ∧ x ≤ c + 64 := by
  have hfloor : (k.floor.map (fun f => decide (f < c))).getD true = true ↔ ∀ f, k.floor = some f → f < c := by
    cases k.floor <;> simp
  obtain ⟨hempty, htop, hseen⟩ := h
  unfold RoleKey.accepts
  rw [Bool.and_eq_true, hfloor]
  refine and_congr_right fun _ => ?_
  cases ht : k.top with
  | none => simp [hempty ht]
  | some t =>
    obtain ⟨hmem, hmax⟩ := htop t ht
    have hc : c ∈ k.seen ↔ c ∈ l ∧ t ≤ c + 64 ∧ c ≠ t := by simp [hseen, ht]
    simp only [Bool.or_eq_true, Bool.and_eq_true, decide_eq_true_eq, Bool.not_eq_true', List.contains_eq_mem, decide_eq_false_iff_not, hc]
    constructor
    · rintro (hlt | ⟨⟨hnear, hne⟩, hnew⟩) x hx
      · have := hmax x hx
        omega
      · have := hmax x hx
        refine ⟨fun hcx => hnew ⟨hcx ▸ hx, hnear, hne⟩, by omega⟩
    · intro hall
      obtain ⟨hne, hnear⟩ := hall t hmem
      by_cases hlt : t < c
      · exact .inl hlt
      · exact .inr ⟨⟨hnear, hne⟩, fun ⟨hcl, _⟩ => (hall c hcl).1 rfl⟩

end RoleKey

/-- A tagged message that passes has a counter that its key accepts, or says again what has drawn no answer (log 152). -/
theorem State.authenticate_pass {s : State} {q : HdpReq} (htag : q.hdr.tagged = true) (h : s.authenticate q = .pass) :
    (s.roleKey q.hdr.role).accepts q.hdr.counter = true ∨ (s.roleKey q.hdr.role).quiet.any (sameBytes q) = true := by
  unfold State.authenticate at h
  rw [htag] at h
  dsimp only [Bool.not_true] at h
  rw [if_neg (by decide)] at h
  split at h
  case h_1 => cases h
  case h_2 =>
    split at h
    case isTrue => cases h
    case isFalse =>
      split at h
      case h_1 => split at h <;> cases h
      case h_2 =>
        split at h
        case isTrue hfresh => exact hfresh
        case isFalse => cases h

/-- Settles O51: a run of accepted counters leaves a key whose window is exactly of that run. -/
theorem countersAreAcceptedOnce : Obligations.CountersAreAcceptedOnce := by
  refine ⟨fun k₀ k l c htop hseen hrun => ?_, fun s q => State.authenticate_pass⟩
  obtain ⟨hwindow, hfloor⟩ := (RoleKey.window_nil htop hseen).accepted hrun
  rw [hwindow.accepts_iff, hfloor]
  simp

end Sys2Proof.Machine
end

section
/-! PROOFS (09_waypoints_and_chronometer.md). Where the Chronometer's count steps (R252, R256). -/

namespace Sys2Proof.Machine

variable {s : State}

/-! ### The states of the discipline -/

@[simp] theorem State.chrMove_chr (s : State) (v : Nat) : (s.chrMove v).chr = s.chr := by
  unfold State.chrMove
  split <;> rfl

@[simp] theorem State.chrMove_locked (s : State) (v : Nat) : (s.chrMove v).chrU.locked = s.chrU.locked := by
  unfold State.chrMove
  split <;> rfl

@[simp] theorem State.chrMove_obj_state (s : State) (v : Nat) : (s.chrMove v).obj Obj.CHR_STATE = v := by
  unfold State.chrMove
  split <;> exact State.obj_setObj_self ..

theorem State.chrMove_obj_other (s : State) (v : Nat) {k : Nat} (hk : k ≠ Obj.CHR_STATE) : (s.chrMove v).obj k = s.obj k := by
  unfold State.chrMove
  split <;> exact State.obj_setObj_other _ hk

/-! ### An exchange of time (R254, R256) -/

/-- The state that has noted an exchange's offset, and begins to acquire where it ran free or held over. -/
def State.chrMeasured (s : State) (th : Int) : State :=
  let s := { s with chrU := { s.chrU with sent := none, bad := 0, slew := th.tdiv 1000 } }
  let s := s.setObj Obj.CHR_OFFSET_NS (ofSigned 32 (th.tdiv 1000))
  if s.chrState = 0 ∨ s.chrState = 3 then ({ s with chrU := { s.chrU with good := 0 } }).chrMove 1 else s

/-- The exchanges in a row that lie within the bound, this one included. -/
def State.chrGood (s : State) (th : Int) : Nat := if decide (th.natAbs ≤ 2000) then s.chrU.good + 1 else 0

/-- The state that counts an exchange as good or begins anew. -/
def State.chrCounted (s : State) (th : Int) : State := { s with chrU := { s.chrU with good := s.chrGood th } }

/-- The first lock: the count takes the parent's time (R256). -/
def State.chrStep (s : State) (th : Int) : State :=
  ({ s with chr := ((s.chr : Int) + th.tdiv 1000).toNat % 2 ^ 64, chrU := { s.chrU with locked := true, slew := 0 } }).count 32 Obj.CHR_STEPS 1

theorem State.chrExchange_eq (s : State) (th : Int) : s.chrExchange th =
    let m := s.chrMeasured th
    if m.chrState = 1 then
      let c := m.chrCounted th
      if 8 ≤ m.chrGood th then (if c.chrU.locked then c else c.chrStep th).chrMove 2 else c
    else if m.chrState = 2 ∧ 50000 < th.natAbs then (m.count 32 Obj.CHR_LOCK_LOSSES 1).chrMove 3
    else m := rfl

theorem State.chrMeasured_chr (s : State) (th : Int) : (s.chrMeasured th).chr = s.chr := by
  unfold State.chrMeasured
  dsimp only
  split
  · rw [State.chrMove_chr]; rfl
  · rfl

theorem State.chrMeasured_locked (s : State) (th : Int) : (s.chrMeasured th).chrU.locked = s.chrU.locked := by
  unfold State.chrMeasured
  dsimp only
  split
  · rw [State.chrMove_locked]; rfl
  · rfl

theorem State.chrMeasured_steps (s : State) (th : Int) : (s.chrMeasured th).obj Obj.CHR_STEPS = s.obj Obj.CHR_STEPS := by
  unfold State.chrMeasured
  dsimp only
  split
  · rw [State.chrMove_obj_other _ _ (by decide)]
    exact State.obj_setObj_other _ (by decide)
  · exact State.obj_setObj_other _ (by decide)

/-- An exchange either leaves the count, or is the first lock. -/
theorem State.chrExchange_cases (s : State) (th : Int) : (s.chrExchange th).chr = s.chr ∨
    s.chrU.locked = false ∧ s.chrExchange th = (((s.chrMeasured th).chrCounted th).chrStep th).chrMove 2 := by
  have hchr := s.chrMeasured_chr th
  have hlocked := s.chrMeasured_locked th
  rw [State.chrExchange_eq]
  dsimp only
  split
  · split
    · split
      · exact .inl ((State.chrMove_chr _ _).trans hchr)
      · rename_i hfirst
        exact .inr ⟨hlocked.symm.trans (Bool.eq_false_of_not_eq_true hfirst), rfl⟩
    · exact .inl hchr
  · split
    · exact .inl ((State.chrMove_chr _ _).trans hchr)
    · exact .inl hchr

theorem State.chrExchange_locked (th : Int) (h : s.chrU.locked = true) : (s.chrExchange th).chr = s.chr := by
  rcases s.chrExchange_cases th with hchr | ⟨hfree, -⟩
  · exact hchr
  · rw [h] at hfree
    cases hfree

theorem State.chrStep_steps (s : State) (th : Int) : (s.chrStep th).obj Obj.CHR_STEPS = satInc 32 (s.obj Obj.CHR_STEPS) 1 :=
  State.obj_setObj_self ..

/-- An exchange that steps the count is the first lock, and is counted. -/
theorem State.chrExchange_steps (th : Int) (h : (s.chrExchange th).chr ≠ s.chr) :
    s.chrU.locked = false ∧ (s.chrExchange th).chrU.locked = true ∧ (s.chrExchange th).obj Obj.CHR_STATE = 2 ∧
      (s.chrExchange th).obj Obj.CHR_STEPS = satInc 32 (s.obj Obj.CHR_STEPS) 1 := by
  obtain ⟨hfree, heq⟩ := (s.chrExchange_cases th).resolve_left h
  rw [heq]
  refine ⟨hfree, (State.chrMove_locked _ _).trans rfl, State.chrMove_obj_state _ _, ?_⟩
  rw [State.chrMove_obj_other _ _ (by decide), State.chrStep_steps, ← s.chrMeasured_steps th]
  rfl

/-! ### Failed exchanges, the parent's loss, and an idle nanosecond -/

theorem State.chrFailed_chr (s : State) : s.chrFailed.chr = s.chr := by
  unfold State.chrFailed
  dsimp only
  split
  · rw [State.chrMove_chr]; rfl
  · rfl

theorem State.chrAlone_chr (s : State) : s.chrAlone.chr = s.chr := by
  unfold State.chrAlone
  split
  · rfl
  · dsimp only
    rw [State.chrMove_chr]
    split <;> rfl

theorem State.chrTick_le (s : State) (h : s.chr + 2 < 2 ^ 64) : s.chr ≤ s.chrTick.chr ∧ s.chrTick.chr ≤ s.chr + 2 := by
  rw [State.chrTick_chr]
  (repeat' split) <;> omega

theorem step_idle_chr (hidle : s.pending = []) (h : s.chr + 2 < 2 ^ 64) : ∃ t, step s = .next t ∧ s.chr ≤ t.chr ∧ t.chr ≤ s.chr + 2 := by
  refine ⟨tick s, step_idle hidle, ?_⟩
  cases hdead : s.dead with
  | true => rw [tick_dead hdead]; exact ⟨le_refl s.chr, Nat.le_add_right s.chr 2⟩
  | false =>
    rw [tick_alive_chr hdead]
    exact State.chrTick_le ({ s with now := s.now + 1 } : State) h

/-- Settles O56: each event of the Chronometer, case by case. -/
theorem chronometerStepsOnlyWhereItMay : Obligations.ChronometerStepsOnlyWhereItMay := by
  intro s
  refine ⟨step_idle_chr, fun th => State.chrExchange_locked th, fun th => State.chrExchange_steps th, s.chrFailed_chr, s.chrAlone_chr, rfl,
    fun v => ⟨fun hroot => ?_, fun hroot => if_neg hroot⟩⟩
  rw [State.writeChrSet, if_pos hroot]
  exact ⟨rfl, rfl, State.obj_setObj_self ..⟩

end Sys2Proof.Machine
end

section
/-! PROOFS (05_core_bundles.md). What a bundle leaves whose only effect is that of its scalar slot (R128, R129, Table 5-4). -/

namespace Sys2Proof.Machine

/-- A bit written in a word, and the others. -/
theorem testBit_putBit (w i : Nat) (b : Bool) (j : Nat) : (putBit w i b).testBit j = if j = i then b else w.testBit j := by
  cases b with
  | true =>
    show (w ||| 2 ^ i).testBit j = _
    rw [Nat.testBit_or, Nat.testBit_two_pow]
    by_cases h : j = i
    · simp [h]
    · have hij : ¬ i = j := fun hij => h hij.symm
      simp [h, hij]
  | false =>
    show (w &&& (w ^^^ 2 ^ i)).testBit j = _
    rw [Nat.testBit_and, Nat.testBit_xor, Nat.testBit_two_pow]
    by_cases h : j = i
    · subst h
      cases w.testBit j <;> simp
    · have hij : ¬ i = j := fun hij => h hij.symm
      simp [h, hij]

/-! ### Registers and predicates that the flow of issue leaves (R137, R138) -/

/-- Two states of a core with the same address registers and the same predicates. -/
structure Core.SameRegs (c d : Core) : Prop where
  a : d.a = c.a
  p : d.p = c.p

namespace Core

variable {c d e : Core}

theorem SameRegs.trans (h : c.SameRegs d) (k : d.SameRegs e) : c.SameRegs e := ⟨k.a.trans h.a, k.p.trans h.p⟩

theorem SameRegs.reg (h : c.SameRegs d) (i : Nat) : d.reg i = c.reg i := by simp only [Core.reg, h.a]

theorem SameRegs.pred (h : c.SameRegs d) (i : Nat) : d.pred i = c.pred i := by simp only [Core.pred, h.p]

theorem setLoopReg_sameRegs (c : Core) (i v : Nat) : c.SameRegs (c.setLoopReg i v) := ⟨rfl, rfl⟩

theorem wrap_sameRegs (c : Core) (l : List Loop) (n : Nat) : c.SameRegs (c.wrap l n).1 := by
  induction l generalizing c with
  | nil => exact ⟨rfl, rfl⟩
  | cons l rest ih =>
    unfold Core.wrap
    split
    · split
      · exact ⟨rfl, rfl⟩
      · exact (c.setLoopReg_sameRegs l.k l.count).trans (ih _)
    · exact ⟨rfl, rfl⟩

theorem flow_sameRegs (c : Core) (w : Nat) (takes : Bool) (count n : Nat) : c.SameRegs (c.flow w takes count n).1 := by
  unfold Core.flow
  split
  · dsimp only
    split
    · exact (c.setLoopReg_sameRegs _ 0).trans (wrap_sameRegs _ _ _)
    · exact ⟨rfl, rfl⟩
  · split
    · exact ⟨rfl, rfl⟩
    · exact wrap_sameRegs _ _ _

theorem reg_setReg (c : Core) (d v i : Nat) : (c.setReg d v).reg i = if i = d then v % 2 ^ 48 else c.reg i := by
  unfold Core.setReg Core.reg
  rw [Sparse.get_set]
  split
  · exact BitVec.toNat_ofNat v 48
  · rfl

theorem pred_setPred (c : Core) (d : Nat) (b : Bool) (i : Nat) : (c.setPred d b).pred i = if i = d then i == 0 || b else c.pred i := by
  unfold Core.setPred
  by_cases hd : d = 0
  · subst hd
    simp only [if_true]
    split
    · rename_i hi
      subst hi
      rfl
    · rfl
  · rw [if_neg hd]
    unfold Core.pred bit
    dsimp only
    rw [testBit_putBit]
    split <;> rfl

end Core

/-! ### Commands that touch a core and the counters alone -/

/-- Only a core's own state and the dictionary differ. -/
structure State.OnlyCore (core : Nat) (s t : State) : Prop where
  others : ∀ n ≠ core, t.core n = s.core n
  frame  : t = { s with dict := t.dict, cores := t.cores }

namespace State.OnlyCore

variable {core : Nat} {s t u : State}

theorem refl (core : Nat) (s : State) : OnlyCore core s s := ⟨fun _ _ => rfl, rfl⟩

theorem trans (h : OnlyCore core s t) (k : OnlyCore core t u) : OnlyCore core s u :=
  ⟨fun n hn => (k.others n hn).trans (h.others n hn), by rw [k.frame, h.frame]⟩

theorem setCore (core : Nat) (s : State) (c : Core) : OnlyCore core s (s.setCore core c) :=
  ⟨fun n hn => by rw [State.core_setCore, if_neg hn], rfl⟩

theorem setObj (core : Nat) (s : State) (key v : Nat) : OnlyCore core s (s.setObj key v) := ⟨fun _ _ => rfl, rfl⟩

theorem quiet (h : OnlyCore core s t) (q : s.Quiet) : t.Quiet := by
  rw [h.frame]
  exact ⟨q.posts, q.swaps, q.hosts, q.subs⟩

end State.OnlyCore

section
variable {s : State} {core : Nat}

/-- A prefetch only asks for a line. -/
theorem State.prefetchLine_onlyCore (s : State) (core line : Nat) : OnlyCore core s (s.prefetchLine core line) := by
  unfold State.prefetchLine
  dsimp only
  split
  · exact .refl ..
  · exact .setCore ..

theorem State.prefetchLine_sameRegs (s : State) (core line : Nat) : (s.core core).SameRegs ((s.prefetchLine core line).core core) := by
  unfold State.prefetchLine
  dsimp only
  split
  · exact ⟨rfl, rfl⟩
  · rw [State.core_setCore, if_pos rfl]
    exact ⟨rfl, rfl⟩

theorem State.goTo_onlyCore (s : State) (core : Nat) (c : Core) (pc : Nat) : OnlyCore core s (s.goTo core c pc) := by
  unfold State.goTo
  dsimp only
  split
  · exact (OnlyCore.setCore core s _).trans (State.prefetchLine_onlyCore _ core _)
  · exact .setCore ..

theorem State.goTo_sameRegs (s : State) (core : Nat) (c : Core) (pc : Nat) : c.SameRegs ((s.goTo core c pc).core core) := by
  have placed : c.SameRegs ((s.setCore core { c with pc }).core core) := by
    rw [State.core_setCore, if_pos rfl]
    exact ⟨rfl, rfl⟩
  unfold State.goTo
  dsimp only
  split
  · exact placed.trans (State.prefetchLine_sameRegs _ core _)
  · exact placed

/-! ### The scalar slot's part of an issue -/

/-- What a scalar slot writes, from the sources as a state holds them. -/
def State.scalarWrite (r : State) (core : Nat) (c : Core) (w : Nat) : ScWrite :=
  if c.takes w then scalarResult c w (r.source core (scS1 w)) (r.source core (scS2 w)) else .none

/-- The count that a LOOP would take, from the sources as a state holds them. -/
def State.scalarCount (r : State) (core w : Nat) : Nat :=
  if bit (scD w) 4 then bits (scImm w) 20 11 else r.source core (scS1 w) % 2 ^ 32

theorem State.issueScalar_eq (s r : State) (core : Nat) (c : Core) (w : Nat) : s.issueScalar r core c w =
    let f := ((s.core core).applySc (r.scalarWrite core c w)).flow w (c.takes w) (r.scalarCount core w) (seqOf c.pc)
    (if f.2.2 then s.count 32 (Obj.ZERO_TRIP_LOOPS core) 1 else s).goTo core f.1 (addrOfSeq f.2.1) := rfl

theorem State.issueScalar_onlyCore (s r : State) (core : Nat) (c : Core) (w : Nat) : OnlyCore core s (s.issueScalar r core c w) := by
  rw [State.issueScalar_eq]
  dsimp only
  split
  · exact (OnlyCore.setObj core s _ _).trans (State.goTo_onlyCore _ core _ _)
  · exact State.goTo_onlyCore ..

theorem State.issueScalar_sameRegs (s r : State) (core : Nat) (c : Core) (w : Nat) :
    ((s.core core).applySc (r.scalarWrite core c w)).SameRegs ((s.issueScalar r core c w).core core) := by
  rw [State.issueScalar_eq]
  exact (Core.flow_sameRegs _ _ _ _ _).trans (State.goTo_sameRegs _ core _ _)

/-- A core that issues a bundle. -/
def Core.issuing (c : Core) : Core := { c with hold := .none, issueNo := c.issueNo + 1, wdog := 0 }

/-- A core runs, and a bundle more is counted. -/
def State.issued (s : State) (core : Nat) : State := (s.setCoreSt core .running).count 64 (Obj.BUNDLES_ISSUED core) 1

theorem State.issued_onlyCore (s : State) (core : Nat) : OnlyCore core s (s.issued core) :=
  (OnlyCore.setObj core s _ _).trans (.setObj core _ _ _)

theorem State.issued_core (s : State) (core n : Nat) : (s.issued core).core n = s.core n := rfl

/-- A bundle that the other slots leave alone issues its scalar slot. -/
theorem State.issueBundle_scalar {b : Slots} (load : slotOp b.load = 0) (store : slotOp b.store = 0) (matrix : slotOp b.matrix = 0)
    (vector : vectorOp b.vector = 0) (sync : slotOp b.sync = 0) :
    s.issueBundle core b = ((s.setCore core (s.core core).issuing).issued core).issueScalar s core (s.core core) b.scalar := by
  simp only [State.issueBundle_eq, State.issueLoad_of_idle core _ (.inr load), State.issueStore_of_idle core _ (.inr store),
    State.issueMatrix_of_idle core _ (.inr matrix), State.issueVector_of_idle core _ (.inr vector), State.issueSync_of_idle core _ (.inr sync)]
  rfl

variable {b : Nat} (quiet : s.Quiet) (issues : s.Issues core b) (load : slotOp (Slots.of b).load = 0) (store : slotOp (Slots.of b).store = 0)
  (matrix : slotOp (Slots.of b).matrix = 0) (vector : vectorOp (Slots.of b).vector = 0) (sync : slotOp (Slots.of b).sync = 0)
include quiet issues load store matrix vector sync

/-- A bundle whose only effect is its scalar slot's writes what that writes, and touches its core and the counters alone. -/
theorem State.exec_scalar : ∃ t, exec (.bundleIssue core) s = .next t ∧
    ((s.core core).issuing.applySc (s.scalarWrite core (s.core core) (Slots.of b).scalar)).SameRegs (t.core core) ∧ OnlyCore core s t := by
  rw [issues.exec_eq, State.tookSync_of_idle (.inr sync), State.issueBundle_scalar load store matrix vector sync]
  have only := ((OnlyCore.setCore core s (s.core core).issuing).trans (State.issued_onlyCore _ core)).trans
    (State.issueScalar_onlyCore _ s core (s.core core) (Slots.of b).scalar)
  have same := State.issueScalar_sameRegs ((s.setCore core (s.core core).issuing).issued core) s core (s.core core) (Slots.of b).scalar
  rw [State.issued_core, State.core_setCore, if_pos rfl] at same
  exact ⟨_, by rw [State.after_quiet (only.quiet quiet)], same, only⟩

end

/-! ### The values of Table 5-4 -/

/-- What a register takes of an exact value written as 48 bits. -/
theorem ofSigned_low (i : Int) : ofSigned 48 i % 2 ^ 48 = (i % 2 ^ 48).toNat := by
  unfold ofSigned
  norm_num
  omega

/-- What a register takes of a natural number. -/
theorem natCast_low (n : Nat) : n % 2 ^ 48 = ((n : Int) % 2 ^ 48).toNat := by omega

theorem low6_eq (w : Nat) : bits (scImm w) 5 0 = scImm w % 64 := rfl

/-- An operation that writes a register writes the low 48 bits of its value. -/
theorem scalarResult_of_value {w x y : Nat} {v : Int} (c : Core) (h : scalarValue w x y = some v) :
    ∃ n, scalarResult c w x y = .reg (scD w) n ∧ n % 2 ^ 48 = (v % 2 ^ 48).toNat := by
  unfold scalarValue at h
  unfold scalarResult
  dsimp only at h ⊢
  split at h
  case h_16 => cases h
  all_goals
    rename_i op
    obtain rfl := Option.some.inj h
    rw [op]
  case h_1 | h_2 | h_3 | h_9 | h_10 | h_11 => exact ⟨_, rfl, ofSigned_low _⟩
  case h_4 =>
    refine ⟨_, rfl, ?_⟩
    rw [Nat.mod_mod, low6_eq, Nat.shiftLeft_eq, natCast_low]
    norm_cast
  case h_5 => exact ⟨_, rfl, by rw [low6_eq, Nat.shiftRight_eq_div_pow, natCast_low]⟩
  case h_6 | h_7 | h_8 => exact ⟨_, rfl, natCast_low _⟩
  case h_12 | h_13 => exact ⟨_, rfl, by rw [Nat.shiftLeft_eq]; exact natCast_low _⟩
  case h_14 => exact ⟨_, rfl, natCast_low _⟩
  case h_15 => exact ⟨_, rfl, natCast_low _⟩

/-- The relation of a code is the one that the list of relations has in its place. -/
theorem relation_of_get {x y code : Nat} {v : Bool} (h : (scalarRelation x y)[code]? = some v) : relation code x y = v := by
  obtain ⟨lt, get⟩ := List.getElem?_eq_some_iff.1 h
  have hcode : code < 6 := lt
  have ne : (x != y) = decide (x ≠ y) := by
    by_cases hxy : x = y <;> simp [hxy]
  interval_cases code
  exacts [get, ne.trans get, get, get, get, get]

/-- An operation that writes a predicate writes its value. -/
theorem scalarResult_of_flag {c : Core} {w x y : Nat} {v : Bool} (h : scalarFlag c w x y = some v) :
    scalarResult c w x y = .pred (scD w % 8) v := by
  unfold scalarFlag at h
  unfold scalarResult
  dsimp only at h ⊢
  split at h
  case h_4 => cases h
  all_goals
    rename_i op
    rw [op]
  case h_1 => exact congrArg (ScWrite.pred (scD w % 8)) (relation_of_get h)
  case h_2 =>
    have imm : ofSigned 48 (toSigned 18 (bits (scImm w) 20 3)) = (toSigned 18 (scImm w / 8) % 2 ^ 48).toNat := by
      have same : toSigned 18 (bits (scImm w) 20 3) = toSigned 18 (scImm w / 8) := by
        simp only [toSigned, bits, Nat.shiftRight_eq_div_pow, Nat.mod_mod]
      rw [same]
      rfl
    rw [← imm] at h
    exact congrArg (ScWrite.pred (scD w % 8)) (relation_of_get h)
  case h_3 =>
    have code : bits (scImm w) 1 0 = scImm w % 4 := rfl
    have lt : scImm w % 4 < 4 := Nat.mod_lt _ (by decide)
    rw [code]
    generalize scImm w % 4 = n at h lt
    interval_cases n <;> exact congrArg (ScWrite.pred (scD w % 8)) (Option.some.inj h)

/-- Settles O47: the flow of issue leaves the registers, and what the slot writes is the value's low 48 bits. -/
theorem scalarOperationsWriteOneRegister : Obligations.ScalarOperationsWriteOneRegister := by
  intro s core b v quiet issues w takes value load store matrix vector sync
  obtain ⟨t, ran, same, only⟩ := State.exec_scalar quiet issues load store matrix vector sync
  obtain ⟨n, result, low⟩ := scalarResult_of_value (s.core core) value
  have wrote : s.scalarWrite core (s.core core) (Slots.of b).scalar = .reg (scD w) n := (if_pos takes).trans result
  rw [wrote] at same
  refine ⟨t, ran, fun i => ?_, fun i => same.pred i, only.others, only.frame⟩
  rw [same.reg, Core.applySc, Core.reg_setReg, low]
  rfl

/-- Settles O48: as for the registers, of the predicate that the slot writes. -/
theorem comparisonsWriteOnePredicate : Obligations.ComparisonsWriteOnePredicate := by
  intro s core b v quiet issues w takes value load store matrix vector sync
  obtain ⟨t, ran, same, only⟩ := State.exec_scalar quiet issues load store matrix vector sync
  have wrote : s.scalarWrite core (s.core core) (Slots.of b).scalar = .pred (scD w % 8) v := (if_pos takes).trans (scalarResult_of_flag value)
  rw [wrote] at same
  refine ⟨t, ran, fun i => ?_, fun i => ?_, only.others, only.frame⟩
  · rw [same.pred, Core.applySc, Core.pred_setPred]
    rfl
  · rw [same.reg, Core.applySc, Core.setPred]
    split <;> rfl

end Sys2Proof.Machine
end

section
/-! PROOFS (05_core_bundles.md). What a bundle leaves whose only effect is a store (Table 5-5), and what a write disturbs (R313). -/

namespace Sys2Proof.Machine

/-! ### Bytes of a value -/

theorem leBytes_getElem (n v i : Nat) (h : i < (leBytes n v).length) : (leBytes n v)[i].toNat = v / 2 ^ (8 * i) % 2 ^ 8 := by
  induction n generalizing v i with
  | zero => exact absurd h (Nat.not_lt_zero _)
  | succ n ih =>
    cases i with
    | zero =>
      show (BitVec.ofNat 8 v).toNat = _
      simp
    | succ i =>
      show ((leBytes n (v / 256))[i]'(by simpa [leBytes] using h)).toNat = _
      rw [ih (v / 256) i (by simpa [leBytes] using h), Nat.div_div_eq_div_mul, show 8 * (i + 1) = 8 + 8 * i by omega, pow_add]
      rfl

/-! ### Data being sent that a write disturbs (R313) -/

section
variable (s : State) (engine : Bool) (a len : Nat)

/-- Only contexts, the frames of flows and the values that the model leaves open differ. -/
theorem State.disturb_eq : s.disturb engine a len =
    { s with ctxs := (s.disturb engine a len).ctxs, txFlows := (s.disturb engine a len).txFlows, free := (s.disturb engine a len).free } := by
  unfold State.disturb
  dsimp only
  split
  · unfold State.blurFrames State.fresh
    dsimp only
    split <;> rfl
  · split <;> rfl

/-- What is disturbed does not depend on the cores. -/
theorem State.disturb_setCore (n : Nat) (c : Core) : (s.setCore n c).disturb engine a len = (s.disturb engine a len).setCore n c := by
  unfold State.disturb
  have same : (s.setCore n c).ctxs = s.ctxs := rfl
  have guard : (s.setCore n c).stepU = s.stepU := rfl
  dsimp only
  rw [same, guard]
  split
  · unfold State.blurFrames State.fresh
    dsimp only
    split <;> rfl
  · split <;> rfl

/-- Bytes written besides. -/
theorem State.disturb_setBytes (lo : Nat) (l : List Byte) :
    let d := s.disturb engine a len
    d.setBytes lo l = { s with mem := (d.setBytes lo l).mem, ctxs := d.ctxs, txFlows := d.txFlows, free := d.free } := by
  intro d
  have wrote : ({ s with ctxs := d.ctxs, txFlows := d.txFlows, free := d.free } : State).setBytes lo l =
      { s with mem := (({ s with ctxs := d.ctxs, txFlows := d.txFlows, free := d.free } : State).setBytes lo l).mem, ctxs := d.ctxs,
               txFlows := d.txFlows, free := d.free } := rfl
  rwa [← State.disturb_eq] at wrote

end

/-- A write where no stored error lies. -/
theorem State.writeNow_clean {s : State} {a : Nat} {l : List Byte} (clean : s.errorsIn a l.length = []) : s.writeNow a l = s.setBytes a l := by
  unfold State.writeNow
  rw [clean]
  rfl

theorem State.disturb_errorsIn (s : State) (engine : Bool) (a len lo n : Nat) : (s.disturb engine a len).errorsIn lo n = s.errorsIn lo n := by
  rw [State.disturb_eq]
  rfl

theorem State.disturb_quiet {s : State} (quiet : s.Quiet) (engine : Bool) (a len : Nat) : (s.disturb engine a len).Quiet := by
  rw [State.disturb_eq]
  exact ⟨quiet.posts, quiet.swaps, quiet.hosts, quiet.subs⟩

/-! ### The store -/

section
variable {s : State} {core : Nat}

/-- The address at which an STA aims (Table 5-5). -/
def Core.storeAt (c : Core) (core w : Nat) : Nat := spBase core + c.offset (memB w) (memOff w)

/-- The state in which an STA has stored its register. -/
def State.stored (s : State) (core w : Nat) : State :=
  let c := s.core core
  (s.disturb false (c.storeAt core w) 8).setBytes (c.storeAt core w) (leBytes 8 (c.reg (memD w)))

theorem State.stored_eq (s : State) (core w : Nat) :
    let d := s.disturb false ((s.core core).storeAt core w) 8
    s.stored core w = { s with mem := (s.stored core w).mem, ctxs := d.ctxs, txFlows := d.txFlows, free := d.free } :=
  State.disturb_setBytes ..

theorem State.issueStore_sta {w : Nat} (tag : Nat) (takes : (s.core core).takes w = true) (op : slotOp w = 1)
    (clean : s.errorsIn ((s.core core).storeAt core w) 8 = []) :
    (s.setCore core (s.core core).issuing).issueStore core (s.core core) w tag = (s.stored core w).setCore core (s.core core).issuing := by
  unfold State.issueStore
  rw [takes, op]
  dsimp only [Bool.not_true]
  rw [if_neg (by decide)]
  show ((s.setCore core _).disturb false ((s.core core).storeAt core w) 8).writeNow ((s.core core).storeAt core w) _ = _
  rw [State.disturb_setCore]
  rw [State.writeNow_clean]
  · rfl
  · rw [length_leBytes]
    show (s.disturb _ _ _).errorsIn _ _ = _
    rw [State.disturb_errorsIn, clean]

variable {b : Nat} (quiet : s.Quiet) (issues : s.Issues core b) (scalar : slotOp (Slots.of b).scalar = 0) (load : slotOp (Slots.of b).load = 0)
  (matrix : slotOp (Slots.of b).matrix = 0) (vector : vectorOp (Slots.of b).vector = 0) (sync : slotOp (Slots.of b).sync = 0)
include quiet issues scalar load matrix vector sync

/-- A bundle whose only effect is an STA: the store, and then its core and the counters alone. -/
theorem State.exec_sta (takes : (s.core core).takes (Slots.of b).store = true) (op : slotOp (Slots.of b).store = 1)
    (clean : s.errorsIn ((s.core core).storeAt core (Slots.of b).store) 8 = []) :
    ∃ t, exec (.bundleIssue core) s = .next t ∧ (s.core core).SameRegs (t.core core) ∧ OnlyCore core (s.stored core (Slots.of b).store) t := by
  have only := ((OnlyCore.setCore core (s.stored core (Slots.of b).store) (s.core core).issuing).trans (State.issued_onlyCore _ core)).trans
    (State.issueScalar_onlyCore _ s core (s.core core) (Slots.of b).scalar)
  have same := State.issueScalar_sameRegs (((s.stored core (Slots.of b).store).setCore core (s.core core).issuing).issued core) s core
    (s.core core) (Slots.of b).scalar
  have nothing : s.scalarWrite core (s.core core) (Slots.of b).scalar = .none := by
    unfold State.scalarWrite
    rw [scalarResult_of_nop _ _ scalar, ite_self]
  have still : (s.stored core (Slots.of b).store).Quiet := by
    obtain ⟨posts, swaps, hosts, subs⟩ := State.disturb_quiet quiet false ((s.core core).storeAt core (Slots.of b).store) 8
    exact ⟨posts, swaps, hosts, subs⟩
  rw [State.issued_core, State.core_setCore, if_pos rfl, nothing] at same
  have whole : s.issueBundle core (Slots.of b) =
      (((s.stored core (Slots.of b).store).setCore core (s.core core).issuing).issued core).issueScalar s core (s.core core)
        (Slots.of b).scalar := by
    have issuing := State.issueStore_sta (s.core core).issueNo takes op clean
    rw [State.issueBundle_eq]
    dsimp only
    rw [State.issueLoad_of_idle core _ (.inr load), State.issueVector_of_idle core _ (.inr vector)]
    rw [Core.issuing] at issuing
    rw [issuing, State.issueMatrix_of_idle core _ (.inr matrix), State.issueSync_of_idle core _ (.inr sync)]
    rfl
  refine ⟨_, by rw [issues.exec_eq, State.tookSync_of_idle (.inr sync), whole, State.after_quiet (only.quiet still)], ⟨?_, ?_⟩, only⟩
  · exact same.a
  · exact same.p

end

/-- Settles O49: the store's bytes, and issue's own core and counters after it. -/
theorem storesWriteEightBytes : Obligations.StoresWriteEightBytes := by
  intro s core b quiet issues w c a d takes op scalar load matrix vector sync clean
  obtain ⟨t, ran, same, only⟩ := State.exec_sta quiet issues scalar load matrix vector sync takes op clean
  have length : (leBytes 8 (c.reg (memD w))).length = 8 := length_leBytes ..
  have bytes (x : Nat) : t.byte x = (s.stored core w).byte x := by
    rw [only.frame]
    rfl
  have before (x : Nat) : d.byte x = s.byte x := by
    rw [show d = s.disturb false a 8 from rfl, State.disturb_eq]
    rfl
  refine ⟨t, ran, fun i hi => ?_, fun x hx => ?_, fun i => same.reg i, fun n hn => ?_, ?_⟩
  · rw [bytes, ← leBytes_getElem 8 _ i (by rwa [length])]
    exact congrArg BitVec.toNat (State.byte_setBytes_inside d _ (by rwa [length]))
  · rw [bytes, ← before]
    exact State.byte_setBytes_outside d _ (by rwa [length])
  · rw [only.others n hn]
    show d.core n = s.core n
    rw [show d = s.disturb false a 8 from rfl, State.disturb_eq]
    rfl
  · have mem : t.mem = (s.stored core w).mem := (congrArg State.mem only.frame :)
    rw [mem]
    exact only.frame.trans (congrArg (fun u : State => { u with dict := t.dict, cores := t.cores }) (State.stored_eq s core w))

end Sys2Proof.Machine
end

section
/-! PROOFS (10_fabric_routing.md). At most one Chart is ACTIVE, where nothing is under way in the fabric (R284, R286, R287). -/

namespace Sys2Proof.Machine

theorem foldl_eq_of_mem {α β : Type*} (f : α → β → α) (a : α) (l : List β) (h : ∀ b ∈ l, f a b = a) : l.foldl f a = a := by
  induction l with
  | nil => rfl
  | cons b l ih =>
    rw [List.foldl_cons, h b List.mem_cons_self]
    exact ih fun x hx => h x (List.mem_cons_of_mem _ hx)

/-! ### The state of a Chart -/

/-- The object that holds a Chart's state. -/
def chartObj (e : Nat) : Nat := if e = 0 then Obj.CHART0_STATE else Obj.CHART1_STATE

theorem chartObj_ne (e k : Nat) (h : k ≠ Obj.CHART0_STATE ∧ k ≠ Obj.CHART1_STATE) : k ≠ chartObj e := by
  unfold chartObj
  split
  exacts [h.1, h.2]

theorem chartObj_other {e : Nat} (real : e < 2) : chartObj (1 - e) ≠ chartObj e := by
  interval_cases e <;> decide

section
variable {s : State}

theorem State.chartState_eq (s : State) (e : Nat) : s.chartState e = s.obj (chartObj e) := rfl

theorem State.chartState_setChartState_self (s : State) (e v : Nat) : (s.setChartState e v).chartState e = v :=
  State.obj_setObj_self ..

theorem State.chartState_setChartState_other (s : State) {e : Nat} (v : Nat) (real : e < 2) :
    (s.setChartState e v).chartState (1 - e) = s.chartState (1 - e) :=
  State.obj_setObj_other s (chartObj_other real)

theorem State.obj_setChartState (s : State) (e v : Nat) {k : Nat} (h : k ≠ Obj.CHART0_STATE ∧ k ≠ Obj.CHART1_STATE) :
    (s.setChartState e v).obj k = s.obj k :=
  State.obj_setObj_other s (chartObj_ne e k h)

theorem State.chartState_setObj (s : State) {k : Nat} (v e : Nat) (h : k ≠ Obj.CHART0_STATE ∧ k ≠ Obj.CHART1_STATE) :
    (s.setObj k v).chartState e = s.chartState e :=
  State.obj_setObj_other s (chartObj_ne e k h).symm

/-- Not both Charts are ACTIVE. -/
def State.OneActive (s : State) : Prop := ¬ (s.chartState 0 = 3 ∧ s.chartState 1 = 3)

theorem State.OneActive.of_other {e : Nat} (real : e < 2) (h : s.chartState (1 - e) ≠ 3) : s.OneActive := by
  rintro ⟨zero, one⟩
  interval_cases e
  exacts [h one, h zero]

/-- A Chart put to a state other than ACTIVE leaves at most one ACTIVE. -/
theorem State.oneActive_setChartState {e v : Nat} (real : e < 2) (hv : v ≠ 3) : (s.setChartState e v).OneActive := by
  have back : 1 - (1 - e) = e := by omega
  exact .of_other (e := 1 - e) (by omega) (by rwa [back, State.chartState_setChartState_self])

/-! ### A fabric in which nothing is under way -/

/-- Nothing is under way in the fabric: no flow, and no frame in the router or in a port's queue. -/
structure State.FabricIdle (s : State) : Prop where
  flows  : s.txFlows = []
  router : s.routerQ = []
  queues : ∀ p < 16, (s.port p).queue = []

theorem State.FabricIdle.setObj (h : s.FabricIdle) (k v : Nat) : (s.setObj k v).FabricIdle := ⟨h.flows, h.router, h.queues⟩

theorem State.FabricIdle.reinject_eq (h : s.FabricIdle) : s.reinject = s := by
  have none : ({ s with txFlows := [] } : State) = s := by rw [← h.flows]
  unfold State.reinject
  rw [h.flows]
  exact none

theorem State.FabricIdle.retryRouter_eq (h : s.FabricIdle) : s.retryRouter = s := by
  have none : ({ s with routerQ := [] } : State) = s := by rw [← h.router]
  unfold State.retryRouter
  rw [h.router]
  exact none

theorem State.FabricIdle.closeChart_eq (h : s.FabricIdle) (e : Nat) : s.closeChart e = s.setChartState e 0 := by
  have idle : (s.setChartState e 0).FabricIdle := h.setObj _ _
  unfold State.closeChart
  generalize s.setChartState e 0 = u at idle
  have none : ({ u with routerQ := [] } : State) = u := by rw [← idle.router]
  dsimp only
  rw [idle.flows]
  dsimp only [List.filter_nil, List.foldl_nil]
  rw [idle.router]
  dsimp only [List.filter_nil, List.foldl_nil]
  rw [none]
  refine foldl_eq_of_mem _ _ _ fun p hp => ?_
  rw [idle.queues p (List.mem_range.1 hp)]
  rfl

/-! ### The switch (R286) -/

/-- A switch's Chart is ACTIVE, and votes and reports are due again (R347, R376). -/
def State.switched (s : State) (w : PendSwitch) : State :=
  let s := (({ s with switchAt := none }).setChartState w.chart 3).setObj Obj.CHART_ACTIVE w.chart
  { s with stepU := { s.stepU with resend := true }, fixU := { s.fixU with resend := true } }

/-- The Chart that the switch replaces: closed, draining, or as it was. -/
def State.replaced (s : State) (w : PendSwitch) : State :=
  let other := 1 - w.chart
  let u := s.switched w
  if w.close ∧ (s.chartState other = 3 ∨ s.chartState other = 4) then u.setChartState other 0
  else if s.chartState other = 3 then (u.setChartState other 4).setChart other { u.chart other with drainAt := u.chr }
  else u

theorem State.FabricIdle.switched (h : s.FabricIdle) (w : PendSwitch) : (s.switched w).FabricIdle := ⟨h.flows, h.router, h.queues⟩

theorem State.FabricIdle.replaced (h : s.FabricIdle) (w : PendSwitch) : (s.replaced w).FabricIdle := by
  have idle := h.switched w
  unfold State.replaced
  dsimp only
  split
  · exact idle.setObj _ _
  · split
    · exact ⟨idle.flows, idle.router, idle.queues⟩
    · exact idle

theorem State.FabricIdle.performSwitch_eq (h : s.FabricIdle) (w : PendSwitch) : s.performSwitch w = (s.replaced w).post .stepTest := by
  have idle := h.switched w
  have whole : s.performSwitch w = (
      let u := (s.switched w).reinject
      let u :=
        if w.close ∧ (s.chartState (1 - w.chart) = 3 ∨ s.chartState (1 - w.chart) = 4) then u.closeChart (1 - w.chart)
        else if s.chartState (1 - w.chart) = 3 then (u.setChartState (1 - w.chart) 4).setChart (1 - w.chart) { u.chart (1 - w.chart) with drainAt := u.chr }
        else u
      u.retryRouter.post .stepTest) := rfl
  rw [whole]
  dsimp only
  rw [idle.reinject_eq, idle.closeChart_eq]
  show State.post (State.retryRouter (s.replaced w)) _ = _
  rw [(h.replaced w).retryRouter_eq]

theorem State.switched_chartState (s : State) (w : PendSwitch) (e : Nat) :
    (s.switched w).chartState e = (s.setChartState w.chart 3).chartState e :=
  State.chartState_setObj _ _ e (by decide)

theorem State.switched_active (s : State) (w : PendSwitch) : (s.switched w).obj Obj.CHART_ACTIVE = w.chart := State.obj_setObj_self ..

section
variable {w : PendSwitch} (real : w.chart < 2)
include real

/-- The Chart of a switch is ACTIVE after it. -/
theorem State.replaced_self : (s.replaced w).chartState w.chart = 3 := by
  have active : (s.switched w).chartState w.chart = 3 := (s.switched_chartState w _).trans (State.chartState_setChartState_self ..)
  have keep (v : Nat) : ((s.switched w).setChartState (1 - w.chart) v).chartState w.chart = (s.switched w).chartState w.chart :=
    State.obj_setObj_other _ (chartObj_other real).symm
  unfold State.replaced
  dsimp only
  split
  · rw [keep, active]
  · split
    · exact (keep 4).trans active
    · exact active

/-- The other Chart is DRAINING, or CLOSED by SWITCH_CLOSE, where it was ACTIVE, and in no case ACTIVE. -/
theorem State.replaced_other : (s.replaced w).chartState (1 - w.chart) ≠ 3 ∧
    (s.chartState (1 - w.chart) = 3 → (s.replaced w).chartState (1 - w.chart) = if w.close then 0 else 4) := by
  have before : (s.switched w).chartState (1 - w.chart) = s.chartState (1 - w.chart) :=
    (s.switched_chartState w _).trans (State.chartState_setChartState_other s 3 real)
  have put (v : Nat) : ((s.switched w).setChartState (1 - w.chart) v).chartState (1 - w.chart) = v := State.chartState_setChartState_self ..
  unfold State.replaced
  dsimp only
  split
  case isTrue closes => simp [put, closes.1]
  case isFalse stays =>
    split
    case isTrue active =>
      have open_ : w.close = false := by simpa [active] using stays
      have drains : (((s.switched w).setChartState (1 - w.chart) 4).setChart (1 - w.chart)
          { (s.switched w).chart (1 - w.chart) with drainAt := (s.switched w).chr }).chartState (1 - w.chart) = 4 := put 4
      simp [drains, open_]
    case isFalse inactive =>
      rw [before]
      exact ⟨inactive, fun active => absurd active inactive⟩

end

theorem State.replaced_active (s : State) (w : PendSwitch) : (s.replaced w).obj Obj.CHART_ACTIVE = w.chart := by
  have keep (v : Nat) : ((s.switched w).setChartState (1 - w.chart) v).obj Obj.CHART_ACTIVE = w.chart :=
    (State.obj_setChartState _ _ _ (by decide)).trans (s.switched_active w)
  unfold State.replaced
  dsimp only
  split
  · exact keep 0
  · split
    · exact keep 4
    · exact s.switched_active w

theorem State.replaced_quiet (quiet : s.Quiet) (w : PendSwitch) : (s.replaced w).Quiet := by
  obtain ⟨posts, swaps, hosts, subs⟩ := quiet
  unfold State.replaced
  dsimp only
  split
  · exact ⟨posts, swaps, hosts, subs⟩
  · split <;> exact ⟨posts, swaps, hosts, subs⟩

theorem State.replaced_stepSt (s : State) (w : PendSwitch) : (s.replaced w).stepSt = s.stepSt := by
  have switched : (s.switched w).stepSt = s.stepSt :=
    (State.obj_setObj_other _ (by decide)).trans (State.obj_setChartState _ _ _ (by decide))
  have keep (v : Nat) : ((s.switched w).setChartState (1 - w.chart) v).stepSt = s.stepSt :=
    (State.obj_setChartState _ _ _ (by decide)).trans switched
  unfold State.replaced
  dsimp only
  split
  · exact keep 0
  · split
    · exact keep 4
    · exact switched

/-- No test is made while no step is in progress. -/
theorem State.stepTest_idle (idle : s.stepSt < 2) : s.stepTest = s := by
  unfold State.stepTest
  generalize s.stepSt = n at idle
  interval_cases n <;> rfl

/-- A switch whose time has come, where nothing is under way in the fabric. -/
theorem State.FabricIdle.exec_switch (h : s.FabricIdle) (quiet : s.Quiet) (idle : s.stepSt < 2) {w : PendSwitch} (pending : s.switchAt = some w)
    (due : w.time ≤ s.chr) : exec .chartSwitchTime s = .next (s.replaced w) := by
  have still := s.replaced_quiet quiet w
  have test : (s.replaced w).stepTest = s.replaced w := State.stepTest_idle (by rwa [State.replaced_stepSt])
  show settled (doChartSwitchTime s) = _
  rw [doChartSwitchTime_due pending due, settled_next, h.performSwitch_eq, settle_first still.posts]
  show Host.Outcome.next (State.afterFirst (s.replaced w).stepTest) = _
  rw [test, State.afterFirst_quiet still]

/-! ### CHART_CTRL (Table 10-6) -/

theorem State.chartBegin_oneActive (h : s.OneActive) (real : s.chartSel < 2) : s.chartBegin.1.OneActive := by
  unfold State.chartBegin
  dsimp only
  split
  · exact h
  · exact State.oneActive_setChartState real (by decide)

theorem State.chartSeal_oneActive (h : s.OneActive) (real : s.chartSel < 2) : s.chartSeal.1.OneActive := by
  unfold State.chartSeal
  dsimp only
  split
  · exact h
  · exact State.oneActive_setChartState real (by decide)

theorem State.chartAbort_oneActive (h : s.OneActive) (real : s.chartSel < 2) : s.chartAbort.1.OneActive := by
  unfold State.chartAbort
  dsimp only
  split
  · exact State.oneActive_setChartState real (by decide)
  · exact h

theorem State.chartSwitch_oneActive (h : s.OneActive) (fabric : s.FabricIdle) (real : s.chartSel < 2) (close : Bool) :
    (s.chartSwitch close).1.OneActive := by
  unfold State.chartSwitch
  dsimp only
  split
  · exact h
  · split
    · rw [fabric.performSwitch_eq]
      exact State.OneActive.of_other real (State.replaced_other (w := ⟨s.chartSel, close, s.obj Obj.CHART_SWITCH_AT⟩) real).1
    · exact h

theorem State.writeChartCtrl_oneActive (h : s.OneActive) (fabric : s.FabricIdle) (real : s.chartSel < 2) (v : Nat) :
    (s.writeChartCtrl v).1.OneActive := by
  unfold State.writeChartCtrl
  split
  · exact s.chartBegin_oneActive h real
  · exact s.chartSeal_oneActive h real
  · exact s.chartSwitch_oneActive h fabric real false
  · exact s.chartSwitch_oneActive h fabric real true
  · exact s.chartAbort_oneActive h real
  · exact h

/-! ### The end of a drain (R287) -/

theorem State.FabricIdle.exec_drainClose (h : s.FabricIdle) (quiet : s.Quiet) {e : Nat} (real : e < 2) (draining : s.chartState e = 4)
    (due : (s.chart e).drainAt + 4000000 ≤ s.chr) : exec (.chartDrainClose e) s = .next (s.setChartState e 0) := by
  have still : (s.setChartState e 0).Quiet := ⟨quiet.posts, quiet.swaps, quiet.hosts, quiet.subs⟩
  show settled (doChartDrainClose e s) = _
  rw [doChartDrainClose_due real draining due, settled_next, h.closeChart_eq, State.after_quiet still]

end

/-- Settles O57: in an idle fabric a switch and a close come down to the states of the two Charts. -/
theorem atMostOneChartIsActive : Obligations.AtMostOneChartIsActive := by
  intro s one quiet idle sel flows router queues
  have fabric : s.FabricIdle := ⟨flows, router, queues⟩
  refine ⟨s.writeChartCtrl_oneActive one fabric sel, fun w pending real due => ?_, fun e real draining due => ?_⟩
  · obtain ⟨inactive, replaces⟩ := s.replaced_other real
    exact ⟨_, fabric.exec_switch quiet idle pending due, s.replaced_self real, inactive, s.replaced_active w, replaces⟩
  · exact ⟨_, fabric.exec_drainClose quiet real draining due, s.chartState_setChartState_self e 0, s.chartState_setChartState_other 0 real⟩

end Sys2Proof.Machine
end

section
/-! PROOFS (00_scope.md, 17_management_unit.md). A write that its object refuses leaves the state (R12, R424): each write of the
dictionary checks before it acts. -/

namespace Sys2Proof.Machine

/-- A write's answer spares a state: it refuses nothing, or leaves the state as it is. -/
def State.Spares (s : State) (r : Wr) : Prop := r.2 ≠ 0 → r.1 = s

section
variable {s : State}

theorem State.spares_ok (t : State) : s.Spares t.ok := fun h => absurd rfl h

theorem State.spares_no (code : Nat) : s.Spares (s.no code) := fun _ => rfl

theorem State.spares_ite {c : Prop} [Decidable c] {a b : Wr} : s.Spares (if c then a else b) ↔ (c → s.Spares a) ∧ (¬ c → s.Spares b) := by
  split <;> simp_all

/-! ### Cores and their layers -/

theorem State.armed_spares (core : Nat) : s.Spares (s.arm core) := by
  unfold State.arm
  simp only [State.spares_ite, State.spares_no, implies_true, true_and]
  intros
  split <;> exact State.spares_ok _

theorem State.resetCore_spares (core : Nat) : s.Spares (s.resetCore core) := by
  unfold State.resetCore
  split
  exacts [State.spares_no _, State.spares_no _, State.spares_ok _]

theorem State.writeCoreCtrl_spares (core v : Nat) : s.Spares (s.writeCoreCtrl core v) := by
  simp only [State.writeCoreCtrl, State.spares_ite, State.spares_no, State.armed_spares, State.resetCore_spares, implies_true, and_self]

theorem State.writeProgGen_spares (core v : Nat) : s.Spares (s.writeProgGen core v) := by
  simp only [State.writeProgGen, State.spares_ite, State.spares_no, State.spares_ok, implies_true, and_self]

theorem State.writeLaunch_spares (core key v : Nat) : s.Spares (s.writeLaunch core key v) := by
  simp only [State.writeLaunch, State.spares_ite, State.spares_no, State.spares_ok, implies_true, and_self]

theorem State.writeLyr_spares (core i v : Nat) : s.Spares (s.writeLyr core i v) := by
  simp only [State.writeLyr, State.spares_ite, State.spares_no, State.spares_ok, implies_true, and_self]

theorem State.writeLyrStart_spares (core v : Nat) : s.Spares (s.writeLyrStart core v) := by
  simp only [State.writeLyrStart, State.spares_ite, State.spares_no, State.spares_ok, implies_true, and_self]

theorem State.storeIf_spares (key v : Nat) (fits : Bool) : s.Spares (s.storeIf key v fits) := by
  simp only [State.storeIf, State.spares_ite, State.spares_no, State.spares_ok, implies_true, and_self]

theorem State.clearObj_spares (key mask : Nat) : s.Spares (s.clearObj key mask) := State.spares_ok _

theorem State.writeCoreArea_spares (core key v : Nat) : s.Spares (s.writeCoreArea core key v) := by
  simp only [State.writeCoreArea, State.spares_ite, State.clearObj_spares, State.storeIf_spares, State.writeCoreCtrl_spares,
    State.writeProgGen_spares, State.writeLaunch_spares, State.writeLyrStart_spares, State.writeLyr_spares, implies_true, and_self]

/-! ### Power, clocks, temperature (Tables 16-6, 16-7) -/

theorem State.writeClkCap_spares (die v : Nat) : s.Spares (s.writeClkCap die v) := by
  simp only [State.writeClkCap, State.spares_ite, State.spares_no, State.spares_ok, implies_true, and_self]

theorem State.writeThrPinStep_spares (v : Nat) : s.Spares (s.writeThrPinStep v) := by
  simp only [State.writeThrPinStep, State.spares_ite, State.spares_no, State.spares_ok, implies_true, and_self]

theorem State.writePwrLimit_spares (v : Nat) : s.Spares (s.writePwrLimit v) := by
  simp only [State.writePwrLimit, State.spares_ite, State.spares_no, State.spares_ok, implies_true, and_self]

theorem State.writePdCtrl_spares (v : Nat) : s.Spares (s.writePdCtrl v) := by
  unfold State.writePdCtrl
  simp only [State.spares_ite, State.spares_no, implies_true, true_and]
  intros
  split <;> simp only [State.spares_ite, State.spares_no, State.spares_ok, implies_true, and_self]

theorem State.writePowerCtrl_spares (v : Nat) : s.Spares (s.writePowerCtrl v) := by
  simp only [State.writePowerCtrl, State.spares_ite, State.spares_no, State.spares_ok, implies_true, and_self]

theorem State.writePower_spares (key v : Nat) : s.Spares (s.writePower key v) := by
  simp only [State.writePower, State.spares_ite, State.spares_no, State.clearObj_spares, State.writePwrLimit_spares,
    State.writePowerCtrl_spares, State.writeThrPinStep_spares, State.writePdCtrl_spares, State.writeClkCap_spares, implies_true, and_self]

/-! ### Drift, health, Reserves (Tables 15-6, 15-7) -/

theorem State.writeDriftThresh_spares (key v : Nat) : s.Spares (s.writeDriftThresh key v) := by
  simp only [State.writeDriftThresh, State.spares_ite, State.spares_no, State.spares_ok, implies_true, and_self]

theorem State.writeSparePressure_spares (v : Nat) : s.Spares (s.writeSparePressure v) := State.spares_ok _

theorem State.writeRetiredMap_spares (v : Nat) : s.Spares (s.writeRetiredMap v) := by
  simp only [State.writeRetiredMap, State.spares_ite, State.spares_no, State.spares_ok, implies_true, and_self]

theorem State.writeBankThresh_spares (v : Nat) : s.Spares (s.writeBankThresh v) := State.spares_ok _

/-- All but RSV_SWAP, whose write that finds no Reserve sets RESERVES_EXHAUSTED (R390). -/
theorem State.writeHealth_spares {key : Nat} (v : Nat) (other : key ≠ Obj.RSV_SWAP) : s.Spares (s.writeHealth key v) := by
  simp only [State.writeHealth, State.spares_ite, State.spares_ok, State.clearObj_spares, State.writeDriftThresh_spares,
    State.writeSparePressure_spares, State.writeRetiredMap_spares, State.writeBankThresh_spares, other, false_implies, implies_true, and_self]

/-! ### Charts, Fans, ports (Tables 10-9, 10-10) -/

theorem State.chartBegin_spares : s.Spares s.chartBegin := by
  simp only [State.chartBegin, State.spares_ite, State.spares_no, State.spares_ok, implies_true, and_self]

theorem State.chartSeal_spares : s.Spares s.chartSeal := by
  simp only [State.chartSeal, State.spares_ite, State.spares_no, State.spares_ok, implies_true, and_self]

theorem State.chartSwitch_spares (close : Bool) : s.Spares (s.chartSwitch close) := by
  simp only [State.chartSwitch, State.spares_ite, State.spares_no, State.spares_ok, implies_true, and_self]

theorem State.chartAbort_spares : s.Spares s.chartAbort := by
  simp only [State.chartAbort, State.spares_ite, State.spares_no, State.spares_ok, implies_true, and_self]

theorem State.writeChartCtrl_spares (v : Nat) : s.Spares (s.writeChartCtrl v) := by
  unfold State.writeChartCtrl
  split
  exacts [State.chartBegin_spares, State.chartSeal_spares, State.chartSwitch_spares _, State.chartSwitch_spares _, State.chartAbort_spares,
    State.spares_no _]

theorem State.writeChartLoad_spares (first : Nat) (words : List Nat) : s.Spares (s.writeChartLoad first words) := by
  simp only [State.writeChartLoad, State.spares_ite, State.spares_no, State.spares_ok, implies_true, and_self]

theorem State.writeChartLoadBytes_spares (l : List Byte) : s.Spares (s.writeChartLoadBytes l) := by
  simp only [State.writeChartLoadBytes, State.spares_ite, State.spares_no, State.writeChartLoad_spares, implies_true, and_self]

theorem State.writeChartSelf_spares (v : Nat) : s.Spares (s.writeChartSelf v) := by
  simp only [State.writeChartSelf, State.spares_ite, State.spares_no, State.spares_ok, implies_true, and_self]

theorem State.writeFanEntry_spares (v : Nat) : s.Spares (s.writeFanEntry v) := by
  simp only [State.writeFanEntry, State.spares_ite, State.spares_no, State.spares_ok, implies_true, and_self]

theorem State.writeFenceVec_spares (v : Nat) : s.Spares (s.writeFenceVec v) := State.spares_ok _

theorem State.writeFabric_spares (key v : Nat) : s.Spares (s.writeFabric key v) := by
  simp only [State.writeFabric, State.spares_ite, State.spares_ok, State.storeIf_spares, State.writeChartCtrl_spares,
    State.writeChartSelf_spares, State.writeFenceVec_spares, State.writeFanEntry_spares, implies_true, and_self]

theorem State.writePortCtrl_spares (p v : Nat) : s.Spares (s.writePortCtrl p v) := by
  unfold State.writePortCtrl
  dsimp only
  split <;> simp only [State.spares_ite, State.spares_no, State.spares_ok, implies_true, and_self]

theorem State.writePort_spares (p key v : Nat) : s.Spares (s.writePort p key v) := by
  simp only [State.writePort, State.spares_ite, State.writePortCtrl_spares, State.storeIf_spares, State.clearObj_spares, implies_true, and_self]

/-! ### Contexts, HBM, Sextant (Tables 8-5, 8-6, 11-7) -/

theorem State.writeCtx_spares (n key v : Nat) : s.Spares (s.writeCtx n key v) := by
  simp only [State.writeCtx, State.writeCtxArm, State.writeCtxCtrl, State.spares_ite, State.spares_no, State.spares_ok, implies_true, and_self]

theorem State.sextantRun_spares : s.Spares s.sextantRun := by
  simp only [State.sextantRun, State.spares_ite, State.spares_no, State.spares_ok, implies_true, and_self]

theorem State.sextantAbort_spares : s.Spares s.sextantAbort := by
  unfold State.sextantAbort
  split
  exacts [State.spares_ok _, State.spares_no _]

theorem State.writeSxtCtrl_spares (v : Nat) : s.Spares (s.writeSxtCtrl v) := by
  simp only [State.writeSxtCtrl, State.spares_ite, State.spares_no, State.sextantRun_spares, State.sextantAbort_spares, implies_true, and_self]

theorem State.writeSxtSetting_spares (key v : Nat) : s.Spares (s.writeSxtSetting key v) := by
  simp only [State.writeSxtSetting, State.spares_ite, State.spares_no, State.spares_ok, implies_true, and_self]

theorem State.writeScrubPeriod_spares (v : Nat) : s.Spares (s.writeScrubPeriod v) := by
  simp only [State.writeScrubPeriod, State.spares_ite, State.spares_no, State.spares_ok, implies_true, and_self]

theorem State.writeHbmRate_spares (v : Nat) : s.Spares (s.writeHbmRate v) := by
  simp only [State.writeHbmRate, State.spares_ite, State.spares_no, State.spares_ok, implies_true, and_self]

theorem State.writeRowThresh_spares (v : Nat) : s.Spares (s.writeRowThresh v) := State.spares_ok _

theorem State.writeLaneThresh_spares (v : Nat) : s.Spares (s.writeLaneThresh v) := State.spares_ok _

theorem State.writeMapBase_spares (key v : Nat) : s.Spares (s.writeMapBase key v) := by
  simp only [State.writeMapBase, State.spares_ite, State.spares_no, State.spares_ok, implies_true, and_self]

theorem State.writeHbm_spares (key v : Nat) : s.Spares (s.writeHbm key v) := by
  simp only [State.writeHbm, State.spares_ite, State.spares_ok, State.clearObj_spares, State.writeHbmRate_spares, State.writeScrubPeriod_spares,
    State.writeRowThresh_spares, State.writeLaneThresh_spares, State.writeMapBase_spares, State.writeSxtCtrl_spares,
    State.writeSxtSetting_spares, implies_true, and_self]

/-! ### Fixes (Table 14-9) -/

theorem State.fixArm_spares : s.Spares s.fixArm := by
  simp only [State.fixArm, State.spares_ite, State.spares_no, State.spares_ok, implies_true, and_self]

theorem State.fixAbandon_spares : s.Spares s.fixAbandon := by
  unfold State.fixAbandon
  split
  exacts [State.spares_ok _, State.spares_ok _, State.spares_no _]

theorem State.writeFixCtrl_spares (v : Nat) : s.Spares (s.writeFixCtrl v) := by
  unfold State.writeFixCtrl
  split
  exacts [State.fixArm_spares, State.fixAbandon_spares, State.spares_no _]

theorem State.writeDrained_spares (v : Nat) : s.Spares (s.writeDrained v) := by
  simp only [State.writeDrained, State.spares_ite, State.spares_no, State.spares_ok, implies_true, and_self]

theorem State.writeRegion_spares (key v : Nat) : s.Spares (s.writeRegion key v) := by
  simp only [State.writeRegion, State.spares_ite, State.spares_no, State.spares_ok, implies_true, and_self]

theorem State.writeFix_spares (key v : Nat) : s.Spares (s.writeFix key v) := by
  simp only [State.writeFix, State.spares_ite, State.spares_no, State.spares_ok, implies_true, and_self]

/-- Where no stored error stands, a read meets none. -/
theorem State.noteRead_clean (clean : s.errs = []) (cls lo len : Nat) : s.noteRead cls lo len = s := by
  unfold State.noteRead State.errorsIn
  rw [clean]
  split <;> rfl

theorem State.fixApply_spares (clean : s.errs = []) : s.Spares s.fixApply := by
  simp only [State.fixApply, State.noteRead_clean clean, State.spares_ite, State.spares_no, State.spares_ok, implies_true, and_self]

theorem State.fixRebuild_spares : s.Spares s.fixRebuild := by
  unfold State.fixRebuild
  simp only [State.spares_ite, State.spares_no, implies_true, true_and]
  intros
  split
  · exact State.spares_ok _
  · split
    · exact State.spares_ok _
    · simp only [State.spares_ite, State.spares_ok, implies_true, and_self]

theorem State.writeFixSvc_spares (clean : s.errs = []) (v : Nat) : s.Spares (s.writeFixSvc v) := by
  unfold State.writeFixSvc
  split
  · exact State.fixApply_spares clean
  · exact State.fixRebuild_spares
  all_goals simp only [State.spares_ite, State.spares_no, State.spares_ok, implies_true, and_self]

/-- An APPLY reads its record before it can refuse it, which is nothing where no stored error stands. -/
theorem State.writeFixArea_spares {key : Nat} (v : Nat) (clean : key = Obj.FIX_SVC → s.errs = []) : s.Spares (s.writeFixArea key v) := by
  simp only [State.writeFixArea, State.spares_ite, State.spares_ok, State.writeFixCtrl_spares, State.writeDrained_spares,
    State.writeRegion_spares, State.writeFix_spares, implies_true, true_and, and_true]
  exact fun _ service => State.writeFixSvc_spares (clean service) v

/-! ### Slices, stages, the step (Tables 12-1, 13-5, 13-8, 13-9, 18-5) -/

theorem State.assign_spares (slot : Nat) : s.Spares (s.assign slot) := by
  simp only [State.assign, State.spares_ite, State.spares_no, State.spares_ok, implies_true, and_self]

theorem State.releaseSlice_spares (slot : Nat) : s.Spares (s.releaseSlice slot) := by
  simp only [State.releaseSlice, State.spares_ite, State.spares_no, State.spares_ok, implies_true, and_self]

theorem State.writeSliceCtrl_spares (slot v : Nat) : s.Spares (s.writeSliceCtrl slot v) := by
  unfold State.writeSliceCtrl
  split
  exacts [State.assign_spares _, State.releaseSlice_spares _, State.spares_no _]

theorem State.writeSlice_spares (slot key v : Nat) : s.Spares (s.writeSlice slot key v) := by
  simp only [State.writeSlice, State.spares_ite, State.spares_no, State.spares_ok, implies_true, and_self]

/-- A swap that is due comes before a SLICE_CTRL (R453). -/
theorem State.writeSlot_spares {k key : Nat} (v : Nat) (still : key = Obj.SLICE_CTRL k → s.swapDue = false) : s.Spares (s.writeSlot k key v) := by
  unfold State.writeSlot
  split
  · rename_i control
    rw [still control]
    exact State.writeSliceCtrl_spares k v
  · exact State.writeSlice_spares k key v

theorem State.writeStgCtrl_spares (k v : Nat) : s.Spares (s.writeStgCtrl k v) := by
  unfold State.writeStgCtrl
  split <;> simp only [State.spares_ite, State.spares_no, State.spares_ok, implies_true, and_self]

theorem State.writeStage_spares (k key v : Nat) : s.Spares (s.writeStage k key v) := by
  simp only [State.writeStage, State.spares_ite, State.spares_no, State.spares_ok, implies_true, and_self]

theorem State.writeStageSlot_spares (k key v : Nat) : s.Spares (s.writeStageSlot k key v) := by
  simp only [State.writeStageSlot, State.spares_ite, State.writeStgCtrl_spares, State.clearObj_spares, State.writeStage_spares, implies_true,
    and_self]

theorem State.writeSeal_spares (key v : Nat) : s.Spares (s.writeSeal key v) := by
  simp only [State.writeSeal, State.spares_ite, State.spares_no, State.spares_ok, implies_true, and_self]

theorem State.stepBegin_spares : s.Spares s.stepBegin := by
  simp only [State.stepBegin, State.spares_ite, State.spares_no, State.spares_ok, implies_true, and_self]

theorem State.endJob_spares : s.Spares s.endJob := by
  simp only [State.endJob, State.spares_ite, State.spares_no, State.spares_ok, implies_true, and_self]

theorem State.spareRestore_spares : s.Spares s.spareRestore := by
  simp only [State.spareRestore, State.spares_ite, State.spares_no, State.spares_ok, implies_true, and_self]

theorem State.writeStepCtrl_spares (v : Nat) : s.Spares (s.writeStepCtrl v) := by
  unfold State.writeStepCtrl
  split
  · exact State.stepBegin_spares
  · exact State.endJob_spares
  · exact State.spareRestore_spares
  all_goals simp only [State.spares_ite, State.spares_no, State.spares_ok, implies_true, and_self]

theorem State.writeWakeEntry_spares (key v : Nat) : s.Spares (s.writeWakeEntry key v) := by
  simp only [State.writeWakeEntry, State.spares_ite, State.spares_no, State.spares_ok, implies_true, and_self]

theorem State.writeFenceCtrl_spares (v : Nat) : s.Spares (s.writeFenceCtrl v) := by
  unfold State.writeFenceCtrl
  split <;> simp only [State.releaseFence, State.spares_ite, State.spares_no, State.spares_ok, implies_true, and_self]

theorem State.writeFenceReq_spares (v : Nat) : s.Spares (s.writeFenceReq v) := by
  simp only [State.writeFenceReq, State.spares_ite, State.spares_no, State.spares_ok, implies_true, and_self]

theorem State.writeStepObj_spares (key v : Nat) : s.Spares (s.writeStepObj key v) := by
  simp only [State.writeStepObj, State.spares_ite, State.spares_no, State.spares_ok, implies_true, and_self]

theorem State.writeStepArea_spares (key v : Nat) : s.Spares (s.writeStepArea key v) := by
  simp only [State.writeStepArea, State.spares_ite, State.clearObj_spares, State.writeSeal_spares, State.writeStepCtrl_spares,
    State.writeWakeEntry_spares, State.writeFenceCtrl_spares, State.writeFenceReq_spares, State.writeStepObj_spares, implies_true, and_self]

/-! ### Waypoint groups, the Chronometer (Tables 9-6, 9-7) -/

theorem State.writeGroupSlice_spares (g v : Nat) : s.Spares (s.writeGroupSlice g v) := by
  simp only [State.writeGroupSlice, State.spares_ite, State.spares_no, State.spares_ok, implies_true, and_self]

theorem State.writeChrParent_spares (v : Nat) : s.Spares (s.writeChrParent v) := by
  simp only [State.writeChrParent, State.spares_ite, State.spares_no, State.spares_ok, implies_true, and_self]

theorem State.writeChrAlt_spares (v : Nat) : s.Spares (s.writeChrAlt v) := by
  simp only [State.writeChrAlt, State.spares_ite, State.spares_no, State.spares_ok, implies_true, and_self]

theorem State.writeChrSet_spares (v : Nat) : s.Spares (s.writeChrSet v) := by
  simp only [State.writeChrSet, State.spares_ite, State.spares_no, State.spares_ok, implies_true, and_self]

theorem State.writeChronoArea_spares (key v : Nat) : s.Spares (s.writeChronoArea key v) := by
  simp only [State.writeChronoArea, State.spares_ite, State.spares_ok, State.storeIf_spares, State.writeChrParent_spares,
    State.writeChrAlt_spares, State.writeChrSet_spares, implies_true, and_self]

/-! ### Host ports and connections (Table 19-4) -/

theorem State.writeHostPortCtrl_spares (p v : Nat) : s.Spares (s.writeHostPortCtrl p v) := by
  unfold State.writeHostPortCtrl
  dsimp only
  split
  exacts [State.spares_ok _, State.spares_ok _, State.spares_no _]

theorem State.writeHostPort_spares (p key v : Nat) : s.Spares (s.writeHostPort p key v) := by
  simp only [State.writeHostPort, State.spares_ite, State.spares_no, State.spares_ok, implies_true, and_self]

theorem State.qpOpen_spares (k : Nat) : s.Spares (s.qpOpen k) := by
  simp only [State.qpOpen, State.spares_ite, State.spares_no, State.spares_ok, implies_true, and_self]

theorem State.writeQpCtrl_spares (k v : Nat) : s.Spares (s.writeQpCtrl k v) := by
  unfold State.writeQpCtrl
  split
  exacts [State.qpOpen_spares _, State.spares_ok _, State.spares_no _]

theorem State.writeQp_spares (k key v : Nat) : s.Spares (s.writeQp k key v) := by
  simp only [State.writeQp, State.spares_ite, State.spares_no, State.spares_ok, implies_true, and_self]

theorem State.writeHostArea_spares (key v : Nat) : s.Spares (s.writeHostArea key v) := by
  simp only [State.writeHostArea, State.spares_ite, State.writeHostPortCtrl_spares, State.writeHostPort_spares, State.writeQpCtrl_spares,
    State.writeQp_spares, implies_true, and_self]

/-! ### Management, service, firmware, records (Tables 17-9, 18-6, 20-7) -/

theorem State.writeMgmtArea_spares (key v : Nat) : s.Spares (s.writeMgmtArea key v) := by
  simp only [State.writeMgmtArea, State.spares_ite, State.spares_ok, State.storeIf_spares, State.clearObj_spares, implies_true, and_self]

theorem State.writeDictDefaults_spares (v : Nat) : s.Spares (s.writeDictDefaults v) := by
  unfold State.writeDictDefaults
  split <;> simp only [State.spares_ite, State.spares_no, State.spares_ok, implies_true, and_self]

theorem State.fwVerify_spares : s.Spares s.fwVerify := by
  simp only [State.fwVerify, State.spares_ite, State.spares_no, State.spares_ok, implies_true, and_self]

theorem State.writeFwCtrl_spares (v : Nat) : s.Spares (s.writeFwCtrl v) := by
  unfold State.writeFwCtrl
  split
  case h_2 => exact State.fwVerify_spares
  all_goals
    simp only [State.fwBegin, State.fwCommit, State.fwActivate, State.fwCancel, State.spares_ite, State.spares_no, State.spares_ok, implies_true,
      and_self]

theorem State.writeFwOffset_spares (v : Nat) : s.Spares (s.writeFwOffset v) := by
  simp only [State.writeFwOffset, State.spares_ite, State.spares_no, State.spares_ok, implies_true, and_self]

theorem State.writeFwChunk_spares (l : List Byte) : s.Spares (s.writeFwChunk l) := by
  simp only [State.writeFwChunk, State.spares_ite, State.spares_no, State.spares_ok, implies_true, and_self]

theorem State.cfgApply_spares : s.Spares s.cfgApply := by
  simp only [State.cfgApply, State.spares_ite, State.spares_no, State.spares_ok, implies_true, and_self]

theorem State.writeCfgCtrl_spares (v : Nat) : s.Spares (s.writeCfgCtrl v) := by
  unfold State.writeCfgCtrl
  split
  exacts [State.spares_ok _, State.cfgApply_spares, State.spares_no _]

theorem State.writeCfgOffset_spares (v : Nat) : s.Spares (s.writeCfgOffset v) := by
  simp only [State.writeCfgOffset, State.spares_ite, State.spares_no, State.spares_ok, implies_true, and_self]

theorem State.writeCfgChunk_spares (l : List Byte) : s.Spares (s.writeCfgChunk l) := State.spares_ok _

theorem State.writeAttCtrl_spares (v : Nat) : s.Spares (s.writeAttCtrl v) := by
  simp only [State.writeAttCtrl, State.spares_ite, State.spares_no, State.spares_ok, implies_true, and_self]

theorem State.writeAttNonce_spares (v : Nat) : s.Spares (s.writeAttNonce v) := by
  simp only [State.writeAttNonce, State.spares_ite, State.spares_no, State.spares_ok, implies_true, and_self]

theorem State.writeBistCtrl_spares (v : Nat) : s.Spares (s.writeBistCtrl v) := by
  simp only [State.writeBistCtrl, State.spares_ite, State.spares_no, State.spares_ok, implies_true, and_self]

theorem State.writeServiceArea_spares (key v : Nat) : s.Spares (s.writeServiceArea key v) := by
  simp only [State.writeServiceArea, State.spares_ite, State.spares_ok, State.storeIf_spares, State.writeDictDefaults_spares,
    State.writeAttNonce_spares, State.writeAttCtrl_spares, State.writeFwCtrl_spares, State.writeFwOffset_spares, State.writeCfgOffset_spares,
    State.writeCfgCtrl_spares, State.writeBistCtrl_spares, implies_true, and_self]

/-! ### The whole write (R446, R447, R457) -/

/-- What keeps a refusal of a write from changing anything: it is not of RSV_SWAP, an APPLY finds no stored error, and no swap is due
before a SLICE_CTRL. -/
structure State.Checks (s : State) (key : Nat) : Prop where
  swap    : key ≠ Obj.RSV_SWAP
  service : key = Obj.FIX_SVC → s.errs = []
  slice   : ∀ k < 0xE0, key = Obj.SLICE_CTRL k → s.swapDue = false

variable {key : Nat} (checks : s.Checks key)
include checks

theorem State.writeValue_spares (v : Nat) : s.Spares (s.writeValue key v) := by
  unfold State.writeValue
  dsimp only
  split
  · exact State.writeCoreArea_spares _ _ _
  · simp only [State.spares_ite, State.writeServiceArea_spares, State.writeMgmtArea_spares, State.writePower_spares,
      State.writeHealth_spares v checks.swap, State.writeFabric_spares, State.writePort_spares, State.writeCtx_spares, State.writeHbm_spares,
      State.writeFixArea_spares v checks.service, State.writeStageSlot_spares, State.writeStepArea_spares, State.writeGroupSlice_spares,
      State.writeChronoArea_spares, State.writeHostArea_spares, implies_true, true_and, and_true]
    intros
    exact State.writeSlot_spares v (checks.slice _ (by omega))

omit checks in
theorem State.writeKey_spares (role : Nat) (l : List Byte) : s.Spares (s.writeKey role l) := by
  simp only [State.writeKey, State.spares_ite, State.spares_no, State.spares_ok, implies_true, and_self]

theorem State.writeFitted_spares (l : List Byte) : s.Spares (s.writeFitted key l) := by
  simp only [State.writeFitted, State.spares_ite, State.spares_no, State.writeKey_spares, State.writeChartLoadBytes_spares,
    State.writeFwChunk_spares, State.writeCfgChunk_spares, State.writeValue_spares checks, implies_true, and_self]

/-- A write that is refused leaves the state. -/
theorem State.performWrite_spares (l : List Byte) : s.Spares (s.performWrite key l) := by
  have fitted := State.writeFitted_spares checks l
  unfold State.performWrite
  simp only [State.spares_ite, State.spares_no, State.spares_ok, implies_true, true_and]
  exact fun _ _ _ => fitted

end

/-! ### Requests that the object itself refuses (R424 items 8 and 9) -/

section
variable {s : State} {q : HdpReq} {code : Nat}

@[simp] theorem State.heard_swapDue (s : State) (q : HdpReq) : (s.heard q).swapDue = s.swapDue := by
  obtain ⟨h, eq, -⟩ := s.heard_eq q
  rw [eq]
  rfl

@[simp] theorem State.heard_errs (s : State) (q : HdpReq) : (s.heard q).errs = s.errs := by
  obtain ⟨h, eq, -⟩ := s.heard_eq q
  rw [eq]

theorem State.Checks.heard {key : Nat} (checks : s.Checks key) (q : HdpReq) : (s.heard q).Checks key :=
  ⟨checks.swap, fun service => by rw [State.heard_errs, checks.service service],
    fun k hk slice => by rw [State.heard_swapDue, checks.slice k hk slice]⟩

/-- There are eight slots of slices (Table 18-5). -/
theorem objExists_sliceCtrl {k : Nat} (hk : k < 0xE0) (ex : objExists (Obj.SLICE_CTRL k) = true) : k < 8 := by
  have slots : ∀ k < 0xE0, objExists (Obj.SLICE_CTRL k) = true → k < 8 := by decide +kernel
  exact slots k hk ex

/-- A write that passes the checks before the object's own, and that the object refuses: the answer is the refusal, in whichever cycle. -/
theorem writeExpWith_declined {u : State} (granted : u.objectCode (reqKey q) (u.roleOf q) true (some false) = 0)
    (refused : (u.performWrite (reqKey q) q.payload).2 = code) (hc : code ≠ 0) (checks : u.Checks (reqKey q)) (coincides : Bool) :
    writeExpWith q coincides u = u.refuse code := by
  have still : (u.performWrite (reqKey q) q.payload).1 = u := State.performWrite_spares checks q.payload (by rwa [refused])
  have work : writeExpWork q u = u.refuse code := by
    rw [writeExpWork, if_neg (not_not_intro granted), served, still, refused]
    rfl
  have not0 : ((u.refuse code).code == 0) = false := by simpa [State.refuse] using hc
  unfold writeExpWith
  rw [work]
  dsimp only
  rw [not0, Bool.and_false, if_neg (by decide)]

theorem State.Asks.exec_declined {c : Instr} (a : s.Asks c q) (hc : code ≠ 0) (write : q.typ = 1) (checks : s.Checks (reqKey q))
    (granted : (s.heard q).objectCode (reqKey q) q.hdr.role true (askKind q) = 0)
    (refused : ((s.heard q).performWrite (reqKey q) q.payload).2 = code) : exec c s = .next ((s.heard q).declined q code).after := by
  have g := a.toHears
  obtain ⟨together, rfl⟩ : ∃ r, c = .objectWrite ⟨q, r, none, false⟩ := by simpa [broughtBy, write] using a.brings
  rw [← roleOf_heard (q := q) g.firmware, show askKind q = some false by simp [askKind, write]] at granted
  show settled (.next (s.receiveWrite q together)) = _
  rw [State.receiveWrite, if_pos write,
    hdpReceive_refused g hc true (writeExpWith_declined granted refused hc (checks.heard q) together)]
  rfl

end

/-- Settles O41: before the object's own checks nothing has been done, and each object's own checks come before its effect. -/
theorem refusedRequestsHaveNoEffect : Obligations.RefusedRequestsHaveNoEffect := by
  intro s q c code a hc
  refine ⟨fun refused => a.exec_refused hc refused, fun write swap service slice granted refused => ?_⟩
  have ex : objExists (reqKey q) = true := (((s.heard q).objectCode_eq_zero_iff ..).1 granted).1
  exact a.exec_declined hc write ⟨swap, service, fun k hk key => slice k (objExists_sliceCtrl hk (key ▸ ex)) key⟩ granted refused

end Sys2Proof.Machine
end

section
/-! PROOFS (05_core_bundles.md, 16_power_clocks_thermal.md). What gives way to a RESET or to a wake of its cycle (R156, R167, R407). -/

namespace Sys2Proof.Machine

/-- The code with which a write is answered that gives way: the object's own refusal, or 0x0805. -/
def State.yieldCode (u : State) (q : HdpReq) : Nat :=
  let own := (u.performWrite (reqKey q) q.payload).2
  if own = 0 then 0x0805 else own

theorem State.yieldCode_ne (u : State) (q : HdpReq) : u.yieldCode q ≠ 0 := by
  unfold State.yieldCode
  dsimp only
  split
  · decide
  · assumption

/-- A write that gives way changes nothing, whether or not its object would refuse it. -/
theorem writeExpWith_yields {u : State} {q : HdpReq} (granted : u.objectCode (reqKey q) (u.roleOf q) true (some false) = 0)
    (yields : (yieldsToReset (reqKey q) q.payload || u.yieldsToWake (reqKey q) q.payload) = true) (checks : u.Checks (reqKey q)) :
    writeExpWith q true u = u.refuse (u.yieldCode q) := by
  unfold State.yieldCode
  dsimp only
  split
  case isTrue done =>
    have work : (writeExpWork q u).code = 0 := by rw [writeExpWork, if_neg (not_not_intro granted)]; exact done
    unfold writeExpWith
    dsimp only
    rw [yields, work, if_pos (by decide)]
  case isFalse refuses => exact writeExpWith_declined granted rfl refuses checks true

section
variable {s : State} {h : Hdr} {key v : Nat}

theorem State.writeCommandWith_yields (g : s.GrantsWrite h key v)
    (yields : (yieldsToReset key (leBytes (objRow key).size v) || (s.heardWrite h key v).yieldsToWake key (leBytes (objRow key).size v)) = true)
    (checks : s.Checks key) :
    s.writeCommandWith h key v true = (s.heardWrite h key v).declined (writeReq h key v) ((s.heardWrite h key v).yieldCode (writeReq h key v)) := by
  have same := reqKey_write h key v
  have granted := g.object
  rw [← roleOf_heard (q := writeReq h key v) g.firmware] at granted
  exact hdpReceive_refused g.toHears (State.yieldCode_ne _ _) true
    (writeExpWith_yields granted (by rw [same]; exact yields) (by rw [same]; exact checks.heard _))

end

/-! ### The objects that give way to a RESET -/

section
variable {core : Nat} (real : core < 104)
include real

/-- The objects of a core's launch area (Table 5-13) and layer area (Table 6-8). -/
def ofCore (core key : Nat) : Prop := key / 256 = 0x8700 + core ∨ key / 256 = 0x8800 + core

theorem coreOfIndex_ofCore {key : Nat} (own : ofCore core key) : coreOfIndex (key / 256) = some core := by
  unfold coreOfIndex
  rcases own with index | index <;> (rw [index, if_pos (by omega)]; congr 1; omega)

/-- No object of a core is among those whose refusal may leave a mark. -/
theorem State.checks_ofCore {s : State} {key : Nat} (own : ofCore core key) : s.Checks key := by
  refine ⟨?_, ?_, ?_⟩
  · rintro rfl
    rcases own with index | index <;> simp only [Obj.RSV_SWAP] at index <;> omega
  · rintro rfl
    rcases own with index | index <;> simp only [Obj.FIX_SVC] at index <;> omega
  · rintro k hk rfl
    rcases own with index | index <;> simp only [Obj.SLICE_CTRL] at index <;> omega

omit real in
theorem ofCore_launch {key : Nat} (launch : key ∈ launchObjects core) : ofCore core key := by
  simp only [launchObjects, Obj.CORE_MODE, Obj.ENTRY_PC, Obj.LAUNCH_WP, Obj.LAUNCH_THRESH, Obj.LAUNCH_ARG, Obj.PROG_GEN, Obj.WDOG_LIMIT,
    Obj.RUN_LIMIT, List.mem_cons, List.not_mem_nil, or_false] at launch
  unfold ofCore
  omega

omit real in
theorem ofCore_lyrStart (core : Nat) : ofCore core (Obj.LYR_START core) := by
  unfold ofCore Obj.LYR_START
  omega

omit real in
theorem ofCore_coreCtrl (core : Nat) : ofCore core (Obj.CORE_CTRL core) := by
  unfold ofCore Obj.CORE_CTRL
  omega

theorem yieldsToReset_launch {key : Nat} (launch : key ∈ launchObjects core) (l : List Byte) : yieldsToReset key l = true := by
  unfold yieldsToReset
  rw [coreOfIndex_ofCore real (ofCore_launch launch)]
  simp [launch]

theorem yieldsToReset_lyrStart (l : List Byte) : yieldsToReset (Obj.LYR_START core) l = true := by
  unfold yieldsToReset
  rw [coreOfIndex_ofCore real (ofCore_lyrStart core)]
  simp

theorem yieldsToReset_arm : yieldsToReset (Obj.CORE_CTRL core) (leBytes (objRow (Obj.CORE_CTRL core)).size 1) = true := by
  unfold yieldsToReset
  rw [coreOfIndex_ofCore real (ofCore_coreCtrl core), objRow_coreCtrl core real]
  simp [leBytes, leNat]

end

theorem State.checks_pdCtrl {s : State} : s.Checks Obj.PD_CTRL :=
  ⟨by decide, fun key => absurd key (by decide), fun k _ key => by simp only [Obj.PD_CTRL, Obj.SLICE_CTRL] at key; omega⟩

/-- A command that switches off a domain that is waking (R407). -/
theorem State.yieldsToWake_off {u : State} {d : Nat} (real : d < 128) (waking : u.pd d = 1) :
    u.yieldsToWake Obj.PD_CTRL (leBytes (objRow Obj.PD_CTRL).size d) = true := by
  have size : (objRow Obj.PD_CTRL).size = 2 := by decide
  have value : leNat (leBytes 2 d) = d := leNat_leBytes_of_lt (by omega)
  have act : bits d 9 8 = 0 := by simp only [bits, Nat.shiftRight_eq_div_pow]; omega
  have domain : bits d 6 0 = d := by simp only [bits, Nat.shiftRight_eq_div_pow]; omega
  unfold State.yieldsToWake
  rw [size, value, act, domain, waking]
  decide

/-- The answer to a granted write that gives way. -/
theorem State.settled_yields {s : State} {h : Hdr} {key v : Nat} (g : s.GrantsWrite h key v)
    (yields : (yieldsToReset key (leBytes (objRow key).size v) || (s.heardWrite h key v).yieldsToWake key (leBytes (objRow key).size v)) = true)
    (checks : s.Checks key) :
    settled (.next (s.writeCommandWith h key v true)) =
      .next ((s.heardWrite h key v).declined (writeReq h key v) ((s.heardWrite h key v).yieldCode (writeReq h key v))).after := by
  rw [State.writeCommandWith_yields g yields checks]
  rfl

/-- The code of a written value that gives way, by its object. -/
theorem State.yieldCode_write (u : State) (h : Hdr) (key v : Nat) : u.yieldCode (writeReq h key v) =
    let own := (u.performWrite key (leBytes (objRow key).size v)).2
    if own = 0 then 0x0805 else own := by
  unfold State.yieldCode
  rw [reqKey_write]
  rfl

/-- Settles O54: such a write is one of an object that gives way, and then nothing is done. -/
theorem resetWinsItsCycle : Obligations.ResetWinsItsCycle := by
  intro s core real
  refine ⟨fun c h key v command g => ?_, fun q write launch a granted => ?_⟩
  · dsimp only
    rw [← State.yieldCode_write (s.heardWrite h key v) h key v]
    rcases command with ⟨rfl, rfl, rfl⟩ | ⟨rfl, rfl, rfl⟩ | ⟨rfl, rfl, -⟩ | ⟨d, hd, rfl, rfl, rfl, waking⟩
    case inl =>
      show settled (.next (s.writeCommandWith h (inRange core 104 (Obj.CORE_CTRL core)) 1 true)) = _
      rw [inRange_of real]
      exact State.settled_yields g (by rw [yieldsToReset_arm real]; rfl) (State.checks_ofCore real (ofCore_coreCtrl core))
    case inr.inl =>
      show settled (.next (s.writeCommandWith h (inRange core 104 (Obj.LYR_START core)) 1 true)) = _
      rw [inRange_of real]
      exact State.settled_yields g (by rw [yieldsToReset_lyrStart real]; rfl) (State.checks_ofCore real (ofCore_lyrStart core))
    case inr.inr.inl =>
      have launch : Obj.PROG_GEN core ∈ launchObjects core := by simp [launchObjects]
      show settled (.next (s.writeCommandWith h (inRange core 104 (Obj.PROG_GEN core)) v true)) = _
      rw [inRange_of real]
      exact State.settled_yields g (by rw [yieldsToReset_launch real launch]; rfl) (State.checks_ofCore real (ofCore_launch launch))
    case inr.inr.inr =>
      show settled (.next (s.writeCommandWith h Obj.PD_CTRL (v % 128) true)) = _
      rw [Nat.mod_eq_of_lt hd]
      exact State.settled_yields g (by rw [State.yieldsToWake_off hd waking, Bool.or_true]) State.checks_pdCtrl
  · have g := a.toHears
    rw [← roleOf_heard (q := q) g.firmware, show askKind q = some false by simp [askKind, write]] at granted
    have yields := writeExpWith_yields granted (by rw [yieldsToReset_launch real launch]; rfl)
      ((State.checks_ofCore (s := s) real (ofCore_launch launch)).heard q)
    show settled (.next (s.receiveWrite q true)) = _
    rw [State.receiveWrite, if_pos write, hdpReceive_refused g (State.yieldCode_ne _ _) true yields]
    rfl

end Sys2Proof.Machine
end

section
/-! PROOFS (10_fabric_routing.md). Where a frame's data goes that nothing holds up (R257, R278, R289). -/

namespace Sys2Proof.Machine

/-! ### A write that nothing holds up -/

theorem State.setBytes_append (u : State) (a : Nat) (l r : List Byte) :
    (u.setBytes a l).setBytes (a + l.length) r = u.setBytes a (l ++ r) := by
  have run (m : Sparse Byte) : Sparse.setRun memDefault (Sparse.setRun memDefault m a l) (a + l.length) r =
      Sparse.setRun memDefault m a (l ++ r) := by
    induction l generalizing m a with
    | nil => rfl
    | cons v l ih =>
      have next := ih (a + 1) (m.set memDefault a v)
      rw [List.length_cons, show a + (l.length + 1) = a + 1 + l.length by omega]
      exact next
  exact congrArg (fun m => { u with mem := m }) (run u.mem)

/-- Nothing holds up a write to a range: no copy before a write is active, no Sextant run has the memory, no write is held, and no stored
error lies where it writes. -/
structure State.Unhindered (u : State) (a len : Nat) : Prop where
  copies  : u.obj Obj.CBW_ACTIVE ≠ 1
  sextant : u.sextant = none
  held    : u.held = []
  clean   : u.errorsIn a len = []

section
variable {u : State} {a : Nat}

theorem State.errorsIn_sub {lo len lo' len' : Nat} (clean : u.errorsIn lo len = []) (start : lo ≤ lo') (stop : lo' + len' ≤ lo + len) :
    u.errorsIn lo' len' = [] := by
  unfold State.errorsIn at *
  split
  · rfl
  · rename_i some'
    rw [if_neg (by omega), List.map_eq_nil_iff, List.filter_eq_nil_iff] at clean
    rw [List.map_eq_nil_iff, List.filter_eq_nil_iff]
    intro e he hit
    have miss := clean e he
    simp only [Bool.and_eq_true, decide_eq_true_eq] at hit miss
    omega

theorem State.Unhindered.meetsMark {len : Nat} (free : u.Unhindered a len) (x : Nat) : u.meetsMark x = false := by
  unfold State.meetsMark
  have off : (u.obj Obj.CBW_ACTIVE == 1) = false := by simpa using free.copies
  rw [off, Bool.and_false, Bool.false_and]

theorem State.Unhindered.writePiece_eq {l : List Byte} (free : u.Unhindered a l.length) (who : WriteBy) :
    u.writePiece who (a, l) = u.setBytes a l := by
  have bars : u.sextantBars a l.length = false := by
    unfold State.sextantBars
    rw [free.sextant]
  have behind : u.behindHeld who a l.length = false := by
    unfold State.behindHeld
    rw [free.held, List.any_nil, Bool.and_false]
  unfold State.writePiece State.writeStalls
  dsimp only
  rw [free.meetsMark, bars, behind, if_neg (by decide), State.writeNow_clean free.clean]

theorem State.Unhindered.pieces_eq {f : Nat} {l : List Byte} (free : u.Unhindered a l.length) (who : WriteBy)
    (fuel : l = [] ∨ a % 65536 + l.length ≤ f * 65536) : (pagePieces f a l).foldl (State.writePiece who) u = u.setBytes a l := by
  induction f generalizing u a l with
  | zero =>
    have none : l = [] := by
      rcases fuel with none | none
      · exact none
      · exact List.eq_nil_of_length_eq_zero (by omega)
    rw [none]
    rfl
  | succ f ih =>
    cases l with
    | nil => rfl
    | cons v l =>
      generalize hl : v :: l = m at *
      have some' : m.length ≠ 0 := by rw [← hl]; exact Nat.succ_ne_zero _
      have size : a % 65536 + m.length ≤ (f + 1) * 65536 := by
        rcases fuel with none | size
        · rw [none] at some'
          exact absurd rfl some'
        · exact size
      have cut : pagePieces (f + 1) a m = (a, m.take (65536 - a % 65536)) ::
          pagePieces f (a + (65536 - a % 65536)) (m.drop (65536 - a % 65536)) := by rw [← hl]; rfl
      have taken : (m.take (65536 - a % 65536)).length = min (65536 - a % 65536) m.length := List.length_take
      have left : (m.drop (65536 - a % 65536)).length = m.length - (65536 - a % 65536) := List.length_drop
      have first : u.Unhindered a (m.take (65536 - a % 65536)).length :=
        ⟨free.copies, free.sextant, free.held, State.errorsIn_sub free.clean (le_refl a) (by omega)⟩
      rw [cut, List.foldl_cons, first.writePiece_eq who]
      rcases Nat.lt_or_ge (65536 - a % 65536) m.length with more | last
      · have rest : (u.setBytes a (m.take (65536 - a % 65536))).Unhindered (a + (65536 - a % 65536)) (m.drop (65536 - a % 65536)).length :=
          ⟨free.copies, free.sextant, free.held, State.errorsIn_sub free.clean (by omega) (by omega)⟩
        have there : a + (65536 - a % 65536) = a + (m.take (65536 - a % 65536)).length := by omega
        rw [ih rest (.inr (by omega)), there, State.setBytes_append, List.take_append_drop]
      · rw [List.drop_eq_nil_of_le last, List.take_of_length_le last]
        cases f <;> rfl

/-- A frame's write that nothing holds up. -/
theorem State.Unhindered.write_eq {l : List Byte} (free : u.Unhindered (u.home a) l.length) (dev cls : Nat) :
    u.write (.frame dev cls) a l = (u.disturb false (u.home a) l.length).setBytes (u.home a) l := by
  have disturbed : (u.disturb false (u.home a) l.length).Unhindered (u.home a) l.length := by
    obtain ⟨copies, sextant, held, clean⟩ := free
    rw [State.disturb_eq]
    exact ⟨copies, sextant, held, clean⟩
  unfold State.write
  rw [if_neg (by rintro ⟨unit, -⟩; cases unit)]
  dsimp only [WriteBy.engine]
  have idle : ¬ ((u.disturb false (u.home a) l.length).obj Obj.CBW_ACTIVE = 1 ∧
      (u.disturb false (u.home a) l.length).home a < 0xC000000000) := fun copying => disturbed.copies copying.1
  rw [if_neg idle]
  have unmarked : (pagePieces (l.length / 65536 + 2) (u.home a) l).any
      (fun p => (u.disturb false (u.home a) l.length).meetsMark p.1) = false := by
    rw [List.any_eq_false]
    intro p _
    rw [disturbed.meetsMark]
    decide
  rw [unmarked, if_neg (by decide)]
  exact disturbed.pieces_eq _ (.inr (by omega))

end

/-! ### The flow that a frame comes by -/

/-- What a write disturbs does not depend on the flows that arrive. -/
theorem State.disturb_rxFlows (s : State) (engine : Bool) (a len : Nat) (r : List RxFlow) :
    ({ s with rxFlows := r } : State).disturb engine a len = { s.disturb engine a len with rxFlows := r } := by
  unfold State.disturb
  dsimp only
  split
  · unfold State.blurFrames State.fresh
    dsimp only
    split <;> rfl
  · split <;> rfl

/-- Only the flows that arrive differ. -/
structure State.OnlyRx (s t : State) : Prop where
  frame : t = { s with rxFlows := t.rxFlows }

theorem State.expecting_onlyRx (s : State) (f : Frame) : State.OnlyRx s (s.expecting f) := ⟨rfl⟩

/-- An accepted frame is noted, and fewer than 16 await an acknowledgement. -/
theorem State.noteAccepted_onlyRx {s : State} {k : FlowKey} (few : (s.rxFlow k).uncovered < 15) : State.OnlyRx s (s.noteAccepted k) := by
  unfold State.noteAccepted
  dsimp only
  rw [if_neg (by omega)]
  exact ⟨rfl⟩

section
variable {s : State} {f : Frame} {op : Nat}

theorem State.takeData_stored (length : 0 < f.len ∧ f.len ≤ 4096) (whole : f.payload.length = f.len) (remote : f.srcDev ≠ s.selfId)
    (target : s.frameTarget f (frameAddr f) f.len = 0) (idle : s.stepSt < 2 ∨ 7 < s.stepSt)
    (free : s.Unhindered (s.home (frameAddr f)) f.len) :
    s.takeData f = ((s.disturb false (s.home (frameAddr f)) f.len).setBytes (s.home (frameAddr f)) f.payload, 0) := by
  have wake : s.wakeWrite (frameAddr f) f.len = (false, s) := if_pos idle
  rw [← whole] at free
  rw [State.takeData_remote length target remote, wake]
  dsimp only
  rw [if_neg (by decide), free.write_eq, whole]

end

section
variable {s : State} {f : Frame}

/-- The state that has stored an accepted frame's data. -/
def State.received (s : State) (f : Frame) : State :=
  ((s.expecting f).disturb false (s.home (frameAddr f)) f.len).setBytes (s.home (frameAddr f)) f.payload

/-- Storing the data and expecting the next frame are apart. -/
theorem State.received_eq (s : State) (f : Frame) : s.received f =
    { (s.disturb false (s.home (frameAddr f)) f.len).setBytes (s.home (frameAddr f)) f.payload with rxFlows := (s.expecting f).rxFlows } :=
  congrArg (fun u : State => u.setBytes (s.home (frameAddr f)) f.payload)
    (State.disturb_rxFlows s false (s.home (frameAddr f)) f.len (s.expecting f).rxFlows)

theorem State.received_frame (s : State) (f : Frame) :
    let d := s.disturb false (s.home (frameAddr f)) f.len
    s.received f = { s with mem := (s.received f).mem, rxFlows := (s.expecting f).rxFlows, ctxs := d.ctxs, txFlows := d.txFlows, free := d.free } := by
  have wrote := State.disturb_setBytes s false (s.home (frameAddr f)) f.len (s.home (frameAddr f)) f.payload
  have mem : (s.received f).mem = ((s.disturb false (s.home (frameAddr f)) f.len).setBytes (s.home (frameAddr f)) f.payload).mem := by
    rw [State.received_eq]
  dsimp only at wrote ⊢
  rw [mem]
  exact (s.received_eq f).trans (congrArg (fun u : State => { u with rxFlows := (s.expecting f).rxFlows }) wrote)

theorem State.received_byte (s : State) (f : Frame) (x : Nat) :
    (s.received f).byte x = ((s.disturb false (s.home (frameAddr f)) f.len).setBytes (s.home (frameAddr f)) f.payload).byte x := by
  rw [State.received_eq]
  rfl

theorem State.received_quiet (quiet : s.Quiet) (f : Frame) : (s.received f).Quiet := by
  rw [State.received_frame]
  exact ⟨quiet.posts, quiet.swaps, quiet.hosts, quiet.subs⟩

theorem State.received_uncovered (s : State) (f : Frame) :
    ((s.received f).rxFlow (recvKey f)).uncovered = (s.rxFlow (recvKey f)).uncovered := by
  have flow : (s.received f).rxFlow (recvKey f) = (s.expecting f).rxFlow (recvKey f) := by
    rw [State.received_eq]
    rfl
  rw [flow, State.expecting_rxFlow]

/-- An accepted frame's data is stored, and the frame is noted. -/
theorem State.Accepts.exec_received {c : Instr} {op : Nat} (accepts : s.Accepts f op) (arrives : exec c s = settled (s.arrive op f))
    (sequenced : sequenced op = true) (stored : State.takeFrame f (s.expecting f) = (s.received f, 0)) :
    exec c s = .next ((s.received f).noteAccepted (recvKey f)).afterFirst :=
  FrameCompletes.of (ok := fun u => u = s.expecting f) (effect := fun _ => s.received f) arrives sequenced
    (fun _ same _ => by rw [same]; exact stored) accepts rfl

end

/-- Settles O53: the write of an accepted frame that nothing holds up, between the expectation of its flow and its note. -/
theorem dataFramesStoreTheirPayload : Obligations.DataFramesStoreTheirPayload := by
  intro s f c op arrival quiet accepts positive fits whole remote target idle copies sextant held clean few
  obtain ⟨arrives, data⟩ : exec c s = settled (s.arrive op f) ∧ (op = 1 ∨ op = 3) := by
    rcases arrival with ⟨rfl, rfl⟩ | ⟨rfl, rfl⟩
    · exact ⟨rfl, .inl rfl⟩
    · exact ⟨rfl, .inr rfl⟩
  have stored : State.takeFrame f (s.expecting f) = (s.received f, 0) := by
    rw [State.takeFrame_data (accepts.receives.opcode ▸ data)]
    exact State.takeData_stored (s := s.expecting f) ⟨positive, fits⟩ whole remote target idle ⟨copies, sextant, held, clean⟩
  obtain ⟨noted⟩ := State.noteAccepted_onlyRx (s := s.received f) (k := recvKey f) (by rwa [State.received_uncovered])
  have still : ((s.received f).noteAccepted (recvKey f)).Quiet := by
    obtain ⟨posts, swaps, hosts, subs⟩ := State.received_quiet quiet f
    rw [noted]
    exact ⟨posts, swaps, hosts, subs⟩
  generalize ht : (s.received f).noteAccepted (recvKey f) = t at noted still
  have bytes (x : Nat) : t.byte x = (s.received f).byte x := by
    rw [noted]
    rfl
  have before (x : Nat) : (s.disturb false (s.home (frameAddr f)) f.len).byte x = s.byte x := by
    rw [State.disturb_eq]
    rfl
  refine ⟨t, ?_, fun i hi => ?_, fun x hx => ?_, ?_⟩
  · rw [accepts.exec_received arrives (by rcases data with rfl | rfl <;> rfl) stored, ht, State.afterFirst_quiet still]
  · rw [bytes, State.received_byte]
    exact State.byte_setBytes_inside _ _ hi
  · rw [bytes, State.received_byte, ← before]
    exact State.byte_setBytes_outside _ _ (by rwa [whole])
  · have mem : t.mem = (s.received f).mem := (congrArg State.mem noted :)
    rw [mem]
    exact noted.trans (congrArg (fun u : State => { u with rxFlows := t.rxFlows }) (s.received_frame f))

end Sys2Proof.Machine
end

section
/-! PROOFS (05_core_bundles.md, 09_waypoints_and_chronometer.md). What a launch sets, and an ARM whose launch Waypoint is reached (R131,
R156, R242). -/

namespace Sys2Proof.Machine

/-! ### The registers at launch (R131) -/

/-- The registers of a core just launched in program mode with an argument. -/
structure Core.Launched (arg : Nat) (c : Core) : Prop where
  argument : c.reg 0 = arg % 2 ^ 48
  regs     : ∀ i, 1 ≤ i → i < 32 → c.reg i = 0
  preds    : ∀ i, 1 ≤ i → i < 8 → c.pred i = false
  loopRegs : ∀ i < 4, c.loopReg i = 0
  loops    : c.loops = []

theorem Core.launchProgram_launched (c : Core) (arg entry now : Nat) (ahead : List Nat) :
    Core.Launched arg { c.launchProgram arg entry now with ahead } where
  argument := by
    show (Sparse.get (fun _ => 0#48) (Sparse.set (fun _ => 0#48) [] 0 (BitVec.ofNat 48 arg)) 0).toNat = _
    rw [Sparse.get_set, if_pos rfl, BitVec.toNat_ofNat]
  regs i lo _ := by
    show (Sparse.get (fun _ => 0#48) (Sparse.set (fun _ => 0#48) [] 0 (BitVec.ofNat 48 arg)) i).toNat = _
    rw [Sparse.get_set, if_neg (by omega)]
    rfl
  preds i lo _ := by
    show (i == 0 || bit 0 i) = false
    have pos : (i == 0) = false := by
      rw [beq_eq_false_iff_ne]
      omega
    rw [pos, bit, Nat.zero_testBit]
    rfl
  loopRegs _ _ := rfl
  loops := rfl

section
variable {s : State} {core : Nat}

/-- A prefetch asks for a line. -/
theorem State.prefetchLine_core (s : State) (core line : Nat) :
    ∃ ahead, (s.prefetchLine core line).core core = { s.core core with ahead } := by
  unfold State.prefetchLine
  dsimp only
  split
  · exact ⟨_, rfl⟩
  · rw [State.core_setCore, if_pos rfl]
    exact ⟨_, rfl⟩

/-- A launch in program mode. -/
theorem State.launchCore_eq (mode : (s.core core).mode = 0) : s.launchCore core =
    ((s.setCoreSt core .running).setCore core
      ((s.core core).launchProgram ((s.setCoreSt core .running).obj (Obj.LAUNCH_ARG core)) (s.obj (Obj.ENTRY_PC core)) s.now)).prefetchLine core
        (lineOf (s.obj (Obj.ENTRY_PC core)) + 1) := if_pos mode

theorem State.launchCore_onlyCore (mode : (s.core core).mode = 0) : OnlyCore core s (s.launchCore core) := by
  rw [State.launchCore_eq mode]
  exact ((OnlyCore.setObj core s _ _).trans (.setCore core _ _)).trans (State.prefetchLine_onlyCore _ core _)

theorem State.launchCore_core (mode : (s.core core).mode = 0) : ∃ ahead, (s.launchCore core).core core =
    { (s.core core).launchProgram (s.obj (Obj.LAUNCH_ARG core)) (s.obj (Obj.ENTRY_PC core)) s.now with ahead } := by
  have arg : (s.setCoreSt core .running).obj (Obj.LAUNCH_ARG core) = s.obj (Obj.LAUNCH_ARG core) :=
    State.obj_setObj_other s (by simp only [Obj.LAUNCH_ARG, Obj.CORE_STATE]; omega)
  rw [State.launchCore_eq mode, arg]
  obtain ⟨ahead, asked⟩ := State.prefetchLine_core ((s.setCoreSt core .running).setCore core
    ((s.core core).launchProgram (s.obj (Obj.LAUNCH_ARG core)) (s.obj (Obj.ENTRY_PC core)) s.now)) core (lineOf (s.obj (Obj.ENTRY_PC core)) + 1)
  rw [asked, State.core_setCore, if_pos rfl]
  exact ⟨ahead, rfl⟩

theorem CoreSt.ofCode_code (c : CoreSt) : CoreSt.ofCode c.code = c := by cases c <;> rfl

theorem State.coreSt_setCoreSt (s : State) (core : Nat) (c : CoreSt) : (s.setCoreSt core c).coreSt core = c := by
  unfold State.coreSt State.setCoreSt
  rw [State.obj_setObj_self, CoreSt.ofCode_code]

theorem State.prefetchLine_coreSt (s : State) (core line n : Nat) : (s.prefetchLine core line).coreSt n = s.coreSt n := by
  unfold State.prefetchLine
  dsimp only
  split <;> rfl

theorem State.launchCore_coreSt (mode : (s.core core).mode = 0) : (s.launchCore core).coreSt core = .running := by
  rw [State.launchCore_eq mode, State.prefetchLine_coreSt, State.coreSt_setCore, State.coreSt_setCoreSt]

/-! ### A wait that no stage accounts for (R242, R331) -/

/-- No active stage keeps its account by a Waypoint. -/
def State.Unaccounted (s : State) (wp : Nat) : Prop :=
  ∀ k < 8, s.stageActive k = true → s.obj (Obj.CHARGE_WP k) ≠ wp ∧ s.obj (Obj.FREE_WP k) ≠ wp

theorem State.Unaccounted.accounts_eq {wp : Nat} (none : s.Unaccounted wp) : s.accounts wp = s := by
  have untouched :
      (List.range 8).filter (fun k => s.stageActive k && (s.obj (Obj.CHARGE_WP k) == wp || s.obj (Obj.FREE_WP k) == wp)) = [] := by
    refine List.filter_eq_nil_iff.mpr fun k hk => ?_
    have apart := none k (List.mem_range.mp hk)
    simp only [Bool.and_eq_true, Bool.or_eq_true, beq_iff_eq]
    tauto
  unfold State.accounts
  rw [untouched]
  rfl

/-- The state of an ARM whose launch Waypoint is reached, before the launch (R156, R242). -/
def State.launchReached (u : State) (core wp : Nat) : State :=
  ((u.armedCore core).count 64 Obj.WP_OPS 1).setWp wp ((u.wp wp).at u.chr)

theorem State.launchReached_obj (u : State) {core wp k : Nat} (state : k ≠ Obj.CORE_STATE core) (ops : k ≠ Obj.WP_OPS) :
    (u.launchReached core wp).obj k = u.obj k :=
  ((u.armedCore core).obj_setObj_other ops).trans (u.obj_setObj_other state)

theorem State.tookWait_launchReached {u : State} {wp : Nat} (none : u.Unaccounted wp) : (u.armedCore core).tookWait wp = u.launchReached core wp := by
  have still : (u.launchReached core wp).Unaccounted wp := by
    intro k hk active
    have state : (u.launchReached core wp).obj (Obj.STG_STATE k) = u.obj (Obj.STG_STATE k) :=
      u.launchReached_obj (by simp only [Obj.STG_STATE, Obj.CORE_STATE]; omega) (by simp only [Obj.STG_STATE, Obj.WP_OPS]; omega)
    have charge : (u.launchReached core wp).obj (Obj.CHARGE_WP k) = u.obj (Obj.CHARGE_WP k) :=
      u.launchReached_obj (by simp only [Obj.CHARGE_WP, Obj.CORE_STATE]; omega) (by simp only [Obj.CHARGE_WP, Obj.WP_OPS]; omega)
    have free : (u.launchReached core wp).obj (Obj.FREE_WP k) = u.obj (Obj.FREE_WP k) :=
      u.launchReached_obj (by simp only [Obj.FREE_WP, Obj.CORE_STATE]; omega) (by simp only [Obj.FREE_WP, Obj.WP_OPS]; omega)
    rw [charge, free]
    exact none k hk (by unfold State.stageActive at active ⊢; rwa [state] at active)
  show (u.launchReached core wp).accounts wp = _
  exact still.accounts_eq

/-- The state of an ARM that launches at once in program mode. -/
def State.armLaunched (u : State) (core wp : Nat) : State := (u.launchReached core wp).launchCore core

variable {u : State} {wp : Nat}

theorem State.launchReached_mode (mode : u.obj (Obj.CORE_MODE core) = 0) : ((u.launchReached core wp).core core).mode = 0 := by
  have armed : (u.launchReached core wp).core core = { u.core core with mode := u.obj (Obj.CORE_MODE core) } := by
    show ((u.setCoreSt core .armed).setCore core _).core core = _
    rw [State.core_setCore, if_pos rfl]
  rw [armed]
  exact mode

theorem State.armLaunched_core (real : core < 104) (mode : u.obj (Obj.CORE_MODE core) = 0) :
    Core.Launched (u.obj (Obj.LAUNCH_ARG core)) ((u.armLaunched core wp).core core) ∧
      ((u.armLaunched core wp).core core).pc = u.obj (Obj.ENTRY_PC core) % 2 ^ 48 := by
  have arg : (u.launchReached core wp).obj (Obj.LAUNCH_ARG core) = u.obj (Obj.LAUNCH_ARG core) :=
    u.launchReached_obj (by simp only [Obj.LAUNCH_ARG, Obj.CORE_STATE]; omega) (by simp only [Obj.LAUNCH_ARG, Obj.WP_OPS]; omega)
  have entry : (u.launchReached core wp).obj (Obj.ENTRY_PC core) = u.obj (Obj.ENTRY_PC core) :=
    u.launchReached_obj (by simp only [Obj.ENTRY_PC, Obj.CORE_STATE]; omega) (by simp only [Obj.ENTRY_PC, Obj.WP_OPS]; omega)
  obtain ⟨ahead, core'⟩ := State.launchCore_core (u.launchReached_mode (wp := wp) mode)
  unfold State.armLaunched
  rw [core', arg, entry]
  exact ⟨Core.launchProgram_launched .., rfl⟩

theorem State.armLaunched_others (mode : u.obj (Obj.CORE_MODE core) = 0) {n : Nat} (other : n ≠ core) :
    (u.armLaunched core wp).core n = u.core n := by
  have armed : (u.launchReached core wp).core n = u.core n := by
    show ((u.setCoreSt core .armed).setCore core _).core n = _
    rw [State.core_setCore, if_neg other]
    rfl
  rw [← armed]
  exact (State.launchCore_onlyCore (u.launchReached_mode mode)).others n other

theorem State.launchReached_frame (u : State) (core wp : Nat) : ∃ dict cores wps, u.launchReached core wp = { u with dict, cores, wps } := by
  obtain ⟨dict, counted⟩ := (u.armedCore core).count_frame 64 Obj.WP_OPS 1
  unfold State.launchReached
  rw [counted]
  exact ⟨_, _, _, rfl⟩

theorem State.armLaunched_frame (mode : u.obj (Obj.CORE_MODE core) = 0) : ∃ dict cores wps,
    u.armLaunched core wp = { u with dict, cores, wps } := by
  have frame := (State.launchCore_onlyCore (u.launchReached_mode (wp := wp) mode)).frame
  obtain ⟨dict, cores, wps, reached⟩ := u.launchReached_frame core wp
  unfold State.armLaunched
  rw [frame]
  generalize ((u.launchReached core wp).launchCore core).dict = d
  generalize ((u.launchReached core wp).launchCore core).cores = c
  rw [reached]
  exact ⟨d, c, wps, rfl⟩

theorem State.armLaunched_wp (mode : u.obj (Obj.CORE_MODE core) = 0) (w : Nat) :
    (u.armLaunched core wp).wp w = if w = wp then (u.wp w).at u.chr else u.wp w := by
  have place : (u.launchReached core wp).wp w = if w = wp then (u.wp wp).at u.chr else u.wp w := State.wp_setWp ..
  have wps : (u.armLaunched core wp).wps = (u.launchReached core wp).wps :=
    (congrArg State.wps (State.launchCore_onlyCore (u.launchReached_mode (wp := wp) mode)).frame :)
  have same : (u.armLaunched core wp).wp w = (u.launchReached core wp).wp w := by
    unfold State.wp
    rw [wps]
  rw [same, place]
  split
  · rename_i here
    rw [here]
  · rfl

theorem State.armLaunched_quiet (mode : u.obj (Obj.CORE_MODE core) = 0) (quiet : u.Quiet) : (u.armLaunched core wp).Quiet := by
  obtain ⟨dict, cores, wps, frame⟩ := u.armLaunched_frame (wp := wp) mode
  rw [frame]
  exact ⟨quiet.posts, quiet.swaps, quiet.hosts, quiet.subs⟩

theorem State.armLaunched_coreSt (mode : u.obj (Obj.CORE_MODE core) = 0) : (u.armLaunched core wp).coreSt core = .running :=
  State.launchCore_coreSt (u.launchReached_mode mode)

end

/-- The answer to a write touches the counters and the management unit. -/
theorem State.wrote_frame {v : State} (h : Hdr) (key x : Nat) (quiet : v.Quiet) : ∃ dict hmu, v.wrote h key x = { v with dict, hmu } ∧
    (v.wrote h key x).dict = (v.count 64 Obj.HDP_REQUESTS 1).dict := by
  obtain ⟨m, wrote⟩ := State.wrote_quiet h key x quiet
  refine ⟨(v.count 64 Obj.HDP_REQUESTS 1).dict, m, ?_, ?_⟩
  · rw [wrote]
    rfl
  · rw [wrote]

/-- Settles O45: the launch sets the registers, and the ARM before it only the core, its counters and the Waypoint's time. -/
theorem launchSetsTheRegisters : Obligations.LaunchSetsTheRegisters := by
  intro s core launched wp
  have split_ {c : Core} (l : Core.Launched (s.obj (Obj.LAUNCH_ARG core)) c) : launched c := ⟨l.argument, l.regs, l.preds, l.loopRegs, l.loops⟩
  refine ⟨fun mode => ?_, fun h real quiet accounts mode g may ans => ?_⟩
  · obtain ⟨ahead, core'⟩ := State.launchCore_core mode
    rw [core']
    exact split_ (Core.launchProgram_launched ..)
  · have ran := (coreWritesComplete s h core real).1 g ⟨may, ans⟩
    have none : (s.heardWrite h (Obj.CORE_CTRL core) 1).Unaccounted wp := by
      obtain ⟨m, heard⟩ := s.heardWrite_eq h (Obj.CORE_CTRL core) 1
      rw [heard]
      exact accounts
    have launchWp : (s.heardWrite h (Obj.CORE_CTRL core) 1).obj (Obj.LAUNCH_WP core) = wp := State.heard_obj ..
    dsimp only at ran
    rw [launchWp, State.tookWait_launchReached none] at ran
    have hquiet : (s.heardWrite h (Obj.CORE_CTRL core) 1).Quiet := State.heardWrite_quiet quiet
    obtain ⟨m, heard⟩ := s.heardWrite_eq h (Obj.CORE_CTRL core) 1
    rw [heard] at ran hquiet
    have umode : ({ s with hmu := m } : State).obj (Obj.CORE_MODE core) = 0 := mode
    obtain ⟨registers, pc⟩ := State.armLaunched_core (wp := wp) real umode
    have others (n : Nat) (other : n ≠ core) := State.armLaunched_others (wp := wp) umode other
    have runs := State.armLaunched_coreSt (wp := wp) umode
    have wps (w : Nat) := State.armLaunched_wp (wp := wp) umode w
    obtain ⟨d, cs, ws, frame⟩ := State.armLaunched_frame (wp := wp) umode
    have still := State.armLaunched_quiet (wp := wp) umode hquiet
    change exec _ s = .next ((({ s with hmu := m } : State).armLaunched core wp).wrote h (Obj.CORE_CTRL core) 1) at ran
    generalize ({ s with hmu := m } : State).armLaunched core wp = v at *
    obtain ⟨dict, hmu, wrote, counted⟩ := State.wrote_frame h (Obj.CORE_CTRL core) 1 still
    generalize v.wrote h (Obj.CORE_CTRL core) 1 = t at *
    have cores (n : Nat) : t.core n = v.core n := by
      rw [wrote]
      rfl
    have state : t.coreSt core = v.coreSt core := by
      unfold State.coreSt State.obj
      rw [counted]
      exact congrArg CoreSt.ofCode (v.obj_count_other (by simp only [Obj.CORE_STATE, Obj.HDP_REQUESTS]; omega))
    refine ⟨t, ran, ?_, ?_, state.trans runs, fun n other => (cores n).trans (others n other), fun w => ?_, ?_⟩
    · rw [cores]
      exact split_ registers
    · rw [cores]
      exact pc
    · rw [wrote]
      exact wps w
    · rw [wrote, frame]

end Sys2Proof.Machine
end

section
/-! PROOFS (05_core_bundles.md). A fault in the cycle of its core's RESET (R159, R165). -/

namespace Sys2Proof.Machine

variable {s u : State} {core : Nat}

/-! ### What a core's reset leaves (R159) -/

theorem State.obj_clearObjs_outside (s : State) (l : List (Nat × Nat)) {k : Nat} (outside : ∀ r ∈ l, ¬ (r.1 ≤ k ∧ k < r.1 + r.2)) :
    (s.clearObjs l).obj k = s.obj k := by
  have keep (d : List (Nat × Nat)) : Sparse.get dictDefault (l.foldl (fun d r => Sparse.eraseRange d r.1 r.2) d) k = Sparse.get dictDefault d k := by
    induction l generalizing d with
    | nil => rfl
    | cons r l ih =>
      rw [List.foldl_cons, ih fun x hx => outside x (List.mem_cons_of_mem _ hx), Sparse.get_eraseRange, if_neg (outside r List.mem_cons_self)]
  exact keep s.dict

theorem State.loadLanes_frame (s : State) (core : Nat) : ∃ cores, s.loadLanes core = { s with cores } := by
  unfold State.loadLanes
  dsimp only
  split <;> exact ⟨_, rfl⟩

theorem State.coreReset_quiet (quiet : u.Quiet) (core : Nat) : (u.coreReset core).Quiet := by
  obtain ⟨posts, swaps, hosts, subs⟩ := quiet
  unfold State.coreReset
  dsimp only
  obtain ⟨cores, loaded⟩ := State.loadLanes_frame _ core
  rw [loaded]
  exact ⟨posts, swaps, hosts, subs⟩

theorem State.coreReset_dict (u : State) (core : Nat) : (u.coreReset core).dict = (u.clearObjs (coreResetRanges core)).dict := by
  unfold State.coreReset
  dsimp only
  obtain ⟨cores, loaded⟩ := State.loadLanes_frame _ core
  rw [loaded]
  rfl

/-- The record of a core's fault stands (R159). -/
theorem State.coreReset_faultRecord (u : State) (core : Nat) : (u.coreReset core).obj (Obj.FAULT_RECORD core) = u.obj (Obj.FAULT_RECORD core) := by
  have stands : (u.clearObjs (coreResetRanges core)).obj (Obj.FAULT_RECORD core) = u.obj (Obj.FAULT_RECORD core) := by
    refine u.obj_clearObjs_outside _ fun r hr => ?_
    simp only [coreResetRanges, List.mem_cons, List.not_mem_nil, or_false] at hr
    rcases hr with rfl | rfl | rfl | rfl | rfl | rfl | rfl | rfl | rfl
    all_goals
      dsimp only [Obj.FAULT_RECORD, Obj.ARITH_FLAGS, Obj.CHK_STATUS, Obj.CHAINS_DONE, Obj.BUNDLES_ISSUED, Obj.LYR, Obj.LAYERS_DONE,
        Obj.SP_ECC_CORRECTED, Obj.RD_PORT_WAIT_CYCLES, Obj.IDLE_FENCED]
      omega
  rw [← stands]
  unfold State.obj
  rw [State.coreReset_dict]

/-! ### The answered RESET, and a fault of its cycle (R165) -/

/-- The state that has answered a RESET. -/
def State.resetAnswered (s : State) (h : Hdr) (core : Nat) : State :=
  (((s.heardWrite h (Obj.CORE_CTRL core) 2).coreReset core).setCoreSt core .idle).answered (writeReq h (Obj.CORE_CTRL core) 2) 0 []

theorem State.answered_obj (u : State) (q : HdpReq) (n : Nat) (l : List Byte) {k : Nat} (hk : k ≠ Obj.HDP_REQUESTS) :
    (u.answered q n l).obj k = u.obj k := by
  obtain ⟨m, answered, -⟩ := u.answered_eq q n l
  rw [answered]
  exact u.obj_count_other hk

theorem State.resetAnswered_quiet (quiet : s.Quiet) (h : Hdr) (core : Nat) : (s.resetAnswered h core).Quiet := by
  have reset := State.coreReset_quiet (State.heardWrite_quiet (h := h) (key := Obj.CORE_CTRL core) (v := 2) quiet) core
  exact State.answered_quiet ⟨reset.posts, reset.swaps, reset.hosts, reset.subs⟩

theorem State.resetAnswered_faultRecord (s : State) (h : Hdr) (core : Nat) :
    (s.resetAnswered h core).obj (Obj.FAULT_RECORD core) = s.obj (Obj.FAULT_RECORD core) := by
  have heard : (s.heardWrite h (Obj.CORE_CTRL core) 2).obj (Obj.FAULT_RECORD core) = s.obj (Obj.FAULT_RECORD core) := State.heard_obj ..
  have placed : (((s.heardWrite h (Obj.CORE_CTRL core) 2).coreReset core).setCoreSt core .idle).obj (Obj.FAULT_RECORD core) =
      ((s.heardWrite h (Obj.CORE_CTRL core) 2).coreReset core).obj (Obj.FAULT_RECORD core) :=
    State.obj_setObj_other _ (by simp only [Obj.FAULT_RECORD, Obj.CORE_STATE]; omega)
  unfold State.resetAnswered
  rw [State.answered_obj _ _ _ _ (by simp only [Obj.FAULT_RECORD, Obj.HDP_REQUESTS]; omega), placed, State.coreReset_faultRecord, heard]

theorem State.resetAnswered_coreSt (s : State) (h : Hdr) (core : Nat) : (s.resetAnswered h core).coreSt core = .idle := by
  have idle := State.coreSt_setCoreSt ((s.heardWrite h (Obj.CORE_CTRL core) 2).coreReset core) core .idle
  unfold State.coreSt at idle ⊢
  rw [← idle]
  unfold State.resetAnswered
  rw [State.answered_obj _ _ _ _ (by simp only [Obj.CORE_STATE, Obj.HDP_REQUESTS]; omega)]

/-- A RESET of a core that has just parked is answered. -/
theorem State.writeCommand_reset {h : Hdr} (real : core < 104) (g : s.GrantsWrite h (Obj.CORE_CTRL core) 2) (parked : s.coreSt core = .parkedFault) :
    s.writeCommand h (Obj.CORE_CTRL core) 2 = s.resetAnswered h core := by
  have heard : (s.heardWrite h (Obj.CORE_CTRL core) 2).coreSt core = .parkedFault := by
    unfold State.coreSt at parked ⊢
    rw [← parked]
    exact congrArg CoreSt.ofCode (State.heard_obj ..)
  refine writeCommand_answered g (n := 1) (by rw [objRow_coreCtrl core real]) ?_
  rw [performWrite_coreCtrl _ real (by decide), State.writeCoreCtrl_reset (by rw [heard]; decide)]

/-- The counters of causes are none of the core's state and record. -/
theorem causeCounter_ne (core cause : Nat) : causeCounter core cause ≠ Obj.CORE_STATE core ∧ causeCounter core cause ≠ Obj.FAULT_RECORD core := by
  unfold causeCounter
  split <;> simp only [Obj.FETCH_FAULTS, Obj.WATCHDOG_PARKS, Obj.LAYER_FAULTS, Obj.WP_ERR_PARKS, Obj.ILLEGAL_PARKS, Obj.CORE_STATE, Obj.FAULT_RECORD] <;> omega

theorem State.faultStands_eq (s : State) (core : Nat) : s.faultStands core =
    let key := causeCounter core (bits (s.obj (Obj.FAULT_RECORD core)) 135 128)
    (s.setObj key (max 1 (s.obj key))).setCoreSt core .parkedFault := rfl

theorem State.faultStands_quiet (quiet : s.Quiet) (core : Nat) : (s.faultStands core).Quiet := ⟨quiet.posts, quiet.swaps, quiet.hosts, quiet.subs⟩

/-- Settles O55: the RESET by itself, and the fault's standing after it. -/
theorem faultStandsAgainstItsReset : Obligations.FaultStandsAgainstItsReset := by
  intro s h core real quiet g parked cause
  have state : s.coreSt core = .parkedFault := by
    unfold State.justParked at parked
    simp only [Bool.and_eq_true, beq_iff_eq] at parked
    exact parked.1
  have wrote := State.writeCommand_reset real g state
  have record := s.resetAnswered_faultRecord h core
  have idle := s.resetAnswered_coreSt h core
  have still := State.resetAnswered_quiet quiet h core
  have faulted : exec (.reset ⟨h, true⟩ core) s = .next ((s.resetAnswered h core).faultStands core) := by
    show settled (.next (if true && s.justParked core && (s.writeCommand h (inRange core 104 (Obj.CORE_CTRL core)) 2).coreSt core == .idle
      then (s.writeCommand h (inRange core 104 (Obj.CORE_CTRL core)) 2).faultStands core
      else s.writeCommand h (inRange core 104 (Obj.CORE_CTRL core)) 2)) = _
    rw [inRange_of real, wrote, parked, idle, if_pos (by decide), settled_next, State.after_quiet (State.faultStands_quiet still core)]
  have alone : exec (.reset ⟨h, false⟩ core) s = .next (s.resetAnswered h core) := by
    show settled (.next (if false && s.justParked core && (s.writeCommand h (inRange core 104 (Obj.CORE_CTRL core)) 2).coreSt core == .idle
      then (s.writeCommand h (inRange core 104 (Obj.CORE_CTRL core)) 2).faultStands core
      else s.writeCommand h (inRange core 104 (Obj.CORE_CTRL core)) 2)) = _
    rw [inRange_of real, wrote, if_neg (by simp), settled_next, State.after_quiet still]
  generalize s.resetAnswered h core = r at *
  obtain ⟨notState, notRecord⟩ := causeCounter_ne core cause
  have stands : r.faultStands core = (r.setObj (causeCounter core cause) (max 1 (r.obj (causeCounter core cause)))).setCoreSt core .parkedFault := by
    rw [State.faultStands_eq, record]
  have apart {k : Nat} (hk : k ≠ Obj.CORE_STATE core) : (r.faultStands core).obj k =
      (r.setObj (causeCounter core cause) (max 1 (r.obj (causeCounter core cause)))).obj k := by
    rw [stands]
    exact State.obj_setObj_other _ hk
  refine ⟨_, r, faulted, alone, ?_, ?_, ?_, fun k hs hc => ?_, rfl⟩
  · rw [stands, State.coreSt_setCoreSt]
  · rw [apart (by simp only [Obj.FAULT_RECORD, Obj.CORE_STATE]; omega), State.obj_setObj_other _ notRecord.symm, record]
  · rw [apart notState, State.obj_setObj_self]
  · rw [apart hs, State.obj_setObj_other _ hc]

end Sys2Proof.Machine
end
